-- ==== Sys2Proof/Word.lean ====
section
/-! DEFINITION. Words, bit fields and byte strings (R6, R7), and the sparse tables that hold every numbered collection of
the KC9 (cores, contexts, ports, sessions, objects). -/

namespace Sys2Proof

/-- One byte of memory or of a message. -/
abbrev Byte := BitVec 8

/-- A numbered collection: entries in rising key order, an absent key holding the collection's default. -/
abbrev Tbl (α : Type) := List (Nat × α)

/-- The core of one cluster: logical cores 0 to 9, and 10 for the evaluation slot (R16, R327). -/
structure CoreRef where
  cl : Nat
  k : Nat
deriving DecidableEq, Repr

/-- The key of a core in tables of cores: 11 places for each cluster, as CORE_OWNER counts them (R479). -/
def CoreRef.key (c : CoreRef) : Nat := 11 * c.cl + c.k

/-- The core a key names. -/
def CoreRef.ofKey (n : Nat) : CoreRef := ⟨n / 11, n % 11⟩

/-- The KC9 has 8 clusters of 10 logical cores and one evaluation slot each. -/
def CoreRef.exists (c : CoreRef) : Bool := c.cl < 8 && c.k < 11

end Sys2Proof
end

