-- ==== Sys2Proof/Types.lean ====
section
/-! DEFINITION. The operands of commands: received packets and frames, requests of the companion and of Manifest clients, and
what the world outside the module answers. -/

namespace Sys2Proof

/-- A received Gezal packet (R245): where it arrived, what the published checks of the frame found (FCS, IP and UDP headers,
GCM tag), its header fields and its plaintext payload. The model's sender supplies the outcome of the cryptographic check. `refusal` is the
status with which a DONE or READ_RESP tells that the access was refused (R134, R198), 0 for none, and `before` the bytes written before it:
DESIGN CHOICE (log 47), the spec gives the answer no place; `runBefore` and `runAfter` are
the bytes of a WRITE's run before and behind the packet, by which the far side judges a run as a whole (R130, R134, log 47). `shape` is what the sender's COLLECT says of CKIND, EFMT, CVT and COUNT, 0 for
nothing: DESIGN CHOICE (log 91), the spec does not say how a member finds a disagreement (R298). -/
structure Packet where
  port : Nat := 0
  half : Nat := 0
  frameOk : Bool := true
  ce : Bool := false
  ver : Nat := 1
  typ : Nat := 0
  cls : Nat := 0
  epoch : Nat := 0
  enc : Bool := true
  poison : Bool := false
  last : Bool := false
  ceEcho : Bool := false
  op : Nat := 0
  tries : Nat := 0
  channel : Nat := 0
  session : Nat := 0
  src : Nat := 0
  dst : Nat := 0
  psn : Nat := 0
  ackPsn : Nat := 0
  txn : Nat := 0
  addr : Nat := 0
  path : Nat := 0
  reserved : Nat := 0
  payload : List Byte := []
  refusal : Nat := 0
  before : Nat := 0
  shape : Nat := 0
  runBefore : Nat := 0
  runAfter : Nat := 0
  tag : List Byte := []
deriving DecidableEq, Repr

/-- An IEEE 1588 message that the slave clock of a port receives (R276): 0 Announce, 1 Sync of a one-step master, 2 Sync of a two-step master, 3 Follow_Up, 4
Delay_Resp; its domain, its number, whether it is the clock's master that sent it and this clock that it is for, and the time in nanoseconds it tells, its correction
taken in. -/
structure PtpMsg where
  kind : Nat := 0
  domain : Nat := 0
  seq : Nat := 0
  fits : Bool := true
  ns : Nat := 0
deriving DecidableEq, Repr

/-- What the far end of a tug's transfer does (R131, R188): the bytes the companion returns for the runs read from it, the lines of its memory
(address / 64) that come marked poisoned (R203), whether the companion accepts the access, and the number of the run it refuses first, where it accepts those
before it (R134). -/
structure External where
  bytes : List Byte := []
  marks : List Nat := []
  accepted : Bool := true
  refusedRun : Option Nat := none
deriving DecidableEq, Repr

/-- What the published checks of a peer's handshake message find (R433, R440): the chain up to the root, the time in which its certificates are valid, the signature, the first 32 bytes of the digest of its identity certificate, and the life-cycle state and owner digest of
its alias certificate. -/
structure PeerProof where
  chainOk : Bool := true
  validFrom : Nat := 0
  validTo : Nat := 2 ^ 64 - 1
  sigOk : Bool := true
  ident : List Byte := []
  lcState : Nat := 1
  owner : List Byte := []
deriving DecidableEq, Repr

/-- A Manifest request as it arrives (R461, R466): transport, source endpoint ID, whether its enterprise number is VENDOR_IANA,
the header's fields and the data that follow it. -/
structure ManifestReq where
  kcl : Bool := true
  eid : Nat := 8
  ianaOk : Bool := true
  op : Nat := 2
  tag : Nat := 0
  reserved : Nat := 0
  index : Nat := 0
  sub : Nat := 0
  length : Nat := 0
  data : List Byte := []
deriving DecidableEq, Repr

/-- An assembled MCTP message of another type: transport, source endpoint ID and the bytes after the type byte (R461). -/
structure MctpMsg where
  kcl : Bool := false
  eid : Nat := 8
  data : List Byte := []
deriving DecidableEq, Repr

/-- What SEC finds in a staged bundle (R371, R435): version, security version, and the checks of signatures, stepping and flash. -/
structure BundleFacts where
  version : Nat := 0x01000000
  security : Nat := 1
  images : List Nat := []
  signaturesOk : Bool := true
  steppingOk : Bool := true
  flashOk : Bool := true
deriving DecidableEq, Repr

/-- What decoding the coded data of a JPEG stream by ISO/IEC 10918-1 gives (R377): whether it is intact, the samples of each plane, and what the far end does where
SRC or DST is not on this module. -/
structure JpegFacts where
  intact : Bool := true
  planes : List (List Byte) := []
  far : External := {}
deriving DecidableEq, Repr

/-- Errors found in a line as it is read (R175, R181). HBM: how many symbols are in error, the die of each, and, for a pattern that passes one die's
consistency test by chance, that die and the 64 bytes the line then holds. SRAM: how many words have a single-bit error, and whether a word has a
double-bit error; for a line at an offset of the hold of a physical core that no window shows, its cluster and core. -/
structure LineErrors where
  count : Nat := 0
  dies : List Nat := []
  missed : Option (Nat × List Byte) := none
  double : Bool := false
  spare : Option (Nat × Nat) := none
deriving DecidableEq, Repr

/-- What the governor reads in one period (R382): average input power, what the arrays of one core at full issue duty would add, both in mW, and the estimated power
of each operating point. -/
structure GovernorInput where
  average : Nat := 0
  hinted : Nat := 0
  estimates : List Nat := []
deriving DecidableEq, Repr

/-- What admission read of a context (R355, R357): the descriptor, the member table, the entries of its tables, each group with its
member list, the regions the context owns as base, size and ATTR, and, for a standby, its numbers of training (R331). -/
structure AdmitTables where
  desc : Nat := 0
  members : List Nat := []
  bars : List Nat := []
  convs : List Nat := []
  groups : List (Nat × List Nat) := []
  sets : List Nat := []
  regions : List (Nat × Nat × Nat) := []
  train : List Nat := []
deriving DecidableEq, Repr

/-- What arrives from another module about a context, by the device session (R225, R297, R302, R329, R357): a member's digest and fingerprint, a partner's
request for the admission of a standby, its answer with the standby's context number, or a step of a gang: 5 a member was asked to save, 6 the home holds the
release, 7 a member's collectives have completed, 8 the gang is saved now, 9 a member is restored, 10 the gang rewinds (R419). A member tells the others of its standby
(R316), and its partner of numbers of training written after admission (R331). The spec gives these messages no packet form. -/
inductive Notice where
  | digest (value : List Byte) (fpr : Nat)
  | standby (t : AdmitTables)
  | standbyAt (n : Option Nat)
  | gang (step : Nat)
  | moored (partner standby : Nat) (takesOver : Bool := false)
  | train (values : List Nat)
deriving DecidableEq, Repr

end Sys2Proof
end

