-- ==== Sys2Proof/Syntax.lean ====
section
/-! DEFINITION. The commands of the KC9: one constructor for each row of the table of operations and events. -/

namespace Sys2Proof

/-- One operation or event of the KC9. -/
inductive Instr where
  /-- WLOAD (R140): Order that loads a weight set (or a W_H/W_L pair) into the named arrays from the hold. -/
  | wload (c : CoreRef)
  /-- PASS (R141): Order that issues M activation rows through the core's four arrays into the current accumulator bank. -/
  | pass (c : CoreRef)
  /-- PAIRPASS (R73): Order that issues a compensated-pair pass as three row sequences into one bank on one grid. -/
  | pairpass (c : CoreRef)
  /-- TILE_REPLAY (R95): After the arrays empty, the overflowing bank is cleared, G is raised by 8 and the tally is replayed. -/
  | tileReplay (c : CoreRef)
  /-- ACC_WAIT_EXPIRY (R81): The accretion window timer expires and the accreting PASS issues with the rows present. -/
  | accWaitExpiry (c : CoreRef)
  /-- DRAIN (R143): Order that flips the current bank and drains the finished tile to its target format or conveyor. -/
  | drain (c : CoreRef)
  /-- DRAIN_READ (R102): At the tree-empty point, with no replay or row check pending, the drain reads, converts and writes the tile's rows. -/
  | drainRead (c : CoreRef)
  /-- VEC (R118): Order that performs one element-wise vector operation on hold operands. -/
  | vec (c : CoreRef)
  /-- VREDUCE (R123): Order that reduces each line of a hold operand in the fixed fold order. -/
  | vreduce (c : CoreRef)
  /-- TUG (R148): Order that queues one tug descriptor on a cluster tug. -/
  | tug (c : CoreRef)
  /-- TUG_DESCRIPTOR_COMPLETE (R131): A tug descriptor's writes become visible; it makes its barrier arrival, reports and starts NEXT. -/
  | tugDescriptorComplete (cl : Nat) (tug : Nat) (pos : Nat) (ext : External)
  /-- CONVEY_PUT (R149): Order that sends COUNT messages on a conveyor, spending one credit each. -/
  | conveyPut (c : CoreRef)
  /-- CONVEY_GET_TAKE (R150): Take form of CONVEY_GET, which waits for COUNT further messages and marks them taken. -/
  | conveyGetTake (c : CoreRef)
  /-- CONVEY_GET_RELEASE (R150): Release form of CONVEY_GET, which frees the oldest taken messages and returns their credits. -/
  | conveyGetRelease (c : CoreRef)
  /-- CONVEY_GET_COPY (R150): COPY form of CONVEY_GET, which takes messages, copies their slots to the hold and releases them. -/
  | conveyGetCopy (c : CoreRef)
  /-- CONVEY_MESSAGE_VISIBLE (R167): A conveyor message's whole slot becomes visible at the consumer's island. -/
  | conveyMessageVisible (ctx : Nat) (conv : Nat)
  /-- CREDIT_RETURN (R166): A released slot's credit becomes visible at the producer. -/
  | creditReturn (ctx : Nat) (conv : Nat)
  /-- ARRIVE (R217): Order that makes a weighted arrival at a barrier once earlier work is visible. -/
  | arrive (c : CoreRef)
  /-- WAIT (R214): Order that waits for the completion of its target barrier generation. -/
  | wait (c : CoreRef)
  /-- ARRIVE_WAIT (R214): Order that arrives at a barrier and waits for the generation its arrival joined. -/
  | arriveWait (c : CoreRef)
  /-- HINT (R389): Order that announces a coming heavy phase of array issue to the governor and tide gate. -/
  | hint (c : CoreRef)
  /-- HINT_END (R152): HINT with END set, ending the core's announced heavy phase. -/
  | hintEnd (c : CoreRef)
  /-- COMMIT (R316): Order that fences, votes at the commit barrier and ends with the group's step outcome. -/
  | commit (c : CoreRef)
  /-- SNAPSHOT (R324): Order that copies the committed bank of a state set to a destination. -/
  | snapshot (c : CoreRef)
  /-- SNAPSHOT_COMPLETE (R324): Every byte of a snapshot is visible at DST; it reports and makes its arrival. -/
  | snapshotComplete (job : Nat) (ext : External)
  /-- ALL_REDUCE (R287): COLLECT kind that reduces contributions in rank order and writes the result on every member. -/
  | collAllReduce (c : CoreRef)
  /-- REDUCE (R287): COLLECT kind that reduces contributions and writes the result on the root only. -/
  | collReduce (c : CoreRef)
  /-- BROADCAST (R287): COLLECT kind that copies the root's SRC to every member. -/
  | collBroadcast (c : CoreRef)
  /-- ALL_GATHER (R287): COLLECT kind that gathers every member's block on every member. -/
  | collAllGather (c : CoreRef)
  /-- REDUCE_SCATTER (R287): COLLECT kind that reduces and leaves segment r of the result on member r. -/
  | collReduceScatter (c : CoreRef)
  /-- ALL_TO_ALL (R287): COLLECT kind that sends block j of each member to member j. -/
  | collAllToAll (c : CoreRef)
  /-- COLLECTIVE_COMPLETE (R293): A collective completes on a member when its DST is written and its contribution accepted everywhere. -/
  | collectiveComplete (ctx : Nat) (group : Nat)
  /-- FENCE (R155): Order that waits for earlier orders, their tug descriptors and conveyor messages to complete. -/
  | fence (c : CoreRef)
  /-- ORDER_LIST_COMPLETE (R160): An order list completes once its repetitions are issued and all its work has completed, carrying its status. -/
  | orderListComplete (c : CoreRef)
  /-- ARRIVAL_COUNTED (R211): An arrival becomes visible at the home's barrier store and is added to ARRIVED. -/
  | arrivalCounted (job : Nat)
  /-- ARRIVAL_ACK (R214): The home's acknowledgement reaches the issuing core with the generation the arrival joined. -/
  | arrivalAck (job : Nat)
  /-- RELEASE_VISIBLE (R215): A release of the target generation becomes visible at the waiter, and the wait ends with OK. -/
  | releaseVisible (job : Nat)
  /-- WAIT_TIMEOUT (R216): A wait's TIMEOUT expires; the waiter leaves, TIMEOUTS counts and the list stops. -/
  | waitTimeout (c : CoreRef)
  /-- COMMIT_TIMEOUT (R322): A COMMIT's TIMEOUT expires before its outcome is visible, and the COMMIT ends with TIMEOUT. -/
  | commitTimeout (c : CoreRef)
  /-- GEZAL_WRITE (R247): A received WRITE packet is applied in PSN order to its basin address. -/
  | gezalWrite (p : Packet)
  /-- GEZAL_READ (R247): A received READ packet is answered with READ_RESP packets. -/
  | gezalRead (p : Packet)
  /-- READ_RESP (R247): A received READ_RESP packet delivers read data, with its poison mark. -/
  | gezalReadResp (p : Packet)
  /-- DONE (R256): A received DONE confirms the writes up to the LAST WRITE are visible, completing a remote tug descriptor. -/
  | gezalDone (p : Packet)
  /-- GEZAL_CONVEY (R247): A received CONVEY packet writes its message and header into the consumer ring. -/
  | gezalConvey (p : Packet)
  /-- CREDIT (R247): A received CREDIT packet returns conveyor credits to the producer. -/
  | gezalCredit (p : Packet)
  /-- GEZAL_ARRIVE (R247): A received ARRIVE packet is counted as an arrival at the barrier's home. -/
  | gezalArrive (p : Packet)
  /-- ARRIVE_ACK (R247): A received ARRIVE_ACK packet tells the issuing core the generation it joined. -/
  | gezalArriveAck (p : Packet)
  /-- RELEASE (R247): A received RELEASE packet releases the waiters of a completed generation. -/
  | gezalRelease (p : Packet)
  /-- POISON_BARRIER (R247): A received POISON_BARRIER packet poisons a barrier copy. -/
  | gezalPoisonBarrier (p : Packet)
  /-- GEZAL_COLLECT (R295): A received COLLECT packet delivers a contribution, partial or result of a collective. -/
  | gezalCollect (p : Packet)
  /-- VOTE (R315): A received STEP VOTE is counted as a commit arrival with its NONFINITE flag. -/
  | gezalVote (p : Packet)
  /-- OUTCOME (R318): A received OUTCOME is applied once for the generation, flipping or suppressing the step. -/
  | gezalOutcome (p : Option Packet)
  /-- STEP_HEARTBEAT (R332): A received HEARTBEAT from the mooring partner. -/
  | gezalHeartbeat (p : Packet)
  /-- TAKEOVER (R334): A received TAKEOVER remaps the lost gang rank, clears conveyors and barriers and starts reconciliation. -/
  | gezalTakeover (p : Packet)
  /-- RECONCILE (R334): A received RECONCILE reports a member's last applied outcome, and a missed flip is applied. -/
  | gezalReconcile (p : Packet)
  /-- MIRROR (R330): A received MIRROR packet writes a granule into the standby's bank. -/
  | gezalMirror (p : Packet)
  /-- NODE_STATUS (R369): A received NODE_STATUS reports a peer's host, park, quarantine, safe or partner-timer state. -/
  | gezalNodeStatus (p : Packet)
  /-- ACK (R253): A received ACK frees acknowledged packets and updates the window and congestion state. -/
  | gezalAck (p : Packet)
  /-- NACK (R254): A received NACK causes immediate retransmission of the named packet. -/
  | gezalNack (p : Packet)
  /-- HELLO (R265): A received HELLO gives neighbour identity on a basin port for discovery. -/
  | gezalHello (p : Packet)
  /-- PROBE (R262): A received PROBE is answered, or a returned PROBE counts toward bringing a path up. -/
  | gezalProbe (p : Packet)
  /-- OFFER (R439): A received session OFFER with certificates and ephemeral key starts a handshake. -/
  | offer (p : Packet) (v : PeerProof)
  /-- ACCEPT (R440): A received session ACCEPT is verified and keys are derived. -/
  | accept (p : Packet) (v : PeerProof)
  /-- CONFIRM (R441): A received CONFIRM is verified and the session becomes OPEN at the responder. -/
  | confirm (p : Packet) (v : PeerProof)
  /-- REKEY (R443): A received REKEY is answered with REKEY_ACK and the next epoch's keys are derived. -/
  | rekey (p : Packet) (v : PeerProof)
  /-- REKEY_ACK (R443): A received REKEY_ACK lets the sender switch to the new epoch. -/
  | rekeyAck (p : Packet) (v : PeerProof)
  /-- REFUSE (R440): A received REFUSE ends the handshake with no session. -/
  | refuse (p : Packet)
  /-- TRANSIT_FORWARD (R257): A packet for another rank arriving on a basin port is forwarded unchanged or discarded. -/
  | transitForward (p : Packet)
  /-- LLDP_FRAME (R264): A received LLDP frame is stored in LLDP_PEER. -/
  | lldpFrame (port : Nat) (half : Nat) (data : List Byte)
  /-- LLDP_SEND (R264): Every 1 s a port sends its LLDP frame. -/
  | lldpSend (port : Nat) (half : Nat)
  /-- HELLO_SEND (R265): A basin port's HELLO timer expires and a HELLO is sent. -/
  | helloSend (port : Nat) (half : Nat)
  /-- NEIGHBOUR_SOLICITATION (R244): A received neighbour solicitation or ARP request for the port's address is answered. -/
  | neighbourSolicitation (port : Nat) (mine : Bool) (data : List Byte)
  /-- ECHO_REQUEST (R244): A received ICMPv6 or ICMP echo request is answered. -/
  | echoRequest (port : Nat) (mine : Bool) (data : List Byte)
  /-- ROUTER_ADVERTISEMENT (R244): The first received router advertisement sets a roadstead port's next-hop MAC. -/
  | routerAdvertisement (port : Nat) (mac : Nat)
  /-- PTP_MESSAGE (R276): A received IEEE 1588 message drives the slave clock that sets the calendar. -/
  | ptpMessage (port : Nat) (hasMaster : Bool) (ns : PtpMsg)
  /-- ACK_TIMER (R253): 1 µs after accepting a packet, or after 16 packets, the receiver sends an ACK. -/
  | ackTimer (sess : Nat) (cls : Nat)
  /-- GAP_WAIT_EXPIRY (R254): A gap persists for GAP_WAIT and the receiver sends a NACK. -/
  | gapWaitExpiry (sess : Nat) (cls : Nat)
  /-- RTO_EXPIRY (R254): An unacknowledged packet reaches RTO and is retransmitted on the next up path. -/
  | rtoExpiry (sess : Nat) (cls : Nat) (psn : Nat)
  /-- PROBE_TIMER (R262): Every 1 ms a PROBE is sent on a path declared down by retransmission. -/
  | probeTimer (rank : Nat) (path : Nat)
  /-- RATE_RAISE_TIMER (R259): Each 20 µs without CE_ECHO raises a path's rate limit by 2% of line rate. -/
  | rateRaiseTimer (rank : Nat) (path : Nat)
  /-- LOSS_DETECTION (R261): Loss of signal, laser failure or FEC collapse on a port stops it taking new packets. -/
  | lossDetection (port : Nat) (half : Nat) (laneLost : Bool)
  /-- PORT_DOWN (R261): The loss persists 10 µs; the port and its paths are declared down and packets retransmitted. -/
  | portDown (port : Nat) (half : Nat)
  /-- LINK_GLITCH (R261): The loss clears within 10 µs and the port resumes. -/
  | linkGlitch (port : Nat) (half : Nat)
  /-- HALF_RETRAIN (R239): A port that lost a lane retrains its good half as 800GBASE-DR4. -/
  | halfRetrain (port : Nat) (half : Nat)
  /-- LASER_FAILED (R240): A spare laser is switched onto the half a failed laser fed. -/
  | laserFailed (engine : Nat) (laser : Nat)
  /-- PLANNED_RETRAIN (R240): The port stops new packets, drains acknowledgements and retrains to 1.6TBASE-DR8. -/
  | plannedRetrain (port : Nat)
  /-- PORT_RETRY (R271): A DOWN or ABSENT port retries every 1 s. -/
  | portRetry (port : Nat) (half : Nat)
  /-- LIGHT_DETECT (R271): Light on every lane moves a DARK port to LINKING. -/
  | lightDetect (port : Nat) (half : Nat)
  /-- DARK_TIMEOUT (R271): No light for 500 ms moves a DARK port to ABSENT. -/
  | darkTimeout (port : Nat) (half : Nat)
  /-- PCS_FEC_LOCK (R271): PCS and FEC lock moves a LINKING port to IDENTIFYING. -/
  | pcsFecLock (port : Nat) (half : Nat)
  /-- LINKING_TIMEOUT (R271): No lock within 200 ms moves a LINKING port to ABSENT. -/
  | linkingTimeout (port : Nat) (half : Nat)
  /-- IDENTIFYING_TIMEOUT (R272): The identification wait of 300 ms (basin) or 100 ms (roadstead) ends and the port's state is decided. -/
  | identifyingTimeout (port : Nat) (half : Nat)
  /-- PATH_LOST_TIMER (R263): With every path to a destination down for 10 ms, its sessions close and dependent work ends with PATH_LOST. -/
  | pathLostTimer (rank : Nat)
  /-- SESSION_OPEN_TIMEOUT (R250): A session not OPEN within 100 ms refuses admission with MEMBER_ABSENT. -/
  | sessionOpenTimeout (ctx : Nat)
  /-- HANDSHAKE_RESEND (R442): A handshake message is resent every 1 ms, up to 20 times. -/
  | handshakeResend (sess : Nat)
  /-- REKEY_TIMER (R443): A side reaches 2^36 packets or REKEY_INTERVAL and sends REKEY. -/
  | rekeyTimer (sess : Nat)
  /-- MIRROR_SYNC (R330): Mirroring reaches sync for a COMMIT and its vote is sent. -/
  | mirrorSync (ctx : Nat)
  /-- READ_SHARED (R190): KCL request reading a line that the companion may cache clean. -/
  | kclReadShared (addr : Nat)
  /-- READ_OWN (R190): KCL request reading a line with the right to modify it. -/
  | kclReadOwn (addr : Nat)
  /-- READ_UNCACHED (R190): KCL request reading bytes of a line without caching. -/
  | kclReadUncached (addr : Nat) (len : Nat)
  /-- KCL_WRITE (R190): Posted KCL write of bytes within a line with a byte mask. -/
  | kclWrite (addr : Nat) (data : List Byte) (mask : Nat) (poison : Bool)
  /-- WRITEBACK (R190): KCL return of a modified line, ending the companion's ownership. -/
  | kclWriteback (addr : Nat) (data : List Byte) (poison : Bool)
  /-- FETCH_ADD (R195): KCL atomic that adds and returns the old value. -/
  | kclFetchAdd (addr : Nat) (size : Nat) (operand : Nat)
  /-- SWAP (R195): KCL atomic that writes the operand and returns the old value. -/
  | kclSwap (addr : Nat) (size : Nat) (operand : Nat)
  /-- CAS (R195): KCL atomic compare-and-swap returning the old value. -/
  | kclCas (addr : Nat) (size : Nat) (compare : Nat) (swap : Nat)
  /-- KCL_LANE_FAILURE (R189): A KCL lane fails and the link retrains to a surviving half. -/
  | kclLaneFailure (lane : Nat)
  /-- SUBMISSION_TAIL (R347): A submission doorbell carries a new tail, or overruns the ring. -/
  | submissionTail (ctx : Nat) (value : Nat)
  /-- COMPLETION_HEAD (R353): A completion head write frees room; waiting completions are written and the ring unblocks. -/
  | completionHead (ctx : Nat) (value : Nat)
  /-- ATTACH (R344): A token write that opens or reattaches the driver session. -/
  | attach (token : Nat)
  /-- HOST_HEARTBEAT (R345): A write to the HEARTBEAT page that restarts host-loss supervision. -/
  | hostHeartbeat (value : Nat)
  /-- DETACH (R344): A token write that ends the session, declares host loss or destroys parked contexts. -/
  | detach (token : Nat)
  /-- SERVICE_TAIL (R376): A service page write advancing the service queue tail. -/
  | serviceTail (isHead : Bool) (value : Nat)
  /-- NOP (R349): Docket that completes in ring order. -/
  | docketNop (ctx : Nat)
  /-- CREATE (R349): Docket that takes a context number and key slot, leaving state CREATED. -/
  | docketCreate (ctx : Nat)
  /-- ADMIT (R357): Docket that checks the descriptor and tables and admits the context. -/
  | docketAdmit (ctx : Nat)
  /-- LAUNCH (R350): Docket that checks list headers and runs one order list on each named core. -/
  | docketLaunch (ctx : Nat)
  /-- STOP (R349): Docket that saves the context and keeps it out of scheduling. -/
  | docketStop (ctx : Nat)
  /-- START (R349): Docket that returns a STOPPED context to READY. -/
  | docketStart (ctx : Nat)
  /-- ABORT (R349): Docket that aborts the context. -/
  | docketAbort (ctx : Nat)
  /-- DESTROY (R361): Docket that destroys the key slot, fills the regions, frees barriers and frees the context. -/
  | docketDestroy (ctx : Nat)
  /-- PREEMPTION (R360): SCH stops a context's cores at order boundaries and saves its state. -/
  | preemption (ctx : Nat)
  /-- RESTORE (R360): SCH restores a saved context onto its cores. -/
  | restore (ctx : Nat)
  /-- TIMESLICE_EXPIRY (R359): A context of equal priority reaches TIMESLICE and becomes preemptible. -/
  | timesliceExpiry (ctx : Nat)
  /-- PILOT_DISPATCH (R363): Hardware starts NOP and LAUNCH dockets of pilotable contexts while SCH is busy. -/
  | pilotDispatch (ctx : Nat)
  /-- CONTEXT_PARK (R366): A context of a lost host comes to rest, parked or held. -/
  | contextPark (ctx : Nat)
  /-- WATCHDOG_EXPIRY (R341): A firmware core's watchdog expires and the core restarts from its active image. -/
  | watchdogExpiry (k : Nat)
  /-- ACTIVATION_REVERT (R373): A new image fails to run or trips its watchdog three times and the previous image returns. -/
  | activationRevert (k : Nat)
  /-- STAGE (R371): STAGE_COMMAND 1 verifies a bundle and writes it to the staging slot. -/
  | fwStage (q : ManifestReq) (b : BundleFacts)
  /-- DISCARD_STAGED (R371): STAGE_COMMAND 2 discards the staged bundle. -/
  | discardStaged (q : ManifestReq)
  /-- ACTIVATE (R372): Write that activates staged images on the named cores one at a time. -/
  | fwActivate (q : ManifestReq)
  /-- RAISE_FLOOR (R435): Owner write that raises the rollback floor. -/
  | raiseFloor (q : ManifestReq)
  /-- INGEST_JPEG (R377): Service that decodes one baseline JPEG image into INT8 planes. -/
  | svcIngestJpeg (j : JpegFacts)
  /-- INGEST_COPY (R377): Service that copies bytes from SRC to DST. -/
  | svcIngestCopy (ext : External)
  /-- MANIFEST_READ (R470): Manifest READ returning an object's value taken in one harbour cycle. -/
  | manifestRead (q : ManifestReq)
  /-- MANIFEST_WRITE (R469): Manifest WRITE of an object that has no behaviour of its own, after the checks of R469. -/
  | manifestWrite (q : ManifestReq)
  /-- DESCRIBE (R468): Manifest DESCRIBE returning an object's type and access record. -/
  | manifestDescribe (q : ManifestReq)
  /-- CLOSE (R464): Manifest CLOSE ending a connection. -/
  | manifestClose (q : ManifestReq)
  /-- SET_ENDPOINT_ID (R461): MCTP control message setting the endpoint ID. -/
  | setEndpointId (m : MctpMsg)
  /-- GET_ENDPOINT_ID (R461): MCTP control message returning the endpoint ID. -/
  | getEndpointId (m : MctpMsg)
  /-- GET_MCTP_VERSION_SUPPORT (R461): MCTP control message returning version support. -/
  | getMctpVersionSupport (m : MctpMsg)
  /-- GET_MESSAGE_TYPE_SUPPORT (R461): MCTP control message returning supported message types. -/
  | getMessageTypeSupport (m : MctpMsg)
  /-- GET_VENDOR_DEFINED_MESSAGE_SUPPORT (R461): MCTP control message returning vendor-defined message support. -/
  | getVendorDefinedMessageSupport (m : MctpMsg)
  /-- GETTID (R465): PLDM base command returning the terminus ID. -/
  | gettid (m : MctpMsg)
  /-- GETPLDMTYPES (R465): PLDM base command returning supported PLDM types. -/
  | getpldmtypes (m : MctpMsg)
  /-- GETPLDMVERSION (R465): PLDM base command returning a type's version. -/
  | getpldmversion (m : MctpMsg)
  /-- GETPLDMCOMMANDS (R465): PLDM base command returning supported commands. -/
  | getpldmcommands (m : MctpMsg)
  /-- GETPDR (R465): PLDM command returning a sensor's record. -/
  | getpdr (m : MctpMsg)
  /-- GETSENSORREADING (R465): PLDM command returning a numeric sensor reading. -/
  | getsensorreading (m : MctpMsg)
  /-- GET_VERSION (R436): SPDM request returning supported versions. -/
  | spdmGetVersion (m : MctpMsg)
  /-- GET_CAPABILITIES (R436): SPDM request returning responder capabilities. -/
  | spdmGetCapabilities (m : MctpMsg)
  /-- NEGOTIATE_ALGORITHMS (R436): SPDM request negotiating P-521 and SHA-512. -/
  | spdmNegotiateAlgorithms (m : MctpMsg)
  /-- GET_DIGESTS (R436): SPDM request returning certificate chain digests. -/
  | spdmGetDigests (m : MctpMsg)
  /-- GET_CERTIFICATE (R436): SPDM request returning the slot 0 chain. -/
  | spdmGetCertificate (m : MctpMsg)
  /-- CHALLENGE (R436): SPDM request answered with CHALLENGE_AUTH signed by the alias key. -/
  | spdmChallenge (m : MctpMsg)
  /-- GET_MEASUREMENTS (R438): SPDM request returning measurements taken in one harbour cycle. -/
  | spdmGetMeasurements (m : MctpMsg)
  /-- RANGE_CLEAR (R57): Write that clears a context's range counters and RANGE_FLAG. -/
  | rangeClear (q : ManifestReq)
  /-- ACC_CLEAR (R115): Write that clears a context's accumulation counters. -/
  | accClear (q : ManifestReq)
  /-- CADENCE_SOURCE (R170): Write that selects, takes or releases the cadence source. -/
  | cadenceSource (q : ManifestReq)
  /-- SNAP_PERIOD (R326): Write that starts, restarts or stops periodic snapshots and holds the cadence timer. -/
  | snapPeriod (q : ManifestReq)
  /-- IO_TUG_USE (R135): Write of an I/O tug's USE that holds or releases it. -/
  | ioTugUse (q : ManifestReq)
  /-- PORT_USE (R270): Write of a port's USE that dedicates or frees it. -/
  | portUse (q : ManifestReq)
  /-- RETAIN_USE (R177): Write that assigns a quay's retention part to a use. -/
  | retainUse (q : ManifestReq)
  /-- BERTH_PLAN (R269): Write of the berth plan, which rediscovers ports whose entries changed. -/
  | berthPlan (q : ManifestReq)
  /-- EVAL_SLOT (R327): Write that reserves a core, borrows a spare or clears a cluster's evaluation slot. -/
  | evalSlot (q : ManifestReq)
  /-- CLASS_CONFIRM (R378): Board write that confirms the strapped cooling class. -/
  | classConfirm (q : ManifestReq)
  /-- POWER_CAP (R379): Write that sets the module input power cap. -/
  | powerCap (q : ManifestReq)
  /-- RING_STATE (R346): Write that registers, resumes or unregisters a context's rings. -/
  | ringState (q : ManifestReq)
  /-- REGION_ENABLE (R199): Write of ENABLE TRUE that checks and enables a region. -/
  | regionEnable (q : ManifestReq)
  /-- REGION_DISABLE (R199): Write of ENABLE FALSE that clears FROZEN and starts the zero fill. -/
  | regionDisable (q : ManifestReq)
  /-- REGION_FILL_DONE (R199): A disabled region's zero fill ends and FILLING clears. -/
  | regionFillDone (r : Nat)
  /-- REGION_FROZEN (R199): Write of ATTR setting FROZEN on an enabled region, which starts a teacher mirror copy. -/
  | regionFrozen (q : ManifestReq)
  /-- ACK_CLASS (R410): Write of 1 to ACK marking a fault class acknowledged. -/
  | ackClass (q : ManifestReq)
  /-- CLEAR (R411): Write of 1 to CLEAR closing a fault class whose causes are gone. -/
  | classClear (q : ManifestReq)
  /-- ALERT_CAUSE (R405): Board read of ALERT_CAUSE that releases ALERT_N. -/
  | alertCause (q : ManifestReq)
  /-- ROLE_PROOF (R445): Write of a signed proof granting the Owner or Vendor role. -/
  | roleProof (q : ManifestReq) (verified : Bool)
  /-- LC_REQUEST (R452): Write requesting a life-cycle transition, which burns a fuse and warm-resets. -/
  | lcRequest (q : ManifestReq) (verified : Bool)
  /-- CALENDAR (R427): Write that sets the calendar when PTP has no master. -/
  | calendar (q : ManifestReq)
  /-- VENDOR_SERVICE_WRITE (R481): An accepted vendor service write drives test access and then warm-resets. -/
  | vendorServiceWrite (q : ManifestReq)
  /-- PSTATE_REQUEST_RUN (R502): Write of 0 to PSTATE_REQUEST that wakes the module from SLEEP. -/
  | pstateRequestRun (q : ManifestReq)
  /-- PSTATE_REQUEST_SLEEP (R501): Write that enters SLEEP after the checks of R500. -/
  | pstateRequestSleep (q : ManifestReq)
  /-- PSTATE_REQUEST_DEEP (R501): Write that enters DEEP, retaining HBM if chosen. -/
  | pstateRequestDeep (q : ManifestReq)
  /-- PSTATE_REQUEST_OFF (R501): Write that enters OFF. -/
  | pstateRequestOff (q : ManifestReq)
  /-- RESET_REQUEST_FUNCTION (R496): Write of 1 to RESET_REQUEST starting a function reset. -/
  | resetRequestFunction (q : ManifestReq)
  /-- RESET_REQUEST_WARM (R496): Write of 2 to RESET_REQUEST starting a warm reset. -/
  | resetRequestWarm (q : ManifestReq)
  /-- GOVERNOR_PERIOD (R382): Every 100 µs PWR sets the operating-point and duty ceilings. -/
  | governorPeriod (g : GovernorInput)
  /-- FAST_LIMITER (R384): A 1 µs power sample above 1.1 × cap halves the duty ceiling. -/
  | fastLimiter (sample : Nat)
  /-- CAP_UNATTAINABLE (R385): Power above the cap for 100 ms at OP7 and 1/16 duty raises the cap-unattainable fault. -/
  | capUnattainable (average : Nat)
  /-- TEMP_THRESHOLD (R394): A sensor crosses a warn or throttle threshold, raising E1 or E2 actions. -/
  | tempThreshold (stack : Bool) (sensor : Nat) (temp : Int)
  /-- THERMAL_TRIP (R395): A trip temperature stops issue, latches THERMTRIP_N and removes all but the standby rail. -/
  | thermalTrip (stack : Bool) (sensor : Nat) (temp : Int)
  /-- DROOP_STRETCH (R393): An island's supply sags 30 mV below VSET and its clock stretches. -/
  | droopStretch (die : Nat)
  /-- TRIM_REQUEST (R388): A delay monitor requests a trim, raising VMIN_TRIM or withdrawing the top operating point. -/
  | trimRequest (die : Nat)
  /-- TIDE_REQUEST (R396): A quiet core with a ready row asks the tide gate for admission. -/
  | tideRequest (c : CoreRef)
  /-- TIDE_WAVE (R396): A tide wave admits up to three waiting cores, which ramp their duty. -/
  | tideWave (die : Nat)
  /-- POWER_GATE (R400): An array or vector unit with no work for 20 µs removes its own power. -/
  | powerGate (c : CoreRef)
  /-- SELF_GATE (R399): A block with no work for 16 cycles gates its clock. -/
  | selfGate (c : CoreRef)
  /-- ROW_CHECK (R416): A row's residue check fails, replaying its open tiles or failing the row. -/
  | rowCheck (c : CoreRef) (array : Nat) (row : Nat)
  /-- ROW_TEST (R416): Every 24 power-on hours the row test runs on idle, unlent spare cores. -/
  | rowTest (cl : Nat) (phys : Nat) (failedRows : List (Nat × Nat))
  /-- SPARE_CORE_SWITCH (R418): A core with a disabled array is saved, remapped to a spare, restored and its tiles replayed. -/
  | spareCoreSwitch (c : CoreRef)
  /-- CORE_FAULT (R419): A sequencer, feeder or vector parity error switches in a spare and rewinds or aborts contexts. -/
  | coreFault (c : CoreRef)
  /-- PATROL_SCRUB (R184): The patrol scrub reads and corrects HBM lines in the background. -/
  | patrolScrub (stack : Nat) (addr : Nat) (e : LineErrors)
  /-- SRAM_SCRUB (R175): The background scrub reads and corrects hold and quay lines. -/
  | sramScrub (addr : Nat) (e : LineErrors)
  /-- COLD_START (R494): VIN passes 38 V, or a wake from OFF, runs start-up from power good to READY. -/
  | coldStart (strapClass : Nat) (strapMid : Nat)
  /-- WLOAD_COMPLETE (R70): A WLOAD finishes writing its shadow weight set, and a PASS waiting to swap it in may issue. -/
  | wloadComplete (c : CoreRef)
  /-- FIRMWARE_RESTART_END (R341): A restarting firmware core is running again, so held switch-ins, saves, BUSY requests and the next activation proceed. -/
  | firmwareRestartEnd (k : Nat)
  /-- MIN_QUANTUM_EXPIRY (R359): A restored lower-priority context reaches 1 ms of run time and SCH pre-empts it for a higher-priority LAUNCH. -/
  | minQuantumExpiry (ctx : Nat)
  /-- ROLE_GRANT_EXPIRY (R445): An Owner or Vendor grant ends when ROLE_GRANT has elapsed, and the connection returns to its transport role. -/
  | roleGrantExpiry (kcl : Bool) (eid : Nat)
  /-- CURRENT_LIMIT (R391): A compute-die regulator reaches its current limit, which raises E2 with OP7 and a duty of 4/16 within 2 µs. -/
  | currentLimit (die : Nat)
  /-- TRIM_INTERVAL_END (R388): The 24 power-on-hour interval since a die's last trim ends, and its waiting trim request is granted or withdraws a point. -/
  | trimIntervalEnd (die : Nat)
  /-- GANG_ABORT (R361): The abort of a context on another gang member arrives over the context session and aborts the context here. `coll` is the group and
  number of the collective whose end with MALFORMED there caused it, if one did (R298). -/
  | gangAbort (ctx : Nat) (rank : Nat) (coll : Option (Nat × Nat))
  /-- MEMBER_DIGEST (R357): A gang member's SHA-512 digest of its member table or group lists arrives over the device session and is compared at admission. -/
  | memberDigest (ctx : Nat) (rank : Nat) (n : Notice)
  /-- GANG_FPR_CHANGED (R302): Notice of a member's fingerprint change arrives, and this member sets GANG_FPR_CHANGED within 10 ms. -/
  | gangFprChanged (ctx : Nat) (rank : Nat)
  /-- FAST_LINE_HIGH (R222): SYNC_IO reads high for 40 ns at a module holding a fast barrier, completing the generation there. -/
  | fastLineHigh
  /-- FAST_LINE_REPULL (R222): 200 ns after seeing the line high, the module pulls SYNC_IO low for the next generation. -/
  | fastLineRepull
  /-- CADENCE_TICK (R171): A cadence timer tick starts, holds pending or drops the next repetition of CADENCE lists. -/
  | cadenceTick
  /-- SYNC_IO_RISING_EDGE (R488): A qualified rising edge on SYNC_IO held as frame trigger gives a cadence tick. -/
  | syncIoRisingEdge
  /-- SNAP_TICK (R326): A periodic snapshot tick starts a snapshot, or is dropped if the previous one is in flight. -/
  | snapTick
  /-- HEARTBEAT_TIMER (R332): Every 100 µs the harbour die sends a HEARTBEAT to its mooring partner. -/
  | heartbeatTimer
  /-- HEARTBEAT_LOSS (R332): No HEARTBEAT for HEARTBEAT_LOSS while a path is up declares the partner lost. -/
  | heartbeatLoss
  /-- FLIT_CRC_FAILURE (R189): A flit failing CRC or its GCM tag is retried at link level. -/
  | flitCrcFailure
  /-- KCL_TAG_FAILURES (R444): Eight tag failures within 1 ms take KCL down. -/
  | kclTagFailures
  /-- KCL_TRAINING (R444): At link training, ephemeral keys are exchanged and KCL keys derived. -/
  | kclTraining
  /-- DECISION_BUDGET_EXPIRY (R363): SCH's 200 µs timer expires or SCH restarts, and pilot dispatch starts. -/
  | decisionBudgetExpiry
  /-- HOST_HB_LOSS (R364): No host heartbeat for HOST_HB_LOSS declares host loss. -/
  | hostHbLoss
  /-- HOST_DRAIN_LIMIT (R366): HOST_DRAIN_LIMIT expires and remaining contexts are parked or held. -/
  | hostDrainLimit
  /-- HOST_PARK_WAIT (R368): HOST_PARK_WAIT expires; the session's contexts are destroyed and rings receive WIPED. -/
  | hostParkWait
  /-- CHECKPOINT (R377): Service that runs a HOLD snapshot of a state set. -/
  | svcCheckpoint
  /-- SUBMIT (R377): Service that places a docket on a context's ring as if the companion rang it. -/
  | svcSubmit
  /-- THROTTLE_N_LOW (R390): THROTTLE_N low for two cycles imposes THROTTLE_OP and THROTTLE_DUTY. -/
  | throttleNLow
  /-- THROTTLE_N_HIGH (R390): THROTTLE_N high for two cycles lets the governor set its ceilings afresh. -/
  | throttleNHigh
  /-- E2_END (R391): E2 conditions absent for 1 ms end E2 and the governor rebuilds from OP7. -/
  | e2End
  /-- COUNTER_PAGE_WRITE (R424): Each power-on hour the logbook counter page is written. -/
  | counterPageWrite
  /-- AUTH_NONCE_REFRESH (R447): AUTH_NONCE is replaced every 60 s. -/
  | authNonceRefresh
  /-- RESET_N (R496): RESET_N low for two always-on cycles starts a warm reset. -/
  | resetN
  /-- WIPE_FILL_DONE (R453): The HBM zero fill ends and WIPE_ACTIVE becomes FALSE. -/
  | wipeFillDone
  /-- BROWN_OUT (R493): VIN falls below 36 V; issue stops and rails 2 to 6 are removed. -/
  | brownOut
  /-- WAKE_N (R502): WAKE_N low wakes the module from SLEEP, DEEP or OFF. -/
  | wakeN
  /-- WAKE_TIMER (R502): WAKE_AFTER elapses and wakes the module from SLEEP or DEEP. -/
  | wakeTimer
  /-- KCL_WAKE_BEACON (R502): A wake beacon from the companion wakes the module from SLEEP or DEEP. -/
  | kclWakeBeacon
  /-- IDLE_ENTRY (R499): With no work for IDLE_ENTRY the module enters IDLE. -/
  | idleEntry
  /-- SCH_READY (R363): SCH reports that it is ready, and pilot dispatch stops. -/
  | schReady
  /-- REFCLK_PRESENT (R490): The reference clock appears while start-up waits at step 2, and start-up proceeds. -/
  | refclkPresent
  /-- RESET_N_HIGH (R496): RESET_N rises, ending the held warm reset, or releasing a wake that waits at step 2, so start-up continues. -/
  | resetNHigh
  /-- NODE_STATUS_SEND (R369): Every 100 ms while KIND is not 0, the module sends NODE_STATUS to its gang members and partner. -/
  | nodeStatusSend
  /-- E0_HOLD_EXPIRY (R372): E0 has held for 1 s after E2 or E3, and the deferred firmware activations proceed. -/
  | e0HoldExpiry
  /-- INPUT_POWER_REMOVED (R427): Input power and the standby rail are lost, clearing the calendar, CLASS_CONFIRM and the THERMTRIP_N latch. -/
  | inputPowerRemoved
deriving DecidableEq, Repr

end Sys2Proof
end

