-- ==== Sys2Proof/WellFormed.lean ====
section
/-! DEFINITION. Which commands name only units the KC9 has: cores (R16, R327), clusters, tugs, contexts, conveyors, groups, ports
and halves (R236, R238), paths (R260), ranks (R245), engines and lasers (R17), firmware cores (R340), regions (R197), dies, stacks,
arrays and rows (R13 to R17). -/

namespace Sys2Proof

/-- Whether every unit a command names exists. -/
def wellFormed (i : Instr) : Bool :=
  match i with
  | .wload c => c.exists
  | .pass c => c.exists
  | .pairpass c => c.exists
  | .tileReplay c => c.exists
  | .accWaitExpiry c => c.exists
  | .drain c => c.exists
  | .drainRead c => c.exists
  | .vec c => c.exists
  | .vreduce c => c.exists
  | .tug c => c.exists
  | .tugDescriptorComplete cl tug _ _ => decide (cl < 8) && decide (tug < 4)
  | .conveyPut c => c.exists
  | .conveyGetTake c => c.exists
  | .conveyGetRelease c => c.exists
  | .conveyGetCopy c => c.exists
  | .conveyMessageVisible ctx conv => decide (ctx < 64) && decide (conv < 4096)
  | .creditReturn ctx conv => decide (ctx < 64) && decide (conv < 4096)
  | .arrive c => c.exists
  | .wait c => c.exists
  | .arriveWait c => c.exists
  | .hint c => c.exists
  | .hintEnd c => c.exists
  | .commit c => c.exists
  | .snapshot c => c.exists
  | .snapshotComplete _ _ => true
  | .collAllReduce c => c.exists
  | .collReduce c => c.exists
  | .collBroadcast c => c.exists
  | .collAllGather c => c.exists
  | .collReduceScatter c => c.exists
  | .collAllToAll c => c.exists
  | .collectiveComplete ctx group => decide (ctx < 64) && decide (group < 256)
  | .fence c => c.exists
  | .orderListComplete c => c.exists
  | .arrivalCounted _ => true
  | .arrivalAck _ => true
  | .releaseVisible _ => true
  | .waitTimeout c => c.exists
  | .commitTimeout c => c.exists
  | .gezalWrite p => decide (p.port < 20) && decide (p.half < 2)
  | .gezalRead p => decide (p.port < 20) && decide (p.half < 2)
  | .gezalReadResp p => decide (p.port < 20) && decide (p.half < 2)
  | .gezalDone p => decide (p.port < 20) && decide (p.half < 2)
  | .gezalConvey p => decide (p.port < 20) && decide (p.half < 2)
  | .gezalCredit p => decide (p.port < 20) && decide (p.half < 2)
  | .gezalArrive p => decide (p.port < 20) && decide (p.half < 2)
  | .gezalArriveAck p => decide (p.port < 20) && decide (p.half < 2)
  | .gezalRelease p => decide (p.port < 20) && decide (p.half < 2)
  | .gezalPoisonBarrier p => decide (p.port < 20) && decide (p.half < 2)
  | .gezalCollect p => decide (p.port < 20) && decide (p.half < 2)
  | .gezalVote p => decide (p.port < 20) && decide (p.half < 2)
  | .gezalOutcome _ => true
  | .gezalHeartbeat p => decide (p.port < 20) && decide (p.half < 2)
  | .gezalTakeover p => decide (p.port < 20) && decide (p.half < 2)
  | .gezalReconcile p => decide (p.port < 20) && decide (p.half < 2)
  | .gezalMirror p => decide (p.port < 20) && decide (p.half < 2)
  | .gezalNodeStatus p => decide (p.port < 20) && decide (p.half < 2)
  | .gezalAck p => decide (p.port < 20) && decide (p.half < 2)
  | .gezalNack p => decide (p.port < 20) && decide (p.half < 2)
  | .gezalHello p => decide (p.port < 20) && decide (p.half < 2)
  | .gezalProbe p => decide (p.port < 20) && decide (p.half < 2)
  | .offer p _ => decide (p.port < 20) && decide (p.half < 2)
  | .accept p _ => decide (p.port < 20) && decide (p.half < 2)
  | .confirm p _ => decide (p.port < 20) && decide (p.half < 2)
  | .rekey p _ => decide (p.port < 20) && decide (p.half < 2)
  | .rekeyAck p _ => decide (p.port < 20) && decide (p.half < 2)
  | .refuse p => decide (p.port < 20) && decide (p.half < 2)
  | .transitForward p => decide (p.port < 20) && decide (p.half < 2)
  | .lldpFrame port half _ => decide (port < 20) && decide (half < 2)
  | .lldpSend port half => decide (port < 20) && decide (half < 2)
  | .helloSend port half => decide (port < 20) && decide (half < 2)
  | .neighbourSolicitation port _ _ => decide (port < 20)
  | .echoRequest port _ _ => decide (port < 20)
  | .routerAdvertisement port _ => decide (port < 20)
  | .ptpMessage port _ _ => decide (port < 20)
  | .ackTimer _ cls => decide (cls < 4)
  | .gapWaitExpiry _ cls => decide (cls < 4)
  | .rtoExpiry _ cls _ => decide (cls < 4)
  | .probeTimer rank path => decide (rank < 16384) && decide (path < 8)
  | .rateRaiseTimer rank path => decide (rank < 16384) && decide (path < 8)
  | .lossDetection port half _ => decide (port < 20) && decide (half < 2)
  | .portDown port half => decide (port < 20) && decide (half < 2)
  | .linkGlitch port half => decide (port < 20) && decide (half < 2)
  | .halfRetrain port half => decide (port < 20) && decide (half < 2)
  | .laserFailed engine laser => decide (engine < 4) && decide (laser < 12)
  | .plannedRetrain port => decide (port < 20)
  | .portRetry port half => decide (port < 20) && decide (half < 2)
  | .lightDetect port half => decide (port < 20) && decide (half < 2)
  | .darkTimeout port half => decide (port < 20) && decide (half < 2)
  | .pcsFecLock port half => decide (port < 20) && decide (half < 2)
  | .linkingTimeout port half => decide (port < 20) && decide (half < 2)
  | .identifyingTimeout port half => decide (port < 20) && decide (half < 2)
  | .pathLostTimer rank => decide (rank < 16384)
  | .sessionOpenTimeout ctx => decide (ctx < 64)
  | .handshakeResend _ => true
  | .rekeyTimer _ => true
  | .mirrorSync ctx => decide (ctx < 64)
  | .kclReadShared _ => true
  | .kclReadOwn _ => true
  | .kclReadUncached _ _ => true
  | .kclWrite _ _ _ _ => true
  | .kclWriteback _ _ _ => true
  | .kclFetchAdd _ _ _ => true
  | .kclSwap _ _ _ => true
  | .kclCas _ _ _ _ => true
  | .kclLaneFailure lane => decide (lane < 32)
  | .submissionTail ctx _ => decide (ctx < 64)
  | .completionHead ctx _ => decide (ctx < 64)
  | .attach _ => true
  | .hostHeartbeat _ => true
  | .detach _ => true
  | .serviceTail _ _ => true
  | .docketNop ctx => decide (ctx < 64)
  | .docketCreate ctx => decide (ctx < 64)
  | .docketAdmit ctx => decide (ctx < 64)
  | .docketLaunch ctx => decide (ctx < 64)
  | .docketStop ctx => decide (ctx < 64)
  | .docketStart ctx => decide (ctx < 64)
  | .docketAbort ctx => decide (ctx < 64)
  | .docketDestroy ctx => decide (ctx < 64)
  | .preemption ctx => decide (ctx < 64)
  | .restore ctx => decide (ctx < 64)
  | .timesliceExpiry ctx => decide (ctx < 64)
  | .pilotDispatch ctx => decide (ctx < 64)
  | .contextPark ctx => decide (ctx < 64)
  | .watchdogExpiry k => decide (k < 15)
  | .activationRevert k => decide (k < 15)
  | .fwStage _ _ => true
  | .discardStaged _ => true
  | .fwActivate _ => true
  | .raiseFloor _ => true
  | .svcIngestJpeg _ => true
  | .svcIngestCopy _ => true
  | .manifestRead _ => true
  | .manifestWrite _ => true
  | .manifestDescribe _ => true
  | .manifestClose _ => true
  | .setEndpointId _ => true
  | .getEndpointId _ => true
  | .getMctpVersionSupport _ => true
  | .getMessageTypeSupport _ => true
  | .getVendorDefinedMessageSupport _ => true
  | .gettid _ => true
  | .getpldmtypes _ => true
  | .getpldmversion _ => true
  | .getpldmcommands _ => true
  | .getpdr _ => true
  | .getsensorreading _ => true
  | .spdmGetVersion _ => true
  | .spdmGetCapabilities _ => true
  | .spdmNegotiateAlgorithms _ => true
  | .spdmGetDigests _ => true
  | .spdmGetCertificate _ => true
  | .spdmChallenge _ => true
  | .spdmGetMeasurements _ => true
  | .rangeClear _ => true
  | .accClear _ => true
  | .cadenceSource _ => true
  | .snapPeriod _ => true
  | .ioTugUse _ => true
  | .portUse _ => true
  | .retainUse _ => true
  | .berthPlan _ => true
  | .evalSlot _ => true
  | .classConfirm _ => true
  | .powerCap _ => true
  | .ringState _ => true
  | .regionEnable _ => true
  | .regionDisable _ => true
  | .regionFillDone r => decide (r < 1024)
  | .regionFrozen _ => true
  | .ackClass _ => true
  | .classClear _ => true
  | .alertCause _ => true
  | .roleProof _ _ => true
  | .lcRequest _ _ => true
  | .calendar _ => true
  | .vendorServiceWrite _ => true
  | .pstateRequestRun _ => true
  | .pstateRequestSleep _ => true
  | .pstateRequestDeep _ => true
  | .pstateRequestOff _ => true
  | .resetRequestFunction _ => true
  | .resetRequestWarm _ => true
  | .governorPeriod _ => true
  | .fastLimiter _ => true
  | .capUnattainable _ => true
  | .tempThreshold stack sensor _ => decide (sensor < (if stack then 32 else 68))
  | .thermalTrip stack sensor _ => decide (sensor < (if stack then 32 else 68))
  | .droopStretch die => decide (die < 4)
  | .trimRequest die => decide (die < 4)
  | .tideRequest c => c.exists
  | .tideWave die => decide (die < 4)
  | .powerGate c => c.exists
  | .selfGate c => c.exists
  | .rowCheck c array row => c.exists && decide (array < 4) && decide (row < 260)
  | .rowTest cl phys _ => decide (cl < 8) && decide (phys < 12)
  | .spareCoreSwitch c => c.exists
  | .coreFault c => c.exists
  | .patrolScrub stack _ _ => decide (stack < 32)
  | .sramScrub _ e => match e.spare with | some q => decide (q.1 < 8) && decide (q.2 < 12) | none => true
  | .coldStart strapClass strapMid => decide (strapClass < 4) && decide (strapMid < 8)
  | .wloadComplete c => c.exists
  | .firmwareRestartEnd k => decide (k < 15)
  | .minQuantumExpiry ctx => decide (ctx < 64)
  | .roleGrantExpiry _ _ => true
  | .currentLimit die => decide (die < 4)
  | .trimIntervalEnd die => decide (die < 4)
  | .gangAbort ctx rank _ => decide (ctx < 64) && decide (rank < 16384)
  | .memberDigest ctx rank _ => decide (ctx < 64) && decide (rank < 16384)
  | .gangFprChanged ctx rank => decide (ctx < 64) && decide (rank < 16384)
  | .fastLineHigh => true
  | .fastLineRepull => true
  | .cadenceTick => true
  | .syncIoRisingEdge => true
  | .snapTick => true
  | .heartbeatTimer => true
  | .heartbeatLoss => true
  | .flitCrcFailure => true
  | .kclTagFailures => true
  | .kclTraining => true
  | .decisionBudgetExpiry => true
  | .hostHbLoss => true
  | .hostDrainLimit => true
  | .hostParkWait => true
  | .svcCheckpoint => true
  | .svcSubmit => true
  | .throttleNLow => true
  | .throttleNHigh => true
  | .e2End => true
  | .counterPageWrite => true
  | .authNonceRefresh => true
  | .resetN => true
  | .wipeFillDone => true
  | .brownOut => true
  | .wakeN => true
  | .wakeTimer => true
  | .kclWakeBeacon => true
  | .idleEntry => true
  | .schReady => true
  | .refclkPresent => true
  | .resetNHigh => true
  | .nodeStatusSend => true
  | .e0HoldExpiry => true
  | .inputPowerRemoved => true

end Sys2Proof
end

