-- ==== Sys2Proof/Machine/Bits.lean ====
section
/-! DEFINITION. Bit fields of words and records (R6), little-endian byte strings (R7), big-endian fields of the wire, and the
operations of the sparse tables. -/

namespace Sys2Proof.Machine

/-- The field [hi:lo] of a word (R6: bit 0 is the least significant, both ends included). -/
def field (w hi lo : Nat) : Nat := (w / 2 ^ lo) % 2 ^ (hi + 1 - lo)

/-- One bit of a word. -/
def bit (w i : Nat) : Bool := (w / 2 ^ i) % 2 == 1

/-- A field read as a two's-complement number. -/
def sfield (w hi lo : Nat) : Int :=
  let v := field w hi lo
  if v < 2 ^ (hi - lo) then (v : Int) else (v : Int) - (2 ^ (hi + 1 - lo) : Nat)

/-- An `n`-bit number read as two's complement. -/
def signed (n v : Nat) : Int := if v % 2 ^ n < 2 ^ (n - 1) then ((v % 2 ^ n : Nat) : Int) else ((v % 2 ^ n : Nat) : Int) - (2 ^ n : Nat)

/-- The `n` low bits of an integer, as a number. -/
def low (n : Nat) (v : Int) : Nat := (v % ((2 ^ n : Nat) : Int)).toNat

/-- The number a little-endian byte string spells (R7). -/
def leNat : List Byte → Nat
  | [] => 0
  | b :: bs => b.toNat + 256 * leNat bs

/-- A number as `n` little-endian bytes (R7). -/
def natLe : Nat → Nat → List Byte
  | 0, _ => []
  | n + 1, v => BitVec.ofNat 8 v :: natLe n (v / 256)

/-- A number as `n` big-endian bytes, as fields stand on the wire (R7). -/
def natBe (n v : Nat) : List Byte := (natLe n v).reverse

/-- The number a big-endian byte string spells. -/
def beNat (bs : List Byte) : Nat := leNat bs.reverse

/-- The bytes `[at, at + n)` of a byte string, zero beyond its end. -/
def slice (bs : List Byte) (at_ n : Nat) : List Byte :=
  let got := (bs.drop at_).take n
  got ++ List.replicate (n - got.length) 0#8

/-- A counter that stops at 2^64 − 1 (R56, R115, R135 and the other object chapters). -/
def satAdd (a b : Nat) : Nat := min (a + b) (2 ^ 64 - 1)

/-- ceil(a / b). -/
def ceilDiv (a b : Nat) : Nat := if b = 0 then 0 else (a + b - 1) / b

/-- The entry of a table at a key, if there is one. -/
def tblFind {α : Type} : Tbl α → Nat → Option α
  | [], _ => none
  | (k, v) :: t, n => if k = n then some v else tblFind t n

/-- The entry of a table at a key, the default where the table holds none. -/
def tblGet {α : Type} (dflt : α) (t : Tbl α) (n : Nat) : α := (tblFind t n).getD dflt

/-- The table with one entry set; keys stay in rising order. -/
def tblSet {α : Type} : Tbl α → Nat → α → Tbl α
  | [], n, v => [(n, v)]
  | (k, w) :: t, n, v =>
    if n < k then (n, v) :: (k, w) :: t
    else if k = n then (n, v) :: t
    else (k, w) :: tblSet t n v

/-- The table without the entry at a key. -/
def tblErase {α : Type} : Tbl α → Nat → Tbl α
  | [], _ => []
  | (k, w) :: t, n => if k = n then t else (k, w) :: tblErase t n

/-- The keys a table holds. -/
def tblKeys {α : Type} (t : Tbl α) : List Nat := t.map Prod.fst

/-- The element of a list at a place, the default beyond its end. -/
def nth {α : Type} (dflt : α) (l : List α) (i : Nat) : α := l.getD i dflt

/-- The list with the element at a place replaced. -/
def setNth {α : Type} (l : List α) (i : Nat) (v : α) : List α := l.set i v

/-- The list without the element at a place. -/
def dropNth {α : Type} (l : List α) (i : Nat) : List α := l.eraseIdx i

/-- CRC-16 of a byte string: polynomial 0x1021, from `c` on. -/
def crcBit : Nat → Nat → Nat
  | 0, c => c
  | n + 1, c => crcBit n (if bit c 15 then (2 * c % 2 ^ 16) ^^^ 0x1021 else 2 * c)
def crc16 (c : Nat) : List Byte → Nat
  | [] => c
  | b :: bs => crc16 (crcBit 8 (c ^^^ (b.toNat * 256))) bs

end Sys2Proof.Machine
end

