-- ==== Sys2Proof/Machine/Jpeg.lean ====
section
/-! DEFINITION. The headers of a JPEG stream (R377, ISO/IEC 10918-1): which process, size and sampling it has. The samples themselves are the
standard's. -/

namespace Sys2Proof.Machine

/-- What the frame header of a stream tells: whether the service accepts it, and the size of the image and its components. -/
structure JpegHead where
  supported : Bool := false
  width : Nat := 0
  height : Nat := 0
  comps : Nat := 0
deriving DecidableEq, Repr

/-- Whether the sampling factors of three components are 4:4:4, 4:2:2 or 4:2:0, each a byte with H above V. -/
def jpegSampling (y a b : Nat) : Bool :=
  a == b && [(1, 1), (2, 1), (2, 2)].any fun r => y / 16 == r.1 * (a / 16) && y % 16 == r.2 * (a % 16) && a / 16 != 0 && a % 16 != 0

/-- The frame header of a baseline stream: precision, height, width, number of components, and three bytes for each. -/
def jpegFrame (bs : List Byte) : Option JpegHead :=
  let at_ := fun (i : Nat) => leNat (slice bs i 1)
  let n := at_ 5
  let y := beNat (slice bs 1 2)
  let x := beNat (slice bs 3 2)
  if bs.length ≠ 6 + 3 * n then none
  else some { supported := at_ 0 == 8 && decide (1 ≤ y) && decide (y ≤ 8192) && decide (1 ≤ x) && decide (x ≤ 8192) &&
                (n == 1 || (n == 3 && jpegSampling (at_ 7) (at_ 10) (at_ 13))), width := x, height := y, comps := n }

/-- The segments of a stream up to its frame header: SOF0 is the baseline process, the other SOFs and a hierarchical DHP are other processes. -/
def jpegWalk : Nat → List Byte → Option JpegHead
  | 0, _ => none
  | fuel + 1, bs =>
    let k := leNat (slice bs 1 1)
    let rest := bs.drop 2
    let n := beNat (slice rest 0 2)
    if bs.length < 4 ∨ leNat (slice bs 0 1) ≠ 0xFF then none
    else if k = 0xFF then jpegWalk fuel (bs.drop 1)
    else if k < 0xC0 ∨ (0xD0 ≤ k ∧ k ≤ 0xDA) ∨ n < 2 ∨ rest.length < n then none
    else if k = 0xC0 then jpegFrame (slice rest 2 (n - 2))
    else if k = 0xDE ∨ (k ≤ 0xCF ∧ k ≠ 0xC4 ∧ k ≠ 0xCC) then some {}
    else jpegWalk fuel (rest.drop n)

/-- The frame header of a stream; none where it is damaged before that. -/
def jpegHead (bs : List Byte) : Option JpegHead :=
  if slice bs 0 2 = [0xFF#8, 0xD8#8] then jpegWalk bs.length (bs.drop 2) else none

end Sys2Proof.Machine
end

