-- ==== Sys2Proof/Config.lean ====
section
/-! DEFINITION. What one implementation fixes and the spec leaves open: opaque constants, so that no proof can see a value. -/

namespace Sys2Proof.Config

/-- How long after the beginning of a fill, at a time, a 4 KiB granule of HBM is filled (R453), within its bound. -/
opaque fillTime : Nat → Nat → Nat

/-- Which of the FP32 values within R125's maximum error a transcendental function (VEC operation code) gives for the bits of an FP32 input. -/
opaque transcendental : Nat → Nat → Nat

/-- The n-th free amount: counts of waiting cycles and other quantities whose size the spec does not fix. -/
opaque freeCount : Nat → Nat

/-- The n-th draw of random bytes (R430): nonces, keys and identifiers. -/
opaque freeBytes : Nat → List Byte

/-- What the home of a barrier on another module holds of it: by the time, the context and the barrier a record whose fields this module does not know, an
arrived set and a waiter set (R230, log 68). -/
opaque farRecord : Nat → Nat → Nat → Nat
opaque farArrived : Nat → Nat → Nat → Nat
opaque farWaiters : Nat → Nat → Nat → Nat

/-- The n-th XTS key drawn for HBM, 64 bytes (R201, R431). -/
opaque memoryKey : Nat → List Byte

/-- The secret of an ECDSA signature by a key over a digest (R430), which the generator draws. -/
opaque signingSecret : Nat → Nat → Nat

/-- How the bytes that HKDF derives become a private key of the curve (R431), which the spec does not say. -/
opaque keyOfBytes : List Byte → Nat

/-- The unique device secret that the DRBG gave at provisioning (R431). -/
opaque deviceSecret : List Byte

/-- Identity fixed at manufacture (R477, R456): serial number, MAC base, date, enterprise number, and the root and product CA certificates. -/
opaque serial : List Byte
opaque macBase : Nat
opaque manufactured : Nat
opaque vendorIana : Nat
/-- What the certificates of R432 hold that the spec does not give: the product CA's key and the serial number it gave the device identity certificate, the Name of
the CA and what else names the device, the identifiers of the extensions, the serial number of an alias certificate (by its
number of derivation), and a moment as X.509 writes it: that of provisioning, or a calendar. -/
opaque productKey : Nat
opaque deviceNumber : Nat
opaque productName : List Byte
opaque deviceName : List Byte
opaque steppingOid : List Byte
opaque aliasOid : List Byte
opaque aliasNumber : Nat → Nat
opaque certTime : Option Nat → List Byte
/-- The validity of the certificates of the Valrak service key and of the firmware key (R433), in seconds. -/
opaque serviceFrom : Nat
opaque serviceTo : Nat
opaque firmwareFrom : Nat
opaque firmwareTo : Nat
opaque rootCert : List Byte
opaque caCert : List Byte
/-- The image digests of R434 and R437, by measurement index and version. -/
opaque imageDigest : Nat → Nat → List Byte
/-- The highest sub-index in use at an index of the vendor service range (R457, R480). -/
opaque vendorTop : Nat → Nat
/-- VMIN_CAL of a compute die at an operating point, as measured at test (R387). -/
opaque vminCal : Nat → Nat → Nat
/-- Whether the cause of a lane's loss is no laser (R240), where nothing at this end tells, drawn by number. -/
opaque fibreBroken : Nat → Bool
/-- A field of a published standard's message that the spec does not give: PLDM versions, PDR contents, error texts. -/
opaque standardBytes : Nat → List Byte → List Byte

end Sys2Proof.Config
end

