-- ==== Sys2Proof/Machine/Cipher.lean ====
section
/-! DEFINITION. The ciphers of R430 on byte strings: AES-256 (FIPS 197), AES-256-XTS (IEEE 1619) for HBM (R201), and AES-256-GCM
(NIST SP 800-38D) for packets (R251). -/

namespace Sys2Proof.Machine

/-! ### AES-256 -/

/-- The product of two bytes in AES's field, over the low `fuel` bits of the second. -/
def aesMulGo : Nat → Nat → Nat → Nat → Nat
  | 0, _, _, acc => acc
  | fuel + 1, a, b, acc => aesMulGo fuel (if a < 128 then 2 * a else (2 * a) ^^^ 0x11B) (b / 2) (if b % 2 = 1 then acc ^^^ a else acc)
def aesMul (a b : Nat) : Nat := aesMulGo 8 a b 0

/-- The `2 ^ (k + 1) − 1`-th power of a byte. -/
def aesOnes (b : Nat) : Nat → Nat
  | 0 => b
  | k + 1 => let x := aesOnes b k; aesMul (aesMul x x) b

/-- The S-box: the inverse of a byte, its 254th power, through the affine map. -/
def aesSub (b : Nat) : Nat :=
  let x := aesOnes b 6
  let i := aesMul x x
  let turn := fun (n : Nat) => i * 2 ^ n % 256 + i * 2 ^ n / 256
  i ^^^ turn 1 ^^^ turn 2 ^^^ turn 3 ^^^ turn 4 ^^^ 0x63

/-- Two lists of bytes added. -/
def xorBytes (a b : List Nat) : List Nat := List.zipWith (· ^^^ ·) a b

/-- The words of the key schedule after the first eight, `i` the next one's number; the schedule's last eight words come first to last. -/
def aesExpand : Nat → Nat → Nat → List (List Nat) → List (List Nat)
  | 0, _, _, _ => []
  | fuel + 1, i, rcon, last =>
    let t := last.getD 7 []
    let t := if i % 8 = 0 then xorBytes ((t.drop 1 ++ t.take 1).map aesSub) [rcon, 0, 0, 0] else if i % 8 = 4 then t.map aesSub else t
    let w := xorBytes (last.getD 0 []) t
    w :: aesExpand fuel (i + 1) (if i % 8 = 0 then aesMul rcon 2 else rcon) (last.drop 1 ++ [w])

/-- The four-byte words of a list of bytes. -/
def words4 : Nat → List Nat → List (List Nat)
  | 0, _ => []
  | n + 1, bs => bs.take 4 :: words4 n (bs.drop 4)

/-- The 15 round keys of a 32-byte key, 16 bytes each. -/
def aesKeys (key : List Nat) : List (List Nat) :=
  let first := words4 8 key
  let ws := first ++ aesExpand 52 8 1 first
  (List.range 15).map fun r => ((ws.drop (4 * r)).take 4).flatten

/-- ShiftRows on a state of four columns. -/
def aesShift (s : List Nat) : List Nat := (List.range 16).map fun i => s.getD ((i + 4 * (i % 4)) % 16) 0

/-- MixColumns. -/
def aesMix (s : List Nat) : List Nat :=
  (List.range 16).map fun i =>
    let at_ := fun (k : Nat) => s.getD (i / 4 * 4 + (i + k) % 4) 0
    aesMul (at_ 0) 2 ^^^ aesMul (at_ 1) 3 ^^^ at_ 2 ^^^ at_ 3

/-- The rounds after the first key addition. -/
def aesRounds : List (List Nat) → List Nat → List Nat
  | [], s => s
  | [k], s => xorBytes (aesShift (s.map aesSub)) k
  | k :: ks, s => aesRounds ks (xorBytes (aesMix (aesShift (s.map aesSub))) k)

/-- A block enciphered under the round keys of a key. -/
def aesBlock (ks : List (List Nat)) (block : List Nat) : List Nat := aesRounds (ks.drop 1) (xorBytes block (ks.getD 0 []))

/-- Bytes as numbers, `n` of them, and back. -/
def bytesOf (bs : List Byte) (n : Nat) : List Nat := (slice bs 0 n).map BitVec.toNat
def toBytes (ns : List Nat) : List Byte := ns.map fun n => BitVec.ofNat 8 n

/-! ### AES-256-XTS -/

/-- The next tweak block: the product by the primitive element, in IEEE 1619's byte order. -/
def xtsNext (t : Nat) : Nat := if t < 2 ^ 127 then 2 * t else (2 * t % 2 ^ 128) ^^^ 0x87

/-- The blocks of a data unit enciphered, the tweak block of the first given. -/
def xtsGo (ks : List (List Nat)) : Nat → Nat → List Byte → List Byte
  | 0, _, _ => []
  | n + 1, t, bs =>
    let tw := bytesOf (natLe 16 t) 16
    toBytes (xorBytes (aesBlock ks (xorBytes (bytesOf bs 16) tw)) tw) ++ xtsGo ks n (xtsNext t) (bs.drop 16)

/-- A 64-byte line enciphered under a 64-byte pair of keys and a tweak number (R201). -/
def xtsLine (key : List Byte) (tweak : Nat) (line : List Byte) : List Byte :=
  let t := aesBlock (aesKeys (bytesOf (key.drop 32) 32)) (bytesOf (natLe 16 tweak) 16)
  xtsGo (aesKeys (bytesOf key 32)) 4 (leNat (toBytes t)) line

/-! ### AES-256-GCM -/

/-- The product of two blocks in GCM's field, a block's first bit the most significant of its number. -/
def gcmMulGo : Nat → Nat → Nat → Nat → Nat
  | 0, _, _, z => z
  | fuel + 1, x, v, z =>
    gcmMulGo fuel (x * 2 % 2 ^ 128) (if v % 2 = 1 then (v / 2) ^^^ (0xE1 * 2 ^ 120) else v / 2) (if 2 ^ 127 ≤ x then z ^^^ v else z)
def gcmMul (x y : Nat) : Nat := gcmMulGo 128 x y 0

/-- GHASH over whole blocks of 16 bytes; a last one that is short is filled with zeros. -/
def ghash (h : Nat) : Nat → Nat → List Byte → Nat
  | 0, y, _ => y
  | n + 1, y, bs => ghash h n (gcmMul (y ^^^ beNat (slice bs 0 16)) h) (bs.drop 16)

/-- Bytes enciphered in counter mode from a counter block on. -/
def gcmCtr (ks : List (List Nat)) (nonce : List Byte) : Nat → Nat → List Byte → List Byte
  | 0, _, _ => []
  | n + 1, c, bs =>
    toBytes (xorBytes ((bs.take 16).map BitVec.toNat) (aesBlock ks (bytesOf (nonce ++ natBe 4 c) 16))) ++ gcmCtr ks nonce n (c + 1) (bs.drop 16)

/-- Ciphertext and 16-byte tag of a text under a key, a 12-byte nonce and additional data (R251). -/
def gcm (key nonce aad text : List Byte) : List Byte × List Byte :=
  let ks := aesKeys (bytesOf key 32)
  let h := beNat (toBytes (aesBlock ks (List.replicate 16 0)))
  let cipher := gcmCtr ks nonce (ceilDiv text.length 16) 2 text
  let y := ghash h (ceilDiv aad.length 16) 0 aad
  let y := ghash h (ceilDiv cipher.length 16) y cipher
  let y := ghash h 1 y (natBe 8 (8 * aad.length) ++ natBe 8 (8 * cipher.length))
  (cipher, toBytes (xorBytes (bytesOf (natBe 16 y) 16) (aesBlock ks (bytesOf (nonce ++ natBe 4 1) 16))))

end Sys2Proof.Machine
end

