-- ==== Sys2Proof/Machine/Numbers.lean ====
section
/-! DEFINITION. Exact values, the encodings of the tensor number formats and the conversions between them
(02_tensor_numbers.md: R34 to R56). Every conversion rounds an exact value once (R47). -/

namespace Sys2Proof.Machine

/-- An exact value: a signed dyadic number (−1)^neg × m × 2^e, an infinity or NaN (R38: no payload, no sign of NaN). -/
inductive Val where
  | fin (neg : Bool) (m : Nat) (e : Int)
  | inf (neg : Bool)
  | nan
deriving DecidableEq, Repr

/-- What a conversion counts: the range counters of R56 and the non-finite counters of R311. -/
structure Counts where
  finiteSat : Nat := 0
  infSat : Nat := 0
  intSat : Nat := 0
  nanToInt : Nat := 0
  scaleSat : Nat := 0
  nfNan : Nat := 0
  nfInf : Nat := 0
deriving DecidableEq, Repr

/-- The counts of two pieces of work together. -/
def Counts.add (a b : Counts) : Counts :=
  ⟨a.finiteSat + b.finiteSat, a.infSat + b.infSat, a.intSat + b.intSat, a.nanToInt + b.nanToInt,
   a.scaleSat + b.scaleSat, a.nfNan + b.nfNan, a.nfInf + b.nfInf⟩

/-- Nothing counted. -/
def Counts.zero : Counts := {}

/-- Whether a drain's counts set SAT_OUT (R106). -/
def Counts.saturated (c : Counts) : Bool := c.finiteSat + c.infSat + c.intSat + c.scaleSat != 0

/-! ### Exact arithmetic -/

/-- 2^n as a natural number for a non-negative exponent. -/
def pow2 (n : Int) : Nat := 2 ^ n.toNat

/-- The exact value of an integer. -/
def Val.ofInt (i : Int) : Val := .fin (decide (i < 0)) i.natAbs 0

/-- The exact value A × 2^G (R87). -/
def Val.ofGrid (a : Int) (g : Int) : Val := .fin (decide (a < 0)) a.natAbs g

/-- The signed mantissa. -/
def smant (neg : Bool) (m : Nat) : Int := if neg then -(m : Int) else (m : Int)

/-- The exact sum of two finite values. A sum of zero takes the sign the two share, else + (IEEE 754 under R48's modes). -/
def finAdd (n1 : Bool) (m1 : Nat) (e1 : Int) (n2 : Bool) (m2 : Nat) (e2 : Int) : Val :=
  let e := min e1 e2
  let s := smant n1 (m1 * pow2 (e1 - e)) + smant n2 (m2 * pow2 (e2 - e))
  if s = 0 then .fin (n1 && n2) 0 0 else .fin (decide (s < 0)) s.natAbs e

/-- Exact addition, with the non-finite states of R62 and R110. -/
def Val.add : Val → Val → Val
  | .nan, _ => .nan
  | _, .nan => .nan
  | .inf a, .inf b => if a = b then .inf a else .nan
  | .inf a, _ => .inf a
  | _, .inf b => .inf b
  | .fin n1 m1 e1, .fin n2 m2 e2 => finAdd n1 m1 e1 n2 m2 e2

/-- The sign bit turned (R120: of a finite or infinite value only). -/
def Val.neg : Val → Val
  | .nan => .nan
  | .inf a => .inf (!a)
  | .fin n m e => .fin (!n) m e

/-- Exact subtraction. -/
def Val.sub (a b : Val) : Val := a.add b.neg

/-- Exact multiplication, with the states of R62; a product of zero takes the sign of IEEE 754 (log 93). -/
def Val.mul : Val → Val → Val
  | .nan, _ => .nan
  | _, .nan => .nan
  | .inf a, .inf b => .inf (a != b)
  | .inf a, .fin n m _ => if m = 0 then .nan else .inf (a != n)
  | .fin n m _, .inf b => if m = 0 then .nan else .inf (n != b)
  | .fin n1 m1 e1, .fin n2 m2 e2 => .fin (n1 != n2) (m1 * m2) (e1 + e2)

/-- Multiplication by 2^k. -/
def Val.scale (k : Int) : Val → Val
  | .fin n m e => .fin n m (if m = 0 then 0 else e + k)
  | v => v

/-- Whether a value is a finite zero. -/
def Val.isZero : Val → Bool
  | .fin _ m _ => m == 0
  | _ => false

/-- Whether a value is finite. -/
def Val.isFinite : Val → Bool
  | .fin _ _ _ => true
  | _ => false

/-- The sign bit of a value. -/
def Val.isNeg : Val → Bool
  | .fin n _ _ => n
  | .inf n => n
  | .nan => false

/-- |a| ≤ |b| for magnitudes m × 2^e. -/
def magLe (m1 : Nat) (e1 : Int) (m2 : Nat) (e2 : Int) : Bool :=
  let e := min e1 e2
  decide (m1 * pow2 (e1 - e) ≤ m2 * pow2 (e2 - e))

/-- a < b as numbers, −0 equal to +0; false where either is NaN. -/
def Val.lt : Val → Val → Bool
  | .nan, _ => false
  | _, .nan => false
  | .inf a, .inf b => a && !b
  | .inf a, _ => a
  | _, .inf b => !b
  | .fin n1 m1 e1, .fin n2 m2 e2 =>
    let e := min e1 e2
    decide (smant n1 (m1 * pow2 (e1 - e)) < smant n2 (m2 * pow2 (e2 - e)))

/-- a = b as numbers. -/
def Val.eqv : Val → Val → Bool
  | .nan, _ => false
  | _, .nan => false
  | a, b => !(a.lt b) && !(b.lt a)

/-- Guard bits kept below the leading one of a quotient or root before the sticky bit. More are kept where that would end above 2^−200, so that the sticky bit
lies below half of every spacing a target has, the 16 fraction bits of R49 and the small part of an FP32 pair (R55) included. -/
def guardBits (e : Int) : Nat := 128 + (e + 200).toNat

/-- The exact quotient of two non-zero magnitudes, cut after the guard bits with a sticky bit below, so that every rounding of
R48 and R49 into a target format gives what the exact quotient would. -/
def quotient (m1 : Nat) (e1 : Int) (m2 : Nat) (e2 : Int) : Nat × Int :=
  let sh := guardBits (e1 - e2) + m2.log2
  let num := m1 * 2 ^ sh
  let q := num / m2
  (2 * q + (if num % m2 = 0 then 0 else 1), e1 - e2 - (sh : Int) - 1)

/-- Division by the IEEE 754 rules of R120. -/
def Val.div : Val → Val → Val
  | .nan, _ => .nan
  | _, .nan => .nan
  | .inf _, .inf _ => .nan
  | .inf a, .fin n _ _ => .inf (a != n)
  | .fin n _ _, .inf b => .fin (n != b) 0 0
  | .fin n1 m1 e1, .fin n2 m2 e2 =>
    if m2 = 0 then (if m1 = 0 then .nan else .inf (n1 != n2))
    else if m1 = 0 then .fin (n1 != n2) 0 0
    else .fin (n1 != n2) (quotient m1 e1 m2 e2).1 (quotient m1 e1 m2 e2).2

/-- One digit-pair step of the integer square root, `fuel` steps from the top. -/
def isqrtGo : Nat → Nat → Nat → Nat
  | 0, _, r => r
  | k + 1, n, r =>
    let t := r + 2 ^ k
    if t * t ≤ n then isqrtGo k n t else isqrtGo k n r

/-- floor(√n). -/
def isqrt (n : Nat) : Nat := isqrtGo (n.log2 / 2 + 1) n 0

/-- Square root by the IEEE 754 rules of R120: √−0 is −0, the root of any other negative value NaN. -/
def Val.sqrt : Val → Val
  | .nan => .nan
  | .inf a => if a then .nan else .inf false
  | .fin n m e =>
    if m = 0 then .fin n 0 0
    else if n then .nan
    else
      let m' := if e % 2 = 0 then m else 2 * m
      let e' := if e % 2 = 0 then e else e - 1
      let g := guardBits (e' / 2)
      let big := m' * 2 ^ (2 * g)
      let r := isqrt big
      .fin false (2 * r + (if r * r = big then 0 else 1)) (e' / 2 - (g : Int) - 1)

/-! ### Rounding (R48, R49) -/

/-- The rounding mode of a conversion (R45). -/
inductive Rnd where
  | nearest
  | zero
  | stochastic
deriving DecidableEq, Repr

/-- The magnitude m × 2^e rounded to a multiple of 2^u, as a count of 2^u. `r` holds the 64 random bits of R49, of which [63:48] are used. -/
def roundMag (mode : Rnd) (r : Nat) (m : Nat) (e u : Int) : Nat :=
  if u ≤ e then m * pow2 (e - u)
  else
    let d := pow2 (u - e)
    let q := m / d
    let rem := m % d
    match mode with
    | .zero => q
    | .nearest => if d < 2 * rem then q + 1 else if 2 * rem = d then q + q % 2 else q
    | .stochastic => if 2 ^ 16 ≤ rem * 2 ^ 16 / d + field r 63 48 then q + 1 else q

/-- The mixing function of R50, all arithmetic modulo 2^64. -/
def srMix (z0 : Nat) : Nat :=
  let w := 2 ^ 64
  let z := (z0 + 0x9E3779B97F4A7C15) % w
  let z := ((z ^^^ (z / 2 ^ 30)) * 0xBF58476D1CE5E4B9) % w
  let z := ((z ^^^ (z / 2 ^ 27)) * 0x94D049BB133111EB) % w
  z ^^^ (z / 2 ^ 31)

/-- The random bits of an element (R50, R51). -/
def srBits (seed counter stream index : Nat) : Nat :=
  srMix (srMix ((seed ^^^ counter) % 2 ^ 64) ^^^ (((stream * 2 ^ 40) ^^^ (index % 2 ^ 40)) % 2 ^ 64))

/-! ### Float formats -/

/-- A float format: fraction bits, bias, and the largest finite value as maxM × 2^maxE. The least spacing is 2^umin. -/
structure FloatFmt where
  expBits : Nat
  manBits : Nat
  umin : Int
  maxM : Nat
  maxE : Int
deriving DecidableEq, Repr

def fE4M3 : FloatFmt := ⟨4, 3, -9, 14, 5⟩
def fE5M2 : FloatFmt := ⟨5, 2, -16, 7, 13⟩
def fBF16 : FloatFmt := ⟨8, 7, -133, 255, 120⟩
def fFP32 : FloatFmt := ⟨8, 23, -149, 16777215, 104⟩

/-- The value of a float encoding (R36, R37, R39). E4M3 has no infinities and its NaN are 0x7F and 0xFF. -/
def decodeFloat (f : FloatFmt) (b : Nat) : Val :=
  let man := b % 2 ^ f.manBits
  let ex := (b / 2 ^ f.manBits) % 2 ^ f.expBits
  let neg := bit b (f.expBits + f.manBits)
  if f = fE4M3 then
    if ex = 15 ∧ man = 7 then .nan
    else if ex = 0 then .fin neg man f.umin
    else .fin neg (man + 2 ^ f.manBits) (f.umin + (ex : Int) - 1)
  else if ex = 2 ^ f.expBits - 1 then (if man = 0 then .inf neg else .nan)
  else if ex = 0 then .fin neg man f.umin
  else .fin neg (man + 2 ^ f.manBits) (f.umin + (ex : Int) - 1)

/-- The sign bit of a float format in place. -/
def signBit (f : FloatFmt) (neg : Bool) : Nat := if neg then 2 ^ (f.expBits + f.manBits) else 0

/-- The encoding of n × 2^u, for u the spacing n was rounded to. -/
def encodeFinite (f : FloatFmt) (neg : Bool) (n : Nat) (u : Int) : Nat :=
  let n' := if n = 2 ^ (f.manBits + 1) then 2 ^ f.manBits else n
  let u' := if n = 2 ^ (f.manBits + 1) then u + 1 else u
  signBit f neg +
    (if n' < 2 ^ f.manBits then n'
     else (u' - f.umin + 1).toNat * 2 ^ f.manBits + (n' - 2 ^ f.manBits))

/-- The NaN the KC9 writes in a float format (R37, R39, R54). -/
def nanBits (f : FloatFmt) : Nat :=
  if f = fE4M3 then 0x7F else if f = fE5M2 then 0x7E else if f = fBF16 then 0x7FC0 else 0x7FC00000

/-- The infinity of a float format; E4M3 has none and writes NaN (R54). -/
def infBits (f : FloatFmt) (neg : Bool) : Nat :=
  if f = fE4M3 then 0x7F else signBit f neg + (2 ^ f.expBits - 1) * 2 ^ f.manBits

/-- The largest finite value of a float format, with a sign. -/
def maxBits (f : FloatFmt) (neg : Bool) : Nat :=
  if f = fE4M3 then signBit f neg + 0x7E
  else signBit f neg + (2 ^ f.expBits - 1) * 2 ^ f.manBits - 1

/-- The spacing of a format in the binade of m × 2^e, as an exponent. -/
def ulpExp (f : FloatFmt) (m : Nat) (e : Int) : Int :=
  max f.umin ((m.log2 : Int) + e - (f.manBits : Int))

/-- Whether n × 2^u exceeds a format's largest finite value (R53: judged after rounding, with an unbounded exponent). -/
def beyondMax (f : FloatFmt) (n : Nat) (u : Int) : Bool := !(magLe n u f.maxM f.maxE)

/-- What a conversion gives: the bits written, and what it counts. -/
structure Conv where
  bits : Nat
  cnt : Counts := {}
deriving DecidableEq, Repr

/-- A NaN written. -/
def convNan (f : FloatFmt) : Conv := ⟨nanBits f, { nfNan := 1 }⟩

/-- A finite value beyond range (R54). -/
def convBeyond (f : FloatFmt) (range : Bool) (neg : Bool) : Conv :=
  if range then ⟨infBits f neg, if f = fE4M3 then { nfNan := 1 } else { nfInf := 1 }⟩
  else ⟨maxBits f neg, { finiteSat := 1 }⟩

/-- The conversion of an exact value to a float target (R47 to R54). -/
def convFloat (f : FloatFmt) (mode : Rnd) (range : Bool) (r : Nat) : Val → Conv
  | .nan => convNan f
  | .inf neg =>
    if f = fE4M3 ∨ f = fE5M2 then
      if range then ⟨infBits f neg, if f = fE4M3 then { nfNan := 1 } else { nfInf := 1 }⟩
      else ⟨maxBits f neg, { infSat := 1 }⟩
    else ⟨infBits f neg, { nfInf := 1 }⟩
  | .fin neg m e =>
    if m = 0 then ⟨signBit f neg, {}⟩
    else
      let u := ulpExp f m e
      let n := roundMag mode r m e u
      if beyondMax f n u then convBeyond f range neg else ⟨encodeFinite f neg n u, {}⟩

/-- The conversion of an exact value to a `w`-bit two's-complement integer (R40, R48, R54). -/
def convInt (w : Nat) (mode : Rnd) (r : Nat) : Val → Conv
  | .nan => ⟨0, { nanToInt := 1 }⟩
  | .inf neg => ⟨if neg then 2 ^ (w - 1) else 2 ^ (w - 1) - 1, { intSat := 1 }⟩
  | .fin neg m e =>
    let n := if m = 0 then 0 else roundMag mode r m e 0
    if neg then
      if 2 ^ (w - 1) < n then ⟨2 ^ (w - 1), { intSat := 1 }⟩ else ⟨(2 ^ w - n) % 2 ^ w, {}⟩
    else
      if 2 ^ (w - 1) - 1 < n then ⟨2 ^ (w - 1) - 1, { intSat := 1 }⟩ else ⟨n, {}⟩

/-! ### FP32 steps and FP32 pairs (R44, R121) -/

/-- A value rounded once to nearest even as binary32, overflow giving ±∞ (R121's steps). -/
def rne32 (v : Val) : Val := decodeFloat fFP32 (convFloat fFP32 .nearest true 0 v).bits

/-- Whether rounding a finite value to binary32 overflows. -/
def overflows32 : Val → Bool
  | .fin _ m e => if m = 0 then false else beyondMax fFP32 (roundMag .nearest 0 m e (ulpExp fFP32 m e)) (ulpExp fFP32 m e)
  | _ => false

/-- An FP32 pair, or how its sequence left the finite values (R121): a step over a non-finite operand, or a finite overflow with its sign. -/
inductive PairRes where
  | pair (v e : Val)
  | nonfinite (v : Val)
  | beyond (neg : Bool)
deriving DecidableEq, Repr

/-- One FP32 step of a pair sequence: a result of its exact value, or the way it leaves the sequence. -/
def pairStep (exact : Val) (k : Val → PairRes) : PairRes :=
  match exact with
  | .fin n _ _ => if overflows32 exact then .beyond n else k (rne32 exact)
  | v => .nonfinite v

/-- two_sum and fast_two_sum of R121: the rounded sum and its exact error, both as further FP32 steps. -/
def twoSum (a b : Val) (k : Val → Val → PairRes) : PairRes :=
  pairStep (a.add b) fun s => pairStep ((a.add b).sub s) fun t => k s t

/-- fast_two_sum by its three operations: s = RNE(a + b), z = RNE(s − a), t = RNE(b − z). -/
def fastTwoSum (a b : Val) (k : Val → Val → PairRes) : PairRes :=
  pairStep (a.add b) fun s => pairStep (s.sub a) fun z => pairStep (b.sub z) fun t => k s t

/-- PADDS: FP32 pair + FP32 (R121). -/
def padds (v e u : Val) : PairRes :=
  twoSum v u fun s t => pairStep (t.add e) fun t => fastTwoSum s t .pair

/-- PADD: FP32 pair + FP32 pair (R121). -/
def padd (v1 e1 v2 e2 : Val) : PairRes :=
  twoSum v1 v2 fun s t =>
  twoSum e1 e2 fun p q =>
  pairStep (t.add p) fun t =>
  fastTwoSum s t fun s t =>
  pairStep (t.add q) fun t =>
  fastTwoSum s t .pair

/-- PSUB negates the second pair first (R121). -/
def psub (v1 e1 v2 e2 : Val) : PairRes := padd v1 e1 v2.neg e2.neg

/-- PMUL: FP32 pair × FP32 pair (R121). -/
def pmul (v1 e1 v2 e2 : Val) : PairRes :=
  pairStep (v1.mul v2) fun p =>
  pairStep ((v1.mul v2).sub p) fun t =>
  pairStep ((v1.mul e2).add t) fun t =>
  pairStep ((e1.mul v2).add t) fun t =>
  fastTwoSum p t .pair

/-- The 64 bits of an FP32 pair: v in the low word, e in the high word (R44). -/
def pairBits (v e : Nat) : Nat := v + e * 2 ^ 32

/-- The conversion of an exact value to an FP32 pair: v = RNE(x), e = RNE(x − v) (R55), with the FP32 pair row of R54. Where e rounds
up to half an ulp of an odd v, the pair is the one R55 gives, which R44 would not call normalised (log 93). -/
def convPair (range : Bool) : Val → Conv
  | .nan => ⟨0x7FC00000, { nfNan := 1 }⟩
  | .inf neg => ⟨infBits fFP32 neg, { nfInf := 1 }⟩
  | x =>
    let c := convFloat fFP32 .nearest range 0 x
    if overflows32 x then c
    else
      let v := decodeFloat fFP32 c.bits
      let d := x.sub v
      ⟨pairBits c.bits (if d.isZero then 0 else (convFloat fFP32 .nearest true 0 d).bits), {}⟩

/-- The 64 bits a pair sequence leaves for an FP32-pair destination (R44, R54, R121). -/
def pairResBits (range : Bool) : PairRes → Conv
  | .pair v e => ⟨pairBits (convFloat fFP32 .nearest true 0 v).bits (convFloat fFP32 .nearest true 0 e).bits, {}⟩
  | .nonfinite .nan => ⟨0x7FC00000, { nfNan := 1 }⟩
  | .nonfinite v => ⟨infBits fFP32 v.isNeg, { nfInf := 1 }⟩
  | .beyond neg => convBeyond fFP32 range neg

/-- The value of a leading part and the small part behind it: their exact sum, −0 where the leading part is −0 and nothing is behind
it (R43, R44). -/
def Val.addTail (v e : Val) : Val := if v.isFinite && !(e.isZero) then v.add e else v

/-- A stored FP32 pair written again (R44): as it stands where it is normalised, else the normalised pair of the same value, and
(v, +0) where v is not finite. -/
def pairWritten (range : Bool) (b : Nat) : Conv :=
  let v := decodeFloat fFP32 (b % 2 ^ 32)
  let x := v.addTail (decodeFloat fFP32 (b / 2 ^ 32))
  if v.isFinite ∧ (convFloat fFP32 .nearest range 0 x).bits = b % 2 ^ 32 then ⟨b, {}⟩ else convPair range x

/-! ### Format codes (R34) -/

def cFP32 : Nat := 0x0
def cBF16 : Nat := 0x1
def cE4M3 : Nat := 0x2
def cE5M2 : Nat := 0x3
def cSB43 : Nat := 0x4
def cSB52 : Nat := 0x5
def cINT8 : Nat := 0x6
def cINT4 : Nat := 0x7
def cINT32 : Nat := 0x8
def cPair43 : Nat := 0x9
def cPair32 : Nat := 0xA
def cW64 : Nat := 0xB

/-- The float format of a code, or of the elements of an SB32 code. -/
def floatOf (fmt : Nat) : Option FloatFmt :=
  if fmt = cFP32 then some fFP32
  else if fmt = cBF16 then some fBF16
  else if fmt = cE4M3 ∨ fmt = cSB43 ∨ fmt = cPair43 then some fE4M3
  else if fmt = cE5M2 ∨ fmt = cSB52 then some fE5M2
  else none

/-- Whether a code is an SB32 format. -/
def isSB (fmt : Nat) : Bool := fmt == cSB43 || fmt == cSB52

/-- The width in bits of an integer format's elements. -/
def intWidth (fmt : Nat) : Option Nat :=
  if fmt = cINT8 then some 8 else if fmt = cINT4 then some 4 else if fmt = cINT32 then some 32 else none

/-- Bytes of one element of the formats that store whole bytes for each (R34); 0 for the packed ones. -/
def elemBytes (fmt : Nat) : Nat :=
  if fmt = cFP32 ∨ fmt = cINT32 then 4
  else if fmt = cBF16 then 2
  else if fmt = cE4M3 ∨ fmt = cE5M2 ∨ fmt = cINT8 then 1
  else if fmt = cPair32 ∨ fmt = cW64 then 8
  else 0

/-- The bytes of `n` consecutive elements of a format (R34, R40, R41). -/
def runBytes (fmt n : Nat) : Nat :=
  if fmt = cINT4 then ceilDiv n 2
  else if isSB fmt || fmt == cPair43 then 33 * ceilDiv n 32
  else n * elemBytes fmt

/-- The value of a W64 entry on grid G (R108). -/
def decodeW64 (g : Int) (w : Nat) : Val :=
  let t := field w 63 62
  if t = 1 then .inf false
  else if t = 2 then (if w = 0xBFFFFFFFFFFFFFFF then .inf true else .nan)
  else .ofGrid (signed 64 w) g

/-- The value of an element of a scalar format: floats, integers and FP32 pairs. -/
def decodeElem (fmt : Nat) (b : Nat) : Val :=
  match floatOf fmt with
  | some f => decodeFloat f b
  | none =>
    match intWidth fmt with
    | some w => .ofInt (signed w b)
    | none =>
      if fmt = cPair32 then
        (decodeFloat fFP32 (b % 2 ^ 32)).addTail (decodeFloat fFP32 (b / 2 ^ 32))
      else decodeW64 0 b

/-- The value of an SB32 element under its scale byte (R41). -/
def decodeSB (fmt b scale : Nat) : Val :=
  if scale = 0xFF then .nan
  else match floatOf fmt with
    | some f => (decodeFloat f b).scale ((scale : Int) - 127)
    | none => .nan

/-! ### The conversion control byte (R45, R46) -/

/-- FMT, RND, RANGE and SCALE of a conversion control byte. -/
structure Cvt where
  fmt : Nat
  rnd : Nat
  range : Bool
  scale : Bool
deriving DecidableEq, Repr

/-- The fields of a conversion control byte (R45). -/
def Cvt.ofByte (b : Nat) : Cvt := ⟨field b 7 4, field b 3 2, bit b 1, bit b 0⟩

/-- The rounding mode of RND (R45). -/
def Cvt.mode (c : Cvt) : Rnd := if c.rnd = 1 then .zero else if c.rnd = 2 then .stochastic else .nearest

/-- The malformed control bytes of R46 that every converting order shares. -/
def Cvt.reserved (c : Cvt) : Bool := 0xC ≤ c.fmt || c.rnd == 3 || (c.scale && !(isSB c.fmt))

/-! ### Conversion to the element formats -/

/-- A source element of a conversion: its exact value, its random bits, and the sign it saturates with when R100 makes it. -/
structure Elem where
  v : Val
  r : Nat := 0
  sat : Option Bool := none
deriving DecidableEq, Repr

/-- A saturated accumulator entry written (R100): the target's largest value with the sign, or an integer's most negative value. -/
def convSat (fmt : Nat) (neg : Bool) : Conv :=
  match floatOf fmt with
  | some f => ⟨maxBits f neg, { finiteSat := 1 }⟩
  | none =>
    match intWidth fmt with
    | some w => ⟨if neg then 2 ^ (w - 1) else 2 ^ (w - 1) - 1, { intSat := 1 }⟩
    | none => ⟨maxBits fFP32 neg, { finiteSat := 1 }⟩

/-- The conversion of one exact value to a target that stores each element apart (R54): floats, integers, FP32 pair. -/
def convElem (c : Cvt) (x : Elem) : Conv :=
  match x.sat with
  | some neg => convSat c.fmt neg
  | none =>
    match floatOf c.fmt with
    | some f => convFloat f c.mode c.range x.r x.v
    | none =>
      match intWidth c.fmt with
      | some w => convInt w c.mode x.r x.v
      | none => convPair c.range x.v

/-- The largest magnitude among the finite elements of a block, as m × 2^e (R42). -/
def blockMax : List Val → Nat × Int
  | [] => (0, 0)
  | .fin _ m e :: vs => let a := blockMax vs; if magLe m e a.1 a.2 then a else (m, e)
  | _ :: vs => blockMax vs

/-- The smallest s with m × 2^e ≤ Mx × 2^s, for m > 0 (R42): one of two candidates beside the binade. -/
def autoScale (f : FloatFmt) (m : Nat) (e : Int) : Int :=
  let s0 := (m.log2 : Int) + e - (f.maxM.log2 : Int) - f.maxE
  if magLe m e f.maxM (f.maxE + (s0 - 1)) then s0 - 1
  else if magLe m e f.maxM (f.maxE + s0) then s0
  else s0 + 1

/-- The automatic scale byte of a block, and whether it counts a scale saturation (R42). -/
def autoScaleByte (f : FloatFmt) (vs : List Val) : Nat × Bool :=
  let a := blockMax vs
  if a.1 = 0 then (0x7F, false)
  else
    let s := autoScale f a.1 a.2 + 127
    if 254 < s then (254, true) else if s < 0 then (0, true) else (s.toNat, false)

/-- The elements of a block converted at a scale byte, each with its random bits (R42). -/
def convBlockElems (f : FloatFmt) (mode : Rnd) (range : Bool) (b : Nat) : List Elem → List Byte × Counts
  | [] => ([], {})
  | x :: vs =>
    let c : Conv := match x.sat with
      | some neg => ⟨maxBits f neg, { finiteSat := 1 }⟩
      | none => convFloat f mode range x.r (x.v.scale (127 - (b : Int)))
    let rest := convBlockElems f mode range b vs
    (BitVec.ofNat 8 c.bits :: rest.1, c.cnt.add rest.2)

/-- One SB32 block of 32 elements, the missing ones of a short block written as 0x00 (R41, R42): 33 bytes. -/
def convBlock (f : FloatFmt) (mode : Rnd) (range : Bool) (explicit : Option Nat) (vs : List Elem) : List Byte × Counts :=
  let auto := autoScaleByte f (vs.map Elem.v)
  let b := explicit.getD auto.1
  let sat := explicit.isNone && auto.2
  let es := convBlockElems f mode range b vs
  (BitVec.ofNat 8 b :: (es.1 ++ List.replicate (32 - es.1.length) 0#8),
   es.2.add { scaleSat := if sat then 1 else 0 })

/-- The residual of an element behind its high part: exact, and zero where the high part saturated or is NaN (R43). -/
def residual (v : Val) (hi : Conv) (b : Nat) : Val :=
  if hi.cnt.finiteSat + hi.cnt.infSat + hi.cnt.nfNan = 0 then v.sub (decodeSB cSB43 hi.bits b) else .fin false 0 0

/-- The two blocks of an E4M3 pair (R43): high and residual, both to nearest even with automatic scales, RANGE ignored. -/
def convPairBlock (vs : List Val) : List Byte × List Byte × Counts :=
  let bh := autoScaleByte fE4M3 vs
  let hs := vs.map fun v => (v, convFloat fE4M3 .nearest false 0 (v.scale (127 - (bh.1 : Int))))
  let ds := hs.map fun p => residual p.1 p.2 bh.1
  let bl := autoScaleByte fE4M3 ds
  let ls := ds.map fun d => if d.isZero then ({ bits := 0 } : Conv) else convFloat fE4M3 .nearest false 0 (d.scale (127 - (bl.1 : Int)))
  let pad := List.replicate (32 - vs.length) 0#8
  (BitVec.ofNat 8 bh.1 :: (hs.map (fun p => BitVec.ofNat 8 p.2.bits) ++ pad),
   BitVec.ofNat 8 bl.1 :: (ls.map (fun c => BitVec.ofNat 8 c.bits) ++ pad),
   (hs.foldl (fun (a : Counts) p => a.add p.2.cnt) Counts.zero).add
     ((ls.foldl (fun (a : Counts) c => a.add c.cnt) Counts.zero).add
       { scaleSat := (if bh.2 then 1 else 0) + (if bl.2 then 1 else 0) }))

/-- Two INT4 elements in one byte, the first in the low half (R40). -/
def packNibbles : List Nat → List Byte
  | [] => []
  | [a] => [BitVec.ofNat 8 (a % 16)]
  | a :: b :: rest => BitVec.ofNat 8 (a % 16 + 16 * (b % 16)) :: packNibbles rest

/-- A list cut into runs of at most `n`, `fuel` of them. -/
def chunksGo {α : Type} (n : Nat) : Nat → List α → List (List α)
  | 0, _ => []
  | _ + 1, [] => []
  | k + 1, l => l.take n :: chunksGo n k (l.drop n)

/-- A list cut into runs of at most `n`. -/
def chunks {α : Type} (n : Nat) (l : List α) : List (List α) := chunksGo n (l.length + 1) l

/-- Consecutive elements converted and stored in any target but the E4M3 pair and W64: the bytes and the counts. -/
def convRun (c : Cvt) (explicit : Option Nat) (vs : List Elem) : List Byte × Counts :=
  if isSB c.fmt then
    match floatOf c.fmt with
    | some f =>
      let bs := (chunks 32 vs).map (convBlock f c.mode c.range explicit)
      ((bs.map Prod.fst).flatten, bs.foldl (fun (a : Counts) b => a.add b.2) Counts.zero)
    | none => ([], {})
  else
    let cs := vs.map (convElem c)
    let bytes := if c.fmt = cINT4 then packNibbles (cs.map Conv.bits) else (cs.map fun x => natLe (elemBytes c.fmt) x.bits).flatten
    (bytes, cs.foldl (fun (a : Counts) x => a.add x.cnt) Counts.zero)

/-! ### W64 (R108, R111) -/

/-- The state of an accumulator or W64 entry: finite A, +∞, −∞ or NaN (R62). -/
inductive Ent where
  | fin (a : Int)
  | inf (neg : Bool)
  | nan
deriving DecidableEq, Repr

/-- The entry a W64 word holds (R108). -/
def Ent.ofWord (w : Nat) : Ent :=
  let t := field w 63 62
  if t = 1 then .inf false
  else if t = 2 then (if w = 0xBFFFFFFFFFFFFFFF then .inf true else .nan)
  else .fin (signed 64 w)

/-- The W64 word of an entry (R108). -/
def Ent.toWord : Ent → Nat
  | .fin a => low 64 a
  | .inf false => 0x4000000000000000
  | .inf true => 0xBFFFFFFFFFFFFFFF
  | .nan => 0x8000000000000000

/-- Whether an entry is finite. -/
def Ent.isFinite : Ent → Bool
  | .fin _ => true
  | _ => false

/-- The exact value of an entry on a grid. -/
def Ent.val (g : Int) : Ent → Val
  | .fin a => .ofGrid a g
  | .inf n => .inf n
  | .nan => .nan

/-- Truncation toward zero by a power of two: sign(a) × floor(|a| / 2^k) (R88, R111). -/
def truncShift (a : Int) (k : Nat) : Int := smant (decide (a < 0)) (a.natAbs / 2 ^ k)

/-- The sum of two entries already on one grid, clamped at ±(2^62 − 1), and whether it clamped (R111). -/
def Ent.combine : Ent → Ent → Ent × Bool
  | .nan, _ => (.nan, false)
  | _, .nan => (.nan, false)
  | .inf a, .inf b => (if a = b then .inf a else .nan, false)
  | .inf a, _ => (.inf a, false)
  | _, .inf b => (.inf b, false)
  | .fin a, .fin b =>
    let lim : Int := 2 ^ 62 - 1
    if lim < a + b then (.fin lim, true) else if a + b < -lim then (.fin (-lim), true) else (.fin (a + b), false)

/-- An entry aligned to a coarser grid (R111 rule 3). -/
def Ent.align (k : Nat) : Ent → Ent
  | .fin a => .fin (truncShift a k)
  | x => x

end Sys2Proof.Machine
end

