-- ==== Sys2Proof/Machine/State.lean ====
section
/-! DEFINITION. The state of the KC9 as plain data: everything the spec gives the module, the queue of waiting commands, the
faults and refusals a step may end in, and the state right after reset. -/

namespace Sys2Proof.Machine

/-! ### Cores and their arrays (03, 04) -/

/-- One accumulator entry: a 56-bit integer with one of four states (R87), and the saturation mark of R100. -/
structure Acc where
  ent : Ent := .fin 0
  sat : Bool := false
deriving DecidableEq, Repr

/-- One row of a tile. The rows of an ordinary tile share their grid and replays; each row of an accreted batch is a tile of
its own (R83). `abandoned` marks a row dropped by an overflow, whose replay has not run yet (R95). -/
structure TileRow where
  g : Int := 0
  replays : Nat := 0
  accSat : Bool := false
  abandoned : Bool := false
  tag : Nat := 0
  cells : List Acc := []
deriving DecidableEq, Repr

/-- A weight set as a tally names it: its carried format and the hold offset it was loaded from (R72, R507). -/
structure WRef where
  fmt : Option Nat := none
  src : Option Nat := none
deriving DecidableEq, Repr

/-- A weight set: its reference and its bytes, none meaning zero in every cell (R507). -/
structure WSet where
  ref : WRef := {}
  bytes : List Byte := []
deriving DecidableEq, Repr

/-- One entry of a tally (R72, R97): the hold offsets of the activation rows and the weight sets the pass used. -/
structure PassRec where
  pair : Bool
  afmt : Nat
  wfmt : Nat
  rows : List Nat
  lowRows : List Nat
  w : List WRef
  wLow : List WRef
deriving DecidableEq, Repr

/-- The open tile of a bank (R91), with the batch it took its rows from when it is accreted (R80). -/
structure Tile where
  isInt : Bool
  rows : List TileRow
  tally : List PassRec
  batch : Option (Nat × Nat × Nat) := none
deriving DecidableEq, Repr

/-- What names an order of a running list: its core, context, place, report number and issue stamp (R160, R161). -/
structure OrderTag where
  core : CoreRef
  ctx : Nat
  index : Nat
  rep : Nat
  report : Nat
  op : Nat
  stamp : Nat
deriving DecidableEq, Repr

/-- A DRAIN whose reading has not begun or not ended (R102, R103). -/
structure DrainJob where
  tag : OrderTag
  word : Nat
  bank : Bool
  srSeed : Nat
  srCounter : Nat
  sent : Nat := 0
deriving DecidableEq, Repr

/-- A WLOAD that has not finished writing its sets (R69, R70). -/
structure LoadJob where
  tag : OrderTag
  pair : Bool
deriving DecidableEq, Repr

/-- An order that has begun and waits (R158), with how far it has come. `phase` counts the steps of ARRIVE_WAIT and COMMIT,
`done` the messages of a CONVEY_PUT. -/
structure Waiting where
  tag : OrderTag
  word : Nat
  phase : Nat := 0
  done : Nat := 0
  target : Option Nat := none
  start : Nat := 0
  left : Option Nat := none
  stalled : Bool := false
  gated : Bool := false
deriving DecidableEq, Repr

/-- A running order list (R156, R160). `ended` is the earliest order that ended with a status other than OK: stamp, status, index. -/
structure ListRun where
  addr : Nat
  count : Nat
  repeats : Nat
  cadence : Bool
  reports : Nat
  depth : Nat
  index : Nat := 0
  rep : Nat := 0
  reported : Nat := 0
  ready : Bool := true
  tick : Bool := false
  stop : Bool := false
  cause : Bool := false
  ended : Option (Nat × Nat × Nat) := none
deriving DecidableEq, Repr

/-- A phase a HINT announced (R152, R389). -/
structure HintRec where
  at_ : Nat
  lead : Nat
  span : Nat
  load : Nat
deriving DecidableEq, Repr

/-- One core: its sets, banks, list, waiting order and queued work, and what gates its blocks (R399, R400): when the arrays last issued a row or were last asked to
load weights and the vector unit last worked, the clock and power of the arrays and of the vector unit. -/
structure CoreSt where
  armed : Option Nat := none
  list : Option ListRun := none
  wait : Option Waiting := none
  active : Tbl WSet := []
  shadow : Tbl WSet := []
  loads : List LoadJob := []
  bank0 : Option Tile := none
  bank1 : Option Tile := none
  cur : Bool := false
  drains : List DrainJob := []
  joined : Tbl Nat := []
  acksDue : Tbl (List OrderTag) := []
  stamp : Nat := 0
  hint : Option HintRec := none
  quiet : Bool := true
  lastRow : Nat := 0
  asking : Bool := false
  clockGated : Bool := false
  powerGated : Bool := false
  wakeAt : Nat := 0
  lastLoad : Nat := 0
  lastVec : Nat := 0
  vecClock : Bool := false
  vecPower : Bool := false
  stopped : Bool := false
deriving DecidableEq, Repr

/-! ### Conveyors (06) -/

/-- A message on its way to its ring, or a visible one (R165, R167). -/
structure Msg where
  seq : Nat
  tag : Nat
  bytes : List Byte
  poison : Bool
  core : CoreRef
  stamp : Nat
deriving DecidableEq, Repr

/-- The open window of an accretion ring (R81): when it opened, ACC_ROWS and ACC_WAIT of that time, and the rows that became visible
no later than its expiry. -/
structure Window where
  opened : Nat
  accRows : Nat
  accWait : Nat
  rows : Nat
deriving DecidableEq, Repr

/-- One conveyor of a context (R163): its entry, the producer's credits and the consumer's counts of messages, with the cores whose CONVEY_GETs wait at a
quay ring, in the order in which they reached it (R169), the place `takeAt` and number `lastTake` of the messages the latest CONVEY_GET took (R142), and what has
come of a message that fills more than one packet. -/
structure Conveyor where
  quay : Bool
  ring : Nat
  depth : Nat
  slot : Nat
  cons : Nat
  prod : Nat
  credits : Nat
  sent : Nat := 0
  flying : List Msg := []
  visible : Nat := 0
  taken : Nat := 0
  released : Nat := 0
  lastTake : Nat := 0
  takeAt : Nat := 0
  returning : Nat := 0
  window : Option Window := none
  getters : List CoreRef := []
  batch : Nat × Nat := (0, 0)
  pieces : List Byte := []
  piecesBad : Bool := false
deriving DecidableEq, Repr

/-! ### Barriers (08) -/

/-- A core anywhere in the gang: gang rank, cluster and logical core. -/
structure GangCore where
  rank : Nat
  core : CoreRef
deriving DecidableEq, Repr

/-- A waiter of a barrier with its target generation (R212). -/
structure Waiter where
  who : GangCore
  target : Nat
deriving DecidableEq, Repr

/-- A commit vote counted in the generation in progress (R314, R315). -/
structure VoteRec where
  who : GangCore
  mask : Nat
  nonfinite : Bool
deriving DecidableEq, Repr

/-- A barrier object (R208), or the copy of a fast barrier on this module (R222). `nextSet` holds those whose arrivals count in the
generation after the one in progress (R213). `holding` stands while the release of
generation gen − 1 is held for a save (R225), `held` being its waiters here. -/
structure Barrier where
  home : Nat
  count : Nat
  gangpoint : Bool
  fast : Bool
  gen : Nat := 0
  arrived : Nat := 0
  arrivedSet : List GangCore := []
  waiters : List Waiter := []
  lastWho : Option GangCore := none
  lastKind : Nat := 0
  lastTime : Nat := 0
  timeouts : Nat := 0
  overshoots : Nat := 0
  poisoned : Bool := false
  votes : List VoteRec := []
  nonCommit : Bool := false
  pulling : Bool := true
  sawHigh : Option Nat := none
  nextSet : List GangCore := []
  holding : Bool := false
  held : List Waiter := []
deriving DecidableEq, Repr

/-- An arrival on its way to a home on this module (R211). A commit's arrival carries its mask and flag. -/
structure ArrivalF where
  ctx : Nat
  bar : Nat
  weight : Nat
  kind : Nat
  who : GangCore
  vote : Option (Nat × Bool) := none
deriving DecidableEq, Repr

/-- An acknowledgement on its way to the issuing core of this module (R214). `gen` is none at a poisoned barrier. -/
structure AckF where
  ctx : Nat
  bar : Nat
  core : CoreRef
  gen : Option Nat
deriving DecidableEq, Repr

/-- A release on its way to a waiter of this module (R212, R228), with the status it ends the wait with. -/
structure ReleaseF where
  ctx : Nat
  bar : Nat
  core : CoreRef
  gen : Nat
  status : Nat
deriving DecidableEq, Repr

/-- An outcome on its way to this module (R316), or held here by a snapshot (R325). -/
structure OutcomeF where
  ctx : Nat
  bar : Nat
  gen : Nat
  mask : Nat
  outcome : Nat
  standby : Bool := false
  waited : Bool := false
deriving DecidableEq, Repr

/-- An outcome that came for a standby from the home of its barrier, for a context in a RECONCILE of the device `src`, or between the two ranks of a pair on
one module: it waits while the companion owns a line that it reads (R191, R331, R334). -/
inductive MirrorDue where
  | standby (o : OutcomeF)
  | reconcile (src : Nat) (o : OutcomeF)
  | pair (o : OutcomeF)
deriving DecidableEq, Repr

/-! ### Collectives and training state (10, 11) -/

/-- A received fragment of a collective (R295); `shape` as in its packet, 0 for this member's own. -/
structure Frag where
  phase : Nat
  rank : Nat
  offset : Nat
  bytes : List Byte
  poison : Bool
  shape : Nat := 0
deriving DecidableEq, Repr

/-- A collective in flight on this member (R284, R293): whether it has read SRC, what has come, and the folds done here (R296). -/
structure Coll where
  tag : OrderTag
  seq : Nat
  word : Nat
  started : Bool := false
  frags : List Frag := []
  partials : List Nat := []
  folded : Bool := false
deriving DecidableEq, Repr

/-- One group of a context (R282): its entry and the member list read at admission. -/
structure Group where
  members : List Nat
  root : Nat
  driver : CoreRef
  basinFirst : Bool
  next : Nat := 0
  flights : List Coll := []
  early : List (Nat × Frag) := []
deriving DecidableEq, Repr

/-- One state set of a context (R307 to R310, R330). `dirty` lists the granules not yet mirrored; `copy` tells that a standby holds the set for its member
(R329), which nothing mirrors further. -/
structure StateSet where
  view : Nat
  bank0 : Nat
  bank1 : Nat
  size : Nat
  mirror : Bool
  teacher : Bool
  active : Nat := 0
  step : Nat := 0
  loader : Nat := 0
  dirty : List Nat := []
  sending : Nat := 0
  copied : Bool := false
  copy : Bool := false
deriving DecidableEq, Repr

/-- A snapshot in flight (R324); `tag` is none for a periodic one (R326). One to another module counts the packets sent, its session, the
PSN of its last WRITE, whether its DONE came and the status it told of. One the chandlery runs names the request's TAG and its core (R377); `len` is the length of a
service's copy to another module. -/
structure Snap where
  ctx : Nat
  set_ : Nat
  bank : Nat
  dst : Nat
  abandon : Bool
  bar : Nat
  tag : Option OrderTag
  held : Bool := false
  sent : Nat := 0
  sess : Nat := 0
  txn : Option Nat := none
  confirmed : Bool := false
  refused : Nat := 0
  svc : Option (Nat × Nat) := none
  len : Option Nat := none
deriving DecidableEq, Repr

/-! ### Tugs (05) -/

/-- A descriptor in a tug queue (R128, R129): the order that queued it, its bits and the bytes its chain has written. `remote` is 1
while WRITEs to another module wait for their DONE and 2 while READs wait for their responses; `sess` is the session, `txn` the PSN of
the last WRITE or the number its READs carry, `sent` the packets already sent. `fetch` is the basin address of a chained descriptor that is not read yet, for which
`remote` 3 waits for a response. -/
structure TugItem where
  tag : OrderTag
  desc : Nat
  written : Nat := 0
  status : Nat := 0
  poison : Bool := false
  remote : Nat := 0
  sess : Nat := 0
  txn : Nat := 0
  sent : Nat := 0
  fetch : Option Nat := none
deriving DecidableEq, Repr

/-! ### Ports, paths and sessions (09, 15) -/

/-- One port, or one half of a split port (R271), with the MAC address its neighbour's last LLDP frame came from. `since` is when it took its state; `lossAt` when a loss was detected (R261); `retried` whether a
port that is DOWN on both halves tries to retrain (R239). -/
structure PortHalf where
  state : Nat := 1
  since : Nat := 0
  lossAt : Option Nat := none
  peerRank : Nat := 0xFFFF
  peerPort : Nat := 0xFF
  peerHash : Option Nat := none
  hashSame : Bool := true
  helloSeen : Bool := false
  lldpSeen : Bool := false
  lastHello : Nat := 0
  lastLldp : Nat := 0
  retried : Bool := false
  mac : Option Nat := none
deriving DecidableEq, Repr

/-- What a whole port keeps beside its halves: the halves with a failed lane, a planned retrain under way (R239, R240), a next hop learned from a router
advertisement (R244), the halves on which a spare laser was put since the last retrain, and those with a lane whose loss has another cause (R240). -/
structure PortSt where
  failed : Nat := 0
  draining : Option Nat := none
  learned : Nat := 0
  spared : Nat := 0
  broken : Nat := 0
deriving DecidableEq, Repr

/-- A PROBE sent on a path declared down (R262): its TXN, when it left, the RTO then, and whether it was answered within it. -/
structure Probe where
  txn : Nat
  at_ : Nat
  rto : Nat
  back : Bool := false
deriving DecidableEq, Repr

/-- One path to a destination (R259 to R263): whether retransmission declared it down, its run of RTO losses, its rate limit as a
fraction of line rate with the time in 1/200 ns from which it lets the next packet go, its smoothed round-trip time (R254), and its latest
PROBEs, oldest first. -/
structure PathSt where
  down : Bool := false
  rtoRun : Nat := 0
  limit : Nat × Nat := (1, 1)
  lastCut : Nat := 0
  lastCe : Nat := 0
  lastProbe : Nat := 0
  probes : List Probe := []
  srtt : Option Nat := none
  freeAt : Nat := 0
deriving DecidableEq, Repr

/-- What a frame on a port holds around its Gezal packet (R241 to R244, R251): the Ethernet addresses and the 802.1Q tag, the IP addresses (IPv4 in the
IPv4-mapped form), the traffic class byte, the UDP destination port, and the key its payload is encrypted with. -/
structure Wire where
  dstMac : Nat := 0
  srcMac : Nat := 0
  vlan : Option Nat := none
  src : List Byte := []
  dst : List Byte := []
  tos : Nat := 0
  udp : Nat := 0
  key : Option (List Byte) := none
deriving DecidableEq, Repr

/-- A packet that waits at a port (R258), and for a DATA packet of this module its session and class. -/
structure QPkt where
  pkt : Packet
  wire : Wire
  own : Option (Nat × Nat) := none
deriving DecidableEq, Repr

/-- The queues of a port or half (R258): control, the others by class with their deficits and whose turn it is, when the wire is free in 1/200 ns,
and the control frames of the last 10 µs, each with its time and bytes. -/
structure PortQ where
  ctl : List QPkt := []
  rest : Tbl (List QPkt) := []
  deficit : Tbl Nat := []
  turn : Nat := 0
  freeAt : Nat := 0
  ctlSent : List (Nat × Nat) := []
deriving DecidableEq, Repr

/-- A DATA packet kept until an ACK covers it (R254), with the use of ports it takes. `path` is 8 while it waits for room or for a path, `again` tells that
it was sent before; `sentAt` is when it left its port, `rto` the RTO then. `origin` names the order whose work it carries, as core key and stamp. -/
structure TxPkt where
  pkt : Packet
  path : Nat
  sentAt : Option Nat := none
  rto : Nat := 0
  again : Bool := false
  use : Nat := 0
  origin : Option (Nat × Nat) := none
deriving DecidableEq, Repr

/-- The sending side of one class of a session (R252, R253); `spray` counts the packets given to each path under the rate limits it names (R260). -/
structure TxClass where
  next : Nat := 0
  kept : List TxPkt := []
  window : Nat := 1
  spray : List (Nat × Nat × Nat) := []
deriving DecidableEq, Repr

/-- The receiving side of one class of a session (R252 to R254). `stalled` holds packets accepted and not yet applied, `pinned` tells that the first of them
waits on a pinned range, `promised` how many packets more the peer may send, `shut` that the last ACK told a window of 0 for want of room (R255). -/
structure RxClass where
  next : Nat := 0
  held : List Packet := []
  stalled : List Packet := []
  fresh : Nat := 0
  ackSince : Option Nat := none
  gapSince : Option Nat := none
  ce : Bool := false
  pinned : Bool := false
  promised : Nat := 1
  shut : Bool := false
deriving DecidableEq, Repr

/-- A READ this module sent, waiting for its response (R247): tag, the number of the tug item it serves, how many bytes have come, and whether it reads a chained
descriptor (R129). -/
structure ReadReq where
  tag : Nat
  id : Nat
  src : Nat
  dst : Nat
  len : Nat
  got : Nat := 0
  desc : Bool := false
deriving DecidableEq, Repr

/-- One session (R249): its owner (none for a device session), peer, identifiers, state, epochs, classes and transmission number.
State: 0 handshake, 1 OPEN, 2 closed. `stage` is the handshake message last sent and unanswered, `msg` its payloads, `resent` how often it was
sent again (R442); `retryAt` when a failed rekey is tried again, `txnAt` the transmission number at the last rekey (R443). `badWrite`
is the status of the first WRITE refused since the last LAST one, 0 for none, `wrote` the bytes written since then before it. `myNonce`, `myKey`, `peerNonce` and
`peerKey` are the nonces and ephemeral keys of the latest messages, `keys` and `oldKeys` the 64 bytes of key of this epoch and of the one before (R441), `road` the
roadstead addresses of the peer and of this module (R243). `unwritten` names the CONVEY packets not known to be written into their rings, by PSN, core key and stamp
of their order, and `flush` the WRITE whose DONE will tell of them (R217). -/
structure Session where
  ctx : Option Nat
  peer : Nat
  mine : Nat
  theirs : Nat := 0
  state : Nat := 0
  initiator : Bool := true
  epoch : Nat := 0
  txEpoch : Nat := 0
  rekeying : Bool := false
  rekeyAt : Nat := 0
  stage : Nat := 0
  startAt : Nat := 0
  resent : Nat := 0
  lastSent : Nat := 0
  txn : Nat := 0
  tx : Tbl TxClass := []
  rx : Tbl RxClass := []
  reads : List ReadReq := []
  badWrite : Nat := 0
  wrote : Nat := 0
  retryAt : Nat := 0
  txnAt : Nat := 0
  msg : List (List Byte) := []
  peerNonce : List Byte := []
  unwritten : List (Nat × Nat × Nat) := []
  flush : Option Nat := none
  peerKey : List Byte := []
  myNonce : List Byte := []
  myKey : List Byte := []
  keys : List Byte := []
  oldKeys : List Byte := []
  road : List Byte := []
deriving DecidableEq, Repr

/-! ### Contexts, rings and launches (12) -/

/-- One list a LAUNCH started: its core's key, and the status and order index it completed with (R350, R351). -/
structure LaunchList where
  key : Nat
  result : Option (Nat × Nat) := none
deriving DecidableEq, Repr

/-- A docket taken and not yet completed (R349, R353). `abortAt` is the key of the list that caused an abort (R352). -/
structure DocketRun where
  seq : Nat
  kind : Nat
  tag : Nat
  lists : List LaunchList := []
  abortAt : Option Nat := none
  since : Nat := 0
deriving DecidableEq, Repr

/-- What pre-emption saves of one core (R356): its state, its hold bytes and the poisoned lines of its hold, by hold offset. -/
structure SavedCore where
  key : Nat
  st : CoreSt
  hold : List Host.Cell := []
  poison : List Nat := []
deriving DecidableEq, Repr

/-- An admission under way (R250, R357): its docket, when it began, the digest expected of each other member by device rank, the ranks
whose sessions it needs, whether it asked for a standby and what the partner answered, the clusters whose retention part it took, and whether it has
told the other members that nothing here is missing any more. -/
structure Admitting where
  seq : Nat
  since : Nat
  expect : List (Nat × List Byte) := []
  needs : List Nat := []
  wantStandby : Bool := false
  gotStandby : Option (Option Nat) := none
  took : List Nat := []
  said : Bool := false
deriving DecidableEq, Repr

/-- One context (R355, R358). Objects of the context that the Manifest lists stand in the dictionary. A standby that took over runs by `via`,
its gang's number here, and under the lost module's MID `asMid`; `remap` names lost device ranks, their takers and gang ranks; `awaiting` the members,
one that runs two ranks twice, whose RECONCILE has not come and `reconciled` those heard before the TAKEOVER (R334). At a gang pre-emption point (R225, R297) `gangAsked` tells that another member was
asked to save, `gangHeld` that the home holds the release, `gangSaid` that this member said it is quiet, `gangGo` that the gang is saved now, and the home keeps the
ranks that are quiet and those that are restored. `gangFrozen` tells that it begins no collective until the gang is saved, `gangYes` are the members that are frozen, and `gangUnnoted`
those that have not yet noted a request at a FAST point. `ran` is the run time since the last restore (R226). `flipScale` is the LOSS_SCALE of the last flip (R334), `seekStart` that a standby that woke still seeks its first step
entry (R335), `takeovers` the devices whose loss a takeover answers for this gang (R334), `moored` the other members' partners and standbys as gang rank,
device and context number (R316), `doneCommits` the outcomes of the COMMITs that were saved while they waited (R322). -/
structure Ctx where
  state : Nat := 0
  epoch : Nat := 0
  prio : Nat := 0
  pilotable : Bool := false
  evaluation : Bool := false
  gangSize : Nat := 1
  gangRank : Nat := 0
  members : List Nat := []
  cores : List Nat := []
  saveBase : Nat := 0
  saveSize : Nat := 0
  barLen : Nat := 0
  convLen : Nat := 0
  groupLen : Nat := 0
  setLen : Nat := 0
  sqTail : Nat := 0
  cqHead : Nat := 0
  waiting : List Nat := []
  runs : List DocketRun := []
  admitting : Option Admitting := none
  digests : List (Nat × List Byte × Nat) := []
  ready : List Nat := []
  saved : List SavedCore := []
  savedTugs : List (Nat × TugItem) := []
  runSince : Option Nat := none
  restoredAt : Nat := 0
  ran : Nat := 0
  savedAt : Nat := 0
  saveWanted : Bool := false
  stopWanted : Bool := false
  parkWanted : Bool := false
  intAt : Option Nat := none
  intDue : Bool := false
  restart : Nat := 0
  seekStep : Bool := false
  seekStart : Bool := false
  taken : Nat := 0
  standbyFor : Option Nat := none
  standbyAt : Option Nat := none
  lastOutcome : Option (Nat × Nat × Nat × Nat) := none
  via : Option Nat := none
  asMid : Option Nat := none
  remap : List (Nat × Nat × Nat) := []
  awaiting : List Nat := []
  reconciled : List Nat := []
  gangAsked : Bool := false
  gangHeld : Bool := false
  gangSaid : Bool := false
  gangGo : Bool := false
  gangQuiet : List Nat := []
  gangBack : List Nat := []
  gangFrozen : Bool := false
  gangYes : List Nat := []
  gangUnnoted : List Nat := []
  heldByHost : Bool := false
  doneSeqs : List Nat := []
  replayed : List Nat := []
  flipScale : Option Nat := none
  moored : List (Nat × Nat × Nat) := []
  takeovers : List Nat := []
  doneCommits : List (Nat × Nat × Nat) := []
deriving DecidableEq, Repr

/-! ### Regions and the rest of the basin (07) -/

/-- An entry of the region table (R197, R207), with the range its fill is writing (R199). -/
structure Region where
  base : Nat := 0
  size : Nat := 0
  owner : Nat := 0xFF
  attr : Nat := 0
  enabled : Bool := false
  filling : Option (Nat × Nat) := none
deriving DecidableEq, Repr

/-- What the snoop filter records of a line the companion holds (R191): clean, with the right to modify it, or the latter with its RECALL sent. -/
inductive Snoop where
  | shared
  | owned
  | recalled
deriving DecidableEq, Repr

/-! ### Firmware cores (12) -/

/-- What SEC knows of a signed image in flash (R434, R435): its security version and that of its bundle, whether its signature verifies and whether its
stepping list names STEPPING. -/
structure ImageFacts where
  security : Nat := 1
  bundle : Nat := 1
  signed : Bool := true
  stepping : Bool := true
deriving DecidableEq, Repr

/-- One firmware core (R340 to R374): whether and since when it restarts, its running image and the one before, ACTIVATION, whether an emergency holds
its activation back (R372), when it was activated and how often its watchdog expired since (R373). A core none of whose images is accepted stays `stopped` (R434). -/
structure FwCore where
  restarting : Bool := false
  since : Nat := 0
  version : Nat := 0x01000000
  previous : Nat := 0x01000000
  activation : Nat := 0
  heldBack : Bool := false
  activatedAt : Option Nat := none
  expiries : Nat := 0
  image : ImageFacts := {}
  oldImage : ImageFacts := {}
  stopped : Bool := false
deriving DecidableEq, Repr

/-! ### Manifest connections (15, 16) -/

/-- One open connection (R464): transport (0 I3C, 1 KCL), source endpoint ID, and when each granted role ends (R445). -/
structure Conn where
  kcl : Bool
  eid : Nat
  owner : Option Nat := none
  vendor : Option Nat := none
deriving DecidableEq, Repr

/-! ### Faults and the logbook (14) -/

/-- A fault class (R409): open, level, latest source, count, opening time, acknowledged, and the sources recorded since it opened,
each with the unit its record names. -/
structure FaultClass where
  isOpen : Bool := false
  level : Nat := 0
  source : Nat := 0
  count : Nat := 0
  opened : Nat := 0
  acked : Bool := false
  causes : List (Nat × Nat) := []
deriving DecidableEq, Repr

/-- A record of the logbook (R425), its CRC left to the reader of the record's bytes. -/
structure LogRec where
  calendar : Nat
  powerOn : Nat
  detail : Nat
  seq : Nat
  source : Nat
  ctx : Nat
  typ : Nat
  cls : Nat
  dflt : Nat
  level : Nat
deriving DecidableEq, Repr

/-! ### Physical cores and power (03, 13, 14) -/

/-- One physical core (R75 to R79, R416): disabled, spare-row maps of its arrays, failed rows, disabled arrays, the latest failed check of each row,
whether it is lent, the power-on time of its row test since the start, and what its hold keeps while no window shows it: bytes by hold offset and
numbers of poisoned lines. Rows are numbered array × 512 + row. -/
structure PhysCore where
  disabled : Bool := false
  rowsMap : List Nat := []
  failed : List Nat := []
  arraysOff : Nat := 0
  checks : List (Nat × Nat) := []
  lent : Bool := false
  tested : Option Nat := none
  hold : List Host.Cell := []
  marks : List Nat := []
deriving DecidableEq, Repr

/-- The tide gate of a compute die (R396): when the open tide began and its next wave. -/
structure Tide where
  start : Nat
  wave : Nat := 0
deriving DecidableEq, Repr

/-! ### What the module sends -/

/-- Everything the module sends or signals, in the order it does so. -/
inductive Out where
  /-- A Gezal packet in its frame, or any other frame, sent on a port (`port`, whole or half). -/
  | packet (p : Packet) (w : Wire)
  | frame (port : Nat) (kind : Nat) (bytes : List Byte)
  /-- The answer to a KCL request: status of R134 (0 OK), data, poison. -/
  | kclReply (status : Nat) (data : List Byte) (poison : Bool)
  /-- RECALL of a line (R191), DEV_WRITE and DEV_READ of the tugs (R188): a write carries the mark of each line it touches. -/
  | recall (line : Nat)
  | devWrite (ctx : Nat) (addr : Nat) (data : List Byte) (marks : List Bool)
  | devRead (ctx : Nat) (addr : Nat) (len : Nat)
  /-- A KCL interrupt with its vector (R354, R405). -/
  | interrupt (vector : Nat)
  /-- A Manifest reply (R467): header and data. -/
  | manifest (kcl : Bool) (eid : Nat) (header : Nat) (data : List Byte)
  | mctp (kcl : Bool) (eid : Nat) (data : List Byte)
  | pldm (kcl : Bool) (eid : Nat) (data : List Byte)
  | spdm (kcl : Bool) (eid : Nat) (data : List Byte)
  /-- Notices between gang members over their sessions, whose packet form the spec does not give: 0 abort, 1 digest, 2 fingerprint,
  3 standby, 4 a collective that ended MALFORMED, 5 to 9 the steps of a gang pre-emption point (R225), 10 a rewind (R419), 11 a member's partner and
  standby (R316), 12 its training values (R331), 13 a member whose own part of an admission is done (R357): DESIGN CHOICE (log 96). -/
  | gangNotice (rank : Nat) (ctx : Nat) (kind : Nat) (value : List Byte)
  | standbyAsk (rank : Nat) (ctx : Nat) (t : AdmitTables)
  /-- Firmware cores restart, rails change: what a reset or a power state does to the module's own boards. -/
  | power (kind : Nat)
deriving DecidableEq, Repr

/-! ### The device -/

/-- The compute side: cores, tugs, conveyors, barriers and what is on its way between them. `phys` holds physical cores by 12 × cluster + core, `bound`
the physical core behind each logical one; `heldFaults` the faults that wait for a restarting CCn (R342): a core with its failed row, or alone; `filled` the 4 KiB granules of HBM that writes filled while the fill
runs (R453); `cadence` what CADENCE_SOURCE holds since it was last 0, 1 the timer and 2 SYNC_IO (R170, R474). -/
structure Compute where
  cores : Tbl CoreSt := []
  tugs : Tbl (List TugItem) := []
  convs : Tbl Conveyor := []
  bars : Tbl Barrier := []
  groups : Tbl Group := []
  sets : Tbl StateSet := []
  snaps : List Snap := []
  arrivals : List ArrivalF := []
  acks : List AckF := []
  releases : List ReleaseF := []
  outcomes : List OutcomeF := []
  mirrored : List MirrorDue := []
  phys : Tbl PhysCore := []
  bound : Tbl Nat := []
  tides : Tbl Tide := []
  heldFaults : List (Nat × Option (Nat × Nat)) := []
  timer : Option Nat := none
  filled : List Nat := []
  cadence : Nat := 0
deriving DecidableEq, Repr

/-- The ports and what waits at each (by twice the port plus the half), paths and sessions, the timers of unreachable destinations (R263), since when each MID
of the basin cannot be reached (R281), the port whose PTP clock has a master, the number of its last delay request, a Sync that waits for its Follow_Up, the times of the last Sync at the master and
here, and the number and time of the delay request under way (R276). -/
structure Net where
  halves : Tbl PortHalf := []
  ports : Tbl PortSt := []
  paths : Tbl PathSt := []
  sessions : Tbl Session := []
  lost : Tbl Nat := []
  lostSince : Tbl Nat := []
  nextId : Nat := 1
  lastStatus : Nat := 0
  statusKind : Nat := 0
  statusSince : Nat := 0
  heartbeatSent : Nat := 0
  heartbeatSeen : Nat := 0
  statusSubject : Nat := 0
  loop : List (Nat × Packet) := []
  parts : List (Nat × Nat × Nat × Nat × List Byte) := []
  heard : List Byte := []
  ptpMaster : Option Nat := none
  lastPtp : Option Nat := none
  ptpSeq : Nat := 0
  ptpSync : Option (Nat × Nat) := none
  ptpTimes : Option (Nat × Nat) := none
  ptpAsk : Option (Nat × Nat) := none
  queues : Tbl PortQ := []
deriving DecidableEq, Repr

/-- KCL, the driver session and host loss (R189 to R193, R344, R364 to R368). `late` holds the module's own records that wait for the WRITEBACK of a
line the companion owns (R191), `linkKey` the draw of the module's ephemeral key at the link's last training, the next draw being the companion's, `flitsIn` the flits received since, and `outMark` how much
had been sent before it (R444). -/
structure HostSide where
  linkUp : Bool := true
  lanesLost : List Nat := []
  retraining : Bool := false
  held : List Instr := []
  snoop : Tbl Snoop := []
  late : List (Nat × List Byte) := []
  token : Option Nat := none
  lastBeat : Nat := 0
  lossAt : Option Nat := none
  restAt : Option Nat := none
  svcTail : Nat := 0
  svcCqHead : Nat := 0
  svcCqTail : Nat := 0
  svcWaiting : List Nat := []
  svcOver : Bool := false
  lossDue : Bool := false
  hostDue : List Bool := []
  linkKey : Option Nat := some 1
  flitsIn : Nat := 0
  outMark : Nat := 0
  pilotLast : Nat := 63
deriving DecidableEq, Repr

/-- One copy of the counter page in flash (R424): the lifetime counters, the power-on time, its sequence number, 0 for one never written, and its CRC. -/
structure CounterPage where
  values : Tbl Nat := []
  onNs : Nat := 0
  seq : Nat := 0
  crc : Nat := 0
deriving DecidableEq, Repr

/-- Power, temperature, pins and power states (13, 17). Temperatures are in units of 0.125 °C: junction sensor `i` of die `q` at 16·q + i
(die 4 the harbour's), stacks by number. `e2Gone` is since when E2's conditions are absent, `e0Since` when E0 began, `droops` the stretches of each
die in the last 1 ms, `warm` the ceiling E1 temperature holds, `overSince` since when the 1 ms average stands above the cap at OP7 and 1/16, `averages` the averages of the
last ten governor periods, newest first, `tripSensor` the sensor that tripped, a stack's or a junction's,
`energyRest` and `lifeRest` what is left of a joule and of a kilojoule, in pJ. `offKind` is 0 while the module runs, 2 SLEEP, 3 DEEP, 4 OFF, 5 after a trip, 6 after a brown-out,
7 without input power, 8 while a start waits at step 2, 9 with no accepted SEC image, 1 in steps 2 to 6 of a start, 10 while the rails come up. `rails` are the groups of
R492 in regulation. `due` says what the module does next of its own and when: 1 a rail group or a step of a start, 2, 3 and 4 the isolation of SLEEP, DEEP and OFF, 18 and 19 a
requested reset by its LAST_RESET and 16 more, 20 that of a transition. `edge` is the wake kept for the end of an entry (R503), `startAt` the time START_TIME counts from,
after `waited` ns before it, and `coldDue` that a cold reset has not ended (R24). `onNs` is the power-on time in ns, `pageA` and `pageB` the two copies of the counter page,
`pageHour` the power-on hours written, `laserNs` the lit time of each laser beyond whole hours. `peak`, `trough` and `rising` follow the hottest junction temperature (R426). -/
structure Power where
  resetLow : Bool := false
  wakeLow : Bool := false
  throttleLow : Bool := false
  alertLow : Bool := false
  thermTrip : Bool := false
  strapClass : Nat := 0
  strapMid : Nat := 0
  refclk : Bool := true
  temps : Tbl Int := []
  stackTemps : Tbl Int := []
  e2 : Bool := false
  e2Gone : Option Nat := none
  e0Since : Nat := 0
  droops : Tbl (List Nat) := []
  headroomRun : Nat := 0
  governedAt : Nat := 0
  warm : Nat := 0
  capWritten : Bool := false
  overSince : Option Nat := none
  averages : List Nat := []
  energyRest : Nat := 0
  lifeRest : Nat := 0
  trimWaiting : List Nat := []
  trimAt : Tbl Nat := []
  idleSince : Option Nat := none
  offKind : Nat := 0
  rails : Nat := 6
  due : Option (Nat × Nat) := none
  edge : Option Nat := none
  startAt : Nat := 0
  waited : Nat := 0
  coldDue : Bool := false
  sleptAt : Nat := 0
  wakeLatched : Bool := false
  tripDetail : Option Nat := none
  tripSensor : Option (Bool × Nat) := none
  onNs : Nat := 0
  pageA : CounterPage := {}
  pageB : CounterPage := {}
  laserNs : Tbl Nat := []
  pageHour : Nat := 0
  peak : Int := 200
  trough : Int := 200
  rising : Bool := true
deriving DecidableEq, Repr

/-- The security block, Manifest connections and life cycle under way (15, 16). `staged` holds what SEC found of the staged
images, by core. `conns` are the open connections, `nonceDraw` the draw AUTH_NONCE holds, `aliasDraw` that of the alias certificate, `aliasImages`, `aliasSecurity` and `aliasFrom` the image versions, SECURITY_VERSION and set calendar at its issue, `aliasFloor` ROLLBACK_FLOOR at its issue where it rose since (R432), `slots` the contexts that hold a key slot and the draw of its key (R201), `deviceKey` the draw of the device memory key, `spdm` how far each requester's SPDM connection has come, `wiping` WIPE_ACTIVE, `fillSince` when the fill began, `waiting` the handshake messages that
wait for SEC, `slow` the Manifest requests whose effect and reply come later, and those of their connections behind them (R200, R471). -/
structure Sec where
  conns : List Conn := []
  eidI3c : Nat := 0
  eidKcl : Nat := 0
  nonceAt : Nat := 0
  nonceDraw : Nat := 0
  aliasDraw : Nat := 0
  aliasImages : List Nat := List.replicate 15 0x01000000
  aliasSecurity : Nat := 1
  aliasFrom : Option Nat := none
  aliasFloor : Option Nat := none
  slots : Tbl Nat := []
  deviceKey : Option Nat := some 0
  spdm : Tbl Nat := []
  staged : Tbl ImageFacts := []
  wiping : Bool := false
  fillSince : Nat := 0
  waiting : List Instr := []
  slow : List Instr := []
deriving DecidableEq, Repr

/-- The device: everything but the fuses and the queue of commands. `erasures` holds, by stack, the die and time of the lines corrected by die erasure
in the last second (R182). -/
structure Dev where
  objs : Tbl Nat := []
  blobs : Tbl (List Byte) := []
  mem : List Host.Cell := []
  poison : List Nat := []
  regions : Tbl Region := []
  ctxs : Tbl Ctx := []
  cmp : Compute := {}
  net : Net := {}
  host : HostSide := {}
  pwr : Power := {}
  sec : Sec := {}
  fw : Tbl FwCore := []
  faults : Tbl FaultClass := []
  events : List LogRec := []
  wear : List LogRec := []
  erasures : Tbl (List (Nat × Nat)) := []
  time : Nat := 0
  calendar : Nat := 0
  fresh : Nat := 3
  out : List Out := []
deriving DecidableEq, Repr

/-- What is held in fuses (R448, R435): life-cycle state, transition positions left, rollback floor, the owner's key digest and
key, and whether the unique device secret is present. -/
structure Fuses where
  lcState : Nat := 1
  left : Nat := 127
  floor : Nat := 0
  digest : List Byte := []
  ownerKey : List Byte := []
  uds : Bool := true
deriving DecidableEq, Repr

/-- The machine: the commands waiting, first in first out, the fuses and the device. -/
structure State where
  pending : List Instr := []
  fuses : Fuses := {}
  dev : Dev := {}
deriving DecidableEq, Repr

/-- Why the machine stops with a fault. -/
inductive Fault where
  /-- Raised by every command that names a core, cluster, tug, port, engine, stack, die, context, region, conveyor, path, class
  or firmware core that the KC9 does not have: such a command is not one of the KC9's. Safe: it only stops the run. -/
  | noSuchUnit
deriving DecidableEq, Repr

/-- Why the machine refuses a command. -/
inductive Refusal where
  /-- Raised by an arm of `exec` whose command has no meaning yet. Safe: it only stops the run. -/
  | notModelled (mnemonic : String)
deriving DecidableEq, Repr

/-- The machine right after reset (R494 to R496): READY after a cold start of a PROVISIONED module, every table empty, which
reads as every unit's default. -/
def State.reset : State := {}

end Sys2Proof.Machine
end

