-- ==== Sys2Proof/Machine/Frames.lean ====
section
/-! DEFINITION. Frames as they stand on the wire, in network byte order (R7): the Gezal header of R245 laid out and read, and the Ethernet, IP and
UDP headers around it (R241 to R243). -/

namespace Sys2Proof.Machine

/-! ### The Gezal header (R245) -/

/-- A value in the field [hi:lo] of a header. -/
def inField (v hi lo : Nat) : Nat := v % 2 ^ (hi + 1 - lo) * 2 ^ lo

/-- The Gezal header of a packet as a 320-bit number. -/
def headerWord (p : Packet) : Nat :=
  inField p.ver 319 316 + inField p.typ 315 312 + inField p.cls 311 310 + inField p.epoch 309 308 + inField p.enc.toNat 307 307 + inField p.poison.toNat 306 306 +
    inField p.last.toNat 305 305 + inField p.ceEcho.toNat 304 304 + inField p.op 303 296 + inField p.tries 295 288 + inField p.channel 287 272 +
    inField p.session 271 240 + inField p.src 239 224 + inField p.dst 223 208 + inField p.psn 207 176 + inField p.ackPsn 175 144 +
    inField p.payload.length 143 128 + inField p.txn 127 64 + inField p.addr 63 12 + inField p.path 11 8 + inField p.reserved 7 0

/-- The 40 bytes of a packet's header, bit 319 the first on the wire. -/
def headerBytes (p : Packet) : List Byte := natBe 40 (headerWord p)

/-- The packet a header and the payload behind it spell. -/
def readHeader (bs payload : List Byte) : Packet :=
  let w := beNat bs
  { ver := field w 319 316, typ := field w 315 312, cls := field w 311 310, epoch := field w 309 308, enc := bit w 307, poison := bit w 306, last := bit w 305,
    ceEcho := bit w 304, op := field w 303 296, tries := field w 295 288, channel := field w 287 272, session := field w 271 240, src := field w 239 224,
    dst := field w 223 208, psn := field w 207 176, ackPsn := field w 175 144, txn := field w 127 64, addr := field w 63 12, path := field w 11 8,
    reserved := field w 7 0, payload := payload.take (field w 143 128) }

/-- LEN of a header. -/
def headerLen (bs : List Byte) : Nat := field (beNat bs) 143 128

/-! ### Addresses (R243, R477) -/

/-- The MAC address of a port (R477). -/
def portMac (port : Nat) : List Byte := natBe 6 (Config.macBase + port)

/-- The link-local IPv6 address of a MAC address, by the modified EUI-64 rule. -/
def linkLocal (mac : Nat) : List Byte :=
  let m := natBe 6 mac
  [0xFE#8, 0x80#8] ++ List.replicate 6 0#8 ++ [m.getD 0 0#8 ^^^ 2#8, m.getD 1 0#8, m.getD 2 0#8, 0xFF#8, 0xFE#8, m.getD 3 0#8, m.getD 4 0#8, m.getD 5 0#8]

/-- The address of port 14 + `k` of a module whose directory entry is given: the base plus `k` in its last byte. -/
def roadAddress (entry : List Byte) (k : Nat) : List Byte := slice entry 0 15 ++ natLe 1 (leNat (slice entry 15 1) + k)

/-- Whether an address is an IPv4 one in its mapped form, ::ffff:a.b.c.d. -/
def isMapped (a : List Byte) : Bool := a.take 12 == List.replicate 10 0#8 ++ [0xFF#8, 0xFF#8]

/-! ### Checksums -/

/-- The sum of the big-endian 16-bit words of a byte string. -/
def sum16 : List Byte → Nat
  | [] => 0
  | [a] => a.toNat * 256
  | a :: b :: bs => a.toNat * 256 + b.toNat + sum16 bs

/-- The internet checksum of a sum: its ones' complement. -/
def checksum (s : Nat) : Nat := 0xFFFF - (if s = 0 then 0 else (s - 1) % 0xFFFF + 1)

/-- CRC-32 of IEEE 802.3 over the bits of a byte string. -/
def crcByte : Nat → Nat → Nat
  | 0, c => c
  | n + 1, c => crcByte n (if c % 2 = 1 then (c / 2) ^^^ 0xEDB88320 else c / 2)
def crc32 (bs : List Byte) : Nat := bs.foldl (fun c b => crcByte 8 (c ^^^ b.toNat)) 0xFFFFFFFF ^^^ 0xFFFFFFFF

/-! ### Frames (R241, R242, R251) -/

/-- The UDP source port of a packet, which varies with its path and session. -/
def sourcePort (p : Packet) : Nat := 0xC000 + p.path * 2 ^ 10 + p.session % 2 ^ 10

/-- The flow label of an IPv6 header. -/
def flowLabel (p : Packet) : Nat := p.path * 2 ^ 16 + p.session % 2 ^ 16

/-- Header, payload and GCM tag of a packet: encrypted under the frame's key, or, for one in transit, as they came. -/
def gezalBytes (p : Packet) (w : Wire) : List Byte :=
  match p.enc, w.key with
  | false, _ => headerBytes p ++ p.payload
  | true, none => headerBytes p ++ p.payload ++ slice p.tag 0 16
  | true, some k =>
    let x := gcm k (natBe 4 p.session ++ natBe 8 p.txn) (headerBytes p) p.payload
    headerBytes p ++ x.1 ++ x.2

/-- A UDP datagram with its checksum: source port, the frame's addresses and destination port, and what it carries. -/
def udpOver (from_ : Nat) (w : Wire) (body : List Byte) : List Byte :=
  let n := 8 + body.length
  let head := natBe 2 from_ ++ natBe 2 w.udp ++ natBe 2 n
  let ends := if isMapped w.dst then w.src.drop 12 ++ w.dst.drop 12 else w.src ++ w.dst
  let c := checksum (sum16 ends + 17 + n + sum16 (head ++ [0#8, 0#8] ++ body))
  head ++ natBe 2 (if c = 0 then 0xFFFF else c) ++ body

/-- The UDP datagram of a packet. -/
def udpBytes (p : Packet) (w : Wire) : List Byte := udpOver (sourcePort p) w (gezalBytes p w)

/-- An IPv4 header: no options, DF set, TTL 64. -/
def ipv4Bytes (w : Wire) (n : Nat) : List Byte :=
  let a := [0x45#8] ++ natBe 1 w.tos ++ natBe 2 (20 + n) ++ natBe 2 0 ++ natBe 2 0x4000 ++ [64#8, 17#8]
  let b := w.src.drop 12 ++ w.dst.drop 12
  a ++ natBe 2 (checksum (sum16 (a ++ b))) ++ b

/-- An IPv6 header: no extension headers, hop limit 64. -/
def ipv6Bytes (p : Packet) (w : Wire) (n : Nat) : List Byte :=
  natBe 4 (6 * 2 ^ 28 + w.tos * 2 ^ 20 + flowLabel p) ++ natBe 2 n ++ [17#8, 64#8] ++ w.src ++ w.dst

/-- A frame as it stands on the wire: Ethernet header, 802.1Q tag where there is one, IP and UDP headers, the Gezal packet and the FCS. -/
def frameBytes (p : Packet) (w : Wire) : List Byte :=
  let udp := udpBytes p w
  let tag := match w.vlan with | some t => natBe 2 0x8100 ++ natBe 2 t | none => []
  let ip := if isMapped w.dst then natBe 2 0x0800 ++ ipv4Bytes w udp.length else natBe 2 0x86DD ++ ipv6Bytes p w udp.length
  let frame := natBe 6 w.dstMac ++ natBe 6 w.srcMac ++ tag ++ ip ++ udp
  frame ++ natLe 4 (crc32 frame)

/-- A frame of another kind with its Ethernet header (R244, R264, R276): destination, the port's own address, type and contents. -/
def plainFrame (dest port etherType : Nat) (bs : List Byte) : List Byte := natBe 6 dest ++ portMac port ++ natBe 2 etherType ++ bs

/-- The bytes of wire a frame takes, with the preamble and gap that IEEE 802.3 puts around it. -/
def frameCost (p : Packet) (w : Wire) : Nat :=
  14 + (if w.vlan.isSome then 4 else 0) + (if isMapped w.dst then 20 else 40) + 8 + 40 + p.payload.length + (if p.enc then 16 else 0) + 4 + 20

end Sys2Proof.Machine
end

