-- ==== Sys2Proof/Machine/Objects.lean ====
section
/-! DEFINITION. The Manifest object dictionary: one row for each object that a chapter's "Objects" section lists (R457 to R460,
R468, R473), and where a simple object's value stands. -/

namespace Sys2Proof.Machine

/-- One object: first index, number of indices, sub-index, type code, element type, elements, access (0 RO, 1 RW, 2 WO, 3 RWS),
 writers (bit 0 Owner, 1 Operator, 2 Board, 3 Vendor), serving core, least and largest value, default values (the last repeats). -/
structure ObjRow where
  base : Nat
  count : Nat
  sub : Nat
  typ : Nat
  elem : Nat
  elems : Nat
  access : Nat
  writers : Nat
  server : Nat
  lo : Nat
  hi : Nat
  dflt : List Nat
deriving DecidableEq, Repr

/-- Objects of 02_tensor_numbers.md. -/
def objs02 : List ObjRow := [
  ⟨0x7300, 64, 0x01, 5, 0, 1, 0, 0, 0, 0, 18446744073709551615, [0]⟩,  -- FINITE_SAT
  ⟨0x7300, 64, 0x02, 5, 0, 1, 0, 0, 0, 0, 18446744073709551615, [0]⟩,  -- INF_SAT
  ⟨0x7300, 64, 0x03, 5, 0, 1, 0, 0, 0, 0, 18446744073709551615, [0]⟩,  -- INT_SAT
  ⟨0x7300, 64, 0x04, 5, 0, 1, 0, 0, 0, 0, 18446744073709551615, [0]⟩,  -- NAN_TO_INT
  ⟨0x7300, 64, 0x05, 5, 0, 1, 0, 0, 0, 0, 18446744073709551615, [0]⟩,  -- SCALE_SAT
  ⟨0x7300, 64, 0x06, 1, 0, 1, 0, 0, 0, 0, 255, [0]⟩,  -- RANGE_FLAG
  ⟨0x7300, 64, 0x07, 2, 0, 1, 2, 3, 0, 1, 1, [0]⟩,  -- RANGE_CLEAR
  ⟨0x7300, 64, 0x08, 5, 0, 1, 3, 3, 0, 0, 18446744073709551615, [0]⟩,  -- SR_SEED
  ⟨0x7300, 64, 0x09, 5, 0, 1, 0, 0, 0, 0, 18446744073709551615, [0]⟩   -- SR_COUNTER
]

/-- Objects of 03_tall_arrays.md. -/
def objs03 : List ObjRow := [
  ⟨0x1200, 88, 0x01, 2, 0, 1, 0, 0, 0, 0, 255, [0]⟩,  -- PHYS_CORE
  ⟨0x1200, 88, 0x02, 2, 0, 1, 0, 0, 0, 0, 255, [24]⟩,  -- ARRAY_LATENCY
  ⟨0x1200, 88, 0x03, 2, 0, 1, 0, 0, 0, 0, 255, [36]⟩,  -- ROUND_TRIP
  ⟨0x1200, 88, 0x04, 2, 0, 1, 0, 0, 0, 0, 255, [0]⟩,  -- SKEW_TRIM
  ⟨0x1200, 88, 0x05, 14, 3, 16, 0, 0, 0, 0, 65535, [0xFFFF]⟩,  -- SPARE_MAP
  ⟨0x1200, 88, 0x06, 14, 3, 4, 0, 0, 0, 0, 65535, [0]⟩,  -- FAILED_ROWS
  ⟨0x1200, 88, 0x07, 5, 0, 1, 0, 0, 0, 0, 18446744073709551615, [0]⟩,  -- FEEDER_BUBBLES
  ⟨0x1200, 88, 0x08, 2, 0, 1, 1, 3, 0, 1, 128, [32]⟩,  -- ACC_ROWS
  ⟨0x1200, 88, 0x09, 4, 0, 1, 1, 3, 0, 0, 1000000, [2000]⟩,  -- ACC_WAIT
  ⟨0x1200, 88, 0x0A, 5, 0, 1, 0, 0, 0, 0, 18446744073709551615, [0]⟩,  -- ACC_WINDOWS
  ⟨0x1200, 88, 0x0B, 5, 0, 1, 0, 0, 0, 0, 18446744073709551615, [0]⟩,  -- ACC_TIMEOUTS
  ⟨0x1200, 88, 0x0C, 5, 0, 1, 0, 0, 0, 0, 18446744073709551615, [0]⟩   -- SPARE_REPLAYS
]

/-- Objects of 04_accumulation_and_drain.md. -/
def objs04 : List ObjRow := [
  ⟨0x7400, 64, 0x01, 5, 0, 1, 0, 0, 0, 0, 18446744073709551615, [0]⟩,  -- TILE_REPLAYS
  ⟨0x7400, 64, 0x02, 5, 0, 1, 0, 0, 0, 0, 18446744073709551615, [0]⟩,  -- REPLAYED_PASSES
  ⟨0x7400, 64, 0x03, 5, 0, 1, 0, 0, 0, 0, 18446744073709551615, [0]⟩,  -- TILES_SATURATED
  ⟨0x7400, 64, 0x04, 5, 0, 1, 0, 0, 0, 0, 18446744073709551615, [0]⟩,  -- GRID_MISMATCHES
  ⟨0x7400, 64, 0x05, 5, 0, 1, 0, 0, 0, 0, 18446744073709551615, [0]⟩,  -- PIN_STALLS
  ⟨0x7400, 64, 0x06, 2, 0, 1, 0, 0, 0, 0, 255, [0]⟩,  -- MAX_REPLAYS
  ⟨0x7400, 64, 0x07, 2, 0, 1, 2, 3, 0, 1, 1, [0]⟩   -- ACC_CLEAR
]

/-- Objects of 05_vector_units_and_tugs.md. -/
def objs05 : List ObjRow := [
  ⟨0x1300, 88, 0x01, 5, 0, 1, 0, 0, 0, 0, 18446744073709551615, [0]⟩,  -- VEC_ELEMENTS
  ⟨0x1300, 88, 0x02, 5, 0, 1, 0, 0, 0, 0, 18446744073709551615, [0]⟩,  -- TRANS_ELEMENTS
  ⟨0x1300, 88, 0x03, 5, 0, 1, 0, 0, 0, 0, 18446744073709551615, [0]⟩,  -- VREDUCE_LINES
  ⟨0x8200, 8, 0x01, 14, 5, 4, 0, 0, 0, 0, 18446744073709551615, [0]⟩,  -- TUG_BYTES
  ⟨0x8200, 8, 0x02, 14, 5, 4, 0, 0, 0, 0, 18446744073709551615, [0]⟩,  -- TUG_DESCRIPTORS
  ⟨0x8200, 8, 0x03, 5, 0, 1, 0, 0, 0, 0, 18446744073709551615, [0]⟩,  -- TUG_QUEUE_FULL
  ⟨0x8200, 8, 0x04, 5, 0, 1, 0, 0, 0, 0, 18446744073709551615, [0]⟩,  -- TUG_ERRORS
  ⟨0x8210, 8, 0x01, 2, 0, 1, 1, 3, 0, 0, 3, [0]⟩,  -- USE
  ⟨0x8210, 8, 0x02, 5, 0, 1, 0, 0, 0, 0, 18446744073709551615, [0]⟩,  -- IO_BYTES
  ⟨0x8210, 8, 0x03, 5, 0, 1, 0, 0, 0, 0, 18446744073709551615, [0]⟩   -- IO_DESCRIPTORS
]

/-- Objects of 06_spatial_programs.md. -/
def objs06 : List ObjRow := [
  ⟨0xD300, 1, 0x01, 2, 0, 1, 1, 7, 0, 0, 2, [0]⟩,  -- CADENCE_SOURCE
  ⟨0xD300, 1, 0x02, 5, 0, 1, 1, 3, 0, 10000, 10000000000, [8333333]⟩,  -- CADENCE_PERIOD
  ⟨0xD300, 1, 0x03, 11, 0, 1, 1, 3, 0, 0, 18446744073709551615, [0]⟩,  -- CADENCE_START
  ⟨0xD300, 1, 0x04, 5, 0, 1, 0, 0, 0, 0, 18446744073709551615, [0]⟩,  -- TICKS
  ⟨0xD300, 1, 0x05, 5, 0, 1, 0, 0, 0, 0, 18446744073709551615, [0]⟩,  -- OVERRUNS
  ⟨0xD300, 1, 0x06, 11, 0, 1, 0, 0, 0, 0, 18446744073709551615, [0]⟩,  -- LAST_TICK
  ⟨0x1400, 88, 0x01, 5, 0, 1, 0, 0, 0, 0, 18446744073709551615, [0]⟩,  -- ORDERS_BEGUN
  ⟨0x1400, 88, 0x02, 5, 0, 1, 0, 0, 0, 0, 18446744073709551615, [0]⟩,  -- INTERLOCK_STALLS
  ⟨0x1400, 88, 0x03, 5, 0, 1, 0, 0, 0, 0, 18446744073709551615, [0]⟩,  -- CREDIT_WAITS
  ⟨0x1400, 88, 0x04, 5, 0, 1, 0, 0, 0, 0, 18446744073709551615, [0]⟩,  -- GET_WAITS
  ⟨0x1400, 88, 0x05, 5, 0, 1, 0, 0, 0, 0, 18446744073709551615, [0]⟩   -- HINTS
]

/-- Objects of 07_memory_and_basin.md. -/
def objs07 : List ObjRow := [
  ⟨0x8000, 1, 0x01, 5, 0, 1, 0, 0, 0, 0, 18446744073709551615, [2199023255552]⟩,  -- HBM_SIZE
  ⟨0x8000, 1, 0x02, 5, 0, 1, 3, 3, 1, 0, 18446744073709551615, [137438953472]⟩,  -- NEAR_SIZE
  ⟨0x8000, 1, 0x03, 5, 0, 1, 0, 0, 0, 0, 18446744073709551615, [137438953472]⟩,  -- NEAR_SIZE_ACTIVE
  ⟨0x8000, 1, 0x04, 5, 0, 1, 0, 0, 0, 0, 18446744073709551615, [1649267441664]⟩,  -- SPREAD_SIZE
  ⟨0x8000, 1, 0x05, 2, 0, 1, 1, 1, 0, 0, 1, [0]⟩,  -- COMPANION_SRAM
  ⟨0x8000, 1, 0x06, 4, 0, 1, 0, 0, 0, 0, 4294967295, [4194304]⟩,  -- SNOOP_ENTRIES
  ⟨0x8000, 1, 0x07, 5, 0, 1, 0, 0, 0, 0, 18446744073709551615, [0]⟩,  -- SNOOP_RECALLS
  ⟨0x8000, 1, 0x08, 5, 0, 1, 0, 0, 0, 0, 18446744073709551615, [0]⟩,  -- SEALED_REFUSALS
  ⟨0x8000, 1, 0x09, 2, 0, 1, 0, 0, 0, 0, 255, [32]⟩,  -- KCL_LANES
  ⟨0x8000, 1, 0x0A, 5, 0, 1, 0, 0, 0, 0, 18446744073709551615, [0]⟩,  -- KCL_RETRIES
  ⟨0x8300, 32, 0x01, 5, 0, 1, 0, 0, 0, 0, 18446744073709551615, [0]⟩,  -- CORRECTED
  ⟨0x8300, 32, 0x02, 5, 0, 1, 0, 0, 0, 0, 18446744073709551615, [0]⟩,  -- UNCORRECTED
  ⟨0x8300, 32, 0x03, 2, 0, 1, 0, 0, 0, 0, 255, [255]⟩,  -- ERASED_DIE
  ⟨0x8300, 32, 0x04, 1, 0, 1, 0, 0, 0, 0, 255, [0]⟩,  -- DEGRADED
  ⟨0x8300, 32, 0x05, 5, 0, 1, 0, 0, 0, 0, 18446744073709551615, [0]⟩,  -- SCRUB_PASSES
  ⟨0x8320, 8, 0x01, 2, 0, 1, 1, 3, 0, 0, 2, [0]⟩,  -- RETAIN_USE
  ⟨0x8320, 8, 0x02, 5, 0, 1, 0, 0, 0, 0, 18446744073709551615, [0]⟩,  -- QUAY_CORRECTED
  ⟨0x8320, 8, 0x03, 5, 0, 1, 0, 0, 0, 0, 18446744073709551615, [0]⟩,  -- HOLD_CORRECTED
  ⟨0x8320, 8, 0x04, 5, 0, 1, 0, 0, 0, 0, 18446744073709551615, [0]⟩,  -- SRAM_UNCORRECTED
  ⟨0x8400, 1024, 0x01, 5, 0, 1, 1, 3, 0, 0, 18446744073709551615, [0]⟩,  -- BASE
  ⟨0x8400, 1024, 0x02, 5, 0, 1, 1, 3, 0, 0, 18446744073709551615, [0]⟩,  -- SIZE
  ⟨0x8400, 1024, 0x03, 2, 0, 1, 1, 3, 0, 0, 255, [255]⟩,  -- OWNER
  ⟨0x8400, 1024, 0x04, 2, 0, 1, 1, 3, 0, 0, 255, [0]⟩,  -- ATTR
  ⟨0x8400, 1024, 0x05, 1, 0, 1, 1, 3, 0, 0, 255, [0]⟩,  -- ENABLE
  ⟨0x8400, 1024, 0x06, 1, 0, 1, 0, 0, 0, 0, 255, [0]⟩   -- FILLING
]

/-- Objects of 08_barriers.md. -/
def objs08 : List ObjRow := [
  ⟨0x9000, 1, 0x01, 3, 0, 1, 0, 0, 0, 0, 65535, [8192]⟩,  -- BARRIER_CAPACITY
  ⟨0x9000, 1, 0x02, 3, 0, 1, 0, 0, 0, 0, 65535, [0]⟩,  -- BARRIERS_IN_USE
  ⟨0x9000, 1, 0x03, 5, 0, 1, 0, 0, 0, 0, 18446744073709551615, [0]⟩,  -- RELEASES
  ⟨0x9000, 1, 0x04, 5, 0, 1, 0, 0, 0, 0, 18446744073709551615, [0]⟩,  -- TIMEOUTS
  ⟨0x9000, 1, 0x05, 5, 0, 1, 0, 0, 0, 0, 18446744073709551615, [0]⟩,  -- POISONINGS
  ⟨0x9000, 1, 0x06, 5, 0, 1, 0, 0, 0, 0, 18446744073709551615, [0]⟩,  -- GANG_DEFERRALS
  ⟨0x9000, 1, 0x07, 4, 0, 1, 0, 0, 0, 0, 4294967295, [4294967295]⟩,  -- BOARD_BARRIER
  ⟨0x9000, 1, 0x08, 5, 0, 1, 0, 0, 0, 0, 18446744073709551615, [0]⟩,  -- LINE_GENERATIONS
  ⟨0x9100, 64, 0x01, 3, 0, 1, 0, 0, 0, 0, 65535, [0]⟩,  -- BARRIER_COUNT
  ⟨0x9100, 64, 0x02, 3, 0, 1, 0, 0, 0, 0, 65535, [65535]⟩,  -- GANG_POINT
  ⟨0x9100, 64, 0x03, 3, 0, 1, 1, 3, 0, 0, 1023, [0]⟩,  -- WINDOW_BASE
  ⟨0x9100, 64, 0x04, 13, 0, 1, 0, 0, 0, 0, 0, [0]⟩,  -- WINDOW
  ⟨0x9100, 64, 0x05, 13, 0, 1, 0, 0, 0, 0, 0, [0]⟩,  -- ARRIVED_SET
  ⟨0x9100, 64, 0x06, 13, 0, 1, 0, 0, 0, 0, 0, [0]⟩   -- WAITER_SET
]

/-- Objects of 09_optical_ports.md (first part). -/
def objs09 : List ObjRow := [
  ⟨0x3000, 1, 0x01, 13, 0, 1, 1, 3, 1, 0, 0, [0]⟩,  -- BERTH_PLAN
  ⟨0x3000, 1, 0x02, 5, 0, 1, 0, 0, 0, 0, 18446744073709551615, [0]⟩,  -- PLAN_HASH
  ⟨0x3000, 1, 0x03, 3, 0, 1, 0, 0, 0, 0, 65535, [0]⟩,  -- DEVICE_RANK
  ⟨0x3000, 1, 0x04, 5, 0, 1, 1, 3, 0, 0, 18446744073709551615, [0]⟩,  -- ROAD_DIRECTORY
  ⟨0x3000, 1, 0x05, 3, 0, 1, 1, 3, 0, 0, 16384, [0]⟩,  -- ROAD_ENTRIES
  ⟨0x3000, 1, 0x06, 3, 0, 1, 3, 3, 0, 1024, 65535, [59162]⟩,  -- GEZAL_UDP_PORT
  ⟨0x3000, 1, 0x07, 3, 0, 1, 3, 3, 0, 0, 65535, [4096]⟩,  -- PAYLOAD_MAX
  ⟨0x3000, 1, 0x08, 14, 2, 4, 1, 3, 0, 0, 255, [10, 18, 26, 46]⟩,  -- DSCP
  ⟨0x3000, 1, 0x09, 3, 0, 1, 3, 3, 0, 0, 65535, [65535]⟩,  -- VLAN_ID
  ⟨0x3000, 1, 0x0A, 2, 0, 1, 1, 3, 0, 0, 255, [14]⟩,  -- PTP_PORT
  ⟨0x3000, 1, 0x0B, 2, 0, 1, 1, 3, 0, 0, 255, [0]⟩,  -- PTP_DOMAIN
  ⟨0x3000, 1, 0x0C, 1, 0, 1, 0, 0, 0, 0, 255, [0]⟩,  -- DISCOVERY_DONE
  ⟨0x3010, 20, 0x01, 14, 2, 2, 0, 0, 0, 0, 255, [1]⟩,  -- STATE
  ⟨0x3010, 20, 0x02, 2, 0, 1, 0, 0, 0, 0, 255, [0]⟩,  -- HALVES
  ⟨0x3010, 20, 0x03, 2, 0, 1, 1, 3, 0, 0, 2, [0]⟩,  -- USE
  ⟨0x3010, 20, 0x04, 14, 3, 2, 0, 0, 0, 0, 65535, [65535]⟩,  -- PEER_RANK
  ⟨0x3010, 20, 0x05, 14, 2, 2, 0, 0, 0, 0, 255, [255]⟩,  -- PEER_PORT
  ⟨0x3010, 20, 0x06, 13, 0, 1, 0, 0, 0, 0, 0, [0]⟩,  -- PEER_DIGEST
  ⟨0x3010, 20, 0x07, 13, 0, 1, 0, 0, 0, 0, 0, [0]⟩,  -- LLDP_PEER
  ⟨0x3010, 20, 0x08, 5, 0, 1, 0, 0, 0, 0, 18446744073709551615, [0]⟩,  -- MAC
  ⟨0x3010, 20, 0x09, 5, 0, 1, 1, 3, 0, 0, 18446744073709551615, [0]⟩,  -- NEXT_HOP_MAC
  ⟨0x3010, 20, 0x0A, 5, 0, 1, 0, 0, 0, 0, 18446744073709551615, [0]⟩,  -- FEC_CORRECTED
  ⟨0x3010, 20, 0x0B, 5, 0, 1, 0, 0, 0, 0, 18446744073709551615, [0]⟩,  -- FEC_UNCORRECTED
  ⟨0x3010, 20, 0x0C, 5, 0, 1, 0, 0, 0, 0, 18446744073709551615, [0]⟩,  -- LINK_DOWNS
  ⟨0x3010, 20, 0x0D, 5, 0, 1, 0, 0, 0, 0, 18446744073709551615, [0]⟩,  -- LINK_GLITCHES
  ⟨0x3010, 20, 0x0E, 5, 0, 1, 0, 0, 0, 0, 18446744073709551615, [0]⟩,  -- FOREIGN_EVENTS
  ⟨0x3010, 20, 0x0F, 5, 0, 1, 0, 0, 0, 0, 18446744073709551615, [0]⟩,  -- TX_FRAMES
  ⟨0x3010, 20, 0x10, 5, 0, 1, 0, 0, 0, 0, 18446744073709551615, [0]⟩,  -- RX_FRAMES
  ⟨0x3010, 20, 0x11, 5, 0, 1, 0, 0, 0, 0, 18446744073709551615, [0]⟩,  -- DISCARDS
  ⟨0x3040, 4, 0x01, 14, 2, 12, 0, 0, 0, 0, 255, [0, 1, 2, 3, 4, 5, 6, 7, 8, 9, 0xFF, 0xFF]⟩   -- LASER_MAP
]

/-- Objects of 09_optical_ports.md (continued). -/
def objs09a : List ObjRow := [
  ⟨0x3040, 4, 0x02, 2, 0, 1, 0, 0, 0, 0, 255, [2]⟩,  -- SPARES_LEFT
  ⟨0x3100, 1, 0x01, 3, 0, 1, 0, 0, 0, 0, 65535, [0]⟩,  -- SESSIONS_OPEN
  ⟨0x3100, 1, 0x02, 4, 0, 1, 1, 3, 0, 1000, 1000000, [10000]⟩,  -- RTO_MIN_BASIN
  ⟨0x3100, 1, 0x03, 4, 0, 1, 1, 3, 0, 1000, 1000000, [100000]⟩,  -- RTO_MIN_ROAD
  ⟨0x3100, 1, 0x04, 4, 0, 1, 1, 3, 0, 100, 100000, [2000]⟩,  -- GAP_WAIT_BASIN
  ⟨0x3100, 1, 0x05, 4, 0, 1, 1, 3, 0, 100, 1000000, [20000]⟩,  -- GAP_WAIT_ROAD
  ⟨0x3100, 1, 0x06, 3, 0, 1, 3, 3, 0, 64, 4096, [1024]⟩,  -- REORDER_WINDOW
  ⟨0x3100, 1, 0x07, 5, 0, 1, 0, 0, 0, 0, 18446744073709551615, [0]⟩,  -- RETRANSMITS
  ⟨0x3100, 1, 0x08, 5, 0, 1, 0, 0, 0, 0, 18446744073709551615, [0]⟩,  -- PATH_FAILOVERS
  ⟨0x3100, 1, 0x09, 5, 0, 1, 0, 0, 0, 0, 18446744073709551615, [0]⟩,  -- PATHS_LOST
  ⟨0x3100, 1, 0x0A, 5, 0, 1, 0, 0, 0, 0, 18446744073709551615, [0]⟩,  -- CE_ECHOES
  ⟨0x3100, 1, 0x0B, 5, 0, 1, 0, 0, 0, 0, 18446744073709551615, [0]⟩,  -- AUTH_FAILURES
  ⟨0x3100, 1, 0x0C, 5, 0, 1, 0, 0, 0, 0, 18446744073709551615, [0]⟩,  -- REORDER_DROPS
  ⟨0x3100, 1, 0x0D, 5, 0, 1, 0, 0, 0, 0, 18446744073709551615, [0]⟩,  -- BUFFER_WAITS
  ⟨0x3100, 1, 0x0E, 5, 0, 1, 0, 0, 0, 0, 18446744073709551615, [0]⟩,  -- TRANSIT_PACKETS
  ⟨0x3100, 1, 0x0F, 5, 0, 1, 0, 0, 0, 0, 18446744073709551615, [0]⟩,  -- TRANSIT_DISCARDS
  ⟨0x3120, 8, 0x01, 2, 0, 1, 0, 0, 0, 0, 255, [0]⟩,  -- PATHS_UP
  ⟨0x3120, 8, 0x02, 1, 0, 1, 0, 0, 0, 0, 255, [0]⟩,  -- REACHABLE
  ⟨0x3120, 8, 0x03, 11, 0, 1, 0, 0, 0, 0, 18446744073709551615, [0]⟩   -- LOST_SINCE
]

/-- Objects of 10_collectives_and_determinism.md. -/
def objs10 : List ObjRow := [
  ⟨0x7000, 1, 0x01, 5, 0, 1, 0, 0, 0, 0, 18446744073709551615, [0]⟩,  -- FINGERPRINT
  ⟨0x7000, 1, 0x02, 2, 0, 1, 0, 0, 0, 0, 255, [161]⟩,  -- STEPPING
  ⟨0x7000, 1, 0x03, 3, 0, 1, 0, 0, 0, 0, 65535, [1]⟩,  -- ARITH_REV
  ⟨0x7000, 1, 0x04, 4, 0, 1, 0, 0, 0, 0, 4294967295, [0x01000000]⟩,  -- BUNDLE_VERSION
  ⟨0x7000, 1, 0x05, 13, 0, 1, 0, 0, 0, 0, 0, [0]⟩,  -- UNIT_MAP
  ⟨0x7000, 1, 0x06, 5, 0, 1, 0, 0, 0, 0, 18446744073709551615, [0]⟩,  -- FPR_CHANGES
  ⟨0x7000, 1, 0x07, 11, 0, 1, 0, 0, 0, 0, 18446744073709551615, [0]⟩,  -- FPR_TIME
  ⟨0x7100, 64, 0x01, 5, 0, 1, 0, 0, 0, 0, 18446744073709551615, [0]⟩,  -- FPR_AT_ADMIT
  ⟨0x7100, 64, 0x02, 5, 0, 1, 0, 0, 0, 0, 18446744073709551615, [0]⟩,  -- GANG_FPR
  ⟨0x7100, 64, 0x03, 1, 0, 1, 0, 0, 0, 0, 255, [0]⟩,  -- FPR_CHANGED
  ⟨0x7100, 64, 0x04, 1, 0, 1, 0, 0, 0, 0, 255, [0]⟩,  -- GANG_FPR_CHANGED
  ⟨0x7100, 64, 0x05, 3, 0, 1, 0, 0, 0, 0, 65535, [0]⟩,  -- GROUPS
  ⟨0x7100, 64, 0x06, 5, 0, 1, 0, 0, 0, 0, 18446744073709551615, [0]⟩,  -- COLLECTIVES
  ⟨0x7100, 64, 0x07, 5, 0, 1, 0, 0, 0, 0, 18446744073709551615, [0]⟩,  -- COLLECT_BYTES
  ⟨0x7100, 64, 0x08, 5, 0, 1, 0, 0, 0, 0, 18446744073709551615, [0]⟩   -- COLLECT_FAILURES
]

/-- Objects of 11_training_support.md (first part). -/
def objs11 : List ObjRow := [
  ⟨0xA000, 1, 0x01, 3, 0, 1, 3, 3, 3, 0, 65535, [65535]⟩,  -- PARTNER_RANK
  ⟨0xA000, 1, 0x02, 2, 0, 1, 3, 3, 3, 0, 2, [0]⟩,  -- MOOR_MODE
  ⟨0xA000, 1, 0x03, 2, 0, 1, 0, 0, 0, 0, 255, [0]⟩,  -- PAIR_STATE
  ⟨0xA000, 1, 0x04, 4, 0, 1, 1, 3, 0, 500000, 100000000, [1000000]⟩,  -- HEARTBEAT_LOSS
  ⟨0xA000, 1, 0x05, 5, 0, 1, 0, 0, 0, 0, 18446744073709551615, [0]⟩,  -- MIRROR_BYTES
  ⟨0xA000, 1, 0x06, 5, 0, 1, 0, 0, 0, 0, 18446744073709551615, [0]⟩,  -- MIRROR_WAITS
  ⟨0xA000, 1, 0x07, 5, 0, 1, 0, 0, 0, 0, 18446744073709551615, [0]⟩,  -- TAKEOVERS
  ⟨0xA000, 1, 0x08, 5, 0, 1, 1, 3, 0, 0, 18446744073709551615, [0]⟩,  -- SNAP_PERIOD
  ⟨0xA000, 1, 0x09, 2, 0, 1, 1, 3, 0, 0, 255, [255]⟩,  -- SNAP_CONTEXT
  ⟨0xA000, 1, 0x0A, 2, 0, 1, 1, 3, 0, 0, 15, [0]⟩,  -- SNAP_SET
  ⟨0xA000, 1, 0x0B, 5, 0, 1, 1, 3, 0, 0, 18446744073709551615, [0]⟩,  -- SNAP_DST
  ⟨0xA000, 1, 0x0C, 1, 0, 1, 1, 3, 0, 0, 255, [0]⟩,  -- SNAP_ABANDON
  ⟨0xA000, 1, 0x0D, 5, 0, 1, 0, 0, 0, 0, 18446744073709551615, [0]⟩,  -- SNAP_TICKS_DROPPED
  ⟨0xA000, 1, 0x0E, 5, 0, 1, 0, 0, 0, 0, 18446744073709551615, [0]⟩,  -- SNAPSHOTS
  ⟨0xA000, 1, 0x0F, 5, 0, 1, 0, 0, 0, 0, 18446744073709551615, [0]⟩,  -- SNAPS_ABANDONED
  ⟨0xA000, 1, 0x10, 5, 0, 1, 0, 0, 0, 0, 18446744073709551615, [0]⟩,  -- HOLD_WAITS
  ⟨0xA100, 64, 0x01, 5, 0, 1, 0, 0, 0, 0, 18446744073709551615, [0]⟩,  -- NF_NAN
  ⟨0xA100, 64, 0x02, 5, 0, 1, 0, 0, 0, 0, 18446744073709551615, [0]⟩,  -- NF_INF
  ⟨0xA100, 64, 0x03, 1, 0, 1, 0, 0, 0, 0, 255, [0]⟩,  -- NF_FLAG
  ⟨0xA100, 64, 0x04, 5, 0, 1, 0, 0, 0, 0, 18446744073709551615, [0]⟩,  -- NF_NAN_TOTAL
  ⟨0xA100, 64, 0x05, 5, 0, 1, 0, 0, 0, 0, 18446744073709551615, [0]⟩,  -- NF_INF_TOTAL
  ⟨0xA100, 64, 0x06, 5, 0, 1, 0, 0, 0, 0, 18446744073709551615, [0]⟩,  -- SUPPRESSED_STEPS
  ⟨0xA100, 64, 0x07, 5, 0, 1, 0, 0, 0, 0, 18446744073709551615, [0]⟩,  -- STEP_ATTEMPTS
  ⟨0xA100, 64, 0x08, 5, 0, 1, 0, 0, 0, 0, 18446744073709551615, [0]⟩,  -- ATTEMPTS_AT_FLIP
  ⟨0xA100, 64, 0x09, 10, 0, 1, 0, 0, 0, 0, 4294967295, [0x47800000]⟩,  -- LOSS_SCALE
  ⟨0xA100, 64, 0x0A, 5, 0, 1, 0, 0, 0, 0, 18446744073709551615, [0]⟩,  -- SCALE_AT
  ⟨0xA100, 64, 0x0B, 10, 0, 1, 3, 3, 0, 0, 4294967295, [0x47800000]⟩,  -- LOSS_SCALE_INIT
  ⟨0xA100, 64, 0x0C, 10, 0, 1, 3, 3, 0, 0, 4294967295, [0x3F800000]⟩,  -- LOSS_SCALE_MIN
  ⟨0xA100, 64, 0x0D, 10, 0, 1, 3, 3, 0, 0, 4294967295, [0x4B800000]⟩,  -- LOSS_SCALE_MAX
  ⟨0xA100, 64, 0x0E, 4, 0, 1, 3, 3, 0, 0, 4294967295, [2000]⟩   -- GROWTH_INTERVAL
]

/-- Objects of 11_training_support.md (continued). -/
def objs11a : List ObjRow := [
  ⟨0xA100, 64, 0x0F, 2, 0, 1, 3, 3, 0, 0, 1, [0]⟩,  -- POLICY
  ⟨0xA100, 64, 0x10, 3, 0, 1, 3, 3, 0, 1, 65535, [16]⟩,  -- MAX_SKIPS
  ⟨0xA100, 64, 0x11, 1, 0, 1, 0, 0, 0, 0, 255, [0]⟩,  -- HALTED
  ⟨0xA100, 64, 0x12, 1, 0, 1, 0, 0, 0, 0, 255, [0]⟩,  -- EVALUATION
  ⟨0xA100, 64, 0x13, 3, 0, 1, 0, 0, 0, 0, 65535, [65535]⟩,  -- STANDBY_OF
  ⟨0xA200, 1024, 0x01, 2, 0, 1, 0, 0, 0, 0, 255, [0]⟩,  -- KIND
  ⟨0xA200, 1024, 0x02, 2, 0, 1, 0, 0, 0, 0, 255, [0]⟩,  -- ACTIVE
  ⟨0xA200, 1024, 0x03, 5, 0, 1, 0, 0, 0, 0, 18446744073709551615, [0]⟩,  -- STEP
  ⟨0xA200, 1024, 0x04, 5, 0, 1, 0, 0, 0, 0, 18446744073709551615, [0]⟩,  -- LOADER_POS
  ⟨0xA200, 1024, 0x05, 2, 0, 1, 0, 0, 0, 0, 255, [0]⟩,  -- MIRROR_STATE
  ⟨0xA200, 1024, 0x06, 2, 0, 1, 0, 0, 0, 0, 255, [0]⟩,  -- SNAP_STATE
  ⟨0xA200, 1024, 0x07, 5, 0, 1, 0, 0, 0, 0, 18446744073709551615, [0]⟩,  -- DIRTY_BYTES
  ⟨0xA600, 8, 0x01, 2, 0, 1, 1, 3, 0, 0, 255, [255]⟩,  -- EVAL_SLOT
  ⟨0xA600, 8, 0x02, 2, 0, 1, 0, 0, 0, 0, 255, [255]⟩,  -- EVAL_PHYS
  ⟨0xA600, 8, 0x03, 5, 0, 1, 0, 0, 0, 0, 18446744073709551615, [0]⟩   -- RECALLS
]

/-- Objects of 12_firmware_and_scheduling.md (first part). -/
def objs12 : List ObjRow := [
  ⟨0xD100, 64, 0x01, 5, 0, 1, 1, 3, 3, 0, 18446744073709551615, [0]⟩,  -- SQ_BASE
  ⟨0xD100, 64, 0x02, 4, 0, 1, 1, 3, 3, 0, 4294967295, [0]⟩,  -- SQ_DEPTH
  ⟨0xD100, 64, 0x03, 5, 0, 1, 1, 3, 3, 0, 18446744073709551615, [0]⟩,  -- CQ_BASE
  ⟨0xD100, 64, 0x04, 4, 0, 1, 1, 3, 3, 0, 4294967295, [0]⟩,  -- CQ_DEPTH
  ⟨0xD100, 64, 0x05, 4, 0, 1, 0, 0, 3, 0, 4294967295, [0]⟩,  -- SQ_HEAD
  ⟨0xD100, 64, 0x06, 4, 0, 1, 0, 0, 3, 0, 4294967295, [0]⟩,  -- CQ_TAIL
  ⟨0xD100, 64, 0x07, 2, 0, 1, 1, 3, 3, 0, 1, [0]⟩,  -- RING_STATE
  ⟨0xD100, 64, 0x08, 2, 0, 1, 0, 0, 3, 0, 255, [0]⟩,  -- CTX_STATE
  ⟨0xD100, 64, 0x09, 2, 0, 1, 0, 0, 3, 0, 255, [0]⟩,  -- PRIORITY
  ⟨0xD100, 64, 0x0A, 5, 0, 1, 0, 0, 3, 0, 18446744073709551615, [0]⟩,  -- RUN_TIME
  ⟨0xD100, 64, 0x0B, 5, 0, 1, 0, 0, 3, 0, 18446744073709551615, [0]⟩,  -- SAVES
  ⟨0xD000, 1, 0x01, 4, 0, 1, 0, 0, 3, 0, 4294967295, [200000]⟩,  -- DECISION_BUDGET
  ⟨0xD000, 1, 0x02, 4, 0, 1, 1, 3, 3, 1000000, 1000000000, [20000000]⟩,  -- TIMESLICE
  ⟨0xD000, 1, 0x03, 4, 0, 1, 0, 0, 3, 0, 4294967295, [1000000]⟩,  -- MIN_QUANTUM
  ⟨0xD000, 1, 0x04, 1, 0, 1, 0, 0, 3, 0, 255, [0]⟩,  -- PILOT_ACTIVE
  ⟨0xD000, 1, 0x05, 5, 0, 1, 0, 0, 3, 0, 18446744073709551615, [0]⟩,  -- PILOT_ENTRIES
  ⟨0xD000, 1, 0x06, 5, 0, 1, 0, 0, 3, 0, 18446744073709551615, [0]⟩,  -- PILOT_DISPATCHES
  ⟨0xD000, 1, 0x07, 5, 0, 1, 0, 0, 3, 0, 18446744073709551615, [0]⟩,  -- PREEMPTIONS
  ⟨0xD000, 1, 0x08, 4, 0, 1, 1, 3, 3, 0, 1000000, [5000]⟩,  -- INT_HOLDOFF
  ⟨0xD000, 1, 0x09, 2, 0, 1, 0, 0, 3, 0, 255, [0]⟩,  -- HOST_STATE
  ⟨0xD000, 1, 0x0A, 4, 0, 1, 1, 3, 3, 100, 60000, [2000]⟩,  -- HOST_HB_LOSS
  ⟨0xD000, 1, 0x0B, 4, 0, 1, 1, 3, 3, 0, 60000, [10000]⟩,  -- HOST_DRAIN_LIMIT
  ⟨0xD000, 1, 0x0C, 4, 0, 1, 1, 3, 3, 0, 86400, [600]⟩,  -- HOST_PARK_WAIT
  ⟨0xD000, 1, 0x0D, 5, 0, 1, 0, 0, 3, 0, 18446744073709551615, [0]⟩,  -- HOST_LOSSES
  ⟨0xD000, 1, 0x0E, 5, 0, 1, 0, 0, 3, 0, 18446744073709551615, [0]⟩,  -- ATTACH_REFUSALS
  ⟨0xD000, 1, 0x0F, 1, 0, 1, 0, 0, 3, 0, 255, [0]⟩,  -- SESSION_OPEN
  ⟨0x5000, 1, 0x01, 4, 0, 1, 0, 0, 1, 0, 4294967295, [0]⟩,  -- STAGED_VERSION
  ⟨0x5000, 1, 0x02, 5, 0, 1, 1, 3, 1, 0, 18446744073709551615, [0]⟩,  -- STAGE_SOURCE
  ⟨0x5000, 1, 0x03, 4, 0, 1, 1, 3, 1, 0, 33554432, [0]⟩,  -- STAGE_LENGTH
  ⟨0x5000, 1, 0x04, 2, 0, 1, 2, 3, 1, 1, 2, [0]⟩   -- STAGE_COMMAND
]

/-- Objects of 12_firmware_and_scheduling.md (continued). -/
def objs12a : List ObjRow := [
  ⟨0x5000, 1, 0x05, 2, 0, 1, 0, 0, 1, 0, 255, [0]⟩,  -- STAGE_STATUS
  ⟨0x5000, 1, 0x06, 3, 0, 1, 2, 3, 1, 0, 32767, [0]⟩,  -- ACTIVATE
  ⟨0x5100, 15, 0x01, 4, 0, 1, 0, 0, 0, 0, 4294967295, [0x01000000]⟩,  -- IMAGE_VERSION
  ⟨0x5100, 15, 0x02, 2, 0, 1, 0, 0, 0, 0, 255, [0]⟩,  -- ACTIVATION
  ⟨0x5100, 15, 0x03, 5, 0, 1, 0, 0, 0, 0, 18446744073709551615, [0]⟩,  -- RESTARTS
  ⟨0x5100, 15, 0x04, 11, 0, 1, 0, 0, 0, 0, 18446744073709551615, [0]⟩,  -- LAST_RESTART
  ⟨0xC000, 1, 0x01, 5, 0, 1, 1, 3, 4, 0, 18446744073709551615, [0]⟩,  -- SVC_BASE
  ⟨0xC000, 1, 0x02, 4, 0, 1, 1, 3, 4, 0, 4294967295, [0]⟩,  -- SVC_DEPTH
  ⟨0xC000, 1, 0x03, 5, 0, 1, 1, 3, 4, 0, 18446744073709551615, [0]⟩,  -- SVC_CQ_BASE
  ⟨0xC000, 1, 0x04, 4, 0, 1, 1, 3, 4, 0, 4294967295, [0]⟩,  -- SVC_CQ_DEPTH
  ⟨0xC000, 1, 0x05, 4, 0, 1, 0, 0, 4, 0, 4294967295, [0]⟩,  -- SVC_HEAD
  ⟨0xC000, 1, 0x06, 5, 0, 1, 0, 0, 4, 0, 18446744073709551615, [0]⟩,  -- JPEG_PIXELS
  ⟨0xC000, 1, 0x07, 5, 0, 1, 0, 0, 4, 0, 18446744073709551615, [0]⟩   -- SVC_ERRORS
]

/-- Objects of 13_power_and_thermal.md (first part). -/
def objs13 : List ObjRow := [
  ⟨0x2000, 1, 0x01, 2, 0, 1, 0, 0, 0, 0, 255, [0]⟩,  -- CLASS_STRAP
  ⟨0x2000, 1, 0x02, 2, 0, 1, 1, 5, 2, 0, 255, [255]⟩,  -- CLASS_CONFIRM
  ⟨0x2000, 1, 0x03, 2, 0, 1, 0, 0, 0, 0, 255, [0]⟩,  -- CLASS_ACTIVE
  ⟨0x2000, 1, 0x04, 4, 0, 1, 0, 0, 0, 0, 4294967295, [1000]⟩,  -- CLASS_LIMIT
  ⟨0x2000, 1, 0x05, 4, 0, 1, 1, 5, 2, 0, 4294967295, [1000]⟩,  -- POWER_CAP
  ⟨0x2000, 1, 0x06, 4, 0, 1, 0, 0, 0, 0, 4294967295, [0]⟩,  -- POWER_NOW
  ⟨0x2000, 1, 0x07, 5, 0, 1, 0, 0, 0, 0, 18446744073709551615, [0]⟩,  -- ENERGY
  ⟨0x2000, 1, 0x08, 2, 0, 1, 0, 0, 0, 0, 255, [7]⟩,  -- OP_NOW
  ⟨0x2000, 1, 0x09, 2, 0, 1, 0, 0, 0, 0, 255, [7]⟩,  -- OP_CEILING
  ⟨0x2000, 1, 0x0A, 2, 0, 1, 0, 0, 0, 0, 255, [0]⟩,  -- OP_TOP
  ⟨0x2000, 1, 0x0B, 2, 0, 1, 0, 0, 0, 0, 255, [16]⟩,  -- DUTY_CEILING
  ⟨0x2000, 1, 0x0C, 1, 0, 1, 0, 0, 0, 0, 255, [0]⟩,  -- CAP_UNATTAINABLE
  ⟨0x2000, 1, 0x0D, 2, 0, 1, 0, 0, 0, 0, 255, [0]⟩,  -- EMERGENCY_LEVEL
  ⟨0x2000, 1, 0x0E, 2, 0, 1, 1, 5, 2, 0, 7, [7]⟩,  -- THROTTLE_OP
  ⟨0x2000, 1, 0x0F, 2, 0, 1, 1, 5, 2, 1, 16, [4]⟩,  -- THROTTLE_DUTY
  ⟨0x2000, 1, 0x10, 5, 0, 1, 0, 0, 0, 0, 18446744073709551615, [0]⟩,  -- THROTTLE_EVENTS
  ⟨0x2000, 1, 0x11, 5, 0, 1, 0, 0, 0, 0, 18446744073709551615, [0]⟩,  -- LIMITER_EVENTS
  ⟨0x2000, 1, 0x12, 5, 0, 1, 0, 0, 0, 0, 18446744073709551615, [0]⟩,  -- DUTY_PERIODS
  ⟨0x2000, 1, 0x13, 5, 0, 1, 0, 0, 0, 0, 18446744073709551615, [0]⟩,  -- OP_CHANGES
  ⟨0x2010, 5, 0x01, 7, 0, 1, 0, 0, 0, 0, 65535, [200]⟩,  -- JUNCTION_TEMP
  ⟨0x2010, 5, 0x02, 7, 0, 1, 0, 0, 0, 0, 65535, [200]⟩,  -- TEMP_MAX
  ⟨0x2010, 4, 0x03, 14, 3, 8, 0, 0, 0, 0, 65535, [780, 740, 700, 660, 620, 590, 560, 530]⟩,  -- VMIN_CAL
  ⟨0x2010, 4, 0x04, 3, 0, 1, 0, 0, 0, 0, 65535, [0]⟩,  -- VMIN_TRIM
  ⟨0x2010, 4, 0x05, 14, 3, 8, 0, 0, 0, 0, 65535, [0]⟩,  -- VSET
  ⟨0x2010, 4, 0x06, 2, 0, 1, 0, 0, 0, 0, 255, [0]⟩,  -- TRIMS
  ⟨0x2010, 4, 0x07, 4, 0, 1, 0, 0, 0, 0, 4294967295, [0]⟩,  -- LAST_TRIM
  ⟨0x2010, 4, 0x08, 5, 0, 1, 0, 0, 0, 0, 18446744073709551615, [0]⟩,  -- DROOP_EVENTS
  ⟨0x2010, 4, 0x09, 5, 0, 1, 0, 0, 0, 0, 18446744073709551615, [0]⟩,  -- CURRENT_CLAMPS
  ⟨0x2010, 4, 0x0A, 5, 0, 1, 0, 0, 0, 0, 18446744073709551615, [0]⟩,  -- TIDES
  ⟨0x2010, 4, 0x0B, 5, 0, 1, 0, 0, 0, 0, 18446744073709551615, [0]⟩   -- TIDE_WAITS
]

/-- Objects of 13_power_and_thermal.md (continued). -/
def objs13a : List ObjRow := [
  ⟨0x2020, 32, 0x01, 7, 0, 1, 0, 0, 0, 0, 65535, [200]⟩,  -- HBM_TEMP
  ⟨0x2020, 32, 0x02, 1, 0, 1, 0, 0, 0, 0, 255, [0]⟩,  -- REFRESH_2X
  ⟨0x2020, 32, 0x03, 7, 0, 1, 0, 0, 0, 0, 65535, [200]⟩   -- HBM_TEMP_MAX
]

/-- Objects of 14_faults_and_logbook.md (first part). -/
def objs14 : List ObjRow := [
  ⟨0x4000, 1, 0x01, 2, 0, 1, 1, 5, 0, 1, 5, [2]⟩,  -- FAULT_N_LEVEL
  ⟨0x4000, 1, 0x02, 1, 0, 1, 0, 0, 0, 0, 255, [0]⟩,  -- FAULT_N_ACTIVE
  ⟨0x4000, 1, 0x03, 2, 0, 1, 0, 0, 0, 0, 255, [0]⟩,  -- DEVICE_LEVEL
  ⟨0x4000, 1, 0x04, 1, 0, 1, 0, 0, 0, 0, 255, [0]⟩,  -- QUARANTINED
  ⟨0x4000, 1, 0x05, 1, 0, 1, 0, 0, 0, 0, 255, [0]⟩,  -- SAFE_STATE
  ⟨0x4000, 1, 0x06, 3, 0, 1, 0, 0, 0, 0, 65535, [65535]⟩,  -- ALERT_CAUSE
  ⟨0x4000, 1, 0x07, 14, 5, 5, 0, 0, 0, 0, 18446744073709551615, [0]⟩,  -- FAULTS_BY_LEVEL
  ⟨0x4000, 1, 0x08, 5, 0, 1, 0, 0, 0, 0, 18446744073709551615, [0]⟩,  -- ESCALATIONS
  ⟨0x4000, 1, 0x09, 5, 0, 1, 0, 0, 0, 0, 18446744073709551615, [0]⟩,  -- CLEAR_REFUSALS
  ⟨0x4010, 4, 0x01, 1, 0, 1, 0, 0, 0, 0, 255, [0]⟩,  -- OPEN
  ⟨0x4010, 4, 0x02, 2, 0, 1, 0, 0, 0, 0, 255, [0]⟩,  -- LEVEL
  ⟨0x4010, 4, 0x03, 3, 0, 1, 0, 0, 0, 0, 65535, [0]⟩,  -- SOURCE
  ⟨0x4010, 4, 0x04, 4, 0, 1, 0, 0, 0, 0, 4294967295, [0]⟩,  -- COUNT
  ⟨0x4010, 4, 0x05, 11, 0, 1, 0, 0, 0, 0, 18446744073709551615, [0]⟩,  -- OPENED
  ⟨0x4010, 4, 0x06, 1, 0, 1, 0, 0, 0, 0, 255, [0]⟩,  -- ACKED
  ⟨0x4010, 4, 0x07, 1, 0, 1, 0, 0, 0, 0, 255, [0]⟩,  -- CAUSE_PRESENT
  ⟨0x4010, 4, 0x08, 2, 0, 1, 2, 7, 0, 1, 1, [0]⟩,  -- ACK
  ⟨0x4010, 4, 0x09, 2, 0, 1, 2, 7, 0, 1, 1, [0]⟩,  -- CLEAR
  ⟨0xB000, 1, 0x01, 4, 0, 1, 0, 0, 0, 0, 4294967295, [0]⟩,  -- POWER_ON_HOURS
  ⟨0xB000, 1, 0x02, 5, 0, 1, 0, 0, 0, 0, 18446744073709551615, [0]⟩,  -- ENERGY_LIFE
  ⟨0xB000, 1, 0x03, 4, 0, 1, 0, 0, 0, 0, 4294967295, [0]⟩,  -- THERMAL_CYCLES
  ⟨0xB000, 1, 0x04, 4, 0, 1, 0, 0, 0, 0, 4294967295, [52560]⟩,  -- RATED_HOURS
  ⟨0xB000, 1, 0x05, 11, 0, 1, 1, 5, 1, 0, 18446744073709551615, [0]⟩,  -- CALENDAR
  ⟨0xB000, 1, 0x06, 2, 0, 1, 0, 0, 0, 0, 255, [0]⟩,  -- CALENDAR_SOURCE
  ⟨0xB000, 1, 0x07, 5, 0, 1, 0, 0, 0, 0, 18446744073709551615, [0]⟩,  -- LIFE_REPLAYS
  ⟨0xB000, 1, 0x08, 14, 3, 4, 0, 0, 0, 0, 65535, [0]⟩,  -- SPARE_USE
  ⟨0xB000, 1, 0x09, 14, 4, 48, 0, 0, 0, 0, 4294967295, [0]⟩,  -- LASER_HOURS
  ⟨0xB000, 1, 0x0A, 4, 0, 1, 0, 0, 0, 0, 4294967295, [0]⟩,  -- EVENT_COUNT
  ⟨0xB000, 1, 0x0B, 4, 0, 1, 1, 3, 0, 0, 4294967295, [0]⟩,  -- EVENT_BASE
  ⟨0xB000, 1, 0x0C, 13, 0, 1, 0, 0, 0, 0, 0, [0]⟩   -- EVENT_WINDOW
]

/-- Objects of 14_faults_and_logbook.md (continued). -/
def objs14a : List ObjRow := [
  ⟨0xB000, 1, 0x0D, 3, 0, 1, 1, 3, 0, 0, 8191, [0]⟩,  -- WEAR_BASE
  ⟨0xB000, 1, 0x0E, 13, 0, 1, 0, 0, 0, 0, 0, [0]⟩,  -- WEAR_WINDOW
  ⟨0xB100, 32, 0x01, 14, 5, 32, 0, 0, 0, 0, 18446744073709551615, [0]⟩   -- CHANNEL_CORRECTED
]

/-- Objects of 15_security_and_lifecycle.md. -/
def objs15 : List ObjRow := [
  ⟨0x6000, 1, 0x01, 2, 0, 1, 0, 0, 1, 0, 255, [0]⟩,  -- LC_STATE
  ⟨0x6000, 1, 0x02, 2, 0, 1, 0, 0, 1, 0, 255, [0]⟩,  -- LC_TRANSITIONS_LEFT
  ⟨0x6000, 1, 0x03, 12, 0, 1, 0, 0, 1, 0, 0, [0]⟩,  -- SERIAL
  ⟨0x6000, 1, 0x04, 13, 0, 1, 0, 0, 1, 0, 0, [0]⟩,  -- DEVID_CERT
  ⟨0x6000, 1, 0x05, 13, 0, 1, 0, 0, 1, 0, 0, [0]⟩,  -- ALIAS_CERT
  ⟨0x6000, 1, 0x06, 13, 0, 1, 0, 0, 1, 0, 0, [0]⟩,  -- OWNER_DIGEST
  ⟨0x6000, 1, 0x07, 13, 0, 1, 0, 0, 1, 0, 0, [0]⟩,  -- AUTH_NONCE
  ⟨0x6000, 1, 0x08, 13, 0, 1, 2, 15, 1, 0, 0, [0]⟩,  -- LC_REQUEST
  ⟨0x6000, 1, 0x09, 13, 0, 1, 2, 7, 1, 0, 0, [0]⟩,  -- ROLE_PROOF
  ⟨0x6000, 1, 0x0A, 4, 0, 1, 1, 1, 1, 60, 86400, [600]⟩,  -- ROLE_GRANT
  ⟨0x6000, 1, 0x0B, 3, 0, 1, 0, 0, 1, 0, 65535, [1]⟩,  -- SECURITY_VERSION
  ⟨0x6000, 1, 0x0C, 3, 0, 1, 0, 0, 1, 0, 65535, [0]⟩,  -- ROLLBACK_FLOOR
  ⟨0x6000, 1, 0x0D, 3, 0, 1, 2, 1, 1, 0, 255, [0]⟩,  -- RAISE_FLOOR
  ⟨0x6000, 1, 0x0E, 4, 0, 1, 1, 3, 1, 60, 86400, [3600]⟩,  -- REKEY_INTERVAL
  ⟨0x6000, 1, 0x0F, 2, 0, 1, 0, 0, 1, 0, 255, [0]⟩,  -- SLOTS_IN_USE
  ⟨0x6000, 1, 0x10, 1, 0, 1, 0, 0, 1, 0, 255, [0]⟩,  -- WIPE_ACTIVE
  ⟨0x6000, 1, 0x11, 4, 0, 1, 0, 0, 1, 0, 4294967295, [0]⟩,  -- MEAS_GENERATION
  ⟨0x6000, 1, 0x12, 5, 0, 1, 0, 0, 1, 0, 18446744073709551615, [0]⟩,  -- SESSION_REFUSALS
  ⟨0x6000, 1, 0x13, 5, 0, 1, 0, 0, 1, 0, 18446744073709551615, [0]⟩,  -- CERT_TIME_UNCHECKED
  ⟨0x6000, 1, 0x14, 5, 0, 1, 0, 0, 1, 0, 18446744073709551615, [0]⟩   -- SPDM_REQUESTS
]

/-- Objects of 16_manifest.md (first part). -/
def objs16 : List ObjRow := [
  ⟨0x1000, 1, 0x01, 12, 0, 1, 0, 0, 0, 0, 0, [0]⟩,  -- VENDOR
  ⟨0x1000, 1, 0x02, 12, 0, 1, 0, 0, 0, 0, 0, [0]⟩,  -- FAMILY
  ⟨0x1000, 1, 0x03, 12, 0, 1, 0, 0, 0, 0, 0, [0]⟩,  -- DEVICE
  ⟨0x1000, 1, 0x04, 12, 0, 1, 0, 0, 0, 0, 0, [0]⟩,  -- PART_NUMBER
  ⟨0x1000, 1, 0x05, 2, 0, 1, 0, 0, 0, 0, 255, [161]⟩,  -- STEPPING
  ⟨0x1000, 1, 0x06, 2, 0, 1, 0, 0, 0, 0, 255, [1]⟩,  -- BUNDLE_MAJOR
  ⟨0x1000, 1, 0x07, 2, 0, 1, 0, 0, 0, 0, 255, [0]⟩,  -- MID
  ⟨0x1000, 1, 0x08, 5, 0, 1, 0, 0, 0, 0, 18446744073709551615, [0]⟩,  -- MAC_BASE
  ⟨0x1000, 1, 0x09, 11, 0, 1, 0, 0, 0, 0, 18446744073709551615, [0]⟩,  -- MANUFACTURED
  ⟨0x1000, 1, 0x0A, 4, 0, 1, 0, 0, 0, 0, 4294967295, [0]⟩,  -- VENDOR_IANA
  ⟨0x1000, 1, 0x0B, 3, 0, 1, 0, 0, 0, 0, 65535, [256]⟩,  -- MANIFEST_VERSION
  ⟨0x1100, 1, 0x01, 12, 0, 1, 0, 0, 0, 0, 0, [0]⟩,  -- MEMBER
  ⟨0x1100, 1, 0x02, 2, 0, 1, 0, 0, 0, 0, 255, [8]⟩,  -- CLUSTERS
  ⟨0x1100, 1, 0x03, 2, 0, 1, 0, 0, 0, 0, 255, [10]⟩,  -- CORES_PER_CLUSTER
  ⟨0x1100, 1, 0x04, 2, 0, 1, 0, 0, 0, 0, 255, [12]⟩,  -- PHYS_CORES_PER_CLUSTER
  ⟨0x1100, 1, 0x05, 2, 0, 1, 0, 0, 0, 0, 255, [4]⟩,  -- ARRAYS_PER_CORE
  ⟨0x1100, 1, 0x06, 3, 0, 1, 0, 0, 0, 0, 65535, [256]⟩,  -- ARRAY_ROWS
  ⟨0x1100, 1, 0x07, 2, 0, 1, 0, 0, 0, 0, 255, [64]⟩,  -- ARRAY_COLUMNS
  ⟨0x1100, 1, 0x08, 2, 0, 1, 0, 0, 0, 0, 255, [4]⟩,  -- SPARE_ROWS
  ⟨0x1100, 1, 0x09, 4, 0, 1, 0, 0, 0, 0, 4294967295, [6291456]⟩,  -- HOLD_SIZE
  ⟨0x1100, 1, 0x0A, 2, 0, 1, 0, 0, 0, 0, 255, [32]⟩,  -- HOLD_BANKS
  ⟨0x1100, 1, 0x0B, 4, 0, 1, 0, 0, 0, 0, 4294967295, [50331648]⟩,  -- QUAY_SIZE
  ⟨0x1100, 1, 0x0C, 4, 0, 1, 0, 0, 0, 0, 4294967295, [6291456]⟩,  -- QUAY_RETAIN_SIZE
  ⟨0x1100, 1, 0x0D, 2, 0, 1, 0, 0, 0, 0, 255, [32]⟩,  -- STACKS
  ⟨0x1100, 1, 0x0E, 5, 0, 1, 0, 0, 0, 0, 18446744073709551615, [68719476736]⟩,  -- STACK_SIZE
  ⟨0x1100, 1, 0x0F, 2, 0, 1, 0, 0, 0, 0, 255, [20]⟩,  -- PORTS
  ⟨0x1100, 1, 0x10, 2, 0, 1, 0, 0, 0, 0, 255, [4]⟩,  -- ENGINES
  ⟨0x1100, 1, 0x11, 3, 0, 1, 0, 0, 0, 0, 65535, [128]⟩,  -- VECTOR_LANES
  ⟨0x1100, 1, 0x12, 2, 0, 1, 0, 0, 0, 0, 255, [4]⟩,  -- TUGS_PER_CLUSTER
  ⟨0x1100, 1, 0x13, 2, 0, 1, 0, 0, 0, 0, 255, [8]⟩   -- IO_TUGS
]

/-- Objects of 16_manifest.md (continued). -/
def objs16a : List ObjRow := [
  ⟨0x1100, 1, 0x14, 2, 0, 1, 0, 0, 0, 0, 255, [64]⟩,  -- MAX_CONTEXTS
  ⟨0x1100, 1, 0x15, 4, 0, 1, 0, 0, 0, 0, 4294967295, [5242880]⟩,  -- PEAK_MAC
  ⟨0x1100, 1, 0x16, 14, 3, 8, 0, 0, 0, 0, 65535, [1600, 1450, 1300, 1150, 1000, 850, 700, 550]⟩,  -- OP_CLOCKS
  ⟨0xD200, 1, 0x01, 2, 0, 1, 0, 0, 0, 0, 255, [0]⟩,  -- CONTEXTS_IN_USE
  ⟨0xD200, 1, 0x02, 14, 2, 64, 0, 0, 0, 0, 255, [0]⟩,  -- CONTEXT_STATES
  ⟨0xD200, 1, 0x03, 14, 2, 88, 0, 0, 0, 0, 255, [255]⟩,  -- CORE_OWNER
  ⟨0xD200, 1, 0x04, 5, 0, 1, 0, 0, 0, 0, 18446744073709551615, [0]⟩   -- STANDBYS
]

/-- Objects of 17_module_pins_and_power_states.md. -/
def objs17 : List ObjRow := [
  ⟨0x2000, 1, 0x20, 2, 0, 1, 0, 0, 0, 0, 255, [0]⟩,  -- PSTATE
  ⟨0x2000, 1, 0x21, 2, 0, 1, 2, 7, 0, 0, 255, [0]⟩,  -- PSTATE_REQUEST
  ⟨0x2000, 1, 0x22, 1, 0, 1, 1, 7, 0, 0, 255, [0]⟩,  -- DEEP_KEEP_HBM
  ⟨0x2000, 1, 0x23, 5, 0, 1, 1, 7, 0, 0, 604800000000000, [0]⟩,  -- WAKE_AFTER
  ⟨0x2000, 1, 0x24, 2, 0, 1, 0, 0, 0, 0, 255, [0]⟩,  -- WAKE_CAUSE
  ⟨0x2000, 1, 0x25, 4, 0, 1, 1, 7, 0, 10, 1000000, [1000]⟩,  -- IDLE_ENTRY
  ⟨0x2000, 1, 0x26, 2, 0, 1, 2, 7, 0, 1, 2, [0]⟩,  -- RESET_REQUEST
  ⟨0x2000, 1, 0x27, 2, 0, 1, 0, 0, 0, 0, 255, [0]⟩,  -- LAST_RESET
  ⟨0x2000, 1, 0x28, 2, 0, 1, 0, 0, 0, 0, 255, [8]⟩,  -- START_PHASE
  ⟨0x2000, 1, 0x29, 4, 0, 1, 0, 0, 0, 0, 4294967295, [2600]⟩   -- START_TIME
]

/-- Every object of the dictionary (R473). -/
def objRows : List ObjRow :=
  objs02 ++ objs03 ++ objs04 ++ objs05 ++ objs06 ++ objs07 ++ objs08 ++ objs09 ++ objs09a ++ objs10 ++ objs11 ++ objs11a ++ objs12 ++ objs12a ++ objs13 ++ objs13a ++ objs14 ++ objs14a ++ objs15 ++ objs16 ++ objs16a ++ objs17

/-- The row that serves an index and sub-index. -/
def objFind (idx sub : Nat) : Option ObjRow :=
  objRows.find? fun r => r.sub == sub && decide (r.base ≤ idx) && decide (idx < r.base + r.count)

/-- The key of an element of an object in the dictionary of values. -/
def objKey (idx sub elem : Nat) : Nat := idx * 65536 + sub * 256 + elem

/-- The default of an element (R459). The I/O tugs' USE and a logical core's PHYS_CORE differ by index (R135, R423). -/
def objDefault (idx sub elem : Nat) : Nat :=
  if idx / 8 = 0x8210 / 8 ∧ sub = 1 then (if idx < 0x8214 then 3 else if idx < 0x8216 then 1 else 0)
  else match objFind idx sub with
    | some r => r.dflt.getD elem (r.dflt.getLastD 0)
    | none => 0

/-- The value of an element of an object. -/
def Dev.objAt (d : Dev) (idx sub elem : Nat) : Nat := (tblFind d.objs (objKey idx sub elem)).getD (objDefault idx sub elem)

/-- The value of a simple object. -/
def Dev.obj (d : Dev) (idx sub : Nat) : Nat := d.objAt idx sub 0

/-- The device with one element of an object written. -/
def Dev.setObjAt (d : Dev) (idx sub elem v : Nat) : Dev := { d with objs := tblSet d.objs (objKey idx sub elem) v }

/-- The device with a simple object written. -/
def Dev.setObj (d : Dev) (idx sub v : Nat) : Dev := d.setObjAt idx sub 0 v

/-- A counter of the dictionary increased by `n`, stopping at 2^64 − 1. -/
def Dev.bump (d : Dev) (idx sub n : Nat) : Dev := if n = 0 then d else d.setObj idx sub (satAdd (d.obj idx sub) n)

/-- An element of an array counter increased by `n`. -/
def Dev.bumpAt (d : Dev) (idx sub elem n : Nat) : Dev :=
  if n = 0 then d else d.setObjAt idx sub elem (satAdd (d.objAt idx sub elem) n)

/-- The bytes of a BLOB object written since reset; none where it still has its default. -/
def Dev.blob (d : Dev) (idx sub : Nat) : Option (List Byte) := tblFind d.blobs (objKey idx sub 0)

/-- The device with a BLOB object written. -/
def Dev.setBlob (d : Dev) (idx sub : Nat) (v : List Byte) : Dev := { d with blobs := tblSet d.blobs (objKey idx sub 0) v }

/-- Every value of an index back to its default (R459). -/
def Dev.clearIdx (d : Dev) (idx : Nat) : Dev :=
  { d with objs := d.objs.filter fun p => p.1 / 65536 != idx, blobs := d.blobs.filter fun p => p.1 / 65536 != idx }

end Sys2Proof.Machine
end

