-- ==== Sys2Proof/Machine/Ops.lean ====
section
/-! DEFINITION. The shared operations: how a meaning acts on the device, memory and poison marks (R203), the local address map
(R185, R187), access checks (R186, R198), the snoop filter (R191), free values, outputs and the passing of time. -/

namespace Sys2Proof.Machine

/-! ### How a meaning acts -/

/-- A command that acts on the device alone: it stops where it names a unit the KC9 does not have. -/
def onDev (ok : Bool) (f : Dev → Dev) (s : State) : Host.Outcome State Fault Refusal :=
  if ok then .next { s with dev := f s.dev } else .fault .noSuchUnit

/-- A command that also reads the fuses. -/
def onDevF (ok : Bool) (f : Fuses → Dev → Dev) (s : State) : Host.Outcome State Fault Refusal :=
  if ok then .next { s with dev := f s.fuses s.dev } else .fault .noSuchUnit

/-- A command that may burn fuses. -/
def onFuses (ok : Bool) (f : Fuses → Dev → Fuses × Dev) (s : State) : Host.Outcome State Fault Refusal :=
  if ok then .next { s with fuses := (f s.fuses s.dev).1, dev := (f s.fuses s.dev).2 } else .fault .noSuchUnit

/-! ### Status codes (R162, R352) -/

def stOK : Nat := 0x00
def stMalformed : Nat := 0x01
def stAddress : Nat := 0x02
def stSealed : Nat := 0x03
def stPoison : Nat := 0x04
def stPathLost : Nat := 0x05
def stAborted : Nat := 0x06
def stTimeout : Nat := 0x07
def stPoisoned : Nat := 0x08
def stMemberAbsent : Nat := 0x09
def stSuppressed : Nat := 0x0A
def stAbandoned : Nat := 0x0B
def stState : Nat := 0x10
def stConflict : Nat := 0x11
def stDenied : Nat := 0x12
def stOverrun : Nat := 0x13
def stWiped : Nat := 0x14
def stPreempted : Nat := 0x15
def stRetired : Nat := 0x16

/-! ### Time, outputs and free values -/

/-- Whether the harbour domain has power (R498): it has none in DEEP and OFF, after a trip or a brown-out, or without input power. -/
def Dev.powered (d : Dev) : Bool := d.pwr.offKind == 0 || d.pwr.offKind == 1 || d.pwr.offKind == 2 || d.pwr.offKind == 8

/-- A nanosecond of the timebase passes; a calendar that is set advances with it (R24, R427), and power-on time where the module has power. -/
def Dev.tick (d : Dev) : Dev :=
  { d with time := d.time + 1, calendar := if d.obj 0xB000 0x06 = 0 then d.calendar else d.calendar + 1,
           pwr := { d.pwr with onNs := if d.powered then d.pwr.onNs + 1 else d.pwr.onNs } }

/-- The module sends something. -/
def Dev.send (d : Dev) (o : Out) : Dev := { d with out := d.out ++ [o] }

/-- A counter of waiting cycles grows by a free amount: the spec gives no count of cycles. -/
def Dev.bumpFree (d : Dev) (idx sub : Nat) : Dev :=
  { d with fresh := d.fresh + 1 }.bump idx sub (Config.freeCount d.fresh)

/-- The next draw of the random generator (R430). -/
def Dev.draw (d : Dev) : List Byte × Dev := (Config.freeBytes d.fresh, { d with fresh := d.fresh + 1 })

/-- KCL's keys drawn anew, as a training of the link does (R444). -/
def Dev.newLinkKey (d : Dev) : Dev := { d with host := { d.host with linkKey := some d.fresh, flitsIn := 0, outMark := d.out.length }, fresh := d.fresh + 2 }

/-- The MCTP packets of a message of some bytes: units of 64 B over I3C and of 256 B over KCL, where each is one KCL message (R461, R462). -/
def mctpPackets (kcl : Bool) (len : Nat) : Nat := max 1 (ceilDiv len (if kcl then 256 else 64))

/-- The KCL messages of an output. -/
def Out.flits : Out → Nat
  | .kclReply _ _ _ | .recall _ | .devWrite _ _ _ _ | .devRead _ _ _ | .interrupt _ => 1
  | .manifest kcl _ _ data => if kcl then mctpPackets kcl (21 + data.length) else 0
  | .mctp kcl _ data | .pldm kcl _ data | .spdm kcl _ data => if kcl then mctpPackets kcl (1 + data.length) else 0
  | _ => 0

/-- The flits the module has sent since its keys were made: one for each message to the companion. -/
def Dev.flitsOut (d : Dev) : Nat := ((d.out.drop d.host.outMark).map Out.flits).sum

/-- Something the module does of its own comes at a free time, no later than a limit. -/
def Dev.within (d : Dev) (kind limit : Nat) : Dev :=
  { d with pwr := { d.pwr with due := some (kind, d.time + Config.freeCount d.fresh % (limit - d.time + 1)) }, fresh := d.fresh + 1 }

/-- The power state the module enters, before its isolation (R501), and that moment. -/
def Dev.entering (d : Dev) : Option (Nat × Nat) := d.pwr.due.filter fun p => decide (2 ≤ p.1) && decide (p.1 ≤ 4)

/-- An edge wake during an entry is kept for its end, or lost in the last 120 ns before isolation (R503). -/
def Dev.latchEdge (d : Dev) (cause : Nat) : Dev :=
  match d.entering with
  | some p => if d.time + 120 < p.2 then { d with pwr := { d.pwr with edge := some (d.pwr.edge.getD cause) } } else d
  | none => d

/-- A request of the companion arrives: its flit counts in its direction (R444), and during an entry to a power state it is an edge wake (R502, R503). A message is taken as one
flit: the spec gives no size of a flit (log 105). -/
def Dev.flitIn (d : Dev) : Dev := { d.latchEdge 4 with host := { d.host with flitsIn := d.host.flitsIn + 1 } }

/-- IDLE is left (R499). -/
def Dev.leaveIdle (d : Dev) : Dev :=
  let d := { d with pwr := { d.pwr with idleSince := none } }
  if d.obj 0x2000 0x20 = 1 then d.setObj 0x2000 0x20 0 else d

/-! ### Parts of the device -/

def Dev.ctx (d : Dev) (c : Nat) : Ctx := tblGet {} d.ctxs c
def Dev.setCtx (d : Dev) (c : Nat) (x : Ctx) : Dev := { d with ctxs := tblSet d.ctxs c x }
def Dev.modCtx (d : Dev) (c : Nat) (f : Ctx → Ctx) : Dev := d.setCtx c (f (d.ctx c))
def Dev.core (d : Dev) (c : CoreRef) : CoreSt := tblGet {} d.cmp.cores c.key
def Dev.setCore (d : Dev) (c : CoreRef) (x : CoreSt) : Dev := { d with cmp := { d.cmp with cores := tblSet d.cmp.cores c.key x } }
def Dev.modCore (d : Dev) (c : CoreRef) (f : CoreSt → CoreSt) : Dev := d.setCore c (f (d.core c))
def Dev.conv (d : Dev) (ctx n : Nat) : Option Conveyor := tblFind d.cmp.convs (4096 * ctx + n)
def Dev.setConv (d : Dev) (ctx n : Nat) (v : Conveyor) : Dev :=
  { d with cmp := { d.cmp with convs := tblSet d.cmp.convs (4096 * ctx + n) v } }
def Dev.bar (d : Dev) (ctx n : Nat) : Option Barrier := tblFind d.cmp.bars (1024 * ctx + n)
def Dev.setBar (d : Dev) (ctx n : Nat) (b : Barrier) : Dev :=
  { d with cmp := { d.cmp with bars := tblSet d.cmp.bars (1024 * ctx + n) b } }
def Dev.modBar (d : Dev) (ctx n : Nat) (f : Barrier → Barrier) : Dev := match d.bar ctx n with | some b => d.setBar ctx n (f b) | none => d
def Dev.group (d : Dev) (ctx n : Nat) : Option Group := tblFind d.cmp.groups (256 * ctx + n)
def Dev.setGroup (d : Dev) (ctx n : Nat) (g : Group) : Dev :=
  { d with cmp := { d.cmp with groups := tblSet d.cmp.groups (256 * ctx + n) g } }
def Dev.sset (d : Dev) (ctx n : Nat) : Option StateSet := tblFind d.cmp.sets (16 * ctx + n)
def Dev.setSset (d : Dev) (ctx n : Nat) (x : StateSet) : Dev :=
  { d with cmp := { d.cmp with sets := tblSet d.cmp.sets (16 * ctx + n) x } }
/-- The queue of cluster tug `t` of cluster `cl` (R128). -/
def Dev.tugQ (d : Dev) (cl t : Nat) : List TugItem := tblGet [] d.cmp.tugs (4 * cl + t)
def Dev.setTugQ (d : Dev) (cl t : Nat) (q : List TugItem) : Dev :=
  { d with cmp := { d.cmp with tugs := tblSet d.cmp.tugs (4 * cl + t) q } }
def Dev.region (d : Dev) (r : Nat) : Region := tblGet {} d.regions r
def Dev.session (d : Dev) (k : Nat) : Option Session := tblFind d.net.sessions k
def Dev.setSession (d : Dev) (k : Nat) (s : Session) : Dev := { d with net := { d.net with sessions := tblSet d.net.sessions k s } }

/-- The module's device number, its MID strap (R19). -/
def Dev.mid (d : Dev) : Nat := d.pwr.strapMid

/-- SAFE_STATE (R407). -/
def Dev.safe (d : Dev) : Bool := d.obj 0x4000 0x05 == 1

/-- The device number a context's own addresses and endpoints carry: the module's, or, for a standby that has taken over, that of the
module it stands for (R335). -/
def Dev.midOf (d : Dev) (ctx : Nat) : Nat := (d.ctx ctx).asMid.getD d.mid

/-- The basin number of the berth plan (R266), bits [74:64] of its header; the default plan has 0. -/
def Dev.basinNumber (d : Dev) : Nat :=
  match d.blob 0x3000 0x01 with
  | some plan => leNat (slice plan 8 2) % 2048
  | none => 0

/-- DEVICE_RANK: BASIN_NUMBER × 8 + MID (R245). -/
def Dev.rank (d : Dev) : Nat := d.basinNumber * 8 + d.mid

/-! ### Memory -/

/-- The bytes of sorted cells from an address on, 0 where none is listed (R453). -/
def denseGo : Nat → Nat → List Host.Cell → List Byte
  | 0, _, _ => []
  | n + 1, a, [] => 0#8 :: denseGo n (a + 1) []
  | n + 1, a, (k, b) :: cs => if k = a then b :: denseGo n (a + 1) cs else 0#8 :: denseGo n (a + 1) ((k, b) :: cs)

/-- The `n` bytes of memory from address `a`. -/
def memRead (cells : List Host.Cell) (a n : Nat) : List Byte :=
  denseGo n a (cells.filter fun c => decide (a ≤ c.1) && decide (c.1 < a + n))

/-- The cells of a byte string: bytes of 0 are not listed. -/
def sparse (a : Nat) : List Byte → List Host.Cell
  | [] => []
  | b :: bs => if b = 0#8 then sparse (a + 1) bs else (a, b) :: sparse (a + 1) bs

/-- Memory with a byte string written. -/
def memWrite (cells : List Host.Cell) (a : Nat) (bs : List Byte) : List Host.Cell :=
  (cells.filter fun c => decide (c.1 < a)) ++ sparse a bs ++ (cells.filter fun c => decide (a + bs.length ≤ c.1))

/-- Memory with a range zeroed. -/
def memZero (cells : List Host.Cell) (a n : Nat) : List Host.Cell :=
  cells.filter fun c => decide (c.1 < a) || decide (a + n ≤ c.1)

/-- Memory with the `n` bytes from address `a` on replaced by cells given by offset. -/
def memPut (cells : List Host.Cell) (a n : Nat) (new : List Host.Cell) : List Host.Cell :=
  new.foldl (fun m c => if c.1 < n then memWrite m (a + c.1) [c.2] else m) (memZero cells a n)

/-- The canonical form: addresses strictly rising, no byte of 0 listed. -/
def memWf : List Host.Cell → Bool
  | [] => true
  | [c] => c.2 != 0#8
  | c :: c' :: cs => c.2 != 0#8 && decide (c.1 < c'.1) && memWf (c' :: cs)

/-! ### The local address map (R185) -/

/-- NEAR_SIZE_ACTIVE (R204). -/
def Dev.nearSize (d : Dev) : Nat := d.obj 0x8000 0x03
/-- Where the spread part ends (R179). -/
def Dev.spreadEnd (d : Dev) : Nat := 2 ^ 41 - 4 * d.nearSize

/-- What stands at a local address. -/
inductive Place where
  | hbm
  | quay (cl : Nat)
  | hold (c : CoreRef)
  | control
  | unmapped
deriving DecidableEq, Repr

/-- The place of an address, and where the mapped part that holds it ends. -/
def Dev.place (d : Dev) (a : Nat) : Place × Nat :=
  if a < d.spreadEnd then (.hbm, d.spreadEnd)
  else if 0x020000000000 ≤ a ∧ a < 0x040000000000 then
    let w := (a - 0x020000000000) / 0x008000000000
    let e := 0x020000000000 + w * 0x008000000000 + d.nearSize
    if a < e then (.hbm, e) else (.unmapped, a)
  else if 0x040000000000 ≤ a ∧ a < 0x040000000000 + 8 * 0x4000000 then
    let w := (a - 0x040000000000) / 0x4000000
    let e := 0x040000000000 + w * 0x4000000 + 50331648
    if a < e then (.quay w, e) else (.unmapped, a)
  else if 0x050000000000 ≤ a ∧ a < 0x050000000000 + 128 * 0x800000 then
    let w := (a - 0x050000000000) / 0x800000
    let e := 0x050000000000 + w * 0x800000 + 6291456
    if a < e ∧ w % 16 < 11 then (.hold ⟨w / 16, w % 16⟩, e) else (.unmapped, a)
  else if 0x060000000000 ≤ a ∧ a < 0x060001000000 then (.control, 0x060001000000)
  else (.unmapped, a)

/-- HOLD_SIZE (R478). -/
def holdSize : Nat := 6291456
/-- The window of a core's hold (R185). -/
def holdBase (c : CoreRef) : Nat := 0x050000000000 + (16 * c.cl + c.k) * 0x800000
/-- The window of a cluster's quay (R185). -/
def quayBase (cl : Nat) : Nat := 0x040000000000 + cl * 0x4000000

/-- EVAL_SLOT of a cluster (R339). -/
def Dev.evalSlot (d : Dev) (cl : Nat) : Nat := d.obj (0xA600 + cl) 1

/-- The logical core behind a core name: the evaluation slot that reserves core `j` is core `j` (R327). -/
def Dev.realCore (d : Dev) (c : CoreRef) : CoreRef := if c.k = 10 ∧ d.evalSlot c.cl ≤ 9 then ⟨c.cl, d.evalSlot c.cl⟩ else c

/-- The physical core a logical core is bound to; 0xFF for none (R16, R420). Slot 10 is bound to the spare it borrows (R86). -/
def Dev.phys (d : Dev) (c : CoreRef) : Nat :=
  let c := d.realCore c
  if c.k = 10 then (if d.evalSlot c.cl = 10 then d.obj (0xA600 + c.cl) 2 else 0xFF) else tblGet c.k d.cmp.bound c.key

/-- The address a hold byte is kept under: the window of the slot that reserves a core is that core's hold (R327). -/
def Dev.canon (d : Dev) (a : Nat) : Nat :=
  match (d.place a).1 with
  | .hold c => a - holdBase c + holdBase (d.realCore c)
  | _ => a

/-- The bytes of memory at a local address. -/
def Dev.read (d : Dev) (a n : Nat) : List Byte := memRead d.mem (d.canon a) n

/-- Whether a range touches a poisoned line (R203). -/
def Dev.poisonIn (d : Dev) (a n : Nat) : Bool :=
  let a := d.canon a
  n != 0 && d.poison.any fun l => decide (l * 64 < a + n) && decide (a < l * 64 + 64)

/-- A sorted insertion without repeats. -/
def insertNat (n : Nat) : List Nat → List Nat
  | [] => [n]
  | k :: ks => if n < k then n :: k :: ks else if k = n then k :: ks else k :: insertNat n ks

/-- The marks after a write: marked data marks every line it touches; unmarked data clears the lines it covers whole (R203). -/
def markLines (ls : List Nat) (a n : Nat) (bad : Bool) : List Nat :=
  if n = 0 then ls
  else if bad then (List.range ((a + n - 1) / 64 - a / 64 + 1)).foldl (fun acc i => insertNat (a / 64 + i) acc) ls
  else ls.filter fun l => !(decide (a ≤ l * 64) && decide (l * 64 + 64 ≤ a + n))

/-- The granules of 64 KiB of a bank a write touches, numbered bank × 2^32 + granule (R330). -/
def dirtyGranules (bank base size a n : Nat) : List Nat :=
  if n = 0 then []
  else
    let lo := max a base
    let hi := min (a + n) (base + size)
    if lo < hi then (List.range ((hi - 1 - base) / 65536 - (lo - base) / 65536 + 1)).map fun i => bank * 2 ^ 32 + (lo - base) / 65536 + i
    else []

/-- The mirrored sets after a write into their banks (R330). -/
def markDirty (sets : Tbl StateSet) (a n : Nat) : Tbl StateSet :=
  sets.map fun p =>
    let x := p.2
    if x.mirror && !x.teacher && !x.copy then
      (p.1, { x with dirty := (dirtyGranules 0 x.bank0 x.size a n ++ dirtyGranules 1 x.bank1 x.size a n).foldl (fun l g => insertNat g l) x.dirty })
    else p

/-- The snoop filter after a recall of the shared lines of a range, with the RECALLs sent (R191). -/
def Dev.recallShared (d : Dev) (a n : Nat) : Dev :=
  let hit := fun (p : Nat × Snoop) => decide (p.1 * 64 < a + n) && decide (a < p.1 * 64 + 64) && p.2 == .shared
  { d with host := { d.host with snoop := d.host.snoop.filter fun p => !(hit p) },
           out := d.out ++ (d.host.snoop.filter hit).map fun p => Out.recall p.1 }

/-- Whether the companion owns a line of a range (R191): an access waits for its WRITEBACK. -/
def Dev.ownedIn (d : Dev) (a n : Nat) : Bool :=
  let a := d.canon a
  n != 0 && d.host.snoop.any fun p => p.2 != .shared && decide (p.1 * 64 < a + n) && decide (a < p.1 * 64 + 64)

/-- RECALLs of the owned lines of a range, one for each line. -/
def Dev.recallOwned (d : Dev) (a n : Nat) : Dev :=
  let a := d.canon a
  let hit := fun (p : Nat × Snoop) => p.2 == .owned && decide (p.1 * 64 < a + n) && decide (a < p.1 * 64 + 64)
  { d with host := { d.host with snoop := d.host.snoop.map fun p => if hit p then (p.1, .recalled) else p },
           out := d.out ++ (d.host.snoop.filter hit).map fun p => Out.recall p.1 }

/-- The granules that writes have filled, after a write of a range: one into an unfilled granule waits while the module fills it (R453). -/
def Dev.filledBy (d : Dev) (a n : Nat) : List Nat :=
  if d.sec.wiping && n != 0 && (d.place a).1 == .hbm then
    (List.range ((a + n - 1) / 4096 - a / 4096 + 1)).foldl (fun l i => insertNat (a / 4096 + i) l) d.cmp.filled
  else d.cmp.filled

/-- The fill map (R453): whether the granule of an address of HBM is unfilled. Its bytes read as zero, of which memory lists none. -/
def Dev.unfilled (d : Dev) (a : Nat) : Bool :=
  d.sec.wiping && (d.place a).1 == .hbm && !(d.cmp.filled.contains (d.canon a / 4096)) &&
    decide (d.time < d.sec.fillSince + Config.fillTime d.sec.fillSince (d.canon a / 4096) % 200000001)

/-- A write of bytes at a local address, marked poisoned or not. -/
def Dev.write (d : Dev) (a : Nat) (bs : List Byte) (bad : Bool) : Dev :=
  let a := d.canon a
  { d.recallShared a bs.length with
    mem := memWrite d.mem a bs
    poison := markLines d.poison a bs.length bad
    cmp := { d.cmp with sets := markDirty d.cmp.sets a bs.length, filled := d.filledBy a bs.length } }

/-- A record the module writes: at once, or when the companion has given back the lines it owns of the place (R191). -/
def Dev.putRecord (d : Dev) (a : Nat) (bs : List Byte) : Dev :=
  if d.ownedIn a bs.length then { d.recallOwned a bs.length with host := { (d.recallOwned a bs.length).host with late := d.host.late ++ [(a, bs)] } }
  else d.write a bs false

/-- Records whose lines have come back are written, in the order in which they were made. -/
def Dev.lateRecords (d : Dev) : Dev :=
  d.host.late.foldl (fun d r => d.putRecord r.1 r.2) { d with host := { d.host with late := [] } }

/-! ### Requests to the companion (R190) -/

/-- The parts of a range that lie in one aligned block of `k` bytes each, as offsets and lengths. -/
def blockParts (k a n : Nat) : List (Nat × Nat) :=
  if n = 0 then []
  else (List.range ((a + n - 1) / k - a / k + 1)).map fun i =>
    let lo := max a (k * (a / k + i))
    let hi := min (a + n) (k * (a / k + i) + k)
    (lo - a, hi - lo)

/-- The DEV_READs of a range of companion memory, one for each block of 256 B. -/
def Dev.devReads (d : Dev) (ctx a n : Nat) : Dev := { d with out := d.out ++ (blockParts 256 a n).map fun p => Out.devRead ctx (a + p.1) p.2 }

/-- The DEV_WRITEs of a range of companion memory, one for each block of 256 B, with the mark of each line; `bad` tells whether bytes at an offset are
marked. -/
def Dev.devWrites (d : Dev) (ctx a : Nat) (bs : List Byte) (bad : Nat → Nat → Bool) : Dev :=
  { d with out := d.out ++ (blockParts 256 a bs.length).map fun p =>
      Out.devWrite ctx (a + p.1) (slice bs p.1 p.2) ((blockParts 64 (a + p.1) p.2).map fun q => bad (p.1 + q.1) q.2) }

/-! ### Whole holds (R356, R418) -/

/-- The bytes and marks of a core's hold, by hold offset, the marks as numbers of lines. -/
def Dev.holdCells (d : Dev) (c : CoreRef) : List Host.Cell :=
  let b := holdBase (d.realCore c)
  (d.mem.filter fun p => decide (b ≤ p.1) && decide (p.1 < b + holdSize)).map fun p => (p.1 - b, p.2)
def Dev.holdMarks (d : Dev) (c : CoreRef) : List Nat :=
  let b := holdBase (d.realCore c) / 64
  (d.poison.filter fun l => decide (b ≤ l) && decide (l < b + holdSize / 64)).map fun l => l - b

/-- The companion's copies of a range are no longer recorded, with a RECALL for each. -/
def Dev.dropLines (d : Dev) (a n : Nat) : Dev :=
  let hit := fun (p : Nat × Snoop) => decide (p.1 * 64 < a + n) && decide (a < p.1 * 64 + 64)
  { d with host := { d.host with snoop := d.host.snoop.filter fun p => !(hit p) },
           out := d.out ++ (d.host.snoop.filter fun p => hit p && p.2 != .recalled).map fun p => Out.recall p.1 }

/-- Whether the companion owns a line of the holds of some cores, which it can give back (R191). -/
def Dev.holdsOwned (d : Dev) (keys : List Nat) : Bool := d.host.linkUp && keys.any fun k => d.ownedIn (holdBase (d.realCore (CoreRef.ofKey k))) holdSize

/-- Those lines recalled. -/
def Dev.recallHolds (d : Dev) (keys : List Nat) : Dev := keys.foldl (fun d k => d.recallOwned (holdBase (d.realCore (CoreRef.ofKey k))) holdSize) d

/-- A core's hold replaced whole; the companion's copies of its lines go first (R191). -/
def Dev.putHold (d : Dev) (c : CoreRef) (cells : List Host.Cell) (marks : List Nat) : Dev :=
  let b := holdBase (d.realCore c)
  let d := d.dropLines b holdSize
  { d with mem := memPut d.mem b holdSize cells,
           poison := marks.foldl (fun ls l => insertNat (l + b / 64) ls) (d.poison.filter fun l => decide (l < b / 64) || decide (b / 64 + holdSize / 64 ≤ l)) }

/-! ### Access checks (R186, R198) -/

/-- Who makes an access. -/
inductive Requester where
  | ctx (c : Nat)
  | firmware
  | companion
  | peer
deriving DecidableEq, Repr

def attrShare (a : Nat) : Bool := bit a 0
def attrSealCompanion (a : Nat) : Bool := bit a 1
def attrSealPeer (a : Nat) : Bool := bit a 2
def attrFrozen (a : Nat) : Bool := bit a 3

/-- The enabled region that holds an address. -/
def Dev.regionAt (d : Dev) (a : Nat) : Option Region :=
  (d.regions.find? fun p => p.2.enabled && decide (p.2.base ≤ a) && decide (a < p.2.base + p.2.size)).map Prod.snd

/-- The check of R198 on one region: none where the access is allowed, else ADDRESS or SEALED. FROZEN goes before the owner: DESIGN CHOICE, log 93. -/
def regionCheck (r : Region) (q : Requester) (write : Bool) : Option Nat :=
  if write && attrFrozen r.attr then some stSealed
  else match q with
    | .ctx c => if r.owner = c || attrShare r.attr then none else some stAddress
    | .firmware => none
    | .companion => if attrSealCompanion r.attr then some stSealed else none
    | .peer => if attrSealPeer r.attr || r.owner == 0xFF then some stSealed else none

/-- The check of one piece: the first refusal, or where the piece ends. -/
def Dev.pieceCheck (d : Dev) (q : Requester) (write : Bool) (a : Nat) : Nat ⊕ Nat :=
  match d.place a with
  | (.hbm, e) =>
    match d.regionAt a with
    | none => .inl stAddress
    | some r => match regionCheck r q write with
      | some st => .inl st
      | none => .inr (min e (r.base + r.size))
  | (.quay _, e) => if q = .companion ∧ d.obj 0x8000 0x05 = 0 then .inl stSealed else .inr e
  | (.hold c, e) =>
    if q = .companion ∧ d.obj 0x8000 0x05 = 0 then .inl stSealed
    else if d.phys c = 0xFF then .inl stAddress else .inr e
  | _ => .inl stAddress

/-- The check of a range, piece by piece: the first refusal and how many bytes precede it. -/
def Dev.accessGo (d : Dev) (q : Requester) (write : Bool) : Nat → Nat → Nat → Option Nat
  | 0, _, n => if n = 0 then none else some stAddress
  | fuel + 1, a, n =>
    if n = 0 then none
    else match d.pieceCheck q write a with
      | .inl st => some st
      | .inr e => if a + n ≤ e then none else d.accessGo q write fuel e (n - (e - a))

/-- None where every byte of a range may be accessed, else the status of the first that may not (R186, R198). -/
def Dev.access (d : Dev) (q : Requester) (write : Bool) (a n : Nat) : Option Nat :=
  d.accessGo q write (2 * d.regions.length + 16) a n

/-- SEALED refusals are counted (R198). -/
def Dev.refused (d : Dev) (st : Nat) : Dev := if st = stSealed then d.bump 0x8000 0x08 1 else d

/-- Whether a range lies in the mapped parts of the windows, as judged from the order alone (R186). -/
def Dev.mappedGo (d : Dev) : Nat → Nat → Nat → Bool
  | 0, _, n => n == 0
  | fuel + 1, a, n =>
    if n = 0 then true
    else match d.place a with
      | (.unmapped, _) => false
      | (.control, _) => false
      | (_, e) => if a + n ≤ e then true else d.mappedGo fuel e (n - (e - a))

def Dev.mapped (d : Dev) (a n : Nat) : Bool := d.mappedGo 8 a n

/-- Whether two ranges share a 64 B line (R159). -/
def linesMeet (a n b m : Nat) : Bool := n != 0 && m != 0 && decide (a / 64 ≤ (b + m - 1) / 64) && decide (b / 64 ≤ (a + n - 1) / 64)

end Sys2Proof.Machine
end

