-- ==== Sys2Proof/Machine/Ports.lean ====
section
/-! DEFINITION. The berth plan (R266 to R268), the ports and halves it gives a module (R238, R271) and the paths over them (R260). -/

namespace Sys2Proof.Machine

/-! ### The berth plan -/

/-- A port entry of the default plan of module `m` (R268): ROLE, SPLIT, A_MID, A_PORT, B_MID and B_PORT. -/
def defaultPortEntry (m p : Nat) : List Byte :=
  if p < 14 then
    [1#8, 0#8, BitVec.ofNat 8 ((m + p / 2 + 1) % 8), BitVec.ofNat 8 (2 * (6 - p / 2) + p % 2), 0xFF#8, 0xFF#8] ++ List.replicate 10 0#8
  else [2#8, 0#8, 0xFF#8, 0xFF#8, 0xFF#8, 0xFF#8] ++ List.replicate 10 0#8

/-- A route entry of the default plan of module `m` to module `n` (R267, R268). -/
def defaultRoute (m n : Nat) : List Byte :=
  if n = m then List.replicate 8 0#8
  else
    let j := (n + 7 - m) % 8
    [BitVec.ofNat 8 (0x40 + 2 * j), BitVec.ofNat 8 (0x40 + 2 * j + 1)] ++
      ((List.range 8).filter fun r => r != m && r != n).map fun r => BitVec.ofNat 8 (0x80 + r)

/-- The default plan of module `m` (R268): 416 bytes. -/
def defaultPlan (m : Nat) : List Byte :=
  List.replicate 32 0#8 ++ ((List.range 20).map (defaultPortEntry m)).flatten ++ ((List.range 8).map (defaultRoute m)).flatten

/-- BERTH_PLAN in force. -/
def Dev.plan (d : Dev) : List Byte := (d.blob 0x3000 0x01).getD (defaultPlan d.mid)

/-- A field of the plan's header. -/
def planBasinId (p : List Byte) : Nat := leNat (slice p 0 8)
def planBasin (p : List Byte) : Nat := leNat (slice p 8 2) % 2048
def planAccept (p : List Byte) : Bool := bit (leNat (slice p 10 1)) 0

/-- A port entry of the plan as a number (R267). -/
def planEntry (p : List Byte) (port : Nat) : Nat := leNat (slice p (32 + 16 * port) 16)
def entryRole (e : Nat) : Nat := field e 7 0
def entrySplit (e : Nat) : Bool := bit e 8
/-- The expected peer MID and port of the whole port or half A, or of half B. -/
def entryMid (e half : Nat) : Nat := if half = 1 then field e 39 32 else field e 23 16
def entryPort (e half : Nat) : Nat := if half = 1 then field e 47 40 else field e 31 24

/-- Byte `i` of the route entry for a MID (R267). -/
def planRoute (p : List Byte) (mid i : Nat) : Nat := leNat (slice p (352 + 8 * mid + i) 1)

/-! ### Ports and paths -/

/-- The role of a port's half: a split basin port may have a roadstead half, which names no MID (R267). -/
def halfRole (e half : Nat) : Nat := if entryRole e = 1 ∧ entrySplit e ∧ entryMid e half = 0xFF then 2 else entryRole e

/-- The state of a port or half (R271). A port the plan gives no role is DISABLED. -/
def Dev.half (d : Dev) (port half : Nat) : PortHalf :=
  match tblFind d.net.halves (2 * port + half) with
  | some h => h
  | none =>
    let e := planEntry d.plan port
    if entryRole e = 0 ∨ (half = 1 ∧ entrySplit e = false) then { state := 0 } else {}

def Dev.setHalf (d : Dev) (port half : Nat) (h : PortHalf) : Dev :=
  { d with net := { d.net with halves := tblSet d.net.halves (2 * port + half) h } }
def Dev.portSt (d : Dev) (port : Nat) : PortSt := tblGet {} d.net.ports port
def Dev.setPort (d : Dev) (port : Nat) (x : PortSt) : Dev := { d with net := { d.net with ports := tblSet d.net.ports port x } }

/-- Whether a port runs as two halves (R238), and the half that stands for a lane's half on it. -/
def Dev.splitPort (d : Dev) (port : Nat) : Bool := entrySplit (planEntry d.plan port)
def Dev.unit (d : Dev) (port half : Nat) : Nat := if d.splitPort port then half else 0

/-- The role the plan gives a port or half. -/
def Dev.role (d : Dev) (port half : Nat) : Nat := halfRole (planEntry d.plan port) half

/-- USE of a port (R270). -/
def Dev.portUse (d : Dev) (port : Nat) : Nat := d.obj (0x3010 + port) 3

/-- Whether a port or half takes new packets of a use: PLANNED, no loss detected (R261), no planned retrain (R240). -/
def Dev.halfUp (d : Dev) (port half use : Nat) : Bool :=
  (d.portSt port).draining.isNone && (d.half port half).state == 4 && (d.half port half).lossAt.isNone && d.portUse port == use

/-- Whether a port takes new packets, on its whole or either half. -/
def Dev.portUp (d : Dev) (port : Nat) : Bool := d.halfUp port 0 (d.portUse port) || d.halfUp port 1 (d.portUse port)

def Dev.pathSt (d : Dev) (rank path : Nat) : PathSt := tblGet {} d.net.paths (8 * rank + path)
def Dev.setPath (d : Dev) (rank path : Nat) (x : PathSt) : Dev :=
  { d with net := { d.net with paths := tblSet d.net.paths (8 * rank + path) x } }

/-- The port or half, as twice the port plus the half, by which a port leads to a basin member while it is up for a use: each half of a split port has
its own peer (R238). -/
def Dev.towards (d : Dev) (port mid use : Nat) : Option Nat :=
  ([0, 1].find? fun h => d.halfUp port h use && d.role port h == 1 && (!(d.splitPort port) || entryMid (planEntry d.plan port) h == mid)).map fun h => 2 * port + h

/-- The first port or half of a direct path to a MID that is up for a use, if any (R260, R270). -/
def Dev.directUnit (d : Dev) (mid use : Nat) : Option Nat :=
  ((List.range 8).map fun i => planRoute d.plan mid i).findSome? fun b => if b / 64 = 1 then d.towards (b % 32) mid use else none

/-- Whether the neighbour of a MID shares this module's plan: relays through it are used only then (R272). -/
def Dev.hashAgrees (d : Dev) (mid : Nat) : Bool :=
  d.net.halves.all fun p => p.2.state != 4 || p.2.peerRank % 8 != mid || p.2.hashSame

/-- Whether a rank is in this module's basin (R245). -/
def Dev.inBasin (d : Dev) (rank : Nat) : Bool := rank / 8 == d.basinNumber

/-- The half by which a port is ADMITTED to a neighbour of a rank, for general use (R270, R273). -/
def Dev.admittedTo (d : Dev) (port rank use : Nat) : Option Nat :=
  ([0, 1].find? fun h => (d.half port h).state == 7 && (d.half port h).peerRank == rank && (d.half port h).lossAt.isNone && (d.portSt port).draining.isNone && d.portUse port == use).map
    fun h => 2 * port + h

/-- The port or half a path leaves by when it is up (R260): a direct port, the first up port to a relay, or roadstead port 14 + k; path 6 is
the basin port ADMITTED to a foreign neighbour. No path has another number. -/
def Dev.pathUnit (d : Dev) (rank path use : Nat) : Option Nat :=
  if 8 ≤ path ∨ (d.pathSt rank path).down = true then none
  else if d.inBasin rank then
    let b := planRoute d.plan (rank % 8) path
    if b / 64 = 1 then d.towards (b % 32) (rank % 8) use
    else if b / 64 = 2 && d.hashAgrees (b % 8) then d.directUnit (b % 8) use else none
  else if path < 6 then
    match [0, 1].find? fun h => d.halfUp (14 + path) h use && d.role (14 + path) h == 2 with
    | some h => some (2 * (14 + path) + h)
    | none => if d.role (14 + path) 0 = 2 then d.admittedTo (14 + path) rank use else none
  else if path = 6 then (List.range 20).findSome? fun p => if d.role p 0 = 1 then d.admittedTo p rank use else none
  else none

/-- The paths to a rank that are up. -/
def Dev.upPaths (d : Dev) (rank use : Nat) : List Nat := (List.range 8).filter fun i => (d.pathUnit rank i use).isSome

/-- Whether a rank can be reached. -/
def Dev.reachable (d : Dev) (rank : Nat) : Bool := d.upPaths rank 0 != []

/-- The device as if no loss of light were under observation and no planned retrain under way: its paths declared down alone are down. -/
def Dev.steady (d : Dev) : Dev :=
  { d with net := { d.net with halves := d.net.halves.map fun (p : Nat × PortHalf) => (p.1, { p.2 with lossAt := none }),
                               ports := d.net.ports.map fun (p : Nat × PortSt) => (p.1, { p.2 with draining := none }) } }

/-- The next-hop MAC of a roadstead port (R244): the one written, else the one learned; 0 where there is none. -/
def Dev.nextHop (d : Dev) (port : Nat) : Nat := if d.obj (0x3010 + port) 9 = 0 then (d.portSt port).learned else d.obj (0x3010 + port) 9

end Sys2Proof.Machine
end

