-- ==== Sys2Proof/Machine/Queues.lean ====
section
/-! DEFINITION. What leaves a port (R241 to R244, R258, R259): the frame built around a packet, the queues of the classes, and the order and
rate in which they leave. -/

namespace Sys2Proof.Machine

/-! ### The frame around a packet -/

/-- A module's entry of the roadstead directory (R243), zeros where it has none. -/
def Dev.roadEntry (d : Dev) (rank : Nat) : List Byte :=
  let base := d.obj 0x3000 4
  if base ≠ 0 ∧ rank < d.obj 0x3000 5 ∧ (d.access .firmware false (base + 16 * rank) 16).isNone then d.read (base + 16 * rank) 16 else List.replicate 16 0#8

/-- The roadstead addresses a session to a rank works with, as they stand when it opens: the peer's and this module's. -/
def Dev.roadPair (d : Dev) (rank : Nat) : List Byte := d.roadEntry rank ++ d.roadEntry d.rank

/-- The MAC address of a port's or half's neighbour (R238): the source of its last LLDP frame; the all-nodes address before one has come. -/
def Dev.peerMac (d : Dev) (port half : Nat) : Nat := (d.half port half).mac.getD 0x333300000001

/-- The link-local address of a port's neighbour, all nodes' before its MAC address is known. -/
def Dev.peerLocal (d : Dev) (port half : Nat) : List Byte :=
  match (d.half port half).mac with | some m => linkLocal m | none => [0xFF#8, 2#8] ++ List.replicate 13 0#8 ++ [1#8]

/-- The MAC address to which a port or half sends its frames: a roadstead port's next hop (R244), else its neighbour. -/
def Dev.frameTo (d : Dev) (port half : Nat) : Nat := if d.role port half = 2 then d.nextHop port else d.peerMac port half

/-- The frame around a packet that leaves by a port or half (R241 to R244): link-local addresses on a basin port, those of the roadstead
directory elsewhere; DSCP and PCP of its class (R258), and ECT(0), or the CE mark a packet in transit came with (R259). -/
def Dev.wireFor (d : Dev) (unit : Nat) (p : Packet) (road : List Byte) (key : Option (List Byte)) : Wire :=
  let port := unit / 2
  let mine := (Config.macBase + port) % 2 ^ 48
  let dscp := d.objAt 0x3000 8 p.cls % 64
  let tos := 4 * dscp + (if p.ce then 3 else 2)
  let vlan := if d.obj 0x3000 9 = 0xFFFF then none else some (dscp / 8 * 2 ^ 13 + d.obj 0x3000 9)
  if d.role port (unit % 2) = 1 ∧ (d.half port (unit % 2)).state ≠ 7 then
    { dstMac := d.peerMac port (unit % 2), srcMac := mine, vlan := vlan, src := linkLocal mine, dst := d.peerLocal port (unit % 2), tos := tos, udp := d.obj 0x3000 6, key := key }
  else
    { dstMac := d.frameTo port (unit % 2), srcMac := mine, vlan := vlan,
      src := roadAddress (road.drop 16) (port - 14), dst := roadAddress road (if p.path < 6 then p.path else 0), tos := tos, udp := d.obj 0x3000 6, key := key }

/-! ### Queues (R254, R258) -/

def Dev.queue (d : Dev) (unit : Nat) : PortQ := tblGet {} d.net.queues unit
def Dev.setQueue (d : Dev) (unit : Nat) (q : PortQ) : Dev := { d with net := { d.net with queues := tblSet d.net.queues unit q } }

/-- The packets of a class that wait at a port. -/
def PortQ.classQ (q : PortQ) (c : Nat) : List QPkt := if c = 3 then q.ctl else tblGet [] q.rest c
def PortQ.setClass (q : PortQ) (c : Nat) (es : List QPkt) : PortQ := if c = 3 then { q with ctl := es } else { q with rest := tblSet q.rest c es }
def PortQ.waiting (q : PortQ) : List QPkt := q.ctl ++ (q.rest.map Prod.snd).flatten

/-- A packet joins the queue of its class; a retransmission stands ahead of new packets. -/
def PortQ.join (q : PortQ) (e : QPkt) (again : Bool) : PortQ :=
  let es := q.classQ e.pkt.cls
  let old := es.takeWhile fun x => x.own.isSome && x.pkt.tries != 0
  q.setClass e.pkt.cls (if again then old ++ e :: es.drop old.length else es ++ [e])

/-- Bytes a port or half sends in a nanosecond: 200 at 1.6 Tb/s, 100 on one half (R236, R239). -/
def Dev.lineRate (d : Dev) (unit : Nat) : Nat := if d.splitPort (unit / 2) ∨ d.obj (0x3010 + unit / 2) 2 ≠ 3 then 100 else 200

/-- The time a packet takes on the wire of a port or half, in 1/200 ns. -/
def Dev.wireTime (d : Dev) (unit : Nat) (e : QPkt) : Nat := frameCost e.pkt e.wire * (200 / d.lineRate unit)

/-- Whether a session is one of a gang context that a quarantine keeps silent (R333, R405). -/
def Dev.silent (d : Dev) (s : Session) : Bool := match s.ctx with | some c => (d.ctx c).heldByHost | none => false

/-- Whether a packet may leave now: its session is not silent, and the rate limit of its path lets it go (R259, R405). -/
def Dev.mayLeave (d : Dev) (e : QPkt) : Bool :=
  e.own.isNone || (!(match e.own.bind fun o => d.session o.1 with | some s => d.silent s | none => false) && decide ((d.pathSt e.pkt.dst e.pkt.path).freeAt < 200 * (d.time + 1)))

/-- Deficit round robin over the request, response and collective classes with equal weights: the packet that leaves next, and the queues
without it. A class that is visited is given the bytes of the longest frame. -/
def drr (ok : QPkt → Bool) : Nat → PortQ → Option (QPkt × PortQ)
  | 0, _ => none
  | fuel + 1, q =>
    let next := fun (q : PortQ) => { q with turn := (q.turn + 1) % 3, deficit := tblSet q.deficit ((q.turn + 1) % 3) (tblGet 0 q.deficit ((q.turn + 1) % 3) + 4242) }
    match (q.classQ q.turn).find? ok with
    | none => drr ok fuel (next { q with deficit := tblSet q.deficit q.turn 0 })
    | some e =>
      let n := frameCost e.pkt e.wire
      if n ≤ tblGet 0 q.deficit q.turn then
        some (e, { q.setClass q.turn ((q.classQ q.turn).erase e) with deficit := tblSet q.deficit q.turn (tblGet 0 q.deficit q.turn - n) })
      else drr ok fuel (next q)

/-- The packet a port sends next: control first, as long as it takes no more than 5% of the rate in any 10 µs, then the other classes in turn. -/
def Dev.nextOut (d : Dev) (unit : Nat) (q : PortQ) : Option (QPkt × PortQ) :=
  let recent := q.ctlSent.filter fun x => decide (d.time < x.1 + 10000)
  let used := (recent.map Prod.snd).sum
  match q.ctl.find? d.mayLeave with
  | some e =>
    if used + frameCost e.pkt e.wire ≤ 500 * d.lineRate unit then
      some (e, { q with ctl := q.ctl.erase e, ctlSent := recent ++ [(d.time, frameCost e.pkt e.wire)] })
    else drr d.mayLeave 4 q
  | none => drr d.mayLeave 4 q

/-- RTO of a path (R254, R280): the larger of RTO_MIN and three times its smoothed round-trip time. -/
def Dev.rtoMin (d : Dev) (rank : Nat) : Nat := if d.inBasin rank then d.obj 0x3100 2 else d.obj 0x3100 3
def Dev.rto (d : Dev) (rank path : Nat) : Nat := max (d.rtoMin rank) (3 * ((d.pathSt rank path).srtt.getD 0))

/-- What is kept of a DATA packet that leaves: when, and the RTO that holds for it. -/
def Dev.noteSent (d : Dev) (e : QPkt) : Dev :=
  match e.own with
  | none => d
  | some (key, cls) =>
    let x := d.pathSt e.pkt.dst e.pkt.path
    let d := d.setPath e.pkt.dst e.pkt.path { x with freeAt := max x.freeAt (200 * d.time) + ceilDiv (d.wireTime (2 * e.pkt.port + e.pkt.half) e * x.limit.2) x.limit.1 }
    match d.session key with
    | none => d
    | some s =>
      let t := tblGet {} s.tx cls
      let kept := t.kept.map fun k => if k.pkt.psn = e.pkt.psn ∧ k.path = e.pkt.path then { k with sentAt := some d.time, rto := d.rto e.pkt.dst e.pkt.path } else k
      d.setSession key { s with tx := tblSet s.tx cls { t with kept := kept } }

/-- Packets leave a port or half while it carries any (R271), its wire is free within this nanosecond and no loss is under observation (R261); each counts in TX_FRAMES (R278). -/
def Dev.portSends (unit : Nat) : Nat → Dev → Dev
  | 0, d => d
  | fuel + 1, d =>
    let q := d.queue unit
    if 200 * (d.time + 1) ≤ q.freeAt ∨ (d.half (unit / 2) (unit % 2)).lossAt.isSome ∨ [3, 4, 6, 7].contains (d.half (unit / 2) (unit % 2)).state = false then d
    else match d.nextOut unit q with
      | none => d
      | some (e, q') =>
        let d := d.setQueue unit { q' with freeAt := max q.freeAt (200 * d.time) + d.wireTime unit e }
        Dev.portSends unit fuel (((d.noteSent e).send (.packet e.pkt e.wire)).bump (0x3010 + unit / 2) 0x0F 1)

/-- A packet joins the queue of its class at a port or half, and leaves as soon as it may. -/
def Dev.enqueue (d : Dev) (unit : Nat) (e : QPkt) (again : Bool) : Dev :=
  let q := (d.queue unit).join e again
  Dev.portSends unit q.waiting.length (d.setQueue unit q)

/-- A packet of the module put on a port or half, whole or not (R241). -/
def Dev.emit (d : Dev) (unit : Nat) (p : Packet) (road : List Byte) (key : Option (List Byte)) : Dev :=
  let p := { p with port := unit / 2, half := unit % 2 }
  d.enqueue unit { pkt := p, wire := d.wireFor unit p road key } false

/-- Every port sends what it may. -/
def Dev.portsSend (d : Dev) : Dev := (tblKeys d.net.queues).foldl (fun d u => Dev.portSends u (d.queue u).waiting.length d) d

/-- What waits at a port or half is lost when it goes down. -/
def Dev.dropQueue (d : Dev) (unit : Nat) : Dev :=
  match tblFind d.net.queues unit with
  | some q => d.setQueue unit { freeAt := q.freeAt, ctlSent := q.ctlSent }
  | none => d

end Sys2Proof.Machine
end

