-- ==== Sys2Proof/Machine/Transport.lean ====
section
/-! DEFINITION. Sessions (R249), the transport buffer (R255) and the packets a module sends in a session (R241, R245, R252 to R254, R260). -/

namespace Sys2Proof.Machine

/-! ### Sessions -/

/-- The key of the session with a rank for a context, or of the device session, that is not closed (R249). -/
def Dev.sessionTo (d : Dev) (ctx : Option Nat) (rank : Nat) : Option Nat :=
  (d.net.sessions.find? fun p => p.2.ctx == ctx && p.2.peer == rank && p.2.state != 2).map Prod.fst

/-- Whether that session is OPEN. -/
def Dev.sessionOpen (d : Dev) (ctx : Option Nat) (rank : Nat) : Bool :=
  d.net.sessions.any fun p => p.2.ctx == ctx && p.2.peer == rank && p.2.state == 1

/-- The classes of R245. -/
def clReq : Nat := 0
def clResp : Nat := 1
def clColl : Nat := 2
def clCtl : Nat := 3

def Session.txc (s : Session) (c : Nat) : TxClass := tblGet {} s.tx c
def Session.rxc (s : Session) (c : Nat) : RxClass := tblGet {} s.rx c

/-- Whether packets of a class wait for room or for a path. -/
def TxClass.waiting (t : TxClass) : List TxPkt := t.kept.filter fun k => k.path == 8

/-- The packets of a class that are outstanding: sent and not acknowledged (R253). -/
def TxClass.outstanding (t : TxClass) : List TxPkt := t.kept.filter fun k => k.path != 8 || k.again

/-! ### The transport buffer (R17, R27, R255) -/

/-- 96 MiB. -/
def transportSize : Nat := 96 * 2 ^ 20

/-- The part of the buffer that the control class has to itself, so that it waits behind no other class there (R252), or that the other classes share: DESIGN
CHOICE (log 98). -/
def bufferPart (ctl : Bool) : Nat := if ctl then 8 * 2 ^ 20 else transportSize - 8 * 2 ^ 20

/-- What a packet takes of the transport buffer: its header and its payload. -/
def pktRoom (p : Packet) : Nat := 40 + p.payload.length

/-- The packets in the transport buffer: those sent and not acknowledged, accepted and not applied, held beyond a gap, in transit, and between two ranks on
this module (R335). -/
def Dev.buffered (d : Dev) : List Packet :=
  (d.net.sessions.map fun (p : Nat × Session) =>
    (p.2.tx.map fun (q : Nat × TxClass) => q.2.outstanding.map TxPkt.pkt).flatten ++ (p.2.rx.map fun (q : Nat × RxClass) => q.2.held ++ q.2.stalled).flatten).flatten ++
    (d.net.queues.map fun (p : Nat × PortQ) => (p.2.waiting.filter fun e => e.own.isNone).map QPkt.pkt).flatten ++ d.net.loop.map Prod.snd

/-- The bytes in use of a part of the buffer. -/
def Dev.bufferUsed (d : Dev) (ctl : Bool) : Nat := ((d.buffered.filter fun p => (p.cls == clCtl) == ctl).map pktRoom).sum

/-- Whether a packet of `n` payload bytes finds room in a part of the buffer. -/
def Dev.hasRoom (d : Dev) (ctl : Bool) (n : Nat) : Bool := decide (d.bufferUsed ctl + 40 + n ≤ bufferPart ctl)

/-- Whether a class may send one more packet of `n` bytes: the receive window and the transport buffer have room (R255). -/
def Dev.classRoom (d : Dev) (cls : Nat) (t : TxClass) (n : Nat) : Bool := decide (t.outstanding.length < t.window) && d.hasRoom (cls == clCtl) n

/-- The most a packet takes of a part of the buffer: packets of the control class carry no data (R247). -/
def Dev.pktMost (d : Dev) (ctl : Bool) : Nat := 40 + if ctl then 64 else d.obj 0x3000 0x07

/-- What the windows told to the peers of other session classes may still bring into a part of the buffer. -/
def Dev.promisedRoom (d : Dev) (ctl : Bool) (key cls : Nat) : Nat :=
  d.pktMost ctl * (d.net.sessions.map fun (p : Nat × Session) => (((List.range 4).filter fun c => (c == clCtl) == ctl && !(p.1 == key && c == cls)).map fun c =>
    (p.2.rxc c).promised).sum).sum

/-! ### The choice of a path (R254, R260) -/

/-- Whether a path can take packets now: it is up, and a roadstead port has a next hop (R244). -/
def Dev.outUnit (d : Dev) (rank path use : Nat) : Option Nat :=
  match d.pathUnit rank path use with
  | some u => if d.role (u / 2) (u % 2) = 2 ∧ d.nextHop (u / 2) = 0 then none else some u
  | none => none

/-- The paths to a rank that can take packets of a use, and that use: general ports where none is dedicated to it. -/
def Dev.outPaths (d : Dev) (rank use : Nat) : Nat × List Nat :=
  let out := fun (u : Nat) => (List.range 8).filter fun i => (d.outUnit rank i u).isSome
  if out use = [] then (0, out 0) else (use, out use)

/-- The rate a path is given: its limit as a part of the line rate of its port, in bytes per µs. -/
def Dev.pathRate (d : Dev) (rank path use : Nat) : Nat :=
  let l := (d.pathSt rank path).limit
  match d.outUnit rank path use with | some u => 1000 * d.lineRate u * l.1 / l.2 | none => 0

/-- The packets of a class that went by each of its paths, counted anew when a rate or the set of paths changes. -/
def sprayOf (old : List (Nat × Nat × Nat)) (rates : List (Nat × Nat)) : List (Nat × Nat × Nat) :=
  if (old.map fun (x : Nat × Nat × Nat) => (x.1, x.2.1)) = rates then old else rates.map fun x => (x.1, x.2, 0)

/-- The paths that have carried less than their part of the packets: the next one goes by any of them (R260). -/
def sprayDue (spray : List (Nat × Nat × Nat)) : List Nat :=
  let n := (spray.map fun (x : Nat × Nat × Nat) => x.2.2).sum
  let w := (spray.map fun (x : Nat × Nat × Nat) => x.2.1).sum
  (spray.filter fun x => decide (x.2.2 * w < (n + 1) * x.2.1)).map Prod.fst

/-- The path a new packet of a class takes among those that can, and the counts after it: free where several are due. -/
def Dev.pickPath (d : Dev) (t : TxClass) (rank use : Nat) (ups : List Nat) : Nat × TxClass × Dev :=
  match ups with
  | [] => (8, t, d)
  | [p] => (p, t, d)
  | p :: _ =>
    let spray := sprayOf t.spray (ups.map fun i => (i, d.pathRate rank i use))
    let due := sprayDue spray
    let i := nth p due (Config.freeCount d.fresh % due.length)
    (i, { t with spray := spray.map fun x => if x.1 = i then (x.1, x.2.1, x.2.2 + 1) else x }, { d with fresh := d.fresh + 1 })

/-- The path a packet is sent on again: the next that can after its last one. -/
def nextPath (last : Nat) (ups : List Nat) : Nat := match ups.find? fun p => decide (last < p) with | some p => p | none => ups.headD 8

/-! ### Sending (R245, R251, R252) -/

/-- The key of a session's sending direction (R441). -/
def Session.rxKey (s : Session) (p : Packet) : List Byte :=
  let ks := if p.epoch = s.epoch % 4 then s.keys else s.oldKeys
  if s.initiator then ks.drop 32 else ks.take 32
def Session.txKey (s : Session) : List Byte := if s.initiator then s.keys.take 32 else s.keys.drop 32

/-- A packet of a session put on a path. -/
def Dev.transmit (d : Dev) (s : Session) (path use : Nat) (p : Packet) : Dev :=
  match (if d.silent s then none else d.outUnit s.peer path use) with
  | none => d
  | some u => d.emit u { p with path := path } s.road (if p.enc then some s.txKey else none)

/-- A packet outside every session put on a path, with the roadstead addresses of the directory. -/
def Dev.transmitTo (d : Dev) (rank path : Nat) (p : Packet) : Dev :=
  match d.outUnit rank path 0 with
  | none => d
  | some u => d.emit u { p with path := path } (d.roadPair rank) none

/-- The first path to a rank in plan order that can take packets, 8 with none: an ACK and a handshake message go by it (R253). -/
def Dev.firstPath (d : Dev) (rank : Nat) : Nat := (d.outPaths rank 0).2.headD 8

/-- Whether a port or half carries traffic from a rank: PLANNED, or ADMITTED to that rank, which is of another basin, since
basin addresses never pass there (R271, R273). What comes in while a loss is under observation is
not carried: DEDUCED, log 100 (R261). -/
def Dev.carries (d : Dev) (p : Packet) : Bool :=
  let h := d.half p.port p.half
  (h.state == 4 || (h.state == 7 && h.peerRank == p.src && !(d.inBasin p.src))) && h.lossAt.isNone

/-- What a DATA packet carries. -/
structure Payload where
  cls : Nat
  op : Nat
  channel : Nat := 0
  addr : Nat := 0
  data : List Byte := []
  last : Bool := false
  poison : Bool := false
  use : Nat := 0
  origin : Option (Nat × Nat) := none
  refusal : Nat := 0
  before : Nat := 0
  shape : Nat := 0
  runBefore : Nat := 0
  runAfter : Nat := 0

/-- A waiting packet of a class goes out on a path with the next TXN, one sent before as a retransmission (R251, R254). -/
def Dev.placePkt (d : Dev) (key cls : Nat) (s : Session) (t : TxClass) (k : TxPkt) (path use : Nat) : Dev :=
  match d.outUnit s.peer path use with
  | none => d
  | some u =>
    let pkt := { k.pkt with session := s.theirs, tries := if k.again then min 255 (k.pkt.tries + 1) else k.pkt.tries, txn := s.txn, path := path, epoch := s.txEpoch % 4, port := u / 2, half := u % 2 }
    let kept := t.kept.map fun q => if q.pkt.psn = pkt.psn then { q with pkt := pkt, path := path, sentAt := none, again := true } else q
    let d := d.setSession key { s with tx := tblSet s.tx cls { t with kept := kept }, txn := s.txn + 1 }
    let d := if k.again then d.bump 0x3100 7 1 else d
    d.enqueue u { pkt := pkt, wire := d.wireFor u pkt s.road (some s.txKey), own := some (key, cls) } k.again

/-- The waiting packets of a class go out in PSN order while there are paths and, for new ones, room. In safe state no DATA leaves (R407), nor in a
quarantine that of a gang context (R405). -/
def Dev.pushGo (key cls : Nat) : Nat → Dev → Dev
  | 0, d => d
  | fuel + 1, d =>
    match d.session key with
    | none => d
    | some s =>
      let t := s.txc cls
      match t.waiting with
      | [] => d
      | k :: _ =>
        let out := d.outPaths s.peer k.use
        if s.state ≠ 1 ∨ d.safe ∨ d.silent s ∨ out.2 = [] ∨ (k.again = false ∧ d.classRoom cls t k.pkt.payload.length = false) then d
        else
          let x := if k.again then (nextPath k.pkt.path out.2, t, d) else d.pickPath t s.peer out.1 out.2
          Dev.pushGo key cls fuel (x.2.2.placePkt key cls s x.2.1 k x.1 out.1)

def Dev.pushClass (d : Dev) (key cls : Nat) : Dev :=
  match d.session key with
  | none => d
  | some s => Dev.pushGo key cls (s.txc cls).waiting.length d

/-- Every class of a session, and of all of them. -/
def Dev.pushSession (d : Dev) (key : Nat) : Dev := [clReq, clResp, clColl, clCtl].foldl (fun d c => d.pushClass key c) d
def Dev.pushAll (d : Dev) : Dev := (tblKeys d.net.sessions).foldl Dev.pushSession d

/-- A DATA packet sent in a session (R245, R252): the next PSN of its class, kept until an ACK covers it. Without room it waits, which BUFFER_WAITS
counts (R255); with no path up it is held (R263). -/
def Dev.sendData (d : Dev) (key : Nat) (b : Payload) : Dev :=
  match d.session key with
  | none => d
  | some s =>
    let t := s.txc b.cls
    let p : Packet := { typ := 0, cls := b.cls, poison := b.poison, last := b.last, op := b.op, channel := b.channel,
                        session := s.theirs, src := d.rank, dst := s.peer, psn := t.next, addr := b.addr, path := 8,
                        payload := b.data, refusal := b.refusal, before := b.before, shape := b.shape, runBefore := b.runBefore, runAfter := b.runAfter }
    let t' := { t with next := (t.next + 1) % 2 ^ 32, kept := t.kept ++ [{ pkt := p, path := 8, use := b.use, origin := b.origin }] }
    let d' := if d.classRoom b.cls t b.data.length then d else d.bumpFree 0x3100 0x0D
    let told := match b.origin with | some o => if b.op = 0x10 then [(t.next, o.1, o.2)] else [] | none => []
    (d'.setSession key { s with tx := tblSet s.tx b.cls t', unwritten := s.unwritten ++ told }).pushClass key b.cls

/-- Whether an order or tug may send in a session class now, and need not wait (R255). -/
def Dev.canSend (d : Dev) (key cls : Nat) : Bool :=
  match d.session key with
  | none => false
  | some s => decide ((s.txc cls).kept.length < (s.txc cls).window) && d.hasRoom (cls == clCtl) (d.obj 0x3000 0x07) && s.state == 1

/-- The context whose sessions carry a context's traffic: its own, or for a standby that of its gang here (R335). -/
def Dev.viaCtx (d : Dev) (ctx : Option Nat) : Option Nat := ctx.map fun c => (d.ctx c).via.getD c

/-- The device rank of the basin member with a MID, as a context sees it: a lost one is its taker (R334). -/
def Dev.rankOfMid (d : Dev) (ctx mid : Nat) : Nat :=
  let r := d.basinNumber * 8 + mid
  match (d.ctx ctx).remap.find? fun p => p.1 == r with | some p => p.2.1 | none => r

/-- A DATA packet to a rank in the session of a context, or in the device session; nothing where there is none. What one of two ranks on
this module sends the other waits in the transport buffer (R335). -/
def Dev.sendTo (d : Dev) (ctx : Option Nat) (rank : Nat) (b : Payload) : Dev :=
  match ctx with
  | some c =>
    if rank = d.rank then
      { d with net := { d.net with loop := d.net.loop ++
        [(c, { cls := b.cls, op := b.op, channel := b.channel, src := rank, dst := rank, addr := b.addr, payload := b.data, last := b.last, poison := b.poison, shape := b.shape })] } }
    else match d.sessionTo (d.viaCtx ctx) rank with
      | some k => d.sendData k b
      | none => d
  | none => match d.sessionTo none rank with
    | some k => d.sendData k b
    | none => d

/-- The device rank of a gang rank of a context (R245, R355). -/
def Dev.gangDevice (d : Dev) (ctx g : Nat) : Nat := if (d.ctx ctx).members = [] then d.rank else nth d.rank (d.ctx ctx).members g

/-- The MID that the endpoints of a gang rank carry: that of its module, a lost one keeping its own (R163, R334). -/
def Dev.gangMid (d : Dev) (ctx g : Nat) : Nat :=
  match (d.ctx ctx).remap.find? fun p => p.2.2 == g with
  | some p => p.1 % 8
  | none => d.gangDevice ctx g % 8

/-- The members of a context's gang other than this module, by gang rank. -/
def Dev.otherMembers (d : Dev) (ctx : Nat) : List Nat := (List.range (d.ctx ctx).gangSize).filter fun g => g != (d.ctx ctx).gangRank

/-- PAYLOAD_MAX (R277). -/
def Dev.payloadMax (d : Dev) : Nat := d.obj 0x3000 0x07

end Sys2Proof.Machine
end

