-- ==== Sys2Proof/Machine/ServiceRing.lean ====
section
/-! DEFINITION. Completions (R351) and the completion ring of the chandlery's service queue (R375 to R377). -/

namespace Sys2Proof.Machine

/-- A completion without its PHASE. -/
def completionWord (ctx kind tag time status endpoint index detail : Nat) (replayed : Bool) : Nat :=
  status * 2 ^ 8 + (if replayed then 2 ^ 16 else 0) + kind * 2 ^ 48 + ctx * 2 ^ 56 + (detail % 2 ^ 32) * 2 ^ 64 + index * 2 ^ 96 + endpoint * 2 ^ 112 +
    time % 2 ^ 64 * 2 ^ 128 + tag * 2 ^ 192

/-- The chandlery's statuses beside those of R134 (R377). -/
def stUnsupported : Nat := 0x20
def stCorrupt : Nat := 0x21
def stRestarted : Nat := 0x22

/-- The objects of the service queue (R377). -/
def Dev.svcBase (d : Dev) : Nat := d.obj 0xC000 1
def Dev.svcDepth (d : Dev) : Nat := d.obj 0xC000 2
def Dev.svcCqBase (d : Dev) : Nat := d.obj 0xC000 3
def Dev.svcCqDepth (d : Dev) : Nat := d.obj 0xC000 4
def Dev.svcHead (d : Dev) : Nat := d.obj 0xC000 5

/-- Waiting completions of the service queue written as far as its ring has room. -/
def Dev.svcFlushGo : Nat → Dev → Dev
  | 0, d => d
  | fuel + 1, d =>
    match d.host.svcWaiting with
    | [] => d
    | w :: ws =>
      let j := d.host.svcCqTail
      let a := d.svcCqBase + 32 * (j % d.svcCqDepth)
      if d.svcCqDepth ≤ (j + 2 ^ 32 - d.host.svcCqHead) % 2 ^ 32 then d
      else if d.ownedIn a 32 then d.recallOwned a 32
      else
        let d := match d.access .firmware true a 32 with | some st => d.refused st | none => d.write a (natLe 32 (w + j / d.svcCqDepth % 2)) false
        Dev.svcFlushGo fuel { d with host := { d.host with svcWaiting := ws, svcCqTail := (j + 1) % 2 ^ 32 } }

def Dev.svcFlush (d : Dev) : Dev := Dev.svcFlushGo d.host.svcWaiting.length d

/-- A service request completes: its KIND is the service's code, and SVC_ERRORS counts any status other than OK. -/
def Dev.svcDone (d : Dev) (ctx kind tag status : Nat) : Dev :=
  let d := if status = stOK then d else d.bump 0xC000 7 1
  { d with host := { d.host with svcWaiting := d.host.svcWaiting ++ [completionWord ctx kind tag d.time status 0xFFFF 0xFFFF 0 false] } }.svcFlush

/-- What a snapshot or copy that the chandlery ran reports. -/
def Dev.svcSnapDone (d : Dev) (s : Snap) (status : Nat) : Dev :=
  match s.svc with
  | some v => d.svcDone s.ctx (if s.len.isSome then 2 else 3) v.1 status
  | none => d

end Sys2Proof.Machine
end

