-- ==== Sys2Proof/Machine/Context.lean ====
section
/-! DEFINITION. What lists, barriers, contexts and the fault collector share: reports and statuses of orders (R160 to R162), the
barrier store (R208 to R215), poisoning (R228), the abort of a context (R361) and the recording of a fault (R404 to R414). -/

namespace Sys2Proof.Machine

/-! ### Statuses and reports of orders -/

/-- The list of a core with the earliest order that ended otherwise than OK, stopped unless the status lets it go on (R160, R509). An order that an abort
ends leaves the status that the list had before the abort (R361). -/
def ListRun.fail (l : ListRun) (stamp status index : Nat) (stops : Bool) : ListRun :=
  { l with
    stop := l.stop || stops
    ended := match l.ended with
      | none => some (stamp, status, index)
      | some e => if stamp < e.1 ∧ status ≠ stAborted then some (stamp, status, index) else some e }

/-- An order ends with a status: OK leaves its list, anything else is kept by R160 and stops it by R509. -/
def Dev.endOrder (d : Dev) (t : OrderTag) (status : Nat) (stops : Bool) : Dev :=
  if status = stOK then d
  else d.modCore t.core fun c => { c with list := c.list.map fun l => l.fail t.stamp status t.index stops }

/-- The orders that report (R137). -/
def reports (op : Nat) : Bool := op == 0x03 || op == 0x20 || op == 0x31 || op == 0x32 || op == 0x50 || op == 0x51 || op == 0x60

/-- A report record (R161) as 32 bytes. -/
def reportBytes (t : OrderTag) (time status detail count : Nat) : List Byte :=
  [BitVec.ofNat 8 t.op, BitVec.ofNat 8 status] ++ natLe 2 t.index ++ natLe 4 t.rep ++ natLe 4 count ++ natLe 4 0 ++ natLe 8 detail ++ natLe 8 time

/-- The report of an order written to its slot; a refused place loses the report and ends the order with the refusal (R509).
Its time is the timebase as the harbour keeps it: R24 lets an island sample it up to 20 ns late, and the model takes no skew (log 95). -/
def Dev.report (d : Dev) (t : OrderTag) (status detail count : Nat) : Dev :=
  match (d.core t.core).list with
  | none => d
  | some l =>
    if reports t.op && l.reports != 0 && l.depth != 0 then
      let a := l.reports + 32 * (t.report % l.depth)
      match d.access (.ctx t.ctx) true a 32 with
      | some st => (d.refused st).endOrder t st true
      | none => d.putRecord a (reportBytes t d.time status detail count)
    else d

/-- An order completes: its status, then its report. -/
def Dev.complete (d : Dev) (t : OrderTag) (status detail count : Nat) (stops : Bool) : Dev :=
  (d.endOrder t status stops).report t status detail count

/-! ### Endpoints -/

/-- The endpoint code of a core of a module (R163). -/
def endpoint (mid : Nat) (c : CoreRef) : Nat := mid * 4096 + c.cl * 256 + c.k * 16
def epMid (e : Nat) : Nat := field e 15 12
def epCore (e : Nat) : CoreRef := ⟨field e 11 8, field e 7 4⟩

/-- The gang rank whose device rank is `r`, in a context. -/
def Dev.gangOf (d : Dev) (ctx r : Nat) : Nat :=
  if (d.ctx ctx).members = [] then 0 else (d.ctx ctx).members.findIdx fun m => m == r

/-! ### The barrier store -/

/-- Whether generation `g` counts as completed when `cur` is in progress (R214). -/
def genDone (g cur : Nat) : Bool :=
  let x := (cur + 2 ^ 32 - g % 2 ^ 32) % 2 ^ 32
  decide (1 ≤ x) && decide (x ≤ 2 ^ 31)

/-- Releases for waiters, on this module by its own list and on the other members of the gang by RELEASE packets (R212, R218). No
packet registers a wait at another module's home, so every other member is told. -/
def Dev.releaseAll (d : Dev) (ctx n g : Nat) (ws : List Waiter) (fast : Bool) (status : Nat) : Dev :=
  let own := (d.ctx ctx).gangRank
  let d := { d with cmp := { d.cmp with releases := d.cmp.releases ++ ((ws.filter fun w => w.who.rank == own).map fun w => { ctx := ctx, bar := n, core := w.who.core, gen := g, status := status }) } }
  if fast then d
  else (d.otherMembers ctx).foldl (fun d r =>
    d.sendTo (some ctx) (d.gangDevice ctx r)
      (if status = stOK then { cls := clCtl, op := 0x22, channel := n, addr := g } else { cls := clCtl, op := 0x23, channel := n })) d

/-- The decision of a commit generation (R317): 0 flip, 1 skip, 2 halt, 3 malformed. -/
def Dev.commitOutcome (d : Dev) (ctx : Nat) (b : Barrier) : Nat :=
  let masks := (b.votes.map VoteRec.mask).eraseDups
  if masks.length ≠ 1 ∨ b.nonCommit then 3
  else if b.votes.all fun v => !v.nonfinite then 0
  else
    let i := 0xA100 + ctx
    let run := d.obj i 0x07 - d.obj i 0x08 + 1
    if d.obj i 0x0F = 1 ∨ d.obj i 0x09 = d.obj i 0x0C ∨ d.obj i 0x10 ≤ run then 2 else 1

/-- The ADDR of a STEP packet (R315). -/
def stepAddr (kind nonfinite outcome bar gen : Nat) : Nat :=
  kind * 2 ^ 48 + nonfinite * 2 ^ 47 + outcome * 2 ^ 44 + bar * 2 ^ 32 + gen % 2 ^ 32

/-- The standbys of the members: gang rank, partner's device and the standby's number there; this member's own among them (R316). -/
def Dev.standbysOf (d : Dev) (ctx : Nat) : List (Nat × Nat × Nat) :=
  (match (d.ctx ctx).standbyAt with | some n => [((d.ctx ctx).gangRank, d.obj 0xA000 1, n)] | none => []) ++ (d.ctx ctx).moored

/-- A mooring partner's copy of an outcome, in the device session (R315). A standby on this module finds it as what two ranks here tell each other. -/
def Dev.outcomeCopy (d : Dev) (n g mask o : Nat) (at_ : Nat × Nat × Nat) : Dev :=
  let p : Payload := { cls := clCtl, op := 0x40, channel := mask, addr := stepAddr 1 0 o n g, data := natLe 8 at_.2.2 }
  d.sendTo (if at_.2.1 = d.rank then some at_.2.2 else none) at_.2.1 p

/-- The home sends the outcome of a commit generation to every module that has a COMMIT in it, and to the mooring partner of each (R316). -/
def Dev.sendOutcome (d : Dev) (ctx n g : Nat) (b : Barrier) : Dev :=
  if b.votes = [] then d
  else
    let own := (d.ctx ctx).gangRank
    let o := d.commitOutcome ctx b
    let mask := match b.votes with | v :: _ => v.mask | [] => 0
    let ranks := (b.votes.map fun v => v.who.rank).eraseDups
    let d := if own ∈ ranks then { d with cmp := { d.cmp with outcomes := d.cmp.outcomes ++ [{ ctx := ctx, bar := n, gen := g, mask := mask, outcome := o }] } } else d
    let d := (ranks.filter fun r => r != own).foldl (fun d r =>
      d.sendTo (some ctx) (d.gangDevice ctx r) { cls := clCtl, op := 0x40, channel := mask, addr := stepAddr 1 0 o n g }) d
    ((d.standbysOf ctx).filter fun s => ranks.contains s.1).foldl (fun d s => d.outcomeCopy n g mask o s) d

/-- Whether a save of a context is asked for: by a pre-emption, by STOP, or by a lost host (R225, R349, R366). -/
def Ctx.saveAsked (x : Ctx) : Bool := x.saveWanted || x.stopWanted || x.parkWanted

/-- The other members of a gang that run on other modules. -/
def Dev.farMembers (d : Dev) (ctx : Nat) : List Nat := (d.otherMembers ctx).filter fun g => d.gangDevice ctx g != d.rank

/-- The other members are told of a step of a gang pre-emption point (R225, R297). -/
def Dev.tellGang (d : Dev) (ctx step : Nat) : Dev := (d.farMembers ctx).foldl (fun d g => d.send (.gangNotice (d.gangDevice ctx g) ctx step [])) d

/-- Generation g completes (R212): the generation moves on, the waiters of g or earlier are released; at a gang pre-emption point
with a pre-emption deferred, the release is held (R225). `excess` is what an overshoot carries over to its signallers (R213). -/
def Dev.completeGen (d : Dev) (ctx n : Nat) (b : Barrier) (excess : Nat) : Dev :=
  let g := b.gen
  let go := fun (w : Waiter) => w.target == g || genDone w.target g
  let hold := b.gangpoint && ((d.ctx ctx).saveAsked || (d.ctx ctx).gangAsked)
  let b' := { b with gen := (g + 1) % 2 ^ 32, arrived := excess, arrivedSet := if excess = 0 then [] else b.nextSet, nextSet := [],
                     waiters := b.waiters.filter fun w => !(go w), votes := [], nonCommit := false,
                     holding := b.holding || hold, held := if hold then b.held ++ b.waiters.filter go else b.held }
  let d := (d.setBar ctx n b').bump 0x9000 0x03 1
  let d := d.sendOutcome ctx n g b
  if hold then (if b.fast then d.modCtx ctx fun x => { x with gangHeld := true } else d.tellGang ctx 6) else d.releaseAll ctx n g (b.waiters.filter go) b.fast stOK

/-- The acknowledgement of an arrival to its issuing core (R214); none stands for a poisoned barrier. -/
def Dev.ackArrival (d : Dev) (ctx n : Nat) (who : GangCore) (gen : Option Nat) : Dev :=
  if who.rank = (d.ctx ctx).gangRank then { d with cmp := { d.cmp with acks := d.cmp.acks ++ [{ ctx := ctx, bar := n, core := who.core, gen := gen }] } }
  else
    let r := d.gangDevice ctx who.rank
    match gen with
    | some g => d.sendTo (some ctx) r { cls := clCtl, op := 0x21, channel := n, addr := g + endpoint (d.gangMid ctx who.rank) who.core * 2 ^ 32 }
    | none => d.sendTo (some ctx) r { cls := clCtl, op := 0x23, channel := n }

/-- A barrier with an arrival counted at a time (R211, R213): its weight, who made it, its vote, and an overshoot. -/
def Barrier.counted (b : Barrier) (a : ArrivalF) (time : Nat) : Barrier :=
  { b with
    arrived := b.arrived + a.weight
    arrivedSet := if a.who ∈ b.arrivedSet ∨ b.count ≤ b.arrived then b.arrivedSet else b.arrivedSet ++ [a.who]
    nextSet := if a.who ∈ b.nextSet ∨ b.arrived + a.weight ≤ b.count then b.nextSet else b.nextSet ++ [a.who]
    lastWho := some a.who
    lastKind := a.kind
    lastTime := time
    overshoots := if b.count < b.arrived + a.weight then min 65535 (b.overshoots + 1) else b.overshoots
    votes := match a.vote with | some v => b.votes ++ [⟨a.who, v.1, v.2⟩] | none => b.votes
    nonCommit := b.nonCommit || a.vote.isNone }

/-- The generation an arrival joins (R214): that in progress, or the next where the count is reached. -/
def Barrier.joining (b : Barrier) : Nat := if b.count ≤ b.arrived then (b.gen + 1) % 2 ^ 32 else b.gen

/-- An arrival becomes visible at the home's store and is counted (R211 to R213); at a poisoned or freed barrier it is not (R227, R228). -/
def Dev.countArrival (d : Dev) (a : ArrivalF) : Dev :=
  match d.bar a.ctx a.bar with
  | none => d.ackArrival a.ctx a.bar a.who none
  | some b =>
    if b.poisoned then d.ackArrival a.ctx a.bar a.who none
    else
      let d := d.ackArrival a.ctx a.bar a.who (some b.joining)
      let b1 := b.counted a d.time
      if b1.arrived < b.count then d.setBar a.ctx a.bar b1
      else if b.fast then d.setBar a.ctx a.bar { b1 with pulling := (d.ctx a.ctx).gangUnnoted != [] }
      else d.completeGen a.ctx a.bar b1 (b1.arrived - b.count)

/-- Whether an arrival at a barrier can leave: its home is here, or the session there has room in the class it goes by (R255). -/
def Dev.arrivalRoom (d : Dev) (ctx n cls : Nat) : Bool :=
  match d.bar ctx n with
  | none => true
  | some b =>
    let rank := d.gangDevice ctx b.home
    b.fast || b.home == (d.ctx ctx).gangRank || rank == d.rank ||
      match d.sessionTo (d.viaCtx (some ctx)) rank with | some k => d.canSend k cls | none => true

/-- An arrival sent by work of an order: to this module's store, or by an ARRIVE or STEP packet to the home (R211, R218, R315). The
core notes the order until the home's acknowledgement comes (R214). -/
def Dev.sendArrival (d : Dev) (t : OrderTag) (n weight kind : Nat) (vote : Option (Nat × Bool)) : Dev :=
  match d.bar t.ctx n with
  | none => d
  | some b =>
    let own := (d.ctx t.ctx).gangRank
    let d := d.modCore t.core fun c => { c with acksDue := tblSet c.acksDue n (tblGet [] c.acksDue n ++ [t]) }
    if b.fast || b.home == own then
      { d with cmp := { d.cmp with arrivals := d.cmp.arrivals ++ [{ ctx := t.ctx, bar := n, weight := weight, kind := kind, who := ⟨own, t.core⟩, vote := vote }] } }
    else
      match vote with
      | some v =>
        d.sendTo (some t.ctx) (d.gangDevice t.ctx b.home)
          { cls := clCtl, op := 0x40, channel := v.1, addr := stepAddr 0 (if v.2 then 1 else 0) 0 n b.gen, data := natLe 8 (endpoint (d.midOf t.ctx) t.core) }
      | none =>
        d.sendTo (some t.ctx) (d.gangDevice t.ctx b.home)
          { cls := clReq, op := 0x20, channel := n, addr := weight + endpoint (d.midOf t.ctx) t.core * 2 ^ 16 + kind * 2 ^ 32 }

/-! ### Waits -/

/-- A wait at a barrier homed on another module is told to the home by an ARRIVE packet of weight 0 (R214, R216, R230): kind 0 asks for the generation in
progress, 6 gives the low half of the target, 7 says that the wait expired. -/
def Dev.tellWait (d : Dev) (t : OrderTag) (n kind target : Nat) : Dev :=
  match d.bar t.ctx n with
  | none => d
  | some b =>
    if b.fast || b.home == (d.ctx t.ctx).gangRank then d
    else d.sendTo (some t.ctx) (d.gangDevice t.ctx b.home)
      { cls := clReq, op := 0x20, channel := n, addr := endpoint (d.midOf t.ctx) t.core * 2 ^ 16 + kind * 2 ^ 32 + target % 2 ^ 16 * 2 ^ 36 }

/-- The generation near the one in progress whose low half is given. -/
def nearGen (cur low16 : Nat) : Nat :=
  let up := (low16 + 2 ^ 16 - cur % 2 ^ 16) % 2 ^ 16
  if up < 2 ^ 15 then (cur + up) % 2 ^ 32 else (cur + 2 ^ 32 + up - 2 ^ 16) % 2 ^ 32

/-- What a wait on another module says to the home: it joins the waiter set, is answered with the generation in progress, or leaves (R214 to R216). -/
def Dev.waitHeard (d : Dev) (ctx n kind low16 : Nat) (who : GangCore) : Dev :=
  match d.bar ctx n with
  | none => d.ackArrival ctx n who none
  | some b =>
    let others := b.waiters.filter fun v => v.who != who
    if b.poisoned then (if kind = 7 then d else d.ackArrival ctx n who none)
    else if kind = 7 then d.setBar ctx n { b with waiters := others, timeouts := min 65535 (b.timeouts + 1) }
    else
      let g := if kind = 6 then nearGen b.gen low16 else b.gen
      let d := if genDone g b.gen then d else d.setBar ctx n { b with waiters := others ++ [⟨who, g⟩] }
      if kind = 6 then d else d.ackArrival ctx n who (some g)

/-- The DETAIL of a wait's report: its target, or bit 32 when it was never known (R161, R215). -/
def waitDetail (w : Waiting) : Nat := match w.target with | some g => g | none => 2 ^ 32

/-- A core's barrier wait or COMMIT ends with a status and its report; the waiter leaves the waiter set (R215). -/
def Dev.endWait (d : Dev) (c : CoreRef) (status : Nat) (stops : Bool) : Dev :=
  match (d.core c).wait with
  | none => d
  | some w =>
    let n := field w.word 31 16
    let d := d.modCore c fun x => { x with wait := none }
    let d := match d.bar w.tag.ctx n with
      | some b => d.setBar w.tag.ctx n { b with waiters := b.waiters.filter fun v => !(v.who == (⟨(d.ctx w.tag.ctx).gangRank, c⟩ : GangCore)) }
      | none => d
    d.complete w.tag status (waitDetail w) 0 stops

/-- The TIMEOUT of an order that waits on a barrier (R151). -/
def waitTimeoutNs (w : Nat) : Nat := field w 95 64

/-- Whether the timeout of a wait expired before this instant (R216, R220): in the very instant of the expiry an event still wins. -/
def Waiting.late (w : Waiting) (time : Nat) : Bool := waitTimeoutNs w.word != 0 && decide (w.start + waitTimeoutNs w.word < time)

/-- The time at which a wait expires has come. -/
def Waiting.expired (w : Waiting) (time : Nat) : Bool := waitTimeoutNs w.word != 0 && decide (w.start + waitTimeoutNs w.word ≤ time)

/-- An expired wait leaves (R216): its barrier, at its home, and the device count it, and its list stops with TIMEOUT. -/
def Dev.waitExpires (d : Dev) (c : CoreRef) : Dev :=
  match (d.core c).wait with
  | none => d
  | some w =>
    let n := field w.word 31 16
    let d := match d.bar w.tag.ctx n with
      | some b => if b.fast || b.home == (d.ctx w.tag.ctx).gangRank then d.setBar w.tag.ctx n { b with timeouts := min 65535 (b.timeouts + 1) } else d.tellWait w.tag n 7 0
      | none => d
    (d.bump 0x9000 4 1).endWait c stTimeout true

/-- A wait whose target has completed ends with OK, or with TIMEOUT when it had expired before. -/
def Dev.waitEnds (d : Dev) (c : CoreRef) : Dev :=
  match (d.core c).wait with
  | none => d
  | some w => if w.late d.time then d.waitExpires c else d.endWait c stOK false

/-- Whether a core waits at barrier `n` of a context: WAIT, ARRIVE_WAIT or COMMIT. -/
def waitsAt (x : CoreSt) (ctx n : Nat) : Bool :=
  match x.wait with
  | some w => w.tag.ctx == ctx && field w.word 31 16 == n && (w.tag.op == 0x31 || w.tag.op == 0x32 || w.tag.op == 0x50)
  | none => false

/-- A release visible at its waiter: a WAIT or ARRIVE_WAIT whose target is its generation or earlier ends (R212, R215). A COMMIT ends by
its outcome (R316). -/
def Dev.releaseHits (d : Dev) (r : ReleaseF) : Dev :=
  match (d.core r.core).wait with
  | none => d
  | some w =>
    if waitsAt (d.core r.core) r.ctx r.bar && w.tag.op != 0x50 && (match w.target with | some g => g == r.gen || genDone g r.gen | none => false) then
      d.waitEnds r.core
    else d

/-- The releases of a context that its stores sent before a poisoning: their waiters are no longer in a waiter set and end with OK (R221, R228). -/
def Dev.releasesFirst (d : Dev) (ctx : Nat) : Dev := (d.cmp.releases.filter fun r => r.ctx == ctx).foldl Dev.releaseHits d

/-- The cores, by key, whose state satisfies a test. -/
def Dev.coresWhere (d : Dev) (f : CoreSt → Bool) : List CoreRef :=
  (d.cmp.cores.filter fun p => f p.2).map fun p => CoreRef.ofKey p.1

/-- A barrier is poisoned (R228): every waiter is released at once with POISONED, and POISONINGS of its home, and of each module with a fast
copy, counts it. -/
def Dev.poisonBar (d : Dev) (ctx n : Nat) : Dev :=
  match d.bar ctx n with
  | none => d
  | some b =>
    if b.poisoned then d
    else
      let d := (d.releasesFirst ctx).modBar ctx n fun b => { b with poisoned := true, waiters := [], holding := false, held := [], pulling := false }
      let d := if b.fast || b.home == (d.ctx ctx).gangRank then d.bump 0x9000 0x05 1 else d
      let d := d.releaseAll ctx n b.gen [] (b.fast || b.home != (d.ctx ctx).gangRank) stPoisoned
      (d.coresWhere fun x => waitsAt x ctx n).foldl (fun d c => d.endWait c stPoisoned true) d

/-! ### The abort of a context -/

/-- The barrier numbers of a context this module has objects or copies of. -/
def Dev.barsOf (d : Dev) (ctx : Nat) : List Nat := (d.cmp.bars.filter fun p => p.1 / 1024 == ctx).map fun p => p.1 % 1024

/-! ### The tile header (R107) -/

/-- The fields of a tile header. -/
structure Header where
  g : Int := 0
  rows : Nat := 0
  kind : Bool := false
  width : Nat := 2
  replays : Nat := 0
  accSat : Bool := false
  satOut : Bool := false
  nonfinite : Bool := false
  mismatch : Bool := false
  parts : Nat := 0
deriving DecidableEq, Repr

def b2n (b : Bool) : Nat := if b then 1 else 0

/-- Bits [63:0] of a tile header. -/
def Header.word (h : Header) : Nat :=
  low 16 h.g + h.rows * 2 ^ 16 + b2n h.kind * 2 ^ 24 + h.width * 2 ^ 25 + h.replays * 2 ^ 27 + b2n h.accSat * 2 ^ 29 +
    b2n h.satOut * 2 ^ 30 + b2n h.nonfinite * 2 ^ 31 + b2n h.mismatch * 2 ^ 32 + h.parts * 2 ^ 48

/-- The header of a drained tile before its conversion is known (R107). An accreted tile shows the grid it opened on. -/
def Tile.header (t : Tile) : Header :=
  let top := match t.rows with | r :: _ => if t.batch.isSome then r.g - 8 * (r.replays : Int) else r.g | [] => 0
  { g := if t.isInt then 0 else top, rows := t.rows.length, kind := t.isInt, parts := 1,
    replays := (t.rows.map TileRow.replays).foldl max 0, accSat := t.rows.any TileRow.accSat,
    nonfinite := t.rows.any fun r => r.cells.any fun a => !a.ent.isFinite }

/-! ### What an abort ends -/

/-- The drains under CONVEY of a core: an abort ends them with ABORTED, wherever they wait for credit (R166, R361). -/
def CoreSt.credited (x : CoreSt) : List DrainJob := x.drains.filter fun j => bit j.word 8

/-- What an aborted waiting order ends with: POISONED at a barrier (R228), else ABORTED (R361). One whose arrival or wait has gone to a home on another module
and was not answered ends with ABORTED: its packet is discarded there (R227). -/
def Dev.abortedStatus (d : Dev) (ctx : Nat) (w : Waiting) : Nat :=
  let far : Bool := match d.bar ctx (field w.word 31 16) with | some b => !b.fast && d.gangDevice ctx b.home != d.rank | none => false
  if w.tag.op = 0x31 ∨ w.tag.op = 0x32 ∨ w.tag.op = 0x50 then (if far ∧ w.target.isNone ∧ (w.phase ≠ 0 ∨ w.tag.op = 0x31) then stAborted else stPoisoned) else stAborted

/-- Whether the DRAIN that reads the tile in a bank, the first queued one of that bank, outlasts an abort: one to the hold does (R101, R361). -/
def CoreSt.readByDrain (x : CoreSt) (b : Bool) : Bool :=
  match x.drains.find? fun j => j.bank == b with
  | some j => !(bit j.word 8)
  | none => false

/-- A core of an aborted context (R361): its waiting orders end, its list keeps the status of an order that ended before and else
completes with ABORTED, which names no order, and its open tiles are discarded (R101). A tile whose DRAIN has begun stays until the
drain, a running order, has read it; its pins are released with the others. -/
def CoreSt.abort (x : CoreSt) : CoreSt :=
  { x with
    wait := none
    bank0 := if x.readByDrain false then x.bank0 else none
    bank1 := if x.readByDrain true then x.bank1 else none
    drains := x.drains.filter fun j => !(bit j.word 8)
    list := x.list.map fun l => { l with stop := true, ended := l.ended.or (some (0, stAborted, 0xFFFF)) } }

/-- The reports that the aborted waiting orders of a core leave: its drains with the rows they sent, and the order at its sequencer. -/
def Dev.reportAborted (d : Dev) (c : CoreRef) : Dev :=
  let x := d.core c
  let header := fun (j : DrainJob) => match if j.bank then x.bank1 else x.bank0 with | some t => t.header.word | none => ({} : Header).word
  let d := x.credited.foldl (fun d j => d.report j.tag stAborted (header j) j.sent) d
  match x.wait with
  | some w =>
    let st := d.abortedStatus w.tag.ctx w
    if reports w.tag.op then d.report w.tag st (if st = stPoisoned then waitDetail w else 0) 0 else d
  | none => d

/-- Tug items that an abort ends (R134), each with the number of its queue: they report ABORTED and count in TUG_DESCRIPTORS and TUG_ERRORS (R135). -/
def Dev.tugsAborted (d : Dev) (is : List (Nat × TugItem)) : Dev :=
  is.foldl (fun d p => ((d.bumpAt (0x8200 + p.1 / 4) 0x02 (p.1 % 4) 1).bump (0x8200 + p.1 / 4) 0x04 1).complete p.2.tag stAborted p.2.written 0 true) d

/-- The saved cores of an aborted context end their work as running ones do: each is looked at in the place of its core. -/
def Dev.abortSaved (d : Dev) (ctx : Nat) : Dev :=
  let x := d.ctx ctx
  x.saved.foldl (fun d v =>
    let c := CoreRef.ofKey v.key
    let live := d.core c
    let d := ((d.setCore c v.st).reportAborted c).modCore c CoreSt.abort
    let d := d.tugsAborted (x.savedTugs.filter fun p => p.2.tag.core == c)
    let st := d.core c
    (d.setCore c live).modCtx ctx fun y => { y with saved := y.saved.map fun u => if u.key = v.key then { u with st := st } else u }) d

/-- The tug items of an aborted context end with ABORTED (R134). -/
def Dev.abortTugs (d : Dev) (ctx : Nat) : Dev :=
  let gone := (d.cmp.tugs.map fun (p : Nat × List TugItem) => (p.2.filter fun i => i.tag.ctx == ctx).map fun i => (p.1, i)).flatten
  { d with cmp := { d.cmp with tugs := d.cmp.tugs.map fun (p : Nat × List TugItem) => (p.1, p.2.filter fun i => i.tag.ctx != ctx) } }.tugsAborted gone

/-- The collectives of a context in flight end with a status on this member (R299, R300). -/
def Dev.endCollectives (d : Dev) (ctx status : Nat) : Dev :=
  let flights := ((d.cmp.groups.filter fun p => p.1 / 256 == ctx).map fun p => p.2.flights).flatten
  let d := { d with cmp := { d.cmp with groups := d.cmp.groups.map fun p => if p.1 / 256 = ctx then (p.1, { p.2 with flights := [] }) else p } }
  flights.foldl (fun d f => (d.bump (0x7100 + ctx) 0x08 1).complete f.tag status 0 0 true) d

/-- The snapshots of a context in flight end with ABORTED. -/
def Dev.abortSnaps (d : Dev) (ctx : Nat) : Dev :=
  let gone := d.cmp.snaps.filter fun s => s.ctx == ctx
  let d := { d with cmp := { d.cmp with snaps := d.cmp.snaps.filter fun s => s.ctx != ctx } }
  gone.foldl (fun d s => match s.tag with | some t => d.complete t stAborted 0 0 true | none => d.svcSnapDone s stAborted) d

/-- The sessions of a context close (R250). -/
def Dev.closeSessions (d : Dev) (f : Session → Bool) : Dev :=
  { d with net := { d.net with sessions := d.net.sessions.map fun p => if f p.2 then (p.1, { p.2 with state := 2, tx := [], rx := [] }) else p } }

/-- RUN_TIME counts from when a context begins to run (R354). -/
def Dev.runOn (d : Dev) (ctx : Nat) : Dev := d.modCtx ctx fun x => { x with runSince := some (x.runSince.getD d.time) }
/-- RUN_TIME grows by the run that ends. -/
def Dev.runOff (d : Dev) (ctx : Nat) : Dev :=
  match (d.ctx ctx).runSince with
  | some t => (d.bump (0xD100 + ctx) 0x0A (d.time - t)).modCtx ctx fun x => { x with runSince := none, ran := x.ran + (d.time - t) }
  | none => d

/-- The LAUNCHes of a context that run a list on a core name that list as the cause of the abort (R352). -/
def Dev.blame (d : Dev) (ctx : Nat) (c : CoreRef) : Dev :=
  d.modCtx ctx fun y => { y with
    runs := y.runs.map fun r =>
      if r.kind = 3 ∧ r.abortAt.isNone then { r with abortAt := if r.lists.any (fun l => l.key == c.key) then some c.key else none } else r }

/-- The abort of a context (R361, R228, R300): barriers poisoned, waiting orders ended, lists stopped, tugs, collectives and snapshots
ended, the other members told, its sessions closed; its state becomes ABORTED. `at_` is the core whose order caused it. -/
def Dev.abortCtx (d : Dev) (ctx : Nat) (at_ : Option CoreRef) : Dev :=
  let x := d.ctx ctx
  if x.state = 0 ∨ x.state = 9 then d
  else
    let d := d.releasesFirst ctx
    let cs := d.coresWhere fun y => y.armed == some ctx
    let d := (cs.foldl (fun d c => (d.reportAborted c).modCore c CoreSt.abort) d).abortSaved ctx
    let d := (d.barsOf ctx).foldl (fun d n => d.poisonBar ctx n) d
    let d := (d.abortTugs ctx).endCollectives ctx stAborted
    let d := d.abortSnaps ctx
    let d := (d.otherMembers ctx).foldl (fun d g => d.send (.gangNotice (d.gangDevice ctx g) ctx 0 [])) d
    let d := (d.closeSessions fun s => s.ctx == some ctx).runOff ctx
    let d := match at_ with | some c => d.blame ctx c | none => d
    d.modCtx ctx fun y => { y with
      state := 9, savedTugs := [], admitting := none,
      saveWanted := false, stopWanted := false, parkWanted := false, heldByHost := false }

/-! ### The fault collector -/

/-- The class (0 C, 1 D, 2 U, 3 F) and default level of a source (R413). -/
def faultSource (src : Nat) : Nat × Nat :=
  if src = 0x0101 ∨ src = 0x0102 ∨ src = 0x0303 ∨ src = 0x0602 then (0, 0)
  else if src = 0x0105 ∨ src = 0x0605 then (1, 3)
  else if src = 0x0106 ∨ src = 0x0202 then (1, 1)
  else if src = 0x0107 then (2, 3)
  else if src = 0x0203 ∨ src = 0x0204 ∨ src = 0x0304 then (1, 2)
  else if src = 0x0401 then (0, 2)
  else if src = 0x0404 ∨ src = 0x0407 then (3, 4)
  else (0, 1)

/-- Power-on seconds since manufacture (R425). -/
def Dev.onSeconds (d : Dev) : Nat := d.pwr.onNs / 1000000000

/-- Whether a key of the dictionary is a lifetime counter's (R426, R428): energy, cycles, replays, spares, laser hours, corrected lines. -/
def lifeKey (k : Nat) : Bool :=
  (k / 65536 == 0xB000 && [0x02, 0x03, 0x07, 0x08, 0x09].contains (k / 256 % 256)) || (decide (0xB100 ≤ k / 65536) && decide (k / 65536 < 0xB120))

/-- The CRC of a counter page: R425's CRC-16 over its counters, power-on time and sequence number, each as 8 bytes (DESIGN CHOICE, log 104). -/
def CounterPage.sum (p : CounterPage) : Nat :=
  crc16 0xFFFF ((p.values.map fun v => natLe 8 v.1 ++ natLe 8 v.2).flatten ++ natLe 8 p.onNs ++ natLe 8 p.seq)

/-- Whether a copy was written and its CRC is right. -/
def CounterPage.valid (p : CounterPage) : Bool := p.seq != 0 && p.crc == p.sum

/-- The copy with the higher valid sequence number; an empty one where neither is valid. -/
def Power.newestPage (x : Power) : CounterPage :=
  if x.pageA.valid && (!(x.pageB.valid) || decide (x.pageB.seq ≤ x.pageA.seq)) then x.pageA else if x.pageB.valid then x.pageB else {}

/-- The counter page written to flash, with the next sequence number, over the older of the two copies (R424). -/
def Dev.writePage (d : Dev) : Dev :=
  let p : CounterPage := { values := d.objs.filter fun p => lifeKey p.1, onNs := d.pwr.onNs, seq := d.pwr.newestPage.seq + 1 }
  let p := { p with crc := p.sum }
  if d.pwr.newestPage = d.pwr.pageA then { d with pwr := { d.pwr with pageB := p } } else { d with pwr := { d.pwr with pageA := p } }

/-- The counter page read at start-up (R424): counts made since it was written are lost. -/
def Dev.readPage (d : Dev) : Dev :=
  let p := d.pwr.newestPage
  { d with objs := p.values.foldl (fun t p => tblSet t p.1 p.2) (d.objs.filter fun p => !(lifeKey p.1)), pwr := { d.pwr with onNs := p.onNs } }

/-- A record appended to the logbook's event ring of 131,072 records, oldest overwritten first (R424, R425). -/
def Dev.logEvent (d : Dev) (typ src ctx detail cls dflt level : Nat) : Dev :=
  let n := d.obj 0xB000 0x0A
  let r : LogRec := { calendar := if d.obj 0xB000 0x06 = 0 then 0 else d.calendar, powerOn := d.onSeconds, detail := detail, seq := n % 2 ^ 32,
                      source := src, ctx := ctx, typ := typ, cls := cls, dflt := dflt, level := level }
  ({ d with events := if d.events.length < 131072 then d.events ++ [r] else d.events.drop 1 ++ [r] }).setObj 0xB000 0x0A ((n + 1) % 2 ^ 32)

/-- A wear record (R424): never overwritten, 8,192 at most, and written with the counter page. -/
def Dev.logWear (d : Dev) (typ src detail : Nat) : Dev :=
  let r : LogRec := { calendar := if d.obj 0xB000 0x06 = 0 then 0 else d.calendar, powerOn := d.onSeconds, detail := detail, seq := d.wear.length,
                      source := src, ctx := 0xFF, typ := typ, cls := 0, dflt := 0, level := 0 }
  (if d.wear.length < 8192 then { d with wear := d.wear ++ [r] } else d).writePage

def Dev.fclass (d : Dev) (k : Nat) : FaultClass := tblGet {} d.faults k

/-- DEVICE_LEVEL: the highest level of an open class (R428). -/
def Dev.deviceLevel (d : Dev) : Nat := d.faults.foldl (fun m p => if p.2.isOpen then max m p.2.level else m) 0

/-- QUARANTINED: a class is open at level 3 or above (R405, R411). -/
def Dev.quarantined (d : Dev) : Bool := decide (3 ≤ d.deviceLevel)

/-- The devices that hear this module's NODE_STATUS: gang members of its contexts and its mooring partner (R369). -/
def Dev.statusPeers (d : Dev) : List Nat :=
  let members := (d.ctxs.map fun p => if 2 ≤ p.2.state ∧ p.2.gangSize > 1 then p.2.members else []).flatten
  ((members ++ (if d.obj 0xA000 0x01 = 0xFFFF then [] else [d.obj 0xA000 0x01])).filter fun r => r != d.rank).eraseDups

/-- A NODE_STATUS of a kind to every peer (R369). -/
def Dev.sendStatus (d : Dev) (kind subject since : Nat) : Dev :=
  d.statusPeers.foldl (fun d r => d.sendTo none r { cls := clCtl, op := 0x60, addr := kind * 2 ^ 48 + subject * 2 ^ 32 + field since 41 10 }) d

/-- A change of the module's NODE_STATUS kind: sent at once, and repeated while it is not 0 (R369). -/
def Dev.setStatus (d : Dev) (kind subject : Nat) : Dev :=
  let d := { d with net := { d.net with statusKind := kind, statusSubject := subject, statusSince := d.time, lastStatus := d.time } }
  d.sendStatus kind subject d.time

/-- Whether a takeover is configured for this module's gangs: paired under MOOR_MODE 2 (R405, R329). -/
def Dev.takeoverConfigured (d : Dev) : Bool := d.obj 0xA000 0x02 == 2 && d.obj 0xA000 0x03 == 1

/-- The gang contexts under a quarantine (R405): they stop, and without a takeover configured are aborted on every member. -/
def Dev.stopGangs (d : Dev) : Dev :=
  let gangs := (d.ctxs.filter fun p => decide (2 ≤ p.2.state) && p.2.state != 9 && decide (1 < p.2.gangSize)).map Prod.fst
  let keep := d.takeoverConfigured
  gangs.foldl (fun d c => if keep then d.modCtx c fun x => { x with heldByHost := true } else d.abortCtx c none) d

/-- A gang context admitted on a module in quarantine is stopped as those before it were (R405). -/
def Dev.stopGang (d : Dev) (ctx : Nat) : Dev :=
  if d.quarantined = false ∨ (d.ctx ctx).gangSize ≤ 1 then d
  else if d.takeoverConfigured then d.modCtx ctx fun x => { x with heldByHost := true } else d.abortCtx ctx none

/-- Quarantine (R405): NODE_STATUS KIND 3, and the gang contexts stop. -/
def Dev.quarantine (d : Dev) : Dev := (d.setStatus 3 d.rank).stopGangs

/-- Safe state (R407): cores and tugs stop, NODE_STATUS KIND 4 is sent, and no other DATA leaves a port after it. -/
def Dev.enterSafe (d : Dev) : Dev :=
  let d := (d.setStatus 4 d.rank).setObj 0x4000 0x05 1
  let stays := fun (e : QPkt) => e.pkt.typ != 0 || e.pkt.op == 0x60
  { d with net := { d.net with queues := d.net.queues.map fun (p : Nat × PortQ) => (p.1, { p.2 with ctl := p.2.ctl.filter stays, rest := p.2.rest.map fun (c : Nat × List QPkt) => (c.1, c.2.filter stays) }) } }

/-- The reactions of a level (R405): each level performs those below it too. A module in quarantine already, whose peers have heard of it, stops the gang
contexts admitted since. -/
def Dev.react (d : Dev) (level : Nat) (ctx : Option Nat) (wasQuarantined : Bool) : Dev :=
  let d := if 1 ≤ level then { d.send (.interrupt 64) with pwr := { d.pwr with alertLow := true } } else d
  let d := match ctx with | some c => if 2 ≤ level then d.abortCtx c none else d | none => d
  let d := if 3 ≤ level then (if wasQuarantined then d.stopGangs else d.quarantine) else d
  if 4 ≤ level ∧ d.safe = false then d.enterSafe else d

/-- A fault is recorded (R404 to R409): logged at its level after escalation, its class opened or raised, its reactions applied. -/
def Dev.fault (d : Dev) (src : Nat) (ctx : Option Nat) (detail : Nat) : Dev :=
  let cl := (faultSource src).1
  let dflt := (faultSource src).2
  if dflt = 0 then ((d.logEvent 0 src (ctx.getD 0xFF) detail cl 0 0).bumpAt 0x4000 0x07 0 1)
  else
    let k := d.fclass cl
    let escalated := k.isOpen && !k.acked
    let level := if escalated then min 4 (max dflt (k.level + 1)) else dflt
    let wasQ := d.quarantined
    let k' : FaultClass :=
      { isOpen := true, level := if k.isOpen then max k.level level else level, source := src, acked := false,
        count := if k.isOpen then k.count + 1 else 1, opened := if k.isOpen then k.opened else d.time,
        causes := (if k.isOpen then k.causes else []) ++ [(src, detail)] }
    let d := d.logEvent 0 src (ctx.getD 0xFF) detail cl dflt level
    let d := d.bumpAt 0x4000 0x07 level 1
    let d := if escalated then d.bump 0x4000 0x08 1 else d
    let d := ({ d with faults := tblSet d.faults cl k' }).setObj 0x4000 0x06 src
    d.react level ctx wasQ

/-- The DETAIL of a fault record that names a core (R414), or a row of one of its arrays. -/
def Dev.coreDetail (d : Dev) (c : CoreRef) : Nat := 2 ^ 56 + endpoint d.mid c + d.phys c * 2 ^ 16
def Dev.rowDetail (d : Dev) (c : CoreRef) (array row : Nat) : Nat := 2 * 2 ^ 56 + endpoint d.mid c + d.phys c * 2 ^ 16 + array * 2 ^ 24 + row * 2 ^ 32

/-- A poisoned line is consumed on a core for a context (R421): POISON_CONSUMED is recorded, and an abort it brings names the core's list. -/
def Dev.poisonFault (d : Dev) (ctx : Nat) (c : CoreRef) : Dev :=
  let d' := d.fault 0x0203 (some ctx) (d.coreDetail c)
  if (d.ctx ctx).state ≠ 9 ∧ (d'.ctx ctx).state = 9 then d'.blame ctx c else d'

/-- An order consumes a poisoned line (R421): it ends with POISON and POISON_CONSUMED is recorded, naming the context. -/
def Dev.consumePoison (d : Dev) (t : OrderTag) : Dev := (d.endOrder t stPoison true).poisonFault t.ctx t.core

/-- A malformed order (R138): nothing of it runs, its list keeps MALFORMED and its index, and the context is aborted. -/
def Dev.malformed (d : Dev) (t : OrderTag) : Dev := (d.endOrder t stMalformed true).abortCtx t.ctx (some t.core)

end Sys2Proof.Machine
end

