-- ==== Sys2Proof/Machine/Sequencer.lean ====
section
/-! DEFINITION. The sequencer of a core (R138, R139, R156 to R160, R509): fetching the order at the list's place, beginning it,
letting it wait, its interlock and the pinned ranges (R98, R159), and what every order that reads the hold shares. -/

namespace Sys2Proof.Machine

/-- The index of a core's objects under a base (R85, R86, R135, R173): 10c + k, or 0x50 + c for a borrowed evaluation core. -/
def Dev.coreIdx (d : Dev) (base : Nat) (c : CoreRef) : Nat :=
  let c := d.realCore c
  if c.k = 10 then base + 0x50 + c.cl else base + 10 * c.cl + c.k

/-- ARRAYS_PER_CORE of the KC9 (R32). -/
def arraysPerCore : Nat := 4

/-- The local address of a hold offset of a core (R139, R185). -/
def holdAt (c : CoreRef) (off : Nat) : Nat := holdBase c + off

/-- Whether a hold operand lies wholly below HOLD_SIZE (R139). R139 names the address; an operand that begins below HOLD_SIZE and runs past
it is malformed too (log 93). -/
def inHold (off n : Nat) : Bool := decide (off + n ≤ holdSize)

/-! ### Rows of tiles and operands -/

/-- The row size of an activation format (R66). -/
def actRowSize (fmt : Nat) : Nat := if isSB fmt || fmt == cPair43 then 264 else 256

/-- The size of a weight set of a format (R66). -/
def weightSetSize (fmt : Nat) : Nat := if isSB fmt || fmt == cPair43 then 16896 else 16384

/-- The row size of a drain target on a 4-array core (R105). -/
def drainRowSize (fmt : Nat) : Nat := runBytes fmt 256

/-- The fields of a DRAIN word (R143). -/
def drCvt (w : Nat) : Cvt := .ofByte (field w 39 32)
def drDst (w : Nat) : Nat := field w 71 48
def drDstride (w : Nat) : Nat := field w 87 72
def drConvey (w : Nat) : Bool := bit w 8
def drRelease (w : Nat) : Bool := bit w 9
def drEpi (w : Nat) : Nat := field w 11 10
def drShape (w : Nat) : Nat := field w 13 12
def drEfmt (w : Nat) : Nat := field w 91 88
def drEaddr (w : Nat) : Nat := field w 119 96
def drEstride (w : Nat) : Nat := field w 135 120

/-- Where row `m` of an accreted batch has its tag in the hold (R84): an 8-byte header behind the row, as R80 and R165 lay a row and its tag out, where the
stride leaves room for it. R105 names no place for a tag (DESIGN CHOICE, log 93). -/
def tagRoom (w m : Nat) : Option Nat :=
  let size := drainRowSize (drCvt w).fmt
  let o := drDst w + m * drDstride w + size
  if size + 8 ≤ drDstride w ∧ inHold o 8 then some o else none

/-- The hold ranges a DRAIN of `rows` rows writes (R84, R105, R107), as offsets: from the first byte to the last (R159). -/
def drainWrites (w rows : Nat) (tagged : Bool := false) : List (Nat × Nat) :=
  if drConvey w ∨ rows = 0 then []
  else
    let size := drainRowSize (drCvt w).fmt
    let first := if (drCvt w).fmt = cW64 then 32 else 0
    [(drDst w, first + (rows - 1) * drDstride w + size + if tagged && (tagRoom w (rows - 1)).isSome then 8 else 0)]

/-- The hold ranges a DRAIN's epilogue reads (R109). -/
def drainReads (w rows : Nat) : List (Nat × Nat) :=
  if drEpi w = 0 ∨ rows = 0 then []
  else
    let f := drEfmt w
    match drShape w with
    | 0 => [(drEaddr w, (if f = cW64 then 32 else 0) + (rows - 1) * drEstride w + drainRowSize f)]
    | 1 => [(drEaddr w, 256 * elemBytes f)]
    | 2 => [(drEaddr w, rows * elemBytes f)]
    | _ => [(drEaddr w, elemBytes f)]

/-- The open tile of a bank. -/
def CoreSt.bank (x : CoreSt) (b : Bool) : Option Tile := if b then x.bank1 else x.bank0
def CoreSt.setBank (x : CoreSt) (b : Bool) (t : Option Tile) : CoreSt := if b then { x with bank1 := t } else { x with bank0 := t }

/-- The rows of the tile in a bank, 0 for an empty one. -/
def CoreSt.bankRows (x : CoreSt) (b : Bool) : Nat := match x.bank b with | some t => t.rows.length | none => 0

/-- Whether the tile in a bank holds an accreted batch, whose rows bear tags (R84). -/
def CoreSt.bankTagged (x : CoreSt) (b : Bool) : Bool := match x.bank b with | some t => t.batch.isSome | none => false

/-- Whether a tile was abandoned by an overflow and waits for its replay (R95). -/
def Tile.replayPending (t : Tile) : Bool := t.rows.any TileRow.abandoned
def CoreSt.replayPending (x : CoreSt) : Bool :=
  (match x.bank0 with | some t => t.replayPending | none => false) || (match x.bank1 with | some t => t.replayPending | none => false)

/-! ### Interlock and pins -/

/-- Whether two lists of hold ranges share a line (R159). -/
def rangesMeet (a b : List (Nat × Nat)) : Bool := a.any fun p => b.any fun q => linesMeet p.1 p.2 q.1 q.2

/-- Whether the drains a core has begun before a stamp and not finished hold back the reads and writes of an order (R159). -/
def CoreSt.interlocked (x : CoreSt) (stamp : Nat) (reads writes : List (Nat × Nat)) : Bool :=
  x.drains.any fun j =>
    decide (j.tag.stamp < stamp) &&
      (rangesMeet (reads ++ writes) (drainWrites j.word (x.bankRows j.bank) (x.bankTagged j.bank)) || rangesMeet writes (drainReads j.word (x.bankRows j.bank)))

/-- The hold offsets a tally pins (R98): every activation row and every weight set the passes named. The bytes between the rows of an
activation tile whose stride is larger than a row are not pinned (log 93). -/
def PassRec.pins (p : PassRec) : List (Nat × Nat) :=
  (p.rows ++ p.lowRows).map (fun r => (r, actRowSize p.afmt)) ++
    (p.w ++ p.wLow).filterMap fun r => match r.src with
      | some s => some (s, weightSetSize (r.fmt.getD p.wfmt))
      | none => none
def Tile.pins (t : Tile) : List (Nat × Nat) := (t.tally.map PassRec.pins).flatten
def CoreSt.pins (x : CoreSt) : List (Nat × Nat) :=
  (match x.bank0 with | some t => t.pins | none => []) ++ (match x.bank1 with | some t => t.pins | none => [])

/-- Whether a core holds tiles of an aborted context, whose pins are released (R101). -/
def Dev.ofAborted (d : Dev) (x : CoreSt) : Bool := match x.armed with | some c => (d.ctx c).state == 9 | none => false

/-- Whether a write at a local address falls into a range pinned by an open tile of the hold it reaches (R98). -/
def Dev.pinned (d : Dev) (a n : Nat) : Bool :=
  match (d.place a).1 with
  | .hold h =>
    let o := a - holdBase h
    n != 0 && d.cmp.cores.any fun p =>
      d.realCore (CoreRef.ofKey p.1) == d.realCore h && !(d.ofAborted p.2) && p.2.pins.any fun q => decide (q.1 < o + n) && decide (o < q.1 + q.2)
  | _ => false

/-- A write from outside a context's orders stalls on pins: PIN_STALLS of the context whose open tile has them (R115). -/
def Dev.pinStall (d : Dev) (a n : Nat) : Dev :=
  match (d.place a).1 with
  | .hold h => if d.pinned a n then (match (d.core (d.realCore h)).armed with | some c => d.bumpFree (0x7400 + c) 5 | none => d) else d
  | _ => d

/-- What stands between an order and its operands: nothing (`bad` when it reads a poisoned line), or a stall with what it counted. -/
inductive Gate where
  | go (bad : Bool)
  | stall (d : Dev)

/-- The interlock, the pins, lines the companion owns and poison marks, for hold offsets an order reads and writes. -/
def Dev.gate (d : Dev) (t : OrderTag) (reads writes : List (Nat × Nat)) : Gate :=
  let c := t.core
  if (d.core c).interlocked t.stamp reads writes then .stall (d.bumpFree (d.coreIdx 0x1400 c) 2)
  else if writes.any fun p => d.pinned (holdAt c p.1) p.2 then .stall (d.bumpFree (0x7400 + t.ctx) 5)
  else if (reads ++ writes).any fun p => d.ownedIn (holdAt c p.1) p.2 then
    .stall ((reads ++ writes).foldl (fun d p => d.recallOwned (holdAt c p.1) p.2) d)
  else .go (reads.any fun p => d.poisonIn (holdAt c p.1) p.2)

/-! ### An order's turn -/

/-- What becomes of an order that is given its turn: it has issued, it waits, or it is malformed (R138). -/
inductive Turn where
  | done (d : Dev)
  | wait (d : Dev) (w : Waiting)
  | malformed (d : Dev)

/-- An order's turn behind its gate. -/
def Gate.turn (g : Gate) (w : Waiting) (go : Bool → Turn) : Turn :=
  match g with
  | .go bad => go bad
  | .stall d' => .wait d' { w with stalled := true }

/-- The opcodes of R137. -/
def knownOp (op : Nat) : Bool :=
  [0x01, 0x02, 0x03, 0x04, 0x10, 0x11, 0x20, 0x21, 0x22, 0x30, 0x31, 0x32, 0x40, 0x50, 0x51, 0x60, 0x7F].contains op

/-- Whether every bit of a word outside the fields named is zero (R138). A field is (hi, lo). -/
def onlyFields (w : Nat) (fs : List (Nat × Nat)) : Bool :=
  fs.foldl (fun v f => v - field w f.1 f.2 * 2 ^ f.2) w == 0

/-- The bits every order shares: SYNC, FLAGS and OPCODE without the flags (R136). -/
def common : List (Nat × Nat) := [(31, 16), (7, 0)]

def sync (w : Nat) : Nat := field w 31 16

/-- Whether the context owns a barrier or a conveyor (R138). -/
def Dev.ownsBarrier (d : Dev) (ctx n : Nat) : Bool := decide (n < 1024) && (d.bar ctx n).isSome
def Dev.ownsConveyor (d : Dev) (ctx n : Nat) : Bool := decide (n < 4096) && (d.conv ctx n).isSome

/-- Whether the lists of a context may run on a core: running, not held back by the host or a quarantine (R366, R405), the module
out of the safe state (R407) and in RUN, the core neither stopped nor replaying a tile (R95). -/
def Dev.mayRun (d : Dev) (c : CoreRef) : Bool :=
  match (d.core c).armed with
  | none => false
  | some x => ((d.ctx x).state == 4 || (d.ctx x).state == 11) && !(d.ctx x).heldByHost && !d.safe && d.pwr.offKind == 0 && !(d.core c).stopped && !(d.core c).replayPending

/-- Whether a list still has an order to begin. -/
def ListRun.more (l : ListRun) : Bool := !l.stop && l.ready && (l.repeats == 0 || decide (l.rep < l.repeats))

/-- The list after its next order has begun: at the end of a repetition the next one begins, at its tick under CADENCE (R160, R171). -/
def ListRun.advance (l : ListRun) (reporting : Bool) : ListRun :=
  let l := if reporting then { l with reported := l.reported + 1 } else l
  if l.index + 1 < l.count then { l with index := l.index + 1 }
  else { l with index := 0, rep := l.rep + 1, ready := !l.cadence || l.tick, tick := false }

/-- What the sequencer finds at the list's place. -/
inductive Fetch where
  | nothing
  | refused (t : OrderTag) (status : Nat)
  | poison (t : OrderTag)
  | owned (a : Nat)
  | order (w : Waiting)

/-- The order at the list's place (R156, R158, R509). A COLLECT does not begin while its gang is about to be saved (R297). -/
def Dev.fetch (d : Dev) (c : CoreRef) : Fetch :=
  let x := d.core c
  match x.list, x.armed with
  | some l, some ctx =>
    if l.more then
      let a := l.addr + 32 + 32 * l.index
      let t : OrderTag := ⟨c, ctx, l.index, l.rep, l.reported, 0, x.stamp⟩
      match d.access (.ctx ctx) false a 32 with
      | some st => .refused t st
      | none =>
        if d.ownedIn a 32 then .owned a
        else if d.poisonIn a 32 then .poison t
        else
          let w := leNat (d.read a 32)
          if field w 7 0 = 0x60 ∧ (d.ctx ctx).gangFrozen then .nothing
          else .order { tag := { t with op := field w 7 0 }, word := w, start := d.time }
    else .nothing
  | _, _ => .nothing

/-- An order that begins restores the clock and the power of the block it needs (R399, R400): WLOAD that of the arrays, VEC and VREDUCE that of the vector unit. A PASS asks
the tide gate for the arrays (R397). -/
def CoreSt.rouse (x : CoreSt) (op time : Nat) : CoreSt :=
  if op = 0x01 then { x with lastLoad := time, clockGated := false, powerGated := false }
  else if op = 0x10 ∨ op = 0x11 then { x with lastVec := time, vecClock := false, vecPower := false }
  else x

/-- An order begins (R158): its list moves on, its stamp is used up and ORDERS_BEGUN counts it. -/
def Dev.begin (d : Dev) (t : OrderTag) : Dev :=
  (d.modCore t.core fun x => { x.rouse t.op d.time with stamp := x.stamp + 1, list := x.list.map fun l => l.advance (reports t.op) }).bump (d.coreIdx 0x1400 t.core) 1 1

/-- The device after an order's turn; `fresh` for an order that had not begun. -/
def Dev.settle (d : Dev) (w : Waiting) (fresh : Bool) : Turn → Dev
  | .done d' => (if fresh then d'.begin w.tag else d').modCore w.tag.core fun x => { x with wait := none }
  | .wait d' w' => (if fresh then d'.begin w.tag else d').modCore w.tag.core fun x => { x with wait := some w' }
  | .malformed _ => (d.modCore w.tag.core fun x => { x with wait := none }).malformed w.tag

/-- Whether a core begins no further order because its context is to be saved (R360). A gang goes on until it is saved at its gang point (R225). -/
def Dev.stopping (d : Dev) (c : CoreRef) : Bool :=
  match (d.core c).armed with
  | some x => (d.ctx x).saveAsked && (decide ((d.ctx x).gangSize ≤ 1) || (d.ctx x).gangGo)
  | none => false

/-- A core's sequencer is told to give the order of one row its turn: the waiting order, or the next of the list. An opcode that R137
does not list is malformed whatever row asks for it. -/
def Dev.attempt (d : Dev) (c : CoreRef) (sel : Nat → Bool) (run : Waiting → Dev → Turn) : Dev :=
  if d.mayRun c then
    match (d.core c).wait with
    | some w => if sel w.word then d.settle w false (run w d) else d
    | none =>
      if d.stopping c then d
      else match d.fetch c with
      | .nothing => d
      | .refused t st => (d.refused st).endOrder t st true
      | .poison t => (d.begin t).consumePoison t
      | .owned a => d.recallOwned a 32
      | .order w =>
        if sel w.word then d.settle w true (run w d)
        else if knownOp w.tag.op then d else d.malformed w.tag
  else d

/-- The selection of a row by its opcode alone. -/
def isOp (op : Nat) (w : Nat) : Bool := field w 7 0 == op

end Sys2Proof.Machine
end

