-- ==== Sys2Proof/Machine/Arrays.lean ====
section
/-! DEFINITION. The tall arrays (03_tall_arrays.md) and the accumulator (R87 to R101): products, column sums, grids, overflow, the
tally and its replay; the orders WLOAD, PASS and PAIRPASS and the rows that follow from them. -/

namespace Sys2Proof.Machine

/-! ### Elements of rows and columns -/

/-- The two INT4 elements of a byte, low half first (R40). -/
def nibbles (b : Byte) : List Nat := [b.toNat % 16, b.toNat / 16]

/-- The elements of one run of 33 bytes: a scale byte and 32 elements (R41). -/
def blockVals (fmt : Nat) : List Byte → List Val
  | [] => []
  | s :: es => es.map fun b => decodeSB fmt b.toNat s.toNat

/-- The elements of an activation row or of a weight column in a format of R60. -/
def arrayVals (fmt : Nat) (bs : List Byte) : List Val :=
  if isSB fmt then ((chunks 33 bs).map (blockVals fmt)).flatten
  else if fmt = cPair43 then ((chunks 33 bs).map (blockVals cSB43)).flatten
  else if fmt = cINT4 then ((bs.map nibbles).flatten).map (decodeElem cINT4)
  else bs.map fun b => decodeElem fmt b.toNat

/-- The bytes of one column of a weight set (R66). -/
def columnSize (fmt : Nat) : Nat := if isSB fmt || fmt == cPair43 then 264 else 256

/-- Column `n` (0 to 63) of a weight set, empty for a set that holds zero in every cell (R507). -/
def WSet.column (s : WSet) (fmt n : Nat) : List Val :=
  if s.bytes = [] then [] else arrayVals fmt (slice s.bytes (n * columnSize fmt) (columnSize fmt))

/-! ### Products and column sums (R61, R62, R88, R89) -/

/-- A column sum: its state, and the signs of the out-of-grid products it gathered. -/
structure ColSum where
  ent : Ent := .fin 0
  pos : Bool := false
  neg : Bool := false
deriving DecidableEq, Repr

/-- The state sum of R62 with exact finite addition. -/
def Ent.plus : Ent → Ent → Ent
  | .nan, _ => .nan
  | _, .nan => .nan
  | .inf a, .inf b => if a = b then .inf a else .nan
  | .inf a, _ => .inf a
  | _, .inf b => .inf b
  | .fin a, .fin b => .fin (a + b)

/-- The product of a cell on the grid 2^g: sign(x) × floor(|x| / 2^g) (R88). -/
def gridProduct (g : Int) (v : Val) : Ent :=
  match v with
  | .nan => .nan
  | .inf n => .inf n
  | .fin n m e => .fin (smant n (if g ≤ e then m * pow2 (e - g) else m / pow2 (g - e)))

/-- A product added to a column sum, marked when |p| ≥ 2^55 (R89). -/
def ColSum.add (c : ColSum) (p : Ent) : ColSum :=
  match p with
  | .fin a => ⟨c.ent.plus p, c.pos || decide ((2 ^ 55 : Int) ≤ a), c.neg || decide (a ≤ -(2 ^ 55 : Int))⟩
  | _ => { c with ent := c.ent.plus p }

/-- The column sum of an activation row and a weight column; a column that holds zero in every cell meets each activation with +0. -/
def columnSum (g : Int) : List Val → List Val → ColSum → ColSum
  | [], _, acc => acc
  | a :: as, [], acc => columnSum g as [] (acc.add (gridProduct g (a.mul (.fin false 0 0))))
  | a :: as, w :: ws, acc => columnSum g as ws (acc.add (gridProduct g (a.mul w)))

/-! ### The accumulator entry (R87, R94, R100) -/

def accMax : Int := 2 ^ 55 - 1

/-- The sign a saturated entry takes: that of a mark of one sign, else that of A + s, positive at zero (R100). -/
def satSign (c : ColSum) (sum : Int) : Bool :=
  if c.pos && !c.neg then false else if c.neg && !c.pos then true else decide (sum < 0)

/-- A column sum accumulated into an entry: the entry after it, and whether the accumulate overflows. `last` says that no replay is
left, so that an overflow saturates; integer tiles never overflow (R93). -/
def Acc.step (isInt last : Bool) (a : Acc) (c : ColSum) : Acc × Bool :=
  match a.ent.plus c.ent with
  | .fin sum =>
    if isInt then ({ a with ent := .fin sum }, false)
    else if a.sat then (a, false)
    else if c.pos || c.neg || decide (accMax < sum) || decide (sum < -accMax) then
      (if last then { ent := .fin (if satSign c sum then -accMax else accMax), sat := true } else a, true)
    else ({ a with ent := .fin sum }, false)
  | e => ({ ent := e, sat := false }, false)

/-- A row of activations through the 256 columns of a core, accumulated entry by entry. -/
def accRow (isInt last : Bool) (g : Int) (act : List Val) : List (List Val) → List Acc → List Acc × Bool
  | [], _ => ([], false)
  | w :: ws, cells =>
    let a := match cells with | x :: _ => x | [] => {}
    let r := a.step isInt last (columnSum g act w {})
    let rest := accRow isInt last g act ws (cells.drop 1)
    (r.1 :: rest.1, r.2 || rest.2)

/-- Whether a row has no replay left: three made, or a grid that cannot rise (R100). -/
def TileRow.exhausted (r : TileRow) : Bool := decide (3 ≤ r.replays) || decide (511 < r.g + 8)

/-- One row sequence of a pass added to one row of the tile. -/
def TileRow.feed (isInt : Bool) (r : TileRow) (act : List Val) (cols : List (List Val)) : TileRow :=
  if r.abandoned then r
  else
    let x := accRow isInt r.exhausted r.g act cols r.cells
    if x.2 && !r.exhausted then { r with abandoned := true }
    else { r with cells := x.1, accSat := r.accSat || x.2 }

/-- The rows of a tile fed with the rows of one sequence. -/
def feedRows (isInt : Bool) (cols : List (List Val)) : List TileRow → List (List Val) → List TileRow
  | r :: rs, a :: as => r.feed isInt a cols :: feedRows isInt cols rs as
  | rs, _ => rs

/-- The rows of an ordinary tile are abandoned and saturate together (R95, R100); those of an accreted batch each alone (R83). -/
def Tile.join (t : Tile) : Tile :=
  if t.batch.isSome then t
  else
    let gone := t.rows.any TileRow.abandoned
    let sat := t.rows.any TileRow.accSat
    { t with rows := t.rows.map fun r => { r with abandoned := gone, accSat := sat } }

/-- The 256 columns of four weight sets. -/
def columnsOf (fmt : Nat) (sets : List WSet) : List (List Val) :=
  (sets.map fun s => (List.range 64).map fun n => s.column fmt n).flatten

/-- A pass issued into a tile: one row sequence, or the three of a PAIRPASS in their order (R73). -/
def Tile.pass (t : Tile) (p : PassRec) (rows lowRows : List (List Byte)) (w wLow : List WSet) : Tile :=
  let hi := rows.map (arrayVals p.afmt)
  let cw := columnsOf p.wfmt w
  let t1 := { t with rows := feedRows t.isInt cw t.rows hi }
  let t2 :=
    if p.pair then
      let t2 := { t1 with rows := feedRows t.isInt cw t1.rows (lowRows.map (arrayVals p.afmt)) }
      { t2 with rows := feedRows t.isInt (columnsOf p.wfmt wLow) t2.rows hi }
    else t1
  t2.join

/-! ### The automatic grid (R92) -/

/-- f of a format. -/
def gridF (fmt : Nat) : Int := if fmt = cE5M2 ∨ fmt = cSB52 then 15 else 8

/-- The scale exponents of the non-NaN blocks of a run of blocks. -/
def scales (bs : List Byte) : List Int :=
  (chunks 33 bs).filterMap fun b => match b with
    | s :: _ => if s = 0xFF#8 then none else some ((s.toNat : Int) - 127)
    | [] => none

/-- The largest of the scale exponents, 0 for none. -/
def maxScale : List Int → Int
  | [] => 0
  | s :: ss => ss.foldl max s

/-- ceil(log2 n) for n ≥ 1. -/
def clog2 (n : Nat) : Nat := if n ≤ 1 then 0 else (n - 1).log2 + 1

/-- The automatic grid of an opening pass. -/
def autoGrid (p : PassRec) (dep : Nat) (rows lowRows : List (List Byte)) (w wLow : List WSet) : Int :=
  let blocky := fun fmt => isSB fmt || fmt == cPair43
  let sa := if blocky p.afmt then maxScale ((rows ++ lowRows).map scales).flatten else 0
  let sw := if blocky p.wfmt then maxScale ((w ++ wLow).map fun s => scales s.bytes).flatten else 0
  let l := clog2 (if dep = 0 then 32768 else max dep 256) + (if p.pair then 2 else 0)
  gridF p.afmt + gridF p.wfmt + sa + sw + (l : Int) - 53

/-! ### Format combinations (R60) -/

def isFloatOperand (fmt : Nat) : Bool := fmt == cE4M3 || fmt == cE5M2 || isSB fmt

/-- Whether a PASS or PAIRPASS may multiply two formats. -/
def combines (pair : Bool) (a w : Nat) : Bool :=
  if pair then a == cPair43 && w == cPair43
  else (isFloatOperand a && isFloatOperand w) || (a == cINT8 && w == cINT8) || (a == cINT4 && w == cINT4)

def isIntOperand (fmt : Nat) : Bool := fmt == cINT8 || fmt == cINT4

/-! ### WLOAD (R69, R73, R140, R507) -/

def wlFields : List (Nat × Nat) := common ++ [(8, 8), (35, 32), (63, 40), (87, 64), (91, 88), (119, 96)]

/-- The arrays a WLOAD names. -/
def wlArrays (w : Nat) : List Nat := (List.range 4).filter fun a => bit w (32 + a)

/-- The bases a WLOAD reads for an array: of the set, and in pair form of the residual set. -/
def wlBase (w a : Nat) : Nat := field w 63 40 + a * field w 119 96
def wlBase2 (w a : Nat) : Nat := field w 87 64 + a * field w 119 96

/-- The formats a weight set may have (R60, R140). -/
def isWeightFmt (fmt : Nat) : Bool := isFloatOperand fmt || isIntOperand fmt

/-- Whether a WLOAD is well formed. -/
def wlOk (w : Nat) : Bool :=
  let pair := bit w 8
  let fmt := field w 91 88
  let size := weightSetSize fmt
  let bases := (wlArrays w).map (wlBase w) ++ (if pair then (wlArrays w).map (wlBase2 w) else [])
  onlyFields w wlFields && sync w == 0xFFFF && field w 35 32 != 0 && field w 119 96 % 64 == 0 &&
    (if pair then fmt == cPair43 else isWeightFmt fmt && field w 87 64 == 0) &&
    bases.all fun b => b % 64 == 0 && inHold b size

/-- The arrays' sets with one loaded from a hold offset. -/
def Dev.loadSet (d : Dev) (c : CoreRef) (fmt off : Nat) : WSet := ⟨⟨some fmt, some off⟩, d.read (holdAt c off) (weightSetSize fmt)⟩

/-- A WLOAD's turn: the sets take their new format and bytes, and the load is under way until WLOAD_COMPLETE. -/
def runWload (w : Waiting) (d : Dev) : Turn :=
  if wlOk w.word then
    let c := w.tag.core
    let fmt := field w.word 91 88
    let pair := bit w.word 8
    let size := weightSetSize fmt
    let reads := (wlArrays w.word).map (fun a => (wlBase w.word a, size)) ++ (if pair then (wlArrays w.word).map fun a => (wlBase2 w.word a, size) else [])
    (d.gate w.tag reads []).turn w fun bad =>
      if bad then .done (d.consumePoison w.tag)
      else
        let sh := fun (x : CoreSt) a => { x with shadow := tblSet x.shadow a (d.loadSet c fmt (if pair then wlBase2 w.word a else wlBase w.word a)) }
        let ac := fun (x : CoreSt) a => if pair then { x with active := tblSet x.active a (d.loadSet c fmt (wlBase w.word a)) } else x
        .done (d.modCore c fun x =>
          let x := (wlArrays w.word).foldl (fun x a => ac (sh x a) a) x
          { x with loads := x.loads ++ [⟨w.tag, pair⟩] })
  else .malformed d

/-! ### PASS and PAIRPASS (R65, R70, R73, R80 to R83, R91, R92, R141, R142) -/

def passFields : List (Nat × Nat) :=
  common ++ [(8, 8), (9, 9), (10, 10), (11, 11), (12, 12), (55, 32), (71, 56), (79, 72), (83, 80), (87, 84), (97, 88), (119, 104), (143, 120)]

def psSwap (w : Nat) : Bool := bit w 8
def psAuto (w : Nat) : Bool := bit w 9
def psAccrete (w : Nat) : Bool := bit w 10
def psFollow (w : Nat) : Bool := bit w 11
def psRing (w : Nat) : Bool := bit w 12
def psFlagged (w : Nat) : Bool := psAccrete w || psFollow w || psRing w

/-- The rows of a ring conveyor as hold offsets: messages `first` to `first + n − 1` (R165). -/
def Conveyor.slots (v : Conveyor) (first n : Nat) : List Nat := (List.range n).map fun i => v.ring + ((first + i) % v.depth) * v.slot

/-- The well-formedness of a PASS or PAIRPASS that its own bits decide. -/
def passBitsOk (pair : Bool) (w : Nat) : Bool :=
  let m := field w 79 72
  let st := field w 71 56
  let af := field w 83 80
  let rs := actRowSize af
  let modes := (if psAccrete w then 1 else 0) + (if psFollow w then 1 else 0) + (if psRing w then 1 else 0)
  onlyFields w passFields && combines pair af (field w 87 84) && decide (field w 119 104 ≤ 32768) && decide (modes ≤ 1) &&
    !(pair && psFlagged w) && (pair || field w 143 120 == 0) &&
    !(psAuto w && (psAccrete w || psFollow w)) &&
    (if psAccrete w || psFollow w then m == 0 else decide (1 ≤ m) && decide (m ≤ 128)) &&
    (if psFlagged w then field w 55 32 == 0 && st == 0
     else sync w == 0xFFFF && field w 55 32 % 64 == 0 && st % 8 == 0 && decide (rs ≤ st) && inHold (field w 55 32) ((m - 1) * st + rs) &&
       (!pair || (field w 143 120 % 64 == 0 && inHold (field w 143 120) ((m - 1) * st + rs))))

/-- The conveyor a flagged PASS reads, when this core is its consumer and its ring lies in the hold with rows that fit (R138, R142). -/
def Dev.passConv (d : Dev) (t : OrderTag) (w : Nat) : Option Conveyor :=
  match d.conv t.ctx (sync w) with
  | none => none
  | some v =>
    if decide (sync w < 4096) && v.cons == endpoint (d.midOf t.ctx) t.core && !v.quay && decide (actRowSize (field w 83 80) + 8 ≤ v.slot) then some v else none

/-- The rows a PASS takes: hold offsets, tags and the batch it forms or follows. -/
structure PassRows where
  offs : List Nat
  tags : List Nat := []
  batch : Option (Nat × Nat × Nat) := none

/-- The rows of a flagged or plain PASS; none when it is malformed by its conveyor's state. A new batch is decided elsewhere. A CONVEY_GET in its RELEASE form
takes nothing, so the latest one that took messages stays the latest for RING (DESIGN CHOICE, log 93). -/
def Dev.passRows (d : Dev) (t : OrderTag) (w : Nat) : Option PassRows :=
  let tagAt := fun (v : Conveyor) (s : Nat) => leNat (d.read (holdAt t.core (s + v.slot - 8)) 2)
  if psFlagged w then
    match d.passConv t w with
    | none => none
    | some v =>
      if psRing w then
        if v.lastTake = field w 79 72 then some { offs := v.slots v.takeAt v.lastTake } else none
      else if v.batch.2 = 0 then none
      else
        let ss := v.slots v.batch.1 v.batch.2
        some { offs := ss, tags := ss.map (tagAt v), batch := some (sync w, v.batch.1, v.batch.2) }
  else some { offs := (List.range (field w 79 72)).map fun m => field w 55 32 + m * field w 71 56 }

/-- The arrays' sets after a SWAP (R70). -/
def CoreSt.swapped (x : CoreSt) (swap : Bool) : CoreSt := if swap then { x with active := x.shadow, shadow := x.active } else x

/-- The four active, and the four shadow, sets. -/
def CoreSt.actives (x : CoreSt) : List WSet := (List.range 4).map fun a => tblGet {} x.active a
def CoreSt.shadows (x : CoreSt) : List WSet := (List.range 4).map fun a => tblGet {} x.shadow a

/-- Whether the sets a pass uses carry its WFMT, or no format (R507). -/
def fmtsAgree (sets : List WSet) (fmt : Nat) : Bool := sets.all fun s => s.ref.fmt == none || s.ref.fmt == some fmt

/-- A fresh row of a tile on a grid. -/
def freshRow (g : Int) (tag : Nat) : TileRow := { g := g, tag := tag, cells := List.replicate 256 {} }

/-- The rows of a tile that a batch joins, with the requesters' tags of the batch (R80, R84). -/
def retag : List TileRow → List Nat → List TileRow
  | r :: rs, t :: ts => { r with tag := t } :: retag rs ts
  | rs, _ => rs

/-- The clock of the arithmetic islands at OP_NOW, in MHz (R22). -/
def Dev.mhz (d : Dev) : Nat := d.objAt 0x1100 0x16 (d.obj 0x2000 0x08)

/-- Whether a core is quiet (R396): no row in the last 256 ac. -/
def Dev.quiet (d : Dev) (c : CoreRef) : Bool :=
  (d.core c).quiet || decide (256 * 1000 ≤ (d.time - (d.core c).lastRow) * d.mhz)

/-- The effect of an accumulate that leaves a tile saturated after its replays (R100): TILES_SATURATED and a class D fault. -/
def Dev.noteSat (d : Dev) (t : OrderTag) (before after : Tile) : Dev :=
  let n := (after.rows.filter TileRow.accSat).length - (before.rows.filter TileRow.accSat).length
  let n := if after.batch.isSome then n else min n 1
  if n = 0 then d
  else (List.range n).foldl (fun d _ => d.fault 0x0106 (some t.ctx) (d.coreDetail t.core)) (d.bump (0x7400 + t.ctx) 3 n)

/-- A pass issues its rows (R64, R88, R91 to R94): the tile it opens or joins, its tally, and the sets after it. A new batch that joins a tile which already holds
another batch of as many rows leaves that tile its first batch, with its tags and its release (DESIGN CHOICE, log 93). -/
def Dev.issuePass (d : Dev) (w : Waiting) (pair : Bool) (r : PassRows) : Dev :=
  let c := w.tag.core
  let wd := w.word
  let x := (d.core c).swapped (psSwap wd)
  let afmt := field wd 83 80
  let wfmt := field wd 87 84
  let low := if pair then (List.range (field wd 79 72)).map fun m => field wd 143 120 + m * field wd 71 56 else []
  let p : PassRec := ⟨pair, afmt, wfmt, r.offs, low, x.actives.map WSet.ref, if pair then x.shadows.map WSet.ref else []⟩
  let bytes := fun (offs : List Nat) => offs.map fun o => d.read (holdAt c o) (actRowSize afmt)
  let wLow := if pair then x.shadows else []
  let isInt := isIntOperand afmt
  let g := if isInt then 0 else if psAuto wd then autoGrid p (field wd 119 104) (bytes r.offs) (bytes low) x.actives wLow else sfield wd 97 88
  let rowTags := (List.range r.offs.length).map fun m => nth m r.tags m
  let t0 : Tile := match x.bank x.cur with
    | some t =>
      match t.batch, r.batch with
      | none, some b => { t with batch := some b, rows := retag t.rows r.tags }
      | _, _ => t
    | none => { isInt := isInt, rows := rowTags.map (freshRow g), tally := [], batch := r.batch }
  let t1 := t0.pass p (bytes r.offs) (bytes low) x.actives wLow
  let t1 := { t1 with tally := t1.tally ++ [p] }
  let d := d.setCore c { x.setBank x.cur (some t1) with quiet := false, asking := false, lastRow := d.time, clockGated := false, powerGated := false }
  (d.bumpFree (d.coreIdx 0x1200 c) 7).noteSat w.tag t0 t1

/-- Whether a pass fits the open tile (R91, R97) and its weight sets (R507). -/
def passFits (x : CoreSt) (pair : Bool) (wd rows : Nat) : Bool :=
  let wfmt := field wd 87 84
  (fmtsAgree x.actives wfmt && (!pair || fmtsAgree x.shadows wfmt)) &&
    match x.bank x.cur with
    | none => true
    | some t => t.rows.length == rows && t.isInt == isIntOperand (field wd 83 80) && decide (t.tally.length < 128)

/-- The rest of a pass once its rows are known: malformed cases, its operands, the tide gate, and issue. -/
def Dev.passGo (d : Dev) (w : Waiting) (pair : Bool) (r : PassRows) (k : Dev → Dev) : Turn :=
  let c := w.tag.core
  let x := (d.core c).swapped (psSwap w.word)
  if passFits x pair w.word r.offs.length then
    let size := actRowSize (field w.word 83 80)
    let low := if pair then (List.range (field w.word 79 72)).map fun m => field w.word 143 120 + m * field w.word 71 56 else []
    (d.gate w.tag ((r.offs ++ low).map fun o => (o, size)) []).turn w fun bad =>
      if bad then .done ((k d).consumePoison w.tag)
      else if d.quiet c ∨ d.time < (d.core c).wakeAt then .wait (d.bumpFree (0x2010 + c.cl / 2) 0x0B) { w with stalled := true, gated := true }
      else .done ((k d).issuePass w pair r)
  else .malformed d

/-- Whether a pass waits for the weight port (R70) or for the drain that still reads its bank (R103). -/
def CoreSt.passWaits (x : CoreSt) (pair swap : Bool) : Bool :=
  (x.loads != [] && (swap || pair || x.loads.any LoadJob.pair)) || x.drains.any fun j => j.bank == x.cur

/-- The window of an accretion ring that issues now (R81): the rows it takes, and whether it timed out. Rows that became visible after
the expiry are the next window's (R220). -/
def Conveyor.windowRows (v : Conveyor) (time : Nat) : Option (Nat × Bool) :=
  match v.window with
  | none => none
  | some x =>
    if x.rows = 0 then none
    else if x.accRows ≤ x.rows ∨ 128 ≤ x.rows then some (min (v.visible - v.taken) 128, false)
    else if x.opened + x.accWait ≤ time then some (x.rows, true)
    else none

/-- The window that `n` rows open in an accretion ring of a core, none for no rows (R81, R85). -/
def Dev.openWindow (d : Dev) (c : CoreRef) (n : Nat) : Option Window :=
  if n = 0 then none else some ⟨d.time, d.obj (d.coreIdx 0x1200 c) 8, d.obj (d.coreIdx 0x1200 c) 9, n⟩

/-- A conveyor whose accretion ring gives a batch of `n` rows; rows left over, beyond 128 or visible only after the expiry, open the next window. R81 does not
say when: the model opens it as the batch is taken (DESIGN CHOICE, log 93). -/
def Dev.takeBatch (d : Dev) (c : CoreRef) (v : Conveyor) (n : Nat) : Conveyor :=
  let v' := { v with batch := (v.taken, n), taken := v.taken + n }
  { v' with window := d.openWindow c (v'.visible - v'.taken) }

/-- A PASS's turn. Until it finds itself with its rows and operands and only the tide gate before it, it has no row ready. -/
def runPass (w : Waiting) (d : Dev) : Turn :=
  let c := w.tag.core
  let w := { w with gated := false }
  if passBitsOk false w.word then
    if psFlagged w.word && (d.passConv w.tag w.word).isNone then .malformed d
    else if (d.core c).passWaits false (psSwap w.word) then .wait (d.bumpFree (d.coreIdx 0x1400 c) 2) { w with stalled := true }
    else if psAccrete w.word then
      match d.passConv w.tag w.word with
      | none => .malformed d
      | some v =>
        match v.windowRows d.time with
        | none => .wait d { w with stalled := false }
        | some (n, late) =>
          let v' := d.takeBatch c v n
          let d1 := d.setConv w.tag.ctx (sync w.word) v'
          match d1.passRows w.tag w.word with
          | none => .malformed d
          | some r =>
            match d.passGo w false r fun d => (((d.setConv w.tag.ctx (sync w.word) v').bump (d.coreIdx 0x1200 c) 0x0A 1).bump (d.coreIdx 0x1200 c) 0x0B (if late then 1 else 0)) with
            | .wait d w => .wait d w
            | t => t
    else
      match d.passRows w.tag w.word with
      | none => .malformed d
      | some r => d.passGo w false r id
  else .malformed d

/-- A PAIRPASS's turn (R73). -/
def runPairpass (w : Waiting) (d : Dev) : Turn :=
  let w := { w with gated := false }
  if passBitsOk true w.word then
    if (d.core w.tag.core).passWaits true (psSwap w.word) then .wait (d.bumpFree (d.coreIdx 0x1400 w.tag.core) 2) w
    else match d.passRows w.tag w.word with
      | none => .malformed d
      | some r => d.passGo w true r id
  else .malformed d

/-! ### Replay (R95, R96, R101) -/

/-- The weight set a tally entry names, reloaded from its hold address (R72). -/
def Dev.reload (d : Dev) (c : CoreRef) (r : WRef) : WSet :=
  match r.fmt, r.src with
  | some f, some o => d.loadSet c f o
  | _, _ => {}

/-- One tally entry replayed into a tile. -/
def Dev.replayEntry (d : Dev) (c : CoreRef) (t : Tile) (p : PassRec) : Tile :=
  let bytes := fun (offs : List Nat) => offs.map fun o => d.read (holdAt c o) (actRowSize p.afmt)
  t.pass p (bytes p.rows) (bytes p.lowRows) (p.w.map (d.reload c)) (p.wLow.map (d.reload c))

/-- A tile whose abandoned rows start again on a grid 8 higher, with one replay more. -/
def Tile.raise (t : Tile) : Tile :=
  { t with rows := t.rows.map fun r => if r.abandoned then { freshRow (r.g + 8) r.tag with replays := r.replays + 1, accSat := r.accSat } else r }

/-- The rows of a tile that are replayed, merged back into the tile: the other rows keep what they hold (R83). -/
def mergeRows : List TileRow → List TileRow → List TileRow
  | o :: os, n :: ns => (if o.abandoned then n else o) :: mergeRows os ns
  | _, ns => ns

/-- One replay of a tile. -/
def Dev.replayTile (d : Dev) (c : CoreRef) (t : Tile) : Tile :=
  let t' := t.tally.foldl (d.replayEntry c) t.raise
  { t' with rows := mergeRows t.rows t'.rows }

/-- Whether a replay's tally lies in poisoned lines (R421). -/
def Dev.tallyPoisoned (d : Dev) (c : CoreRef) (t : Tile) : Bool := t.pins.any fun p => d.poisonIn (holdAt c p.1) p.2

/-- TILE_REPLAY: the abandoned tile of a bank is cleared, raised by 8 and replayed from its tally. REPLAYED_PASSES counts the whole
tally, also of a replay that a further overflow abandons (log 93). -/
def Dev.replayBank (d : Dev) (c : CoreRef) (b : Bool) : Dev :=
  let x := d.core c
  match x.bank b, x.armed with
  | some t, some ctx =>
    if t.replayPending then
      let tag : OrderTag := ⟨c, ctx, 0, 0, 0, 0, x.stamp⟩
      if d.tallyPoisoned c t then d.consumePoison tag
      else
        let n := if t.batch.isSome then (t.rows.filter TileRow.abandoned).length else 1
        let t' := d.replayTile c t
        let d := d.modCore c fun x => x.setBank b (some t')
        let d := ((d.bump (0x7400 + ctx) 1 n).bump (0x7400 + ctx) 2 (n * t.tally.length)).bump 0xB000 7 n
        d.noteSat tag t t'
    else d
  | _, _ => d

end Sys2Proof.Machine
end

