-- ==== Sys2Proof/Machine/Flags.lean ====
section
/-! DEFINITION. Flags and counters that orders leave: the range counters (R56) and non-finite counters (R311) of a context, the
tile header and its flags (R107), and the combine of W64 tiles (R111). -/

namespace Sys2Proof.Machine

/-- A device object of a context set to 1 when a count is not zero. -/
def Dev.flagIf (d : Dev) (idx sub : Nat) (on : Bool) : Dev := if on then d.setObj idx sub 1 else d

/-- The counts of an order added to its context's range counters and non-finite counters (R56, R311). -/
def Dev.count (d : Dev) (ctx : Nat) (c : Counts) : Dev :=
  let i := 0x7300 + ctx
  let j := 0xA100 + ctx
  let d := ((((d.bump i 1 c.finiteSat).bump i 2 c.infSat).bump i 3 c.intSat).bump i 4 c.nanToInt).bump i 5 c.scaleSat
  let d := d.flagIf i 6 (c.finiteSat + c.infSat + c.intSat + c.nanToInt + c.scaleSat != 0)
  ((d.bump j 1 c.nfNan).bump j 2 c.nfInf).flagIf j 3 (c.nfNan + c.nfInf != 0)

/-! ### The tile header (R107) -/

def Header.bytes (h : Header) : List Byte := natLe 32 h.word

/-- The fields of a header word. -/
def Header.ofWord (w : Nat) : Header :=
  { g := sfield w 15 0, rows := field w 23 16, kind := bit w 24, width := field w 26 25, replays := field w 28 27, accSat := bit w 29,
    satOut := bit w 30, nonfinite := bit w 31, mismatch := bit w 32, parts := field w 63 48 }

/-- Whether a header read as an operand has none of the defects of R107: reserved bits, WIDTH, ROWS, and G under KIND 1. The range
of G is that of its field's map. -/
def headerOk (w : Nat) : Bool :=
  field w 255 64 == 0 && field w 47 33 == 0 && (field w 26 25 == 1 || field w 26 25 == 2) &&
    decide (1 ≤ field w 23 16) && decide (field w 23 16 ≤ 128) && decide (-512 ≤ sfield w 15 0) && decide (sfield w 15 0 ≤ 511) &&
    !(bit w 24 && field w 15 0 != 0)

/-- Columns of a tile by WIDTH. -/
def Header.columns (h : Header) : Nat := if h.width = 1 then 128 else 256

/-- Whether two inputs of a combine agree (R111 rule 1). -/
def Header.agrees (a b : Header) : Bool := a.rows == b.rows && a.width == b.width && a.kind == b.kind

/-- A W64 tile: its header and its entries in row-major order. -/
structure W64 where
  h : Header
  es : List Ent
deriving DecidableEq, Repr

/-- Entries combined one by one, with the number of clamps (R111 rule 4). -/
def combineEnts (ka kb : Nat) : List Ent → List Ent → List Ent × Nat
  | a :: as, b :: bs =>
    let c := (a.align ka).combine (b.align kb)
    let r := combineEnts ka kb as bs
    (c.1 :: r.1, r.2 + b2n c.2)
  | [], bs => (bs.map (Ent.align kb), 0)
  | as, [] => (as.map (Ent.align ka), 0)

/-- The combine of two agreeing tiles (R111 rules 2 to 6), with the number of clamps. -/
def W64.combine (a b : W64) : W64 × Nat :=
  let g := max a.h.g b.h.g
  let r := combineEnts (g - a.h.g).toNat (g - b.h.g).toNat a.es b.es
  let mis := a.h.g != b.h.g
  (⟨{ a.h with g := g, parts := min 65535 (a.h.parts + b.h.parts), replays := max a.h.replays b.h.replays, accSat := a.h.accSat || b.h.accSat,
               satOut := a.h.satOut || b.h.satOut || r.2 != 0, mismatch := a.h.mismatch || b.h.mismatch || mis,
               nonfinite := a.h.nonfinite || b.h.nonfinite || r.1.any fun e => !e.isFinite }, r.1⟩, r.2)

/-- What a combine counts: clamps in FINITE_SAT. The written non-finite entries are counted where they are written. -/
def nonfiniteCounts : List Ent → Counts
  | [] => {}
  | .nan :: es => (nonfiniteCounts es).add { nfNan := 1 }
  | .inf _ :: es => (nonfiniteCounts es).add { nfInf := 1 }
  | .fin _ :: es => nonfiniteCounts es

/-- The entries of a run of W64 words. -/
def entsOf (bs : List Byte) : List Ent := (chunks 8 bs).map fun b => Ent.ofWord (leNat b)
def entBytes (es : List Ent) : List Byte := (es.map fun e => natLe 8 e.toWord).flatten

end Sys2Proof.Machine
end

