-- ==== Sys2Proof/Machine/Conveyors.lean ====
section
/-! DEFINITION. Conveyors (R149, R150, R163 to R169): sending and delivering messages, credits, and the orders CONVEY_PUT and
CONVEY_GET in its three forms. -/

namespace Sys2Proof.Machine

/-- The local address of a slot of a ring on this module: in a hold, or in the retention banks of a quay (R163, R169). -/
def Conveyor.slotAt (v : Conveyor) (s : Nat) : Nat :=
  (if v.quay then quayBase (epCore v.cons).cl + 0x02A00000 else holdBase (epCore v.cons)) + v.ring + (s % v.depth) * v.slot

/-- The message header of R165. -/
def msgHeader (len seq tag : Nat) : List Byte := natLe 8 (tag % 2 ^ 16 + (seq % 2 ^ 32) * 2 ^ 16 + len * 2 ^ 48)

/-- A window when one row more becomes visible: it counts up to the cycle of the expiry (R81, R220). -/
def Window.row (x : Window) (time : Nat) : Window := if time ≤ x.opened + x.accWait then { x with rows := x.rows + 1 } else x

/-- A message written into its ring: payload, then header in the last 8 bytes of its slot; an empty accretion ring opens its window
with the values of ACC_ROWS and ACC_WAIT at that time (R81, R85, R165, R167). A slot that a program wrote into while its message was not released holds the byte
written last, one of the two that R167 allows (DESIGN CHOICE, log 93). -/
def Dev.deliver (d : Dev) (ctx n : Nat) (v : Conveyor) (seq tag : Nat) (bytes : List Byte) (bad : Bool) : Dev :=
  let a := v.slotAt seq
  let d := d.write a bytes bad
  let d := d.write (a + v.slot - 8) (msgHeader bytes.length seq tag) bad
  d.setConv ctx n { v with visible := v.visible + 1,
                           window := match v.window with
                             | some x => some (x.row d.time)
                             | none => if v.visible = v.taken ∧ v.quay = false then d.openWindow (epCore v.cons) 1 else none }

/-- A message leaves its producer (R166, R168): it spends a credit and goes to a ring here, or on its context's session, in as many packets as PAYLOAD_MAX
makes of it: bit 16 of ADDR tells that more of it follows. -/
def Dev.putMsg (d : Dev) (t : OrderTag) (n : Nat) (v : Conveyor) (tag : Nat) (bytes : List Byte) (bad : Bool) : Dev :=
  let v' := { v with credits := v.credits - 1, sent := v.sent + 1 }
  if epMid v.cons = d.midOf t.ctx then
    d.setConv t.ctx n { v' with flying := v'.flying ++ [⟨v.sent, tag, bytes, bad, t.core, t.stamp⟩] }
  else
    let m := d.payloadMax
    let k := max 1 (ceilDiv bytes.length m)
    (List.range k).foldl (fun d i => d.sendTo (some t.ctx) (d.rankOfMid t.ctx (epMid v.cons))
      { cls := clReq, op := 0x10, channel := n, addr := tag + (if i + 1 < k then 2 ^ 16 else 0), data := (bytes.drop (i * m)).take m, poison := bad,
        origin := some (t.core.key, t.stamp) }) (d.setConv t.ctx n v')

/-- Whether a message can leave: a credit, and for another module an open session with room (R166, R255). -/
def Dev.canPut (d : Dev) (ctx : Nat) (v : Conveyor) : Bool :=
  v.credits != 0 &&
    (epMid v.cons == d.midOf ctx || d.rankOfMid ctx (epMid v.cons) == d.rank ||
      match d.sessionTo (d.viaCtx (some ctx)) (d.rankOfMid ctx (epMid v.cons)) with
      | some k => d.canSend k clReq
      | none => false)

/-- Messages freed by their consumer: credits on their way back to the producer (R150, R166). -/
def Dev.freeSlots (d : Dev) (ctx n : Nat) (v : Conveyor) (k : Nat) : Dev :=
  if epMid v.prod = d.midOf ctx then d.setConv ctx n { v with released := v.released + k, returning := v.returning + k }
  else (d.setConv ctx n { v with released := v.released + k }).sendTo (some ctx) (d.rankOfMid ctx (epMid v.prod)) { cls := clCtl, op := 0x11, channel := n, addr := k }

/-- A drained accreted batch gives its slots back (R80). -/
def Dev.releaseBatch (d : Dev) (ctx : Nat) (b : Nat × Nat × Nat) : Dev :=
  match d.conv ctx b.1 with
  | none => d
  | some v => d.freeSlots ctx b.1 (if v.batch = b.2 then { v with batch := (0, 0) } else v) b.2.2

/-! ### CONVEY_PUT (R149, R166) -/

def putFields : List (Nat × Nat) := common ++ [(55, 32), (71, 56), (87, 72), (103, 88), (127, 104)]

def putSrc (w : Nat) (i : Nat) : Nat := field w 55 32 + i * field w 127 104
def putLen (w : Nat) : Nat := field w 71 56
def putCount (w : Nat) : Nat := field w 103 88

/-- The conveyor a CONVEY_PUT sends on when the order is well formed. -/
def Dev.putConv (d : Dev) (t : OrderTag) (w : Nat) : Option Conveyor :=
  match d.conv t.ctx (sync w) with
  | none => none
  | some v =>
    if onlyFields w putFields && decide (sync w < 4096) && v.prod == endpoint (d.midOf t.ctx) t.core && decide (1 ≤ putCount w) && decide (1 ≤ putLen w) &&
        decide (putLen w + 8 ≤ v.slot) && inHold (putSrc w (putCount w - 1)) (putLen w) then some v else none

/-- The messages from number `i` on, as far as credits and the transport allow: the device and the next message number. -/
def Dev.putGo (t : OrderTag) (w : Nat) : Nat → Nat → Dev → Dev × Nat
  | 0, i, d => (d, i)
  | fuel + 1, i, d =>
    match d.conv t.ctx (sync w) with
    | none => (d, i)
    | some v =>
      if d.canPut t.ctx v then
        let a := holdAt t.core (putSrc w i)
        Dev.putGo t w fuel (i + 1) (d.putMsg t (sync w) v (field w 87 72) (d.read a (putLen w)) (d.poisonIn a (putLen w)))
      else (if v.credits = 0 then d.bumpFree (d.coreIdx 0x1400 t.core) 3 else d.bumpFree 0x3100 0x0D, i)

/-- A CONVEY_PUT's turn. -/
def runPut (w : Waiting) (d : Dev) : Turn :=
  match d.putConv w.tag w.word with
  | none => .malformed d
  | some _ =>
    let n := putCount w.word
    (d.gate w.tag [(putSrc w.word 0, (n - 1) * field w.word 127 104 + putLen w.word)] []).turn w fun _ =>
      let r := Dev.putGo w.tag w.word (n - w.done) w.done d
      if r.2 < n then .wait r.1 { w with done := r.2, stalled := false } else .done r.1

/-! ### CONVEY_GET (R150, R169) -/

def getFields : List (Nat × Nat) := common ++ [(8, 8), (9, 9), (47, 32), (71, 48), (87, 72)]

def getCount (w : Nat) : Nat := field w 47 32

/-- Whether a core may consume a conveyor: its consumer core, or any core of a quay ring's cluster (R138, R169). -/
def Dev.consumes (d : Dev) (ctx : Nat) (c : CoreRef) (v : Conveyor) : Bool :=
  if v.quay then epMid v.cons == d.midOf ctx && (epCore v.cons).cl == c.cl else v.cons == endpoint (d.midOf ctx) c

/-- The conveyor of a well-formed CONVEY_GET; `copy` and `rel` are its form. -/
def Dev.getConv (d : Dev) (t : OrderTag) (w : Nat) : Option Conveyor :=
  match d.conv t.ctx (sync w) with
  | none => none
  | some v =>
    let rel := bit w 8
    let copy := bit w 9
    if onlyFields w getFields && decide (sync w < 4096) && !(rel && copy) && decide (1 ≤ getCount w) && decide (getCount w ≤ 4096) && d.consumes t.ctx t.core v &&
        (!v.quay || copy) && (rel || decide (v.taken % v.depth + getCount w ≤ v.depth)) &&
        (!rel || decide (getCount w ≤ v.taken - v.released)) &&
        (!copy || inHold (field w 71 48 + (getCount w - 1) * field w 87 72) v.slot) then some v else none

/-- The window a ring keeps when `n` of its messages are taken (R81): none where that leaves it empty, the open one while rows of it are left, and else a new
one for the rows that came after its expiry, which the model opens at the time of the take (DESIGN CHOICE, log 93). -/
def Dev.windowAfter (d : Dev) (v : Conveyor) (n : Nat) : Option Window :=
  if v.taken + n = v.visible then none
  else match v.window with
    | some x => if n < x.rows then some { x with rows := x.rows - n } else d.openWindow (epCore v.cons) (v.visible - (v.taken + n))
    | none => none

/-- The conveyor after a CONVEY_GET takes `n` further messages (R150). -/
def Dev.takeMsgs (d : Dev) (v : Conveyor) (n : Nat) : Conveyor :=
  { v with taken := v.taken + n, lastTake := n, takeAt := v.taken, window := d.windowAfter v n }

/-- Take form: it waits for COUNT messages beyond those taken, and marks them taken. -/
def runTake (w : Waiting) (d : Dev) : Turn :=
  match d.getConv w.tag w.word with
  | none => .malformed d
  | some v =>
    if v.visible - v.taken < getCount w.word then .wait (d.bumpFree (d.coreIdx 0x1400 w.tag.core) 4) w
    else .done (d.setConv w.tag.ctx (sync w.word) (d.takeMsgs v (getCount w.word)))

/-- Release form: it frees the COUNT oldest taken messages. -/
def runRelease (w : Waiting) (d : Dev) : Turn :=
  match d.getConv w.tag w.word with
  | none => .malformed d
  | some v => .done (d.freeSlots w.tag.ctx (sync w.word) v (getCount w.word))

/-- One slot copied whole, with its poison mark. -/
def Dev.copySlot (d : Dev) (c : CoreRef) (w : Nat) (v : Conveyor) (i : Nat) : Dev :=
  let a := v.slotAt (v.taken + i)
  d.write (holdAt c (field w 71 48 + i * field w 87 72)) (d.read a v.slot) (d.poisonIn a v.slot)

/-- Whether a core waits with a CONVEY_GET on conveyor `n` of a context. -/
def Dev.getsFrom (d : Dev) (ctx n : Nat) (c : CoreRef) : Bool :=
  match (d.core c).wait with
  | some w => w.tag.ctx == ctx && w.tag.op == 0x22 && sync w.word == n
  | none => false

/-- The GETs that wait at a quay ring in the order in which they reached it, that of a core last when it comes now (R169). -/
def Dev.getQueue (d : Dev) (ctx n : Nat) (v : Conveyor) (c : CoreRef) : List CoreRef :=
  let q := v.getters.filter (d.getsFrom ctx n)
  if c ∈ q then q else q ++ [c]

/-- COPY form: it takes COUNT messages, copies their slots and releases them. The GETs of a quay ring do so one after the other, in the order in
which they reached it. -/
def runCopy (w : Waiting) (d : Dev) : Turn :=
  match d.getConv w.tag w.word with
  | none => .malformed d
  | some v =>
    let n := getCount w.word
    let q := if v.quay then d.getQueue w.tag.ctx (sync w.word) v w.tag.core else []
    let d := d.setConv w.tag.ctx (sync w.word) { v with getters := q }
    if v.visible - v.taken < n ∨ (q.drop 1).contains w.tag.core then .wait (d.bumpFree (d.coreIdx 0x1400 w.tag.core) 4) { w with stalled := false }
    else
      let src := (List.range n).map fun i => v.slotAt (v.taken + i)
      let g := if src.any fun a => d.ownedIn a v.slot then Gate.stall (src.foldl (fun d a => d.recallOwned a v.slot) d)
        else d.gate w.tag [] [(field w.word 71 48, (n - 1) * field w.word 87 72 + v.slot)]
      g.turn w fun _ =>
        let d1 := (List.range n).foldl (fun d i => d.copySlot w.tag.core w.word v i) d
        .done (d1.freeSlots w.tag.ctx (sync w.word) { d.takeMsgs v n with getters := q.drop 1 } n)

/-- The rows of CONVEY_GET: RELEASE by its flag, also when COPY stands beside it; COPY by its flag alone; else a take. -/
def selTake (w : Nat) : Bool := isOp 0x22 w && !(bit w 8) && !(bit w 9)
def selRelease (w : Nat) : Bool := isOp 0x22 w && bit w 8
def selCopy (w : Nat) : Bool := isOp 0x22 w && !(bit w 8) && bit w 9

end Sys2Proof.Machine
end

