-- ==== Sys2Proof/Machine/Drain.lean ====
section
/-! DEFINITION. The drain (R102 to R111, R143, R144): the DRAIN order, which flips the bank and queues its reading, and the reading
that converts, writes and reports the tile. -/

namespace Sys2Proof.Machine

def drFields : List (Nat × Nat) :=
  common ++ [(8, 8), (9, 9), (11, 10), (13, 12), (39, 32), (47, 40), (71, 48), (87, 72), (91, 88), (119, 96), (135, 120), (159, 136), (199, 160)]

/-- The targets of R105. -/
def isDrainTarget (fmt : Nat) : Bool := decide (fmt ≤ 8) || fmt == cPair32 || fmt == cW64

/-- The epilogue operand formats of R109. -/
def isEpiFmt (fmt : Nat) : Bool := [cFP32, cBF16, cE4M3, cE5M2, cINT8, cINT32, cW64].contains fmt

/-- A row-major layout of R66: base on 64 B, stride a multiple of 8 and at least the row size. -/
def layoutOk (base stride size : Nat) : Bool := base % 64 == 0 && stride % 8 == 0 && decide (size ≤ stride)

/-- The epilogue fields of a DRAIN (R109, R110), for a tile of `rows` rows. -/
def epiOk (w rows : Nat) : Bool :=
  let f := drEfmt w
  drEpi w == 0 ||
    (drEpi w != 3 && isEpiFmt f && (f != cW64 || (drEpi w == 1 && drShape w == 0)) && ((drCvt w).fmt != cW64 || f == cW64) &&
      (drShape w != 0 || layoutOk (drEaddr w) (drEstride w) (drainRowSize f)) && (drainReads w (max rows 1)).all fun p => inHold p.1 p.2)

/-- Whether a DRAIN is well formed by its bits and the rows of its tile. -/
def drainOk (w rows : Nat) : Bool :=
  let c := drCvt w
  onlyFields w drFields && !c.reserved && isDrainTarget c.fmt && !(c.scale && field w 47 40 == 0xFF) && epiOk w rows &&
    (if drConvey w then drDst w == 0 && drDstride w == 0 && c.fmt != cW64 && c.fmt != cPair32
     else sync w == 0xFFFF && layoutOk (drDst w) (drDstride w) (drainRowSize c.fmt) && (drainWrites w (max rows 1)).all fun p => inHold p.1 p.2)

/-- Whether the conveyor a DRAIN sends on is this core's to produce, with room for a row (R138, R144). -/
def Dev.drainConvOk (d : Dev) (t : OrderTag) (w : Nat) : Bool :=
  !(drConvey w) ||
    match d.conv t.ctx (sync w) with
    | none => false
    | some v => decide (sync w < 4096) && v.prod == endpoint (d.midOf t.ctx) t.core && decide (drainRowSize (drCvt w).fmt + 8 ≤ v.slot)

/-- The W64 tile operand of an epilogue: its header, and its rows behind it (R107, R109). -/
def Dev.epiTile (d : Dev) (c : CoreRef) (w rows : Nat) : Nat × List Ent :=
  (leNat (d.read (holdAt c (drEaddr w)) 32),
   ((List.range rows).map fun m => entsOf (d.read (holdAt c (drEaddr w + 32 + m * drEstride w)) 2048)).flatten)

/-- Whether the W64 operand of a DRAIN agrees with its tile (R107, R110). -/
def Dev.epiAgrees (d : Dev) (c : CoreRef) (w : Nat) (t : Tile) : Bool :=
  drEpi w == 0 || drEfmt w != cW64 ||
    (let h := (d.epiTile c w 0).1
     headerOk h && (Header.ofWord h).agrees t.header)

/-- DRAIN's turn: the bank flips, and the reading is queued behind the drains before it. -/
def runDrain (w : Waiting) (d : Dev) : Turn :=
  let c := w.tag.core
  let x := d.core c
  let tile := if x.drains.any (fun j => j.bank == x.cur) then none else x.bank x.cur
  let rows := match tile with | some t => t.rows.length | none => 0
  let early := match tile with
    | some t => (x.interlocked w.tag.stamp (drainReads w.word rows) [] || d.epiAgrees c w.word t) && !(t.batch.isSome && (drCvt w.word).fmt == cW64)
    | none => true
  if drainOk w.word rows && d.drainConvOk w.tag w.word && early then
    .done (d.modCore c fun x =>
      { x with cur := !x.cur,
               drains := x.drains ++ [{ tag := w.tag, word := w.word, bank := x.cur, srSeed := d.obj (0x7300 + w.tag.ctx) 8, srCounter := d.obj (0x7300 + w.tag.ctx) 9 }] })
  else .malformed d

/-! ### Reading a tile -/

/-- Consecutive elements of an epilogue operand. -/
def epiVals (fmt : Nat) (bs : List Byte) : List Val := (chunks (elemBytes fmt) bs).map fun b => decodeElem fmt (leNat b)

/-- The epilogue operand of row `m`: 256 values, none without an epilogue. -/
def Dev.epiRow (d : Dev) (c : CoreRef) (w m : Nat) : List Val :=
  let f := drEfmt w
  let n := elemBytes f
  match drShape w with
  | 0 =>
    if f = cW64 then
      let e := d.epiTile c w 0
      (entsOf (d.read (holdAt c (drEaddr w + 32 + m * drEstride w)) 2048)).map (Ent.val (Header.ofWord e.1).g)
    else epiVals f (d.read (holdAt c (drEaddr w + m * drEstride w)) (256 * n))
  | 1 => epiVals f (d.read (holdAt c (drEaddr w)) (256 * n))
  | 2 => List.replicate 256 (decodeElem f (leNat (d.read (holdAt c (drEaddr w + m * n)) n)))
  | _ => List.replicate 256 (decodeElem f (leNat (d.read (holdAt c (drEaddr w)) n)))

/-- The value an element converts from: the exact entry with its epilogue, and the saturation of R100. A saturated entry enters the
automatic scale of its SB32 block as its value after the epilogue (R42; log 93). -/
def drainElem (epi : Nat) (g : Int) (a : Acc) (e : Val) (r : Nat) : Elem :=
  let v := a.ent.val g
  let x := if epi = 1 then v.add e else if epi = 2 then v.mul e else v
  if a.sat && x.isFinite then { v := x, r := r, sat := some (if x.isZero then v.isNeg else x.isNeg) }
  else { v := x, r := r }

/-- The elements of one row, from column `n` on. -/
def drainElems (epi : Nat) (g : Int) (rnd : Nat → Nat) : Nat → List Acc → List Val → List Elem
  | _, [], _ => []
  | n, a :: as, es =>
    drainElem epi g a (match es with | e :: _ => e | [] => .fin false 0 0) (rnd n) :: drainElems epi g rnd (n + 1) as (es.drop 1)

/-- What a drain gives: its rows as bytes with the counts of each, its header, its counts, and whether its grids differed. -/
structure DrainOut where
  rows : List (List Byte)
  each : List Counts := []
  header : Header
  counts : Counts
  mis : Bool := false

/-- One row of a drain to any target but W64. -/
def Dev.drainRow (d : Dev) (c : CoreRef) (j : DrainJob) (accreted : Bool) (m : Nat) (r : TileRow) : List Byte × Counts :=
  let w := j.word
  let cv := drCvt w
  let base := field w 199 160 + (if accreted then 0 else m * 256)
  let rnd := fun n => if cv.rnd = 2 then srBits j.srSeed j.srCounter (field w 159 136) ((base + n) % 2 ^ 40) else 0
  let es := if drEpi w = 0 then [] else d.epiRow c w m
  convRun cv (if cv.scale then some (field w 47 40) else none) (drainElems (drEpi w) r.g rnd 0 r.cells es)

/-- The rows of a drain, from row `m` on. -/
def Dev.drainRows (d : Dev) (c : CoreRef) (j : DrainJob) (accreted : Bool) : Nat → List TileRow → List (List Byte × Counts)
  | _, [] => []
  | m, r :: rs => d.drainRow c j accreted m r :: d.drainRows c j accreted (m + 1) rs

/-- A combined W64 entry as a drain writes it (R100): where the tile's own entry is saturated and the operand finite, ±(2^55 − 1) with
the sign of the result, or of the entry where that is zero; and whether it counts. -/
def satEntry (a : Acc) (e r : Ent) : Ent × Bool :=
  match a.ent, e, r with
  | .fin x, .fin _, .fin y =>
    if a.sat then (.fin (if (if y = 0 then decide (x < 0) else decide (y < 0)) then -accMax else accMax), true) else (r, false)
  | _, _, _ => (r, false)

/-- The combined entries of a drain with the saturated ones put in place, and how many those are. -/
def satEntries : List Acc → List Ent → List Ent → List Ent × Nat
  | a :: as, e :: es, r :: rs =>
    let x := satEntry a e r
    let y := satEntries as es rs
    (x.1 :: y.1, y.2 + b2n x.2)
  | _, _, rs => (rs, 0)

/-- The combine of a drain's tile with its W64 operand (R100, R110, R111): the tile, and what it counts in FINITE_SAT, an entry once. -/
def satCombine (cells : List Acc) (own e : W64) : W64 × Nat :=
  let out := own.combine e
  let quiet := own.combine ⟨e.h, (List.zip cells e.es).map fun p => if p.1.sat then .fin 0 else p.2⟩
  let s := satEntries cells e.es out.1.es
  (⟨{ out.1.h with satOut := out.1.h.satOut || s.2 != 0 }, s.1⟩, quiet.2 + s.2)

/-- A tile drained (R106, R107, R110). -/
def Dev.drainOut (d : Dev) (c : CoreRef) (j : DrainJob) (t : Tile) : DrainOut :=
  let w := j.word
  if (drCvt w).fmt = cW64 then
    let cells := (t.rows.map TileRow.cells).flatten
    let own : W64 := ⟨t.header, cells.map Acc.ent⟩
    let e := d.epiTile c w t.rows.length
    let sat := (cells.filter fun a => a.sat && a.ent.isFinite).length
    let out := if drEpi w = 0 then (⟨{ own.h with satOut := sat != 0 }, own.es⟩, sat) else satCombine cells own ⟨Header.ofWord e.1, e.2⟩
    ⟨(chunks 256 out.1.es).map entBytes, [], out.1.h, (nonfiniteCounts out.1.es).add { finiteSat := out.2 },
     drEpi w != 0 && (Header.ofWord e.1).g != own.h.g⟩
  else
    let rs := d.drainRows c j t.batch.isSome 0 t.rows
    let n := rs.foldl (fun (a : Counts) r => a.add r.2) Counts.zero
    ⟨rs.map Prod.fst, rs.map Prod.snd, { t.header with satOut := n.saturated }, n, false⟩

/-- The rows written at the destination, the header first for W64 (R105, R107), and behind each row of an accreted batch its tag (R84); under CONVEY each
message carries its row's tag. -/
def Dev.drainStore (d : Dev) (c : CoreRef) (w : Nat) (o : DrainOut) (tags : Option (List Nat)) (bad : Bool) : Dev :=
  let first := if (drCvt w).fmt = cW64 then 32 else 0
  let d := if (drCvt w).fmt = cW64 then d.write (holdAt c (drDst w)) o.header.bytes bad else d
  (List.range o.rows.length).foldl (fun d m =>
    let d := d.write (holdAt c (drDst w + first + m * drDstride w)) (nth [] o.rows m) bad
    match tags, tagRoom w m with
    | some ts, some a => d.write (holdAt c a) (natLe 8 (nth 0 ts m % 2 ^ 16)) bad
    | _, _ => d) d

/-- The tags of a tile's rows, where they are those of an accreted batch. -/
def Tile.tags (t : Tile) : Option (List Nat) := if t.batch.isSome then some (t.rows.map TileRow.tag) else none

/-- The rows from `i` on sent as messages while credits last (R144): the device and the rows sent. -/
def Dev.drainSend (t : OrderTag) (w : Nat) (rows : List (List Byte)) (tags : List Nat) (bad : Bool) : Nat → Nat → Dev → Dev × Nat
  | 0, i, d => (d, i)
  | fuel + 1, i, d =>
    match d.conv t.ctx (sync w) with
    | none => (d, i)
    | some v =>
      if d.canPut t.ctx v then Dev.drainSend t w rows tags bad fuel (i + 1) (d.putMsg t (sync w) v (nth 0 tags i) (nth [] rows i) bad)
      else (d, i)

/-- The header that the report of an empty bank carries (R107). -/
def emptyHeader : Header := {}

/-- The counts of the rows a CONVEY drain has sent between two places (R56). -/
def DrainOut.between (o : DrainOut) (i j : Nat) : Counts := ((o.each.take j).drop i).foldl (fun (a : Counts) c => a.add c) Counts.zero

/-- A drain ends: its bank is empty, its counts, its released batch, its report, and the poison it consumed (R103, R107, R421). -/
def Dev.drainEnd (d : Dev) (j : DrainJob) (t : Tile) (o : DrainOut) (bad : Bool) : Dev :=
  let ctx := j.tag.ctx
  let d := d.modCore j.tag.core fun x => { (x.setBank j.bank none) with drains := x.drains.drop 1 }
  let d := d.count ctx o.counts
  let d := d.bump (0x7400 + ctx) 4 (b2n o.mis)
  let d := d.setObj (0x7400 + ctx) 6 (max (d.obj (0x7400 + ctx) 6) o.header.replays)
  let d := match t.batch with | some b => if drRelease j.word then d.releaseBatch ctx b else d | none => d
  let d := d.report j.tag (if bad then stPoison else stOK) o.header.word t.rows.length
  if bad then d.consumePoison j.tag else d

/-- The reading of a core's oldest drain (R102 to R104): its own pins are released first (R98); a write into a range another tile
pins, a line the companion owns, or a missing credit leaves it waiting. -/
def Dev.drainRead (d : Dev) (c : CoreRef) : Dev :=
  match (d.core c).drains with
  | [] => d
  | j :: _ =>
    match (d.core c).bank j.bank with
    | none => ((d.modCore c fun x => { x with drains := x.drains.drop 1 })).report j.tag stOK emptyHeader.word 0
    | some t =>
      if t.replayPending then d
      else
        let rows := t.rows.length
        let d := d.modCore c fun x => x.setBank j.bank (some { t with tally := [] })
        let writes := drainWrites j.word rows t.batch.isSome
        let reads := drainReads j.word rows
        if !(d.epiAgrees c j.word t) || (t.batch.isSome && (drCvt j.word).fmt == cW64) then
          (d.modCore c fun x => { (x.setBank j.bank none) with drains := x.drains.drop 1 }).malformed j.tag
        else if writes.any fun p => d.pinned (holdAt c p.1) p.2 then d.bumpFree (0x7400 + j.tag.ctx) 5
        else if (reads ++ writes).any fun p => d.ownedIn (holdAt c p.1) p.2 then
          (reads ++ writes).foldl (fun d p => d.recallOwned (holdAt c p.1) p.2) d
        else
          let bad := reads.any fun p => d.poisonIn (holdAt c p.1) p.2
          let o := d.drainOut c j t
          if drConvey j.word then
            let r := Dev.drainSend j.tag j.word o.rows (t.rows.map TileRow.tag) bad (rows - j.sent) j.sent d
            let r := (r.1.count j.tag.ctx (o.between j.sent r.2), r.2)
            let o := { o with counts := Counts.zero }
            if r.2 < rows then
              (r.1.modCore c fun x => { x with drains := { j with sent := r.2 } :: x.drains.drop 1 }).bumpFree (d.coreIdx 0x1400 c) 3
            else r.1.drainEnd j t o bad
          else (d.drainStore c j.word o t.tags bad).drainEnd j t o bad

end Sys2Proof.Machine
end

