-- ==== Sys2Proof/Machine/Operands.lean ====
section
/-! DEFINITION. The operand forms of vector orders (R139, R145 to R147): vectors with an element stride, scalars, immediates, packed
positions, and the placing of results. -/

namespace Sys2Proof.Machine

/-- Bits [27:8] of the operand form: the hold offset in units of 8 B. -/
def formAddr (f : Nat) : Nat := field f 27 8 * 8

/-- Bits [7:0] of the operand form: the element stride, signed. -/
def formStride (f : Nat) : Int := sfield f 7 0

/-- Whether a format packs its elements, so that their stride must be 1 (R139). -/
def isPacked (fmt : Nat) : Bool := fmt == cINT4 || isSB fmt

/-- The range of hold offsets that `n` elements `step` bytes apart touch, each `size` bytes: where it starts, and its length. -/
def spanOf (addr : Int) (n : Nat) (step : Int) (size : Nat) : Int × Nat :=
  let last := ((n - 1 : Nat) : Int) * step
  (addr + min 0 last, last.natAbs + size)

/-- The range of a vector operand. -/
def vecSpan (f fmt n : Nat) : Int × Nat :=
  if isPacked fmt then ((formAddr f : Int), runBytes fmt n) else spanOf (formAddr f) n (formStride f * (elemBytes fmt : Int)) (elemBytes fmt)

/-- Whether a range lies in the hold. -/
def spanOk (s : Int × Nat) : Bool := decide (0 ≤ s.1) && decide (s.1 + (s.2 : Int) ≤ (holdSize : Int))

/-- A range as a pair of offset and length. -/
def spanNat (s : Int × Nat) : Nat × Nat := (s.1.toNat, s.2)

/-- The raw bits of the element at packed position `p` from a hold offset, and the scale byte of its block (R40, R41, R147). -/
def Dev.packedAt (d : Dev) (c : CoreRef) (addr : Int) (fmt : Nat) (p : Int) : Val :=
  if fmt = cINT4 then
    let b := leNat (d.read (holdAt c (addr + p / 2).toNat) 1)
    decodeElem cINT4 (if p % 2 = 0 then b % 16 else b / 16)
  else
    let base := (addr + 33 * (p / 32)).toNat
    decodeSB fmt (leNat (d.read (holdAt c (base + 1 + (p % 32).toNat)) 1)) (leNat (d.read (holdAt c base) 1))

/-- The raw bits of the element at a byte offset. -/
def Dev.bitsAt (d : Dev) (c : CoreRef) (addr : Int) (fmt : Nat) : Nat := leNat (d.read (holdAt c addr.toNat) (elemBytes fmt))

/-- The value of element `i` of a vector operand. -/
def Dev.elemAt (d : Dev) (c : CoreRef) (addr : Int) (stride : Int) (fmt : Nat) (i : Nat) : Val :=
  if isPacked fmt then d.packedAt c addr fmt ((i : Int) * stride)
  else decodeElem fmt (d.bitsAt c (addr + (i : Int) * stride * (elemBytes fmt : Int)) fmt)

/-- The bits of IMM a format reads, 0 for all of them (R146). -/
def immBits (fmt : Nat) : Nat :=
  if fmt = cBF16 ∨ isSB fmt then 16 else if fmt = cE4M3 ∨ fmt = cE5M2 ∨ fmt = cINT8 then 8 else if fmt = cINT4 then 4 else 32

/-- The value of an immediate (R146). -/
def immVal (fmt imm : Nat) : Val :=
  if isSB fmt then decodeSB fmt (imm % 256) (field imm 15 8)
  else if fmt = cPair32 then decodeElem cFP32 imm
  else decodeElem fmt (imm % 2 ^ immBits fmt)

/-- The integer of an immediate: sign-extended in its width, 32 bits for W64 (R146). -/
def immInt (fmt imm : Nat) : Int := signed (immBits fmt) (imm % 2 ^ immBits fmt)

/-- The integer of an element of an integer format (R146). -/
def Dev.intAt (d : Dev) (c : CoreRef) (addr : Int) (fmt : Nat) : Int := signed (8 * elemBytes fmt) (d.bitsAt c addr fmt)

/-- The operand of a VEC: its kind (0 vector, 1 immediate, 2 scalar), its form, its format and the immediate field. -/
structure Operand where
  kind : Nat
  form : Nat
  fmt : Nat
  imm : Nat

/-- The value of an operand at element `i`. -/
def Dev.opVal (d : Dev) (c : CoreRef) (o : Operand) (i : Nat) : Val :=
  if o.kind = 1 then immVal o.fmt o.imm
  else if o.kind = 2 then d.elemAt c (formAddr o.form) 1 o.fmt 0
  else d.elemAt c (formAddr o.form) (if isPacked o.fmt then 1 else formStride o.form) o.fmt i

/-- The integer of an operand at element `i`. -/
def Dev.opInt (d : Dev) (c : CoreRef) (o : Operand) (i : Nat) : Int :=
  if o.kind = 1 then immInt o.fmt o.imm
  else if o.kind = 2 then d.intAt c (formAddr o.form) o.fmt
  else d.intAt c ((formAddr o.form : Int) + (i : Int) * formStride o.form * (elemBytes o.fmt : Int)) o.fmt

/-- The FP32 pair of an operand at element `i`. -/
def Dev.opPair (d : Dev) (c : CoreRef) (o : Operand) (i : Nat) : Val × Val :=
  let b :=
    if o.kind = 1 then o.imm % 2 ^ 32
    else if o.kind = 2 then d.bitsAt c (formAddr o.form) cPair32
    else d.bitsAt c ((formAddr o.form : Int) + (i : Int) * formStride o.form * 8) cPair32
  (decodeFloat fFP32 (b % 2 ^ 32), decodeFloat fFP32 (b / 2 ^ 32))

/-- The ranges an operand reads. -/
def Operand.spans (o : Operand) (n : Nat) : List (Int × Nat) :=
  if o.kind = 1 then []
  else if o.kind = 2 then [((formAddr o.form : Int), max 1 (runBytes o.fmt 1))]
  else [vecSpan o.form o.fmt n]

/-- Whether an operand's stride is allowed (R139). -/
def Operand.strideOk (o : Operand) : Bool := o.kind != 0 || !(isPacked o.fmt) || formStride o.form == 1

/-- Results placed one by one, a stride apart. -/
def Dev.placeEach (d : Dev) (c : CoreRef) (addr step : Int) (bad : Bool) : List (List Byte) → Dev
  | [] => d
  | b :: bs => (d.write (holdAt c addr.toNat) b bad).placeEach c (addr + step) step bad bs

/-- The bytes of `n` results placed at a destination form (R139). -/
def Dev.placeAt (d : Dev) (c : CoreRef) (form fmt : Nat) (bytes : List Byte) (bad : Bool) : Dev :=
  if isPacked fmt || fmt == cPair43 || formStride form == 1 then d.write (holdAt c (formAddr form)) bytes bad
  else d.placeEach c (formAddr form) (formStride form * (elemBytes fmt : Int)) bad (chunks (elemBytes fmt) bytes)

end Sys2Proof.Machine
end

