-- ==== Sys2Proof/Machine/Transcendental.lean ====
section
/-! DEFINITION. The transcendental functions 0x32 to 0x3C of R118 (R125): their special inputs, their values to far more digits than FP32 holds,
and the FP32 values within the table's error of them, among which the implementation chooses. -/

namespace Sys2Proof.Machine

/-! ### Fixed-point numbers: a × 2^−512 -/

def fixOne : Int := 2 ^ 512
def fixMul (a b : Int) : Int := a * b / fixOne
def fixDiv (a b : Int) : Int := a * fixOne / b

/-- A finite value as a fixed-point number, cut toward zero below 2^−512. -/
def Val.toFix : Val → Int
  | .fin n m e => smant n (m * pow2 (e + 512) / pow2 (-(e + 512)))
  | _ => 0

/-- A fixed-point number as a value, scaled by 2^k. -/
def ofFix (a k : Int) : Val := .fin (decide (a < 0)) a.natAbs (k - 512)

/-- A power series: each term is the one before it times `x`, times the numerator and over the denominator that `f` gives for its place. -/
def seriesGo (x : Int) (f : Nat → Int × Int) : Nat → Nat → Int → Int → Int
  | 0, _, _, s => s
  | fuel + 1, n, t, s => seriesGo x f fuel (n + 1) (fixMul t x * (f n).1 / (f n).2) (s + t)

/-- e^r, for |r| at most 1. -/
def fixExp (r : Int) : Int := seriesGo r (fun n => (1, n + 1)) 140 0 fixOne 0

/-- The sums over odd powers of z, z^(2i+1) / (2i+1), with alternating signs or not: the series of atan and atanh. -/
def oddGo (zz sign : Int) : Nat → Nat → Int → Int → Int
  | 0, _, _, s => s
  | fuel + 1, i, p, s => oddGo zz sign fuel (i + 1) (sign * fixMul p zz) (s + p / (2 * i + 1))
def fixAtanh (z : Int) : Int := oddGo (fixMul z z) 1 180 0 z 0
def fixAtan (z : Int) : Int := oddGo (fixMul z z) (-1) 140 0 z 0

def fixLn2 : Int := 2 * fixAtanh (fixOne / 3)
/-- π by Machin's formula. -/
def fixPi : Int := 4 * (4 * fixAtan (fixOne / 5) - fixAtan (fixOne / 239))

/-- ln (m × 2^e). -/
def fixLn (m : Nat) (e : Int) : Int :=
  let y : Int := m * 2 ^ 512 / 2 ^ m.log2
  2 * fixAtanh (fixDiv (y - fixOne) (y + fixOne)) + ((m.log2 : Int) + e) * fixLn2

/-- sin and cos of |r| at most 1. -/
def fixSin (r : Int) : Int := seriesGo (fixMul r r) (fun n => (-1, (2 * n + 2) * (2 * n + 3))) 80 0 r 0
def fixCos (r : Int) : Int := seriesGo (fixMul r r) (fun n => (-1, (2 * n + 1) * (2 * n + 2))) 80 0 fixOne 0

/-- sin (x + q π / 2), with the range reduced exactly. -/
def fixTurn (x q : Int) : Int :=
  let half := fixPi / 2
  let k := (x + half / 2) / half
  let r := x - k * half
  let j := (k + q) % 4
  if j = 0 then fixSin r else if j = 1 then fixCos r else if j = 2 then -fixSin r else -fixCos r

/-- erf of |x| at most 6. -/
def fixErf (x : Int) : Int :=
  let root : Int := isqrt (fixPi.toNat * 2 ^ 512)
  fixDiv (2 * seriesGo (fixMul x x) (fun n => (-(2 * n + 1), (n + 1) * (2 * n + 3))) 400 0 x 0) root

/-- 2^x from the logarithm of the base: the whole part of x × base / ln 2 scales the rest. -/
def fixPower (x base : Int) : Val :=
  let y := fixMul x base
  let k := y / fixLn2
  ofFix (fixExp (y - k * fixLn2)) k

/-! ### The functions (R125) -/

/-- The special inputs of the functions 0x32 to 0x3C. -/
def special (op : Nat) (x : Val) : Option Val :=
  let inf := match x with | .inf _ => true | _ => false
  let one := fun n => Val.fin n 1 0
  if x = .nan then some .nan
  else if op = 0x32 then (if x.isZero then some (.inf x.isNeg) else if inf then some (.fin x.isNeg 0 0) else none)
  else if op = 0x33 then (if x.isZero then some (.inf x.isNeg) else if x.isNeg then some .nan else if inf then some (.fin false 0 0) else none)
  else if op = 0x34 ∨ op = 0x36 then (if inf then some (if x.isNeg then .fin false 0 0 else .inf false) else none)
  else if op = 0x35 ∨ op = 0x37 then (if x.isZero then some (.inf true) else if x.isNeg then some .nan else if inf then some (.inf false) else none)
  else if op = 0x38 ∨ op = 0x39 then (if inf then some .nan else if x.isZero ∧ op = 0x38 then some x else none)
  else if inf then (if op = 0x3B then some (if x.isNeg then .fin false 0 0 else one false) else some (one x.isNeg))
  else none

/-- The value of a function at a finite input, to within 2^−30 of the spacing of FP32 there. Beyond the bounds of the clamps the functions are
nearer their limits than that, or beyond the range of FP32. -/
def exactly (op : Nat) (x : Val) : Val :=
  let clamp := fun (n : Int) => max (-(n * fixOne)) (min (n * fixOne) x.toFix)
  let odd := fun (f : Int → Int) (n : Int) => ofFix (if x.isNeg then -(f (-(clamp n))) else f (clamp n)) 0
  match op, x with
  | 0x32, _ => (Val.fin false 1 0).div x
  | 0x33, _ => ((Val.fin false 1 0).div x).sqrt
  | 0x34, _ => fixPower (clamp 512) fixLn2
  | 0x36, _ => fixPower (clamp 512) fixOne
  | 0x35, .fin _ m e => ofFix (fixDiv (fixLn m e) fixLn2) 0
  | 0x37, .fin _ m e => ofFix (fixLn m e) 0
  | 0x38, _ => ofFix (fixTurn x.toFix 0) 0
  | 0x39, _ => ofFix (fixTurn x.toFix 1) 0
  | 0x3A, _ => odd (fun a => fixOne - fixDiv (2 * fixOne) ((fixPower (2 * a) fixOne).toFix + fixOne)) 64
  | 0x3B, _ =>
    let s := (fixPower (-(clamp 256).natAbs) fixOne).toFix
    ofFix (fixDiv (if x.isNeg then s else fixOne) (fixOne + s)) 0
  | _, _ => odd fixErf 6

/-- The maximum error of a function, in ulp. -/
def maxUlps (op : Nat) : Nat := if op ≤ 0x35 then 1 else 2

/-- A value rounded to 340 bits of mantissa: a function's value that `exactly` leaves a hair beside a number of few bits becomes that number. -/
def Val.tidy : Val → Val
  | .fin n m e => let k := m.log2 - 340
                  .fin n ((m + 2 ^ k / 2) / 2 ^ k) (e + k)
  | v => v

/-- Whether a value lies within `k` ulp of another, the ulp being the spacing of FP32 at that other. -/
def withinUlps (k : Nat) (w y : Val) : Bool :=
  match w, y.sub w with
  | .fin _ m e, .fin _ dm de => magLe dm de k (ulpExp fFP32 m e)
  | _, _ => false

/-- The FP32 encodings whose values lie within the table's error of a value: the rounded one first, then its neighbours, and −0 beside +0. -/
def fp32Near (k : Nat) (w : Val) : List Nat :=
  let b := (convFloat fFP32 .nearest true 0 w).bits
  let i : Int := smant (bit b 31) (b % 2 ^ 31)
  let near := ((List.range 13).map fun (j : Nat) => i + (j : Int) - 6).map fun (n : Int) => if n < 0 then 2 ^ 31 + n.natAbs else n.toNat
  b :: ((near ++ [2 ^ 31]).filter fun c => c % 2 ^ 31 < 0x7F800000 && withinUlps k w (decodeFloat fFP32 c))

/-- A transcendental function of an FP32 value: a special input's result, else one of the FP32 values within its error, the same for the same input
on every core; an exact result beyond the range stays beyond it. -/
def transcend (op : Nat) (x : Val) : Val :=
  match special op x with
  | some v => v
  | none =>
    let w := (exactly op x).tidy
    if overflows32 w then w
    else
      let cs := fp32Near (maxUlps op) w
      decodeFloat fFP32 (nth 0 cs (Config.transcendental op (convFloat fFP32 .nearest true 0 x).bits % cs.length))

end Sys2Proof.Machine
end

