-- ==== Sys2Proof/Machine/Vector.lean ====
section
/-! DEFINITION. The vector unit (R116 to R126, R145 to R147, R508): VEC with every operation of R118, and VREDUCE in the fold order
of R124. -/

namespace Sys2Proof.Machine

/-! ### Element-wise operations (R118 to R120) -/

/-- The bits of the sign test that orders −0 below +0 (R120). -/
def Val.below (a b : Val) : Bool := a.lt b || (a.isZero && b.isZero && a.isNeg && !b.isNeg)

/-- MIN and MAX (R120). -/
def Val.minv (a b : Val) : Val := if a = .nan ∨ b = .nan then .nan else if b.below a then b else a
def Val.maxv (a b : Val) : Val := if a = .nan ∨ b = .nan then .nan else if a.below b then b else a

/-- ABS (R120). -/
def Val.abs : Val → Val
  | .nan => .nan
  | .inf _ => .inf false
  | .fin _ m e => .fin false m e

/-- CMP under its condition (R145): 0 =, 1 ≠, 2 <, 3 ≤, 4 unordered. -/
def compare (a b : Val) (cond : Nat) : Bool :=
  let un := a == .nan || b == .nan
  match cond with
  | 0 => a.eqv b
  | 1 => un || !(a.eqv b)
  | 2 => a.lt b
  | 3 => !un && !(b.lt a)
  | _ => un

/-- SCALE: a × 2^k. Beyond |k| = 600 every operand of R119 has the outcome it has at 600. -/
def scaleBy (a : Val) (k : Int) : Val := a.scale (max (-600) (min 600 k))

/-- The exact results of the operations that round once, and of MIN, MAX, ABS, NEG, CVT. -/
def floatOp (op : Nat) (a b c : Val) : Val :=
  match op with
  | 0x00 => a.add b
  | 0x01 => a.sub b
  | 0x02 => a.mul b
  | 0x03 => (a.mul b).add c
  | 0x04 => a.minv b
  | 0x05 => a.maxv b
  | 0x06 => a.abs
  | 0x07 => a.neg
  | 0x0B => a
  | 0x30 => a.div b
  | 0x31 => a.sqrt
  | _ => transcend op a

/-- The integer operations, modulo 2^64 (R118). -/
def intOp (op : Nat) (a b : Int) : Nat :=
  let u := low 64 a
  let v := low 64 b
  let sh := v % 64
  match op with
  | 0x20 => low 64 (a + b)
  | 0x21 => low 64 (a - b)
  | 0x22 => low 64 (a * b)
  | 0x23 => low 64 (min a b)
  | 0x24 => low 64 (max a b)
  | 0x25 => u &&& v
  | 0x26 => u ||| v
  | 0x27 => u ^^^ v
  | 0x28 => (u * 2 ^ sh) % 2 ^ 64
  | 0x29 => u / 2 ^ sh
  | _ => low 64 (a / (2 ^ sh : Nat))

/-- The pair operations 0x10 to 0x13 (R121). -/
def pairOp (op : Nat) (a : Val × Val) (b : Val × Val) : PairRes :=
  match op with
  | 0x10 => padds a.1 a.2 b.1
  | 0x11 => padd a.1 a.2 b.1 b.2
  | 0x12 => psub a.1 a.2 b.1 b.2
  | _ => pmul a.1 a.2 b.1 b.2

/-! ### The fields of a VEC (R145) -/

def vecFields : List (Nat × Nat) :=
  common ++ [(10, 8), (12, 11), (14, 13), (39, 32), (47, 40), (67, 48), (71, 68), (99, 72), (127, 100), (155, 128), (187, 156), (211, 188), (251, 212)]

def vOp (w : Nat) : Nat := field w 39 32
def vCvt (w : Nat) : Cvt := .ofByte (field w 47 40)
def vN (w : Nat) : Nat := field w 67 48 + 1
def vSfmt (w : Nat) : Nat := field w 71 68
def vDst (w : Nat) : Nat := field w 99 72
def vImm (w : Nat) : Nat := field w 187 156
def vKa (w : Nat) : Nat := field w 12 11
def vKb (w : Nat) : Nat := field w 14 13

/-- Operations with one operand. -/
def unary (op : Nat) : Bool := op == 0x06 || op == 0x07 || op == 0x0B || (decide (0x31 ≤ op) && decide (op ≤ 0x3C))
def isFloatOp (op : Nat) : Bool := decide (op ≤ 0x0A) || (decide (0x30 ≤ op) && decide (op ≤ 0x3C))
def isPairOp (op : Nat) : Bool := decide (0x10 ≤ op) && decide (op ≤ 0x13)
def isIntOp (op : Nat) : Bool := decide (0x20 ≤ op) && decide (op ≤ 0x2A)

/-- Whether a VEC is a CVT of E4M3 pairs, or of the entries of a W64 tile (R55). -/
def vOfPair43 (w : Nat) : Bool := vOp w == 0x0B && vSfmt w == cPair43
def vOfW64 (w : Nat) : Bool := vOp w == 0x0B && vSfmt w == cW64

/-- Operand a: the high tensor where E4M3 pairs are read (R43). -/
def vA (w : Nat) : Operand :=
  ⟨vKa w, field w 127 100, if isPairOp (vOp w) then cPair32 else if vOfPair43 w then cSB43 else vSfmt w, vImm w⟩
/-- Operand b: INT32 for the k of SCALE, FP32 for PADDS (R121, R146), the residual tensor where E4M3 pairs are read (log 14). -/
def vB (w : Nat) : Operand :=
  ⟨vKb w, field w 155 128, if vOp w = 0x08 then cINT32 else if vOp w = 0x10 then cFP32 else if vOfPair43 w then cSB43 else vSfmt w, vImm w⟩
/-- The INT8 mask of SELECT, in operand form in IMM (R118). -/
def vMask (w : Nat) : Operand := ⟨0, vImm w, cINT8, 0⟩

/-- The formats whose conversion to FP32 is exact (R55, R119). -/
def isExactIn (fmt : Nat) : Bool := decide (fmt ≤ 3) || fmt == cINT8 || fmt == cINT4 || fmt == cPair32

/-- The operations that choose or turn a sign and so round nothing (R118): MIN, MAX, ABS, NEG and CMP. -/
def isChoice (op : Nat) : Bool := (decide (4 ≤ op) && decide (op ≤ 7)) || op == 0x09

/-- The formats an element-wise float operation reads: those of R119, and SB32 too where nothing is rounded (log 14). -/
def floatTakes (op fmt : Nat) : Bool := isExactIn fmt || (isChoice op && isSB fmt)

/-- Whether an operation takes an operand format and a destination format (R118, R119, R121, R146). -/
def vecFmtsOk (op sfmt dfmt : Nat) : Bool :=
  if op = 0x09 then floatTakes op sfmt && dfmt == cINT8
  else if op = 0x0A then decide (sfmt < 0xC) && sfmt != cPair43 && dfmt == sfmt
  else if op = 0x0B then decide (sfmt < 0xC) && dfmt != cW64
  else if op = 0x2B then sfmt == cW64 && dfmt == cW64
  else if isPairOp op then sfmt == cPair32 && dfmt != cW64 && dfmt != cPair43
  else if isIntOp op then [cINT8, cINT32, cW64].contains sfmt && [cINT8, cINT32, cW64].contains dfmt
  else isFloatOp op && floatTakes op sfmt && dfmt != cW64 && dfmt != cPair43 && (op != 0x03 || isExactIn dfmt)

/-- The operands of a VEC that are read from the hold. -/
def vecReads (w : Nat) : List Operand :=
  vA w :: ((if unary (vOp w) && !(vOfPair43 w) then [] else [vB w]) ++ (if vOp w = 0x0A then [vMask w] else []) ++
    (if vOp w = 0x03 then [⟨0, vDst w, (vCvt w).fmt, 0⟩] else []))

/-- The operands a VEC writes: the destination, and L of an E4M3 pair at operand b (R118). -/
def vecWrites (w : Nat) : List Operand :=
  if (vCvt w).fmt = cPair43 then [⟨0, vDst w, cSB43, 0⟩, ⟨0, field w 155 128, cSB43, 0⟩] else [⟨0, vDst w, (vCvt w).fmt, 0⟩]

/-- The ranges of W64ADD's tiles: a header and N + 1 entries. -/
def tileSpan (form n : Nat) : Int × Nat := ((formAddr form : Int), 32 + 8 * n)

def vecReadSpans (w : Nat) : List (Int × Nat) :=
  if vOfW64 w then [tileSpan (field w 127 100) (vN w)]
  else if vOp w = 0x2B then [tileSpan (field w 127 100) (vN w), tileSpan (field w 155 128) (vN w)]
  else ((vecReads w).map fun o => o.spans (vN w)).flatten
def vecWriteSpans (w : Nat) : List (Int × Nat) :=
  if vOp w = 0x2B then [tileSpan (vDst w) (vN w)] else ((vecWrites w).map fun o => o.spans (vN w)).flatten

/-- Whether the immediates of a VEC are allowed (R145, R146). -/
def immOk (w : Nat) : Bool :=
  let op := vOp w
  let two := !(unary op)
  let iA := vKa w == 1
  let iB := two && vKb w == 1
  !(iA && iB) && ((op != 0x0A && op != 0x2B) || (vKa w != 1 && vKb w != 1)) && (op != 0x0A || decide (vImm w < 2 ^ 28)) &&
    (!iA || vImm w / 2 ^ immBits (vA w).fmt == 0 || immBits (vA w).fmt == 32) && (!iB || vImm w / 2 ^ immBits (vB w).fmt == 0 || immBits (vB w).fmt == 32)

/-- Whether a VEC is well formed (R46, R117 to R121, R138, R145, R146). CMP, SELECT and W64ADD ignore RND and RANGE. -/
def vecOk (w : Nat) : Bool :=
  let op := vOp w
  let c := vCvt w
  let free := op == 0x09 || op == 0x0A || op == 0x2B
  onlyFields w vecFields && sync w == 0xFFFF && !({ c with rnd := if free then 0 else c.rnd }).reserved && !c.scale &&
    vecFmtsOk op (vSfmt w) c.fmt && (if op = 0x09 then decide (field w 10 8 ≤ 4) else field w 10 8 == 0) && vKa w != 3 && vKb w != 3 && immOk w &&
    (c.fmt != cPair43 || vKb w == 0) && (!(vOfPair43 w) || (vKa w == 0 && vKb w == 0)) &&
    (!(vOfW64 w) || (vKa w == 0 && formStride (field w 127 100) == 1)) && (op != 0x2B || (vKa w == 0 && vKb w == 0 &&
      [field w 127 100, field w 155 128, vDst w].all fun f => formStride f == 1)) &&
    (op == 0x2B || (vecReads w ++ vecWrites w).all Operand.strideOk) && (vecReadSpans w ++ vecWriteSpans w).all spanOk

/-! ### The effect of a VEC -/

/-- The random bits of element `i` of an order of a context (R51). -/
def Dev.randomAt (d : Dev) (ctx : Nat) (c : Cvt) (stream base i : Nat) : Nat :=
  if c.rnd = 2 then srBits (d.obj (0x7300 + ctx) 8) (d.obj (0x7300 + ctx) 9) stream ((base + i) % 2 ^ 40) else 0

/-- The value of entry `i` of the W64 tile whose header stands at a hold offset (R107, R108). -/
def Dev.tileVal (d : Dev) (c : CoreRef) (off i : Nat) : Val :=
  (Ent.ofWord (leNat (d.read (holdAt c (off + 32 + 8 * i)) 8))).val (Header.ofWord (leNat (d.read (holdAt c off) 32))).g

/-- The word SELECT takes for element `i` of a format that stores whole words (R118). -/
def Dev.selectWord (d : Dev) (c : CoreRef) (w i : Nat) : Nat :=
  let o := if d.opInt c (vMask w) i = 0 then vB w else vA w
  d.bitsAt c ((formAddr o.form : Int) + (if o.kind = 2 then 0 else (i : Int) * formStride o.form * 8)) o.fmt

/-- What SELECT writes for such a word: an FP32 pair as pairs are written (R44), a W64 entry in the pattern of its state (R108). -/
def selectConv (fmt word : Nat) : Conv :=
  if fmt = cPair32 then pairWritten true word else ⟨(Ent.ofWord word).toWord, nonfiniteCounts [Ent.ofWord word]⟩

/-- The exact values a VEC converts, for the operations that convert. -/
def Dev.vecValue (d : Dev) (c : CoreRef) (w i : Nat) : Val :=
  let op := vOp w
  if op = 0x08 then scaleBy (d.opVal c (vA w) i) (d.opInt c (vB w) i)
  else if op = 0x0A then (if d.opInt c (vMask w) i = 0 then d.opVal c (vB w) i else d.opVal c (vA w) i)
  else if op = 0x0B ∧ vSfmt w = cPair32 ∧ (vCvt w).fmt = cFP32 then (d.opPair c (vA w) i).1
  else if vOfPair43 w then (d.opVal c (vA w) i).addTail (d.opVal c (vB w) i)
  else if vOfW64 w then d.tileVal c (formAddr (field w 127 100)) i
  else
    floatOp op (d.opVal c (vA w) i) (if unary op then .fin false 0 0 else d.opVal c (vB w) i)
      (if op = 0x03 then d.opVal c ⟨0, vDst w, (vCvt w).fmt, 0⟩ i else .fin false 0 0)

/-- The result of a pair operation in a destination format (R121). -/
def pairResult (c : Cvt) (r : Nat) (p : PairRes) : Conv :=
  if c.fmt = cPair32 then pairResBits c.range p
  else match p with
    | .pair v e => convElem c { v := v.add e, r := r }
    | .nonfinite v => convElem c { v := v, r := r }
    | .beyond n => convElem c { v := .fin n 1 200, r := r }

/-- The bytes a VEC writes at DST, those of L for an E4M3 pair, and its counts. -/
def Dev.vecResult (d : Dev) (t : OrderTag) (w : Nat) : List Byte × List Byte × Counts :=
  let op := vOp w
  let c := vCvt w
  let k := t.core
  let is := List.range (vN w)
  let rnd := d.randomAt t.ctx c (field w 211 188) (field w 251 212)
  if op = 0x09 then (is.map fun i => if compare (d.opVal k (vA w) i) (d.opVal k (vB w) i) (field w 10 8) then 1#8 else 0#8, [], {})
  else if op = 0x0A ∧ (c.fmt = cPair32 ∨ c.fmt = cW64) then
    let cs := is.map fun i => selectConv c.fmt (d.selectWord k w i)
    ((cs.map fun x => natLe 8 x.bits).flatten, [], cs.foldl (fun (a : Counts) x => a.add x.cnt) Counts.zero)
  else if isIntOp op then ((is.map fun i => natLe (elemBytes c.fmt) (intOp op (d.opInt k (vA w) i) (d.opInt k (vB w) i))).flatten, [], {})
  else if isPairOp op && !(isSB c.fmt) then
    let cs := is.map fun i => pairResult c (rnd i) (pairOp op (d.opPair k (vA w) i)
      (if op = 0x10 then (d.opVal k (vB w) i, .fin false 0 0) else d.opPair k (vB w) i))
    (if c.fmt = cINT4 then packNibbles (cs.map Conv.bits) else (cs.map fun x => natLe (elemBytes c.fmt) x.bits).flatten, [],
     cs.foldl (fun (a : Counts) x => a.add x.cnt) Counts.zero)
  else if isPairOp op then
    let vs := is.map fun i =>
      let v := match pairOp op (d.opPair k (vA w) i) (if op = 0x10 then (d.opVal k (vB w) i, .fin false 0 0) else d.opPair k (vB w) i) with
        | .pair v e => v.add e
        | .nonfinite v => v
        | .beyond n => .fin n 1 200
      ({ v := v, r := rnd i } : Elem)
    let r := convRun c none vs
    (r.1, [], r.2)
  else if c.fmt = cPair43 then
    let bs := (chunks 32 (is.map fun i => d.vecValue k w i)).map convPairBlock
    ((bs.map Prod.fst).flatten, (bs.map fun b => b.2.1).flatten, bs.foldl (fun (a : Counts) b => a.add b.2.2) Counts.zero)
  else
    let r := convRun (if op = 0x0A then { c with rnd := 0, range := true } else c) none (is.map fun i => { v := d.vecValue k w i, r := rnd i })
    (r.1, [], r.2)

/-- A W64 tile read at a hold offset with `n` entries: its header word and the tile. -/
def Dev.tileAt (d : Dev) (c : CoreRef) (off n : Nat) : Nat × W64 :=
  let h := leNat (d.read (holdAt c off) 32)
  (h, ⟨Header.ofWord h, entsOf (d.read (holdAt c (off + 32)) (8 * n))⟩)

/-- W64ADD (R111, R146). -/
def Dev.w64add (d : Dev) (w : Waiting) (bad : Bool) : Turn :=
  let k := w.tag.core
  let n := vN w.word
  let a := d.tileAt k (formAddr (field w.word 127 100)) n
  let b := d.tileAt k (formAddr (field w.word 155 128)) n
  if headerOk a.1 && headerOk b.1 && a.2.h.agrees b.2.h then
    let r := a.2.combine b.2
    let d := d.write (holdAt k (formAddr (vDst w.word))) (r.1.h.bytes ++ entBytes r.1.es) bad
    let d := (d.count w.tag.ctx ((nonfiniteCounts r.1.es).add { finiteSat := r.2 })).bump (0x7400 + w.tag.ctx) 4 (b2n (a.2.h.g != b.2.h.g))
    let d := d.bump (d.coreIdx 0x1300 k) 1 n
    .done (if bad then d.consumePoison w.tag else d)
  else .malformed d

/-- A VEC's turn. -/
def runVec (w : Waiting) (d : Dev) : Turn :=
  let k := w.tag.core
  if vecOk w.word then
    (d.gate w.tag ((vecReadSpans w.word).map spanNat) ((vecWriteSpans w.word).map spanNat)).turn w fun bad =>
      if vOp w.word = 0x2B then d.w64add w bad
      else if vOfW64 w.word && !(headerOk (leNat (d.read (holdAt k (formAddr (field w.word 127 100))) 32))) then .malformed d
      else
        let r := d.vecResult w.tag w.word
        let d := d.placeAt k (vDst w.word) (vCvt w.word).fmt r.1 bad
        let d := if (vCvt w.word).fmt = cPair43 then d.write (holdAt k (formAddr (field w.word 155 128))) r.2.1 bad else d
        let d := (d.count w.tag.ctx r.2.2).bump (d.coreIdx 0x1300 k) 1 (vN w.word)
        let d := if 0x30 ≤ vOp w.word then d.bump (d.coreIdx 0x1300 k) 2 (vN w.word) else d
        .done (if bad then d.consumePoison w.tag else d)
  else .malformed d

/-! ### VREDUCE (R123, R124, R147, R508) -/

def vrFields : List (Nat × Nat) := common ++ [(10, 8), (39, 32), (47, 40), (59, 40), (63, 60), (79, 64), (103, 80), (119, 104), (143, 120), (167, 144), (191, 168), (231, 192)]

def vrRop (w : Nat) : Nat := field w 10 8
def vrCvt (w : Nat) : Cvt := .ofByte (field w 39 32)
def vrN (w : Nat) : Nat := field w 59 40 + 1
def vrLines (w : Nat) : Nat := field w 79 64 + 1
def vrSfmt (w : Nat) : Nat := field w 63 60
def vrSrc (w : Nat) : Nat := field w 103 80
def vrEstride (w : Nat) : Int := sfield w 119 104
def vrLstride (w : Nat) : Int := sfield w 143 120
def vrDst (w : Nat) : Nat := field w 167 144

/-- The operand formats of a reduction (R123). -/
def ropTakes (rop fmt : Nat) : Bool :=
  match rop with
  | 0 => decide (fmt ≤ 7)
  | 1 => decide (fmt ≤ 7) || fmt == cPair32
  | 2 => fmt == cW64 || fmt == cINT32
  | _ => decide (fmt ≤ 5)

/-- The rows of the W64 tile that a WSUM of INT32 blocks writes (R508). -/
def wsumRows (lines : Nat) : Nat := ceilDiv lines 256

/-- The bytes of one line, as an offset from its start and a length (R147). -/
def lineSpan (w : Nat) : Int × Nat :=
  let fmt := vrSfmt w
  let last := ((vrN w - 1 : Nat) : Int) * vrEstride w
  if isPacked fmt then
    let per : Int := if fmt = cINT4 then 2 else 32
    let unit : Nat := if fmt = cINT4 then 1 else 33
    let a := (min 0 last) / per
    let b := (max 0 last) / per
    (a * (unit : Int), unit * (b - a + 1).toNat)
  else spanOf 0 (vrN w) (vrEstride w * (elemBytes fmt : Int)) (elemBytes fmt)

/-- The hold range a VREDUCE reads. -/
def vrReadSpan (w : Nat) : Int × Nat :=
  if vrRop w = 2 then
    spanOf (vrSrc w) (vrN w) (vrLstride w) (if vrSfmt w = cW64 then 32 + 8 * vrLines w else 4 * vrLines w)
  else
    let l := lineSpan w
    let s := spanOf ((vrSrc w : Int) + l.1) (vrLines w) (vrLstride w) l.2
    s

/-- The hold range a VREDUCE writes; for WSUM of W64 tiles with the rows and columns of its inputs. -/
def vrWriteSpan (w rows cols : Nat) : Int × Nat :=
  if vrRop w = 2 then ((vrDst w : Int), 32 + 8 * rows * cols) else ((vrDst w : Int), runBytes (vrCvt w).fmt (vrLines w))

/-- Whether a VREDUCE is well formed by its bits. -/
def vreduceOk (w : Nat) : Bool :=
  let c := vrCvt w
  onlyFields w vrFields && sync w == 0xFFFF && !c.reserved && !c.scale && decide (vrRop w ≤ 5) && ropTakes (vrRop w) (vrSfmt w) &&
    (if vrRop w = 2 then c.fmt == cW64 && vrEstride w == 0 && (vrSfmt w != cINT32 || decide (vrLines w ≤ 32768))
     else c.fmt != cW64 && c.fmt != cPair43) &&
    (!(isSB (vrSfmt w)) || vrRop w == 2 || vrLines w == 1 || vrLstride w % 33 == 0) &&
    spanOk (vrReadSpan w) && spanOk (vrWriteSpan w (if vrSfmt w = cINT32 then wsumRows (vrLines w) else 0) 256)

/-- One pairing of a fold: element i with element i + w, a padding position leaving its partner as it is (R124). -/
def foldPairs {α : Type} (add : α → α → α × Nat × Nat) : List (Option α) → List (Option α) → List (Option α) × Nat × Nat
  | some a :: as, some b :: bs =>
    let r := add a b
    let rest := foldPairs add as bs
    (some r.1 :: rest.1, r.2.1 + rest.2.1, r.2.2 + rest.2.2)
  | some a :: as, _ :: bs => let rest := foldPairs add as bs; (some a :: rest.1, rest.2)
  | none :: as, b :: bs => let rest := foldPairs add as bs; (b :: rest.1, rest.2)
  | as, [] => (as, 0, 0)
  | [], _ => ([], 0, 0)

/-- One block of up to 128 elements folded by halving (R124). -/
def foldBlock {α : Type} (add : α → α → α × Nat × Nat) (xs : List α) : Option α × Nat × Nat :=
  let x0 : List (Option α) := xs.map some ++ List.replicate (128 - xs.length) none
  let r := [64, 32, 16, 8, 4, 2, 1].foldl (fun (acc : List (Option α) × Nat × Nat) w =>
    let s := foldPairs add (acc.1.take w) (acc.1.drop w)
    (s.1, acc.2.1 + s.2.1, acc.2.2 + s.2.2)) (x0, 0, 0)
  (match r.1 with | x :: _ => x | [] => none, r.2)

/-- The fold of a line (R124): its blocks, then their results in ascending order; with the two counts its adds made. -/
def foldLine {α : Type} (add : α → α → α × Nat × Nat) (xs : List α) : Option α × Nat × Nat :=
  (chunks 128 xs).foldl (fun (acc : Option α × Nat × Nat) b =>
    let p := foldBlock add b
    match acc.1, p.1 with
    | some a, some x =>
      let r := add a x
      (some r.1, acc.2.1 + p.2.1 + r.2.1, acc.2.2 + p.2.2 + r.2.2)
    | none, y => (y, acc.2.1 + p.2.1, acc.2.2 + p.2.2)
    | y, none => (y, acc.2.1 + p.2.1, acc.2.2 + p.2.2)) (none, 0, 0)

/-- An FP32 step with the range rules of R54: the value, and whether it counted in FINITE_SAT, which under RANGE = 1 it never does (log 93). -/
def fp32Step (range : Bool) (v : Val) : Val × Nat :=
  let c := convFloat fFP32 .nearest range 0 v
  (decodeFloat fFP32 c.bits, c.cnt.finiteSat)

/-- The addition of SUM (R124). -/
def sumAdd (range : Bool) (a b : Val) : Val × Nat × Nat := let r := fp32Step range (a.add b); (r.1, r.2, 0)

/-- The addition of PSUM: PADD, each step written into the pair by R54 (R121, R124). -/
def psumAdd (range : Bool) (a b : Nat) : Nat × Nat × Nat :=
  let v := fun x => decodeFloat fFP32 (x % 2 ^ 32)
  let e := fun x => decodeFloat fFP32 (x / 2 ^ 32)
  let r := pairResBits range (padd (v a) (e a) (v b) (e b))
  (r.bits, r.cnt.finiteSat, 0)

/-- The addition of WSUM (R111): clamps, and combines over different grids. -/
def wsumAdd (a b : W64) : W64 × Nat × Nat := let r := a.combine b; (r.1, r.2, b2n (a.h.g != b.h.g))

/-- The elements of line `i`. -/
def Dev.lineVals (d : Dev) (c : CoreRef) (w i : Nat) : List Val :=
  (List.range (vrN w)).map fun j => d.elemAt c ((vrSrc w : Int) + (i : Int) * vrLstride w) (vrEstride w) (vrSfmt w) j

/-- The pairs of line `i` as 64-bit words: read, or converted by R55 under RANGE, with the FINITE_SAT that counts (R508). -/
def Dev.linePairs (d : Dev) (c : CoreRef) (w i : Nat) : List (Nat × Nat) :=
  if vrSfmt w = cPair32 then
    (List.range (vrN w)).map fun (j : Nat) => (d.bitsAt c ((vrSrc w : Int) + (i : Int) * vrLstride w + (j : Int) * vrEstride w * 8) cPair32, 0)
  else (d.lineVals c w i).map fun v => let r := convPair (vrCvt w).range v; (r.bits, r.cnt.finiteSat)

/-- The value a line reduces to, as it enters the conversion to the destination, and the FINITE_SAT its fold counted. PSUM keeps the bits. -/
def Dev.lineResult (d : Dev) (c : CoreRef) (w i : Nat) : Val × Nat × Nat :=
  let range := (vrCvt w).range
  match vrRop w with
  | 0 =>
    let xs := (d.lineVals c w i).map (fp32Step range)
    let r := foldLine (sumAdd range) (xs.map Prod.fst)
    (r.1.getD .nan, 0, r.2.1 + (xs.map Prod.snd).sum)
  | 1 =>
    let xs := d.linePairs c w i
    let r := foldLine (psumAdd range) (xs.map Prod.fst)
    let b := r.1.getD 0
    (if (vrCvt w).fmt = cFP32 then decodeFloat fFP32 (b % 2 ^ 32) else decodeElem cPair32 b, b, r.2.1 + (xs.map Prod.snd).sum)
  | 3 => ((d.lineVals c w i).foldl (fun a v => match a with | some x => some (Val.maxv x v) | none => some v) none |>.getD .nan, 0, 0)
  | 4 => ((d.lineVals c w i).foldl (fun a v => match a with | some x => some (Val.minv x v) | none => some v) none |>.getD .nan, 0, 0)
  | _ => (((d.lineVals c w i).map Val.abs).foldl (fun a v => match a with | some x => some (Val.maxv x v) | none => some v) none |>.getD .nan, 0, 0)

/-- The results of a VREDUCE other than WSUM: bytes and counts. PSUM to FP32 writes v of the final pair, whatever RND says (R46, R55; log 85). -/
def Dev.reduceResult (d : Dev) (t : OrderTag) (w : Nat) : List Byte × Counts :=
  let c := vrCvt w
  let rs := (List.range (vrLines w)).map fun i => d.lineResult t.core w i
  let sat : Counts := { finiteSat := (rs.map fun r => r.2.2).sum }
  if vrRop w = 1 ∧ c.fmt = cPair32 then
    let cs := rs.map fun r => pairWritten c.range r.2.1
    ((cs.map fun x => natLe 8 x.bits).flatten, cs.foldl (fun (a : Counts) x => a.add x.cnt) sat)
  else
    let rnd := d.randomAt t.ctx c (field w 191 168) (field w 231 192)
    let es := (List.range (vrLines w)).map fun i => ({ v := (nth (.nan, 0, 0) rs i).1, r := rnd i } : Elem)
    let r := convRun (if vrRop w = 1 ∧ c.fmt = cFP32 then { c with rnd := 0 } else c) none es
    (r.1, sat.add r.2)

/-- The inputs of a WSUM (R147, R508): header word and tile. -/
def Dev.wsumInputs (d : Dev) (c : CoreRef) (w : Nat) : List (Nat × W64) :=
  let n := vrLines w
  (List.range (vrN w)).map fun (j : Nat) =>
    let off := ((vrSrc w : Int) + (j : Int) * vrLstride w).toNat
    if vrSfmt w = cW64 then d.tileAt c off n
    else
      let h : Header := { rows := wsumRows n, kind := true, parts := 1 }
      (h.word, ⟨h, (chunks 4 (d.read (holdAt c off) (4 * n))).map fun b => .fin (signed 32 (leNat b))⟩)

/-- WSUM. -/
def Dev.wsum (d : Dev) (w : Waiting) (bad : Bool) : Turn :=
  let k := w.tag.core
  let ts := d.wsumInputs k w.word
  let int := vrSfmt w.word == cINT32
  match ts with
  | [] => .malformed d
  | t :: _ =>
    let size := t.2.h.rows * t.2.h.columns
    if (int || ts.all fun x => headerOk x.1) && ts.all (fun x => x.2.h.agrees t.2.h) && decide (vrLines w.word ≤ size) && inHold (vrDst w.word) (32 + 8 * size) then
      (d.gate w.tag [] [(vrDst w.word, 32 + 8 * size)]).turn w fun _ =>
        let r := foldLine wsumAdd (ts.map Prod.snd)
        let x := r.1.getD t.2
        let d := d.write (holdAt k (vrDst w.word)) (x.h.bytes ++ entBytes (x.es ++ List.replicate (size - x.es.length) (.fin 0))) bad
        let d := (d.count w.tag.ctx ((nonfiniteCounts x.es).add { finiteSat := r.2.1 })).bump (0x7400 + w.tag.ctx) 4 r.2.2
        let d := d.bump (d.coreIdx 0x1300 k) 3 (vrLines w.word)
        .done (if bad then d.consumePoison w.tag else d)
    else .malformed d

/-- A VREDUCE's turn. -/
def runVreduce (w : Waiting) (d : Dev) : Turn :=
  let k := w.tag.core
  if vreduceOk w.word then
    (d.gate w.tag [spanNat (vrReadSpan w.word)] (if vrRop w.word = 2 then [] else [spanNat (vrWriteSpan w.word 0 0)])).turn w fun bad =>
      if vrRop w.word = 2 then d.wsum w bad
      else
        let r := d.reduceResult w.tag w.word
        let d := d.write (holdAt k (vrDst w.word)) r.1 bad
        let d := (d.count w.tag.ctx r.2).bump (d.coreIdx 0x1300 k) 3 (vrLines w.word)
        .done (if bad then d.consumePoison w.tag else d)
  else .malformed d

end Sys2Proof.Machine
end

