-- ==== Sys2Proof/Machine/Tugs.lean ====
section
/-! DEFINITION. Cluster tugs (R127 to R134, R148): the TUG order, which queues a descriptor, and the running of descriptors and
chains. -/

namespace Sys2Proof.Machine

/-! ### The descriptor (R129) -/

def tgNext (d : Nat) : Nat := field d 499 448
def tgBarrier (d : Nat) : Nat := field d 447 432
def tgLen (d : Nat) : Nat := field d 247 224
def tgCount1 (d : Nat) : Nat := field d 271 256
def tgCount2 (d : Nat) : Nat := field d 287 272
def tgFill (d : Nat) : Bool := field d 135 132 == 1
def tgOrd (d : Nat) : Nat := field d 131 130
/-- The device numbers of SRC and DST. -/
def tgSrcDev (d : Nat) : Nat := field d 51 48
def tgDstDev (d : Nat) : Nat := field d 115 112

/-- The fields of a descriptor; every other bit is reserved. -/
def tgFields : List (Nat × Nat) :=
  [(499, 448), (447, 432), (415, 384), (383, 352), (351, 320), (319, 288), (287, 272), (271, 256), (247, 224), (223, 160), (135, 132), (131, 130),
   (115, 64), (51, 0)]

/-- Whether a device number is this module, a basin member or the companion. -/
def basinDev (n : Nat) : Bool := decide (n < 8) || n == 15

/-- Whether a descriptor is malformed (R129). A FILL ignores SRC. -/
def Dev.tgMalformed (d : Dev) (ctx desc : Nat) : Bool :=
  !(onlyFields desc tgFields) || tgLen desc == 0 || tgCount1 desc == 0 || tgCount2 desc == 0 || decide (1 < field desc 135 132) || decide (1 < tgOrd desc) ||
    (tgBarrier desc != 0xFFFF && !(d.ownsBarrier ctx (tgBarrier desc))) || !(basinDev (tgDstDev desc)) ||
    (!(tgFill desc) && (!(basinDev (tgSrcDev desc)) || (tgSrcDev desc != d.midOf ctx && tgDstDev desc != d.midOf ctx))) ||
    tgNext desc % 64 != 0 || (tgNext desc != 0 && !(basinDev (tgNext desc / 2 ^ 48)))

/-- The runs of a descriptor in pattern order (R130): source and destination, with the strides added as signed values. -/
def tgRuns (d : Nat) : List (Int × Int) :=
  ((List.range (tgCount2 d)).map fun (i2 : Nat) => (List.range (tgCount1 d)).map fun (i1 : Nat) =>
    (((field d 47 0 : Nat) : Int) + (i2 : Int) * sfield d 351 320 + (i1 : Int) * sfield d 319 288,
     ((field d 111 64 : Nat) : Int) + (i2 : Int) * sfield d 415 384 + (i1 : Int) * sfield d 383 352)).flatten

/-- Whether a run lies within its device (R130). -/
def inDevice (a : Int) (n : Nat) : Bool := decide (0 ≤ a) && decide (a + n ≤ (2 ^ 48 : Nat))

/-- The refusal of one run, if any: source first, then destination (R130, R186). The far side of a remote run is checked there. -/
def Dev.tgRunCheck (d : Dev) (ctx desc : Nat) (r : Int × Int) : Option Nat :=
  let n := tgLen desc
  if (!(tgFill desc) && !(inDevice r.1 n)) || !(inDevice r.2 n) then some stAddress
  else
    match (if !(tgFill desc) && tgSrcDev desc == d.midOf ctx then d.access (.ctx ctx) false r.1.toNat n else none) with
    | some st => some st
    | none => if tgDstDev desc = d.midOf ctx then d.access (.ctx ctx) true r.2.toNat n else none

/-- The runs before the first refused one, and its status. -/
def Dev.tgGood (d : Dev) (ctx desc : Nat) : List (Int × Int) → List (Nat × Nat) × Nat
  | [] => ([], stOK)
  | r :: rs =>
    match d.tgRunCheck ctx desc r with
    | some st => ([], st)
    | none => let x := d.tgGood ctx desc rs
              ((r.1.toNat, r.2.toNat) :: x.1, x.2)

/-! ### What holds a descriptor back (R132) -/

/-- The range of a run as an offset of a core's own hold, if it lies there. -/
def Dev.ownOffset (d : Dev) (c : CoreRef) (a n : Nat) : List (Nat × Nat) :=
  match (d.place a).1 with
  | .hold h => if d.realCore h = d.realCore c then [(a - holdBase h, n)] else []
  | _ => []

/-- The local sources and destinations of a descriptor's runs. -/
def Dev.tgSources (d : Dev) (ctx desc : Nat) (rs : List (Nat × Nat)) : List Nat :=
  if !(tgFill desc) && tgSrcDev desc == d.midOf ctx then rs.map Prod.fst else []
def Dev.tgTargets (d : Dev) (ctx desc : Nat) (rs : List (Nat × Nat)) : List Nat := if tgDstDev desc = d.midOf ctx then rs.map Prod.snd else []

/-- What holds the runs of a descriptor back: drains of earlier orders of its core, pins, lines the companion owns. None when it may run. -/
def Dev.tgHeld (d : Dev) (t : OrderTag) (desc : Nat) (rs : List (Nat × Nat)) : Option Dev :=
  let n := tgLen desc
  let src := d.tgSources t.ctx desc rs
  let dst := d.tgTargets t.ctx desc rs
  if (d.core t.core).interlocked t.stamp ((src.map fun a => d.ownOffset t.core a n).flatten) ((dst.map fun a => d.ownOffset t.core a n).flatten) then some d
  else if dst.any fun a => d.pinned a n then some (d.bumpFree (0x7400 + t.ctx) 5)
  else if (src ++ dst).any fun a => d.ownedIn a n then some ((src ++ dst).foldl (fun d a => d.recallOwned a n) d)
  else none

/-! ### Moving bytes -/

/-- The bytes a byte-by-byte copy of a run leaves at its destination (R130): the source repeated where it runs into itself. -/
def Dev.runBytes (d : Dev) (s t n : Nat) : List Byte :=
  let p := t - s
  if s < t ∧ p < n then
    let one := d.read s p
    (List.range n).map fun i => nth 0#8 one (i % p)
  else d.read s n

/-- Bytes written line by line, each line marked as the bytes that reach it are (R203). -/
def Dev.writeMarked (d : Dev) (t : Nat) (bs : List Byte) (bad : Nat → Nat → Bool) : Dev :=
  (blockParts 64 t bs.length).foldl (fun d p => d.write (t + p.1) (slice bs p.1 p.2) (bad p.1 p.2)) d

/-- One local run of a COPY, and whether its source was poisoned. -/
def Dev.copyRun (d : Dev) (s t n : Nat) : Dev × Bool :=
  let p := t - s
  let laps := decide (s < t) && decide (p < n)
  let src := d
  (d.writeMarked t (d.runBytes s t n) (fun o k => if laps then src.poisonIn s (min p n) else src.poisonIn (s + o) k), src.poisonIn s n)

/-- The bytes of one run of a FILL: byte (d − DST) mod 8 of PATTERN. -/
def fillBytes (desc t : Nat) : List Byte :=
  let pat := natLe 8 (field desc 223 160)
  (List.range (tgLen desc)).map fun (i : Nat) => nth 0#8 pat (((t : Int) + (i : Int) - (field desc 111 64 : Nat)) % 8).toNat

/-- The bytes a descriptor sends for one run to another device, and whether they are poisoned. -/
def Dev.runData (d : Dev) (desc : Nat) (r : Nat × Nat) : List Byte × Bool :=
  if tgFill desc then (fillBytes desc r.2, false) else (d.read r.1 (tgLen desc), d.poisonIn r.1 (tgLen desc))

/-- All local runs in pattern order, and whether any source was poisoned. -/
def Dev.moveLocal (d : Dev) (desc : Nat) (rs : List (Nat × Nat)) : Dev × Bool :=
  rs.foldl (fun x r =>
    if tgFill desc then (x.1.write r.2 (fillBytes desc r.2) false, x.2)
    else let y := x.1.copyRun r.1 r.2 (tgLen desc)
         (y.1, x.2 || y.2)) (d, false)

/-- Runs to the companion: what the harbour sends it (R188), each line with its mark (R203). -/
def Dev.moveOut (d : Dev) (ctx desc : Nat) (rs : List (Nat × Nat)) : Dev × Bool :=
  rs.foldl (fun x r => let b := x.1.runData desc r
                       (x.1.devWrites ctx r.2 b.1 fun o k => !(tgFill desc) && x.1.poisonIn (r.1 + o) k, x.2 || b.2)) (d, false)

/-- Whether a range of the companion's memory came marked (R203). -/
def companionMark (e : External) (a n : Nat) : Bool := n != 0 && e.marks.any fun l => decide (l * 64 < a + n) && decide (a < l * 64 + 64)

/-- Runs from the companion: the bytes it returned, run after run, with their marks, and whether any was marked. -/
def Dev.moveIn (d : Dev) (ctx desc : Nat) (rs : List (Nat × Nat)) (ext : External) : Dev × Bool :=
  let n := tgLen desc
  (List.range rs.length).foldl (fun x i =>
    let r := nth (0, 0) rs i
    ((x.1.devReads ctx r.1 n).writeMarked r.2 (slice (ext.bytes ++ List.replicate ((i + 1) * n) 0#8) (i * n) n) (fun o k => companionMark ext (r.1 + o) k), x.2 || companionMark ext r.1 n))
    (d, false)

/-! ### Completion (R131, R134) -/

/-- A chain ends: its place is freed and its order completes. -/
def Dev.tugEnd (d : Dev) (cl tug pos : Nat) (i : TugItem) (status : Nat) : Dev :=
  (d.setTugQ cl tug (dropNth (d.tugQ cl tug) pos)).complete i.tag status i.written 0 true

/-- A chain ends at a descriptor that could not be read (R129): it completes with a status other than OK, having moved nothing. -/
def Dev.tugUnread (d : Dev) (cl tug pos : Nat) (i : TugItem) (status : Nat) : Dev :=
  ((d.bumpAt (0x8200 + cl) 2 tug 1).bump (0x8200 + cl) 4 1).tugEnd cl tug pos i status

/-- The bytes of a chained descriptor are there: it stands in its chain's place, or its poison ends the chain (R129). -/
def Dev.tugTake (d : Dev) (cl tug pos : Nat) (i : TugItem) (bs : List Byte) (bad : Bool) : Dev :=
  if bad then (d.tugUnread cl tug pos i stPoison).poisonFault i.tag.ctx i.tag.core
  else d.setTugQ cl tug (setNth (d.tugQ cl tug) pos { tag := i.tag, desc := leNat bs, written := i.written })

/-- The session a descriptor uses to a basin member: the context's, else the device session. -/
def Dev.tugSession (d : Dev) (ctx mid : Nat) : Option Nat :=
  match d.sessionTo (d.viaCtx (some ctx)) (d.rankOfMid ctx mid) with
  | some k => some k
  | none => d.sessionTo none (d.rankOfMid ctx mid)

/-- The READ of a chained descriptor on another module leaves, once. -/
def Dev.askDesc (d : Dev) (cl tug pos : Nat) (i : TugItem) (next : Nat) : Dev :=
  if i.remote ≠ 0 then d
  else match d.tugSession i.tag.ctx (next / 2 ^ 48) with
    | none => d.tugUnread cl tug pos i stPathLost
    | some key => match d.session key with
      | none => d.tugUnread cl tug pos i stPathLost
      | some s =>
        if d.canSend key clReq = false then d.bumpFree 0x3100 0x0D
        else
          let id := (s.txc clReq).next
          let d := d.setSession key { s with reads := s.reads ++ [{ tag := id % 2 ^ 16, id := id, src := next, dst := 0, len := 64, desc := true }] }
          let d := d.sendData key { cls := clReq, op := 0x02, channel := id % 2 ^ 16, addr := next, data := natLe 8 64 }
          d.setTugQ cl tug (setNth (d.tugQ cl tug) pos { i with remote := 3, sess := key, txn := id })

/-- A chained descriptor is read where NEXT names it (R129): in the tug's own module, when the companion has given back what it owns of it (R191); on another
module, by a READ; or in the companion's memory, whose answer `ext` brings. -/
def Dev.tugFetch (d : Dev) (cl tug pos : Nat) (i : TugItem) (next : Nat) (ext : Option External) : Dev :=
  let a := next % 2 ^ 48
  if next / 2 ^ 48 = d.midOf i.tag.ctx then
    match d.access (.ctx i.tag.ctx) false a 64 with
    | some st => (d.refused st).tugUnread cl tug pos i st
    | none => if d.ownedIn a 64 then d.recallOwned a 64 else d.tugTake cl tug pos i (d.read a 64) (d.poisonIn a 64)
  else if next / 2 ^ 48 ≠ 15 then d.askDesc cl tug pos i next
  else match ext with
    | none => d
    | some e =>
      let d := d.devReads i.tag.ctx a 64
      if e.accepted && e.refusedRun.isNone then d.tugTake cl tug pos i (slice e.bytes 0 64) (companionMark e a 64) else d.tugUnread cl tug pos i stAddress

/-- The next descriptor of a chain is to be read (R129), or the chain ends. -/
def Dev.tugNext (d : Dev) (cl tug pos : Nat) (i : TugItem) : Dev :=
  let next := tgNext i.desc
  let i' : TugItem := { tag := i.tag, desc := i.desc, written := i.written, fetch := some next }
  if next = 0 then d.tugEnd cl tug pos i stOK
  else (d.setTugQ cl tug (setNth (d.tugQ cl tug) pos i')).tugFetch cl tug pos i' next none

/-- A descriptor ends with a status other than OK after `n` bytes: counters, and the end of its chain. -/
def Dev.tugFails (d : Dev) (cl tug pos : Nat) (i : TugItem) (n status : Nat) : Dev :=
  (((d.bumpAt (0x8200 + cl) 1 tug n).bumpAt (0x8200 + cl) 2 tug 1).bump (0x8200 + cl) 4 1).tugEnd cl tug pos { i with written := i.written + n } status

/-- A descriptor completes with a status after `n` bytes: counters, the arrival behind its writes, and NEXT. -/
def Dev.tugFinish (d : Dev) (cl tug pos : Nat) (i : TugItem) (n status : Nat) : Dev :=
  if status = stOK then
    let d := (d.bumpAt (0x8200 + cl) 1 tug n).bumpAt (0x8200 + cl) 2 tug 1
    let i := { i with written := i.written + n }
    let d := if tgBarrier i.desc = 0xFFFF then d else d.sendArrival i.tag (tgBarrier i.desc) 1 1 none
    d.tugNext cl tug pos i
  else (d.refused status).tugFails cl tug pos i n status

/-! ### Remote runs (R131, R247, R256) -/

/-- The WRITE packets of a descriptor: source and destination of each piece of at most PAYLOAD_MAX bytes, within one run. -/
def tgPieces (max n : Nat) (rs : List (Nat × Nat)) : List (Nat × Nat × Nat) :=
  (rs.map fun r => (List.range (ceilDiv n max)).map fun k => (r.1 + k * max, r.2 + k * max, min max (n - k * max))).flatten

/-- Where piece number `i` begins within its run. -/
def pieceAt (max n i : Nat) : Nat := i % ceilDiv n max * max

/-- WRITEs sent from piece number `i` on, while the window has room (R255); the last carries LAST. -/
def Dev.tugWrites (desc key : Nat) (ps : List (Nat × Nat × Nat)) : Nat → Nat → Dev → Dev × Nat
  | 0, i, d => (d, i)
  | fuel + 1, i, d =>
    if d.canSend key clReq ∧ i < ps.length then
      let p := nth (0, 0, 0) ps i
      let data := if tgFill desc then slice (fillBytes desc p.2.1) 0 p.2.2 else d.read p.1 p.2.2
      let bad := !(tgFill desc) && d.poisonIn p.1 p.2.2
      Dev.tugWrites desc key ps fuel (i + 1)
        (d.sendData key { cls := clReq, op := 0x01, addr := tgDstDev desc * 2 ^ 48 + p.2.1, data := data, last := i + 1 == ps.length, poison := bad, use := 0,
                          runBefore := pieceAt d.payloadMax (tgLen desc) i, runAfter := tgLen desc - pieceAt d.payloadMax (tgLen desc) i - p.2.2 })
    else (d, i)

/-- READs sent from run number `i` on (R247); `id` joins the reads of one descriptor. -/
def Dev.tugReads (desc key id : Nat) (rs : List (Nat × Nat)) : Nat → Nat → Dev → Dev × Nat
  | 0, i, d => (d, i)
  | fuel + 1, i, d =>
    if d.canSend key clReq ∧ i < rs.length then
      let r := nth (0, 0) rs i
      match d.session key with
      | none => (d, i)
      | some s =>
        let tag := (s.txc clReq).next % 2 ^ 16
        let d := d.setSession key { s with reads := s.reads ++ [{ tag := tag, id := id, src := tgSrcDev desc * 2 ^ 48 + r.1, dst := r.2, len := tgLen desc }] }
        Dev.tugReads desc key id rs fuel (i + 1)
          (d.sendData key { cls := clReq, op := 0x02, channel := tag, addr := tgSrcDev desc * 2 ^ 48 + r.1, data := natLe 8 (tgLen desc) })
    else (d, i)

/-- A descriptor with a remote end moves on: its packets leave while the window has room; DONE or the last response completes it. -/
def Dev.tugRemote (d : Dev) (cl tug pos : Nat) (i : TugItem) (rs : List (Nat × Nat)) : Dev :=
  let out := tgDstDev i.desc != d.midOf i.tag.ctx
  match d.tugSession i.tag.ctx (if out then tgDstDev i.desc else tgSrcDev i.desc) with
  | none => d.tugFinish cl tug pos i 0 stPathLost
  | some key =>
    if !(d.canSend key clReq) then d.bumpFree 0x3100 0x0D
    else if out then
      let ps := tgPieces d.payloadMax (tgLen i.desc) rs
      let bad := !(tgFill i.desc) && rs.any fun r => d.poisonIn r.1 (tgLen i.desc)
      let x := Dev.tugWrites i.desc key ps (ps.length - i.sent) i.sent d
      let psn := match x.1.session key with | some s => ((s.txc clReq).next + 2 ^ 32 - 1) % 2 ^ 32 | none => 0
      x.1.setTugQ cl tug (setNth (x.1.tugQ cl tug) pos { i with remote := 1, sess := key, txn := psn, sent := x.2, poison := i.poison || bad })
    else
      let id := if i.remote = 2 then i.txn else (match d.session key with | some s => (s.txc clReq).next | none => 0)
      let x := Dev.tugReads i.desc key id rs (rs.length - i.sent) i.sent d
      x.1.setTugQ cl tug (setNth (x.1.tugQ cl tug) pos { i with remote := 2, sess := key, txn := id, sent := x.2 })

/-- Whether every packet of a remote descriptor has left. -/
def Dev.tugAllSent (d : Dev) (i : TugItem) : Bool :=
  let rs := (d.tgGood i.tag.ctx i.desc (tgRuns i.desc)).1
  if i.remote = 1 then i.sent == (tgPieces d.payloadMax (tgLen i.desc) rs).length else i.sent == rs.length

/-- The status a remote descriptor completes with once all its runs have moved. -/
def Dev.tugStatus (d : Dev) (i : TugItem) : Nat :=
  let g := d.tgGood i.tag.ctx i.desc (tgRuns i.desc)
  if g.2 ≠ stOK then g.2 else if i.poison then stPoison else stOK

/-- The remote descriptor at a place completes (R256): its bytes, its status. -/
def Dev.tugRemoteDone (d : Dev) (cl tug pos : Nat) (i : TugItem) : Dev :=
  let g := d.tgGood i.tag.ctx i.desc (tgRuns i.desc)
  d.tugFinish cl tug pos i (g.1.length * tgLen i.desc) (d.tugStatus i)

/-! ### TUG_DESCRIPTOR_COMPLETE -/

/-- The run of a descriptor that the companion refuses first, if it refuses one (R134, R188). -/
def companionRefuses (e : External) : Option Nat := if e.accepted then e.refusedRun else some 0

/-- The runs of a descriptor that the companion accepts, and the status the descriptor ends with where not all are. -/
def companionGood (e : External) (g : List (Nat × Nat) × Nat) : List (Nat × Nat) × Nat :=
  match companionRefuses e with
  | some k => if k < g.1.length then (g.1.take k, stAddress) else g
  | none => g

/-- Whether the descriptor at a place may run beside those before it (R133). One with ORD = 0b01 waits for every descriptor before it in its queue, also for one
that runs on before the previous one under ORD = 0b00, where R129 names the previous one (DESIGN CHOICE, log 93). -/
def tugMayRun (q : List TugItem) (pos : Nat) : Bool := ((q.take (pos + 1)).drop 1).all fun i => tgOrd i.desc == 0

/-- The descriptor at a place of a tug's queue runs to its completion, or moves on as far as its remote end lets it. -/
def Dev.tugRun (d : Dev) (cl tug pos : Nat) (ext : External) : Dev :=
  match (d.tugQ cl tug)[pos]? with
  | none => d
  | some i =>
    if d.safe ∨ d.pwr.offKind ≠ 0 ∨ tugMayRun (d.tugQ cl tug) pos = false then d
    else match i.fetch with
    | some next => d.tugFetch cl tug pos i next (some ext)
    | none =>
    if d.tgMalformed i.tag.ctx i.desc then d.tugFinish cl tug pos i 0 stMalformed
    else
      let n := tgLen i.desc
      let g := d.tgGood i.tag.ctx i.desc (tgRuns i.desc)
      match d.tgHeld i.tag i.desc g.1 with
      | some d' => d'
      | none =>
        let k := companionGood ext g
        let done := fun (g : List (Nat × Nat) × Nat) (x : Dev × Bool) => x.1.tugFinish cl tug pos i (g.1.length * n) (if g.2 ≠ stOK then g.2 else if x.2 then stPoison else stOK)
        if tgDstDev i.desc = d.midOf i.tag.ctx ∧ (tgFill i.desc ∨ tgSrcDev i.desc = d.midOf i.tag.ctx) then done g (d.moveLocal i.desc g.1)
        else if tgDstDev i.desc = 15 then done k (d.moveOut i.tag.ctx i.desc k.1)
        else if tgDstDev i.desc = d.midOf i.tag.ctx ∧ tgSrcDev i.desc = 15 then done k (d.moveIn i.tag.ctx i.desc k.1 ext)
        else if g.1 = [] then d.tugFinish cl tug pos i 0 g.2
        else if i.remote ≠ 0 ∧ d.tugAllSent i then d
        else d.tugRemote cl tug pos i g.1

/-! ### TUG (R127, R128, R148) -/

def tugFields : List (Nat × Nat) := common ++ [(10, 8), (79, 32)]
def tugDesc (w : Nat) : Nat := field w 79 32

/-- Where a TUG's descriptor stands: in the core's own hold (its offset), or in the quay of its cluster; none for a malformed order. -/
def Dev.tugPlace (d : Dev) (c : CoreRef) (w : Nat) : Option (Option Nat) :=
  let a := tugDesc w
  if onlyFields w tugFields && sync w == 0xFFFF && decide (field w 10 8 ≤ 4) && a % 64 == 0 then
    match d.place a with
    | (.hold h, e) => if d.realCore h = d.realCore c ∧ a + 64 ≤ e then some (some (a - holdBase h)) else none
    | (.quay q, e) => if q = c.cl ∧ a + 64 ≤ e then some none else none
    | _ => none
  else none

/-- The tug an order goes to: the one named, or the one with the fewest held places, the lowest of those that tie. -/
def Dev.pickTug (d : Dev) (cl n : Nat) : Nat :=
  if n < 4 then n
  else (List.range 4).foldl (fun b t => if (d.tugQ cl t).length < (d.tugQ cl b).length then t else b) 0

/-- What stands between a TUG and its descriptor. -/
def Dev.tugGate (d : Dev) (t : OrderTag) (a : Nat) (at_ : Option Nat) : Gate :=
  match at_ with
  | some o => d.gate t [(o, 64)] []
  | none => if d.ownedIn a 64 then .stall (d.recallOwned a 64) else .go (d.poisonIn a 64)

/-- A readable descriptor is queued on the tug it goes to, while that has a place (R128). -/
def Dev.tugQueue (d : Dev) (w : Waiting) : Turn :=
  let cl := w.tag.core.cl
  let t := d.pickTug cl (field w.word 10 8)
  if 32 ≤ (d.tugQ cl t).length then .wait (d.bumpFree (0x8200 + cl) 3) { w with stalled := false }
  else .done (d.setTugQ cl t (d.tugQ cl t ++ [{ tag := w.tag, desc := leNat (d.read (tugDesc w.word) 64) }]))

/-- A TUG whose descriptor stands at a place: consumed where it is poisoned (R421), which counts at the tug it was for (R135), else queued; none is malformed. -/
def Dev.tugGo (d : Dev) (w : Waiting) (place : Option (Option Nat)) : Turn :=
  match place with
  | none => .malformed d
  | some p =>
    (d.tugGate w.tag (tugDesc w.word) p).turn w fun bad =>
      if bad then
        let cl := w.tag.core.cl
        .done (((((d.bumpAt (0x8200 + cl) 2 (d.pickTug cl (field w.word 10 8)) 1).bump (0x8200 + cl) 4 1)).report w.tag stPoison 0 0).consumePoison w.tag)
      else d.tugQueue w

/-- TUG's turn: the descriptor's 64 bytes are read and queued as they stand. -/
def runTug (w : Waiting) (d : Dev) : Turn := d.tugGo w (d.tugPlace w.tag.core w.word)

end Sys2Proof.Machine
end

