-- ==== Sys2Proof/Machine/Barriers.lean ====
section
/-! DEFINITION. Barrier orders (R151, R211 to R220), FENCE (R155), HINT (R152, R389), the events that count, acknowledge and release
arrivals, and the board fast barrier (R222). -/

namespace Sys2Proof.Machine

/-! ### What an order that covers earlier work waits for (R155, R217, R324) -/

/-- Whether every order of a core issued before a stamp has completed: no such drain, load, collective or snapshot is unfinished. -/
def Dev.ordersDone (d : Dev) (c : CoreRef) (stamp : Nat) : Bool :=
  let before := fun (t : OrderTag) => t.core == c && decide (t.stamp < stamp)
  !((d.core c).drains.any fun j => before j.tag) && !((d.core c).loads.any fun j => before j.tag) &&
    !(d.cmp.groups.any fun p => p.2.flights.any fun f => before f.tag) &&
    !(d.cmp.snaps.any fun s => match s.tag with | some t => before t | none => false)

/-- Whether every conveyor message those orders sent has been written into its consumer's ring (R167): one to another module when a WRITE sent behind it is
visible there (log 96). -/
def Dev.messagesDone (d : Dev) (c : CoreRef) (stamp : Nat) : Bool :=
  !(d.cmp.convs.any fun p => p.2.flying.any fun m => m.core == c && decide (m.stamp < stamp)) &&
    !(d.net.sessions.any fun p => p.2.state != 2 && p.2.unwritten.any fun u => u.2.1 == c.key && decide (u.2.2 < stamp))

/-- Where a message of those orders went to another module, an empty WRITE with LAST follows it: packets of a class are applied in order, so its DONE tells
that the message stands in its ring (R252, R256). -/
def Dev.askWritten (d : Dev) (t : OrderTag) : Dev :=
  let open_ := d.net.sessions.filter fun p => p.2.state == 1 && p.2.flush.isNone && p.2.unwritten.any fun u => u.2.1 == t.core.key && decide (u.2.2 < t.stamp)
  open_.foldl (fun d p =>
    match d.session p.1 with
    | none => d
    | some s => (d.setSession p.1 { s with flush := some (s.txc clReq).next }).sendData p.1 { cls := clReq, op := 0x01, addr := s.peer % 8 * 2 ^ 48, last := true }) d

/-- Whether every tug descriptor those orders queued has completed. -/
def Dev.tugsDone (d : Dev) (c : CoreRef) (stamp : Nat) : Bool := !(d.cmp.tugs.any fun p => p.2.any fun i => i.tag.core == c && decide (i.tag.stamp < stamp))

/-- What the arrival of an ARRIVE waits for (R217). -/
def Dev.settled (d : Dev) (t : OrderTag) : Bool := d.ordersDone t.core t.stamp && d.messagesDone t.core t.stamp

/-- What a FENCE waits for (R155). -/
def Dev.fenced (d : Dev) (t : OrderTag) : Bool := d.settled t && d.tugsDone t.core t.stamp

/-- FENCE's turn. It has no fields. -/
def runFence (w : Waiting) (d : Dev) : Turn :=
  if onlyFields w.word common && sync w.word == 0xFFFF then (if d.fenced w.tag then .done d else .wait (d.askWritten w.tag) w) else .malformed d

/-! ### Waits -/

def barFields : List (Nat × Nat) := common ++ [(47, 32), (95, 64)]

def waitWeight (w : Nat) : Nat := field w 47 32

/-- This module's waiter of a core. -/
def Dev.here (d : Dev) (ctx : Nat) (c : CoreRef) : GangCore := ⟨(d.ctx ctx).gangRank, c⟩

/-- Whether a store holds the release of generation `g` for a save (R225). -/
def Barrier.holds (b : Barrier) (g : Nat) : Bool := b.holding && (g + 1) % 2 ^ 32 == b.gen

/-- A wait with a known target `g` (R214). One that has joined the waiter set, phase 2, is ended by its release or its timeout alone. Else
it ends at once when that generation has completed and its release is not held, with TIMEOUT where it had expired before (R220);
otherwise it joins the waiter set, at the home too where that is another module, or those the held release goes to. -/
def Dev.waitOn (d : Dev) (w : Waiting) (n g : Nat) : Turn :=
  match d.bar w.tag.ctx n with
  | none => .malformed d
  | some b =>
    if b.poisoned then .done (d.complete w.tag stPoisoned g 0 true)
    else if w.phase = 2 then .wait d w
    else
      let w' := { w with target := some g, phase := 2 }
      let me : List Waiter := [⟨d.here w.tag.ctx w.tag.core, g⟩]
      if b.holds g then .wait (d.setBar w.tag.ctx n { b with held := b.held ++ me }) w'
      else if genDone g b.gen then
        (if w.late d.time then .done ((d.modCore w.tag.core fun x => { x with wait := some w' }).waitExpires w.tag.core) else .done (d.report w.tag stOK g 0))
      else .wait ((d.setBar w.tag.ctx n { b with waiters := (b.waiters.filter fun v => v.who != d.here w.tag.ctx w.tag.core) ++ me }).tellWait w.tag n 6 g) w'

/-- WAIT's turn: its target is the generation of the core's most recent arrival there, else the one in progress at the home, which a home on another module
is asked for. -/
def runWait (w : Waiting) (d : Dev) : Turn :=
  let n := sync w.word
  match d.bar w.tag.ctx n with
  | none => .malformed d
  | some b =>
    if onlyFields w.word barFields && waitWeight w.word == 0 && decide (n < 1024) then
      match w.target with
      | some g => d.waitOn w n g
      | none =>
        let x := d.core w.tag.core
        if tblGet [] x.acksDue n != [] then .wait d w
        else match tblFind x.joined n with
          | some g => d.waitOn w n g
          | none =>
            if b.fast || b.poisoned || b.home == (d.ctx w.tag.ctx).gangRank then d.waitOn w n b.gen
            else .wait ((d.modCore w.tag.core fun c => { c with acksDue := tblSet c.acksDue n [w.tag] }).tellWait w.tag n 0 0) w
    else .malformed d

/-- Whether an arriving order is well formed: a barrier of the context, a weight within its COUNT. -/
def Dev.arriveOk (d : Dev) (w : Waiting) : Bool :=
  match d.bar w.tag.ctx (sync w.word) with
  | none => false
  | some b => onlyFields w.word barFields && decide (sync w.word < 1024) && decide (1 ≤ waitWeight w.word) && decide (waitWeight w.word ≤ b.count)

/-- ARRIVE's turn (R217): the arrival leaves once earlier work is visible. -/
def runArrive (w : Waiting) (d : Dev) : Turn :=
  if d.arriveOk w && waitTimeoutNs w.word == 0 then
    if d.settled w.tag = false then .wait (d.askWritten w.tag) w
    else if d.arrivalRoom w.tag.ctx (sync w.word) clReq then .done (d.sendArrival w.tag (sync w.word) (waitWeight w.word) 0 none)
    else .wait (d.bumpFree 0x3100 0x0D) w
  else .malformed d

/-- ARRIVE_WAIT's turn: phase 0 waits for earlier work and sends the arrival, phase 1 waits for its acknowledgement, which gives the
target, and then for the target's completion. -/
def runArriveWait (w : Waiting) (d : Dev) : Turn :=
  if d.arriveOk w then
    match w.target with
    | some g => d.waitOn w (sync w.word) g
    | none =>
      if w.phase = 1 then .wait d w
      else if d.settled w.tag && !(d.arrivalRoom w.tag.ctx (sync w.word) clReq) then .wait (d.bumpFree 0x3100 0x0D) w
      else if d.settled w.tag then
        .wait (d.sendArrival w.tag (sync w.word) (waitWeight w.word) 0 none) { w with phase := 1, start := d.time }
      else .wait (d.askWritten w.tag) w
  else .malformed d

/-! ### HINT -/

def hintFields : List (Nat × Nat) := common ++ [(8, 8), (35, 32), (63, 40), (95, 64)]

/-- Whether a hint is well formed: END leaves LEAD, SPAN and LOAD at 0. -/
def hintOk (w : Nat) : Bool :=
  onlyFields w hintFields && sync w == 0xFFFF && (!(bit w 8) || (field w 35 32 == 0 && field w 63 40 == 0 && field w 95 64 == 0))

/-- The two rows of HINT, by END. -/
def selHint (w : Nat) : Bool := isOp 0x40 w && !(bit w 8)
def selHintEnd (w : Nat) : Bool := isOp 0x40 w && bit w 8

/-- HINT's turn: the phase is announced. -/
def runHint (w : Waiting) (d : Dev) : Turn :=
  if hintOk w.word then
    .done ((d.modCore w.tag.core fun x => { x with hint := some ⟨d.time, field w.word 63 40, field w.word 95 64, field w.word 35 32⟩ }).bump
      (d.coreIdx 0x1400 w.tag.core) 5 1)
  else .malformed d

/-- HINT with END: the announced phase ends. -/
def runHintEnd (w : Waiting) (d : Dev) : Turn :=
  if hintOk w.word then .done ((d.modCore w.tag.core fun x => { x with hint := none }).bump (d.coreIdx 0x1400 w.tag.core) 5 1)
  else .malformed d

/-! ### Arrivals, acknowledgements and releases on their way -/

/-- Arrival number `i` on its way to a store of this module is counted there (R211). -/
def Dev.arrivalCounted (d : Dev) (i : Nat) : Dev :=
  match d.cmp.arrivals[i]? with
  | none => d
  | some a => { d with cmp := { d.cmp with arrivals := dropNth d.cmp.arrivals i } }.countArrival a

/-- The core hears of the oldest of its arrivals at a barrier (R214): the generation it joined, or that the barrier is poisoned; an observer hears of the
generation in progress. -/
def Dev.acknowledge (d : Dev) (ctx n : Nat) (c : CoreRef) (gen : Option Nat) : Dev :=
  match tblGet [] (d.core c).acksDue n with
  | [] => d
  | t :: rest =>
    let d := d.modCore c fun x => { x with acksDue := if rest = [] then tblErase x.acksDue n else tblSet x.acksDue n rest }
    match gen with
    | some g =>
      d.modCore c fun x =>
        { x with joined := if t.op = 0x31 then x.joined else tblSet x.joined n g,
                 wait := x.wait.map fun w => if w.tag = t ∧ (t.op = 0x31 ∨ t.op = 0x32 ∨ t.op = 0x50) then { w with target := some g } else w }
    | none =>
      if waitsAt (d.core c) ctx n then d.endWait c stPoisoned true
      else if t.op = 0x30 ∨ t.op = 0x32 ∨ t.op = 0x50 then d.endOrder t stPoisoned true else d

/-- Acknowledgement number `i` reaches its core. Those of one core and barrier come in the order of its arrivals. -/
def Dev.ackArrives (d : Dev) (i : Nat) : Dev :=
  match d.cmp.acks[i]? with
  | none => d
  | some a =>
    if (d.cmp.acks.take i).any fun b => b.ctx == a.ctx && b.bar == a.bar && b.core == a.core then d
    else { d with cmp := { d.cmp with acks := dropNth d.cmp.acks i } }.acknowledge a.ctx a.bar a.core a.gen

/-- Release number `i` becomes visible at its waiter (R212, R215). -/
def Dev.releaseArrives (d : Dev) (i : Nat) : Dev :=
  match d.cmp.releases[i]? with
  | none => d
  | some r => { d with cmp := { d.cmp with releases := dropNth d.cmp.releases i } }.releaseHits r

/-- WAIT_TIMEOUT (R216): the expired WAIT or ARRIVE_WAIT of a core ends, unless a release of its target is already visible there. -/
def Dev.waitTimesOut (d : Dev) (c : CoreRef) : Dev :=
  match (d.core c).wait with
  | none => d
  | some w => if (w.tag.op = 0x31 ∨ (w.tag.op = 0x32 ∧ w.phase ≠ 0)) ∧ w.expired d.time then d.waitExpires c else d

/-! ### The board fast barrier (R222, R223) -/

/-- The context and number of the fast barrier that holds SYNC_IO (R234). -/
def Dev.fastBar (d : Dev) : Option (Nat × Nat) :=
  let v := d.obj 0x9000 7
  if v = 0xFFFFFFFF then none else some (v / 2 ^ 16, v % 2 ^ 16)

/-- SYNC_IO has been high for 40 ns: the generation completes on this module, when it has stopped pulling. -/
def Dev.fastHigh (d : Dev) : Dev :=
  match d.fastBar with
  | none => d
  | some (c, n) =>
    match d.bar c n with
    | none => d
    | some b =>
      if b.poisoned ∨ b.pulling ∨ b.sawHigh.isSome then d
      else
        (d.completeGen c n { b with sawHigh := some d.time, lastKind := 5, lastTime := d.time } (b.arrived - b.count)).bump 0x9000 8 1

/-- 200 ns later the module pulls the line again. A member that has asked for a save at the point holds the line until every member has noted it, so that all
hold the same release (R225, log 96). -/
def Dev.fastRepull (d : Dev) : Dev :=
  match d.fastBar with
  | none => d
  | some (c, n) =>
    match d.bar c n with
    | none => d
    | some b =>
      match b.sawHigh with
      | some t => if t + 200 ≤ d.time then d.setBar c n { b with sawHigh := none, pulling := (decide (b.arrived < b.count) || (d.ctx c).gangUnnoted != []) && !b.poisoned } else d
      | none => d

end Sys2Proof.Machine
end

