-- ==== Sys2Proof/Machine/Training.lean ====
section
/-! DEFINITION. Guarded steps (R307 to R322), snapshots (R324 to R326) and the sending side of mirroring (R330). -/

namespace Sys2Proof.Machine

/-! ### State sets -/

/-- The valid sets of a context that a mask names. -/
def Dev.maskSets (d : Dev) (ctx mask : Nat) : List (Nat × StateSet) :=
  (List.range 16).filterMap fun s => if bit mask s then (d.sset ctx s).map fun x => (s, x) else none

def StateSet.committed (x : StateSet) : Nat := if x.active = 0 then x.bank0 else x.bank1
def StateSet.working (x : StateSet) : Nat := if x.active = 0 then x.bank1 else x.bank0

/-- The view record of a double-banked set (R310) as 32 bytes. -/
def viewBytes (x : StateSet) (lossScale : Nat) : List Byte :=
  natLe 32 (x.committed + x.working * 2 ^ 48 + x.active * 2 ^ 96 + lossScale * 2 ^ 160 + (x.step % 2 ^ 64) * 2 ^ 192)

/-- The view records of a context's double-banked sets written at VIEW. Those of a context saved off its cores are written as it is restored (R310). -/
def Dev.writeViews (d : Dev) (ctx : Nat) : Dev :=
  if (d.ctx ctx).saved ≠ [] then d else (d.maskSets ctx 0xFFFF).foldl (fun d p => if p.2.teacher then d else d.putRecord p.2.view (viewBytes p.2 (d.obj (0xA100 + ctx) 9))) d

/-- MIRROR_STATE of a set (R338). -/
def Dev.mirrorState (d : Dev) (x : StateSet) : Nat :=
  if !x.mirror || x.copy then 0 else if d.obj 0xA000 3 = 2 ∨ d.obj 0xA000 3 = 3 then 3 else if x.copied then 2 else 1

/-- MIRROR packets of a set not yet acknowledged. -/
def Dev.mirrorPkts (d : Dev) (ctx s : Nat) : List Packet :=
  ((d.net.sessions.map fun p => ((p.2.txc clReq).kept.filter fun k => k.pkt.op == 0x41 && k.origin == some (4096 + ctx, s)).map TxPkt.pkt)).flatten
def Dev.mirrorKept (d : Dev) (ctx s : Nat) : Nat := (d.mirrorPkts ctx s).length

/-- The granule of a MIRROR packet (R330). -/
def mirrorGranule (p : Packet) : Nat := field p.addr 51 51 * 2 ^ 32 + field p.addr 39 0 / 65536

/-- DIRTY_BYTES (R338): the dirty granules, and what is on its way of the others. -/
def Dev.dirtyBytes (d : Dev) (ctx s : Nat) (x : StateSet) : Nat :=
  65536 * x.dirty.length + (((d.mirrorPkts ctx s).filter fun p => !(x.dirty.contains (mirrorGranule p))).map fun p => p.payload.length).sum

/-- Whether the mirrored sets of a context are in sync for a vote (R330). Sets whose partner is lost hold nothing back (R335). -/
def Dev.mirrorSynced (d : Dev) (ctx : Nat) : Bool :=
  (d.maskSets ctx 0xFFFF).all fun p =>
    d.mirrorState p.2 == 0 || d.mirrorState p.2 == 3 || (d.mirrorState p.2 == 2 && p.2.dirty.isEmpty && d.mirrorKept ctx p.1 == 0)

/-! ### The loss scale (R321) -/

/-- Twice and half a power of two in FP32, subnormal ones included. -/
def scaleUp (f : Nat) : Nat := if f < 0x00800000 then 2 * f else f + 0x00800000
def scaleDown (f : Nat) : Nat := if f ≤ 0x00800000 then f / 2 else f - 0x00800000

/-- The loss scale after a flip: it grows when GROWTH_INTERVAL flips have passed since SCALE_AT. -/
def Dev.scaleFlip (d : Dev) (ctx : Nat) : Dev :=
  let i := 0xA100 + ctx
  let n := d.obj i 0x0E
  let sr := d.obj (0x7300 + ctx) 9
  if n ≠ 0 ∧ n ≤ sr - d.obj i 0x0A then (d.setObj i 9 (min (scaleUp (d.obj i 9)) (d.obj i 0x0D))).setObj i 0x0A sr else d

/-- The loss scale after a skip or halt. -/
def Dev.scaleSkip (d : Dev) (ctx : Nat) : Dev :=
  let i := 0xA100 + ctx
  (d.setObj i 9 (max (scaleDown (d.obj i 9)) (d.obj i 0x0C))).setObj i 0x0A (d.obj (0x7300 + ctx) 9)

/-- The non-finite counters at an outcome (R312). -/
def Dev.nonfiniteDone (d : Dev) (ctx : Nat) : Dev :=
  let i := 0xA100 + ctx
  let d := (d.bump i 4 (d.obj i 1)).bump i 5 (d.obj i 2)
  ((d.setObj i 1 0).setObj i 2 0).setObj i 3 0

/-! ### Outcomes (R316 to R319) -/

/-- A set flips (R318). -/
def Dev.flipSet (d : Dev) (ctx s : Nat) (x : StateSet) : Dev :=
  d.setSset ctx s { x with active := 1 - x.active, step := x.step + 1, loader := leNat (d.read x.working 8) }

/-- A flip of the sets of a mask (R318). SR_COUNTER stays at its highest value as every counter does (log 93). -/
def Dev.flip (d : Dev) (ctx mask : Nat) : Dev :=
  let i := 0xA100 + ctx
  let d := (d.maskSets ctx mask).foldl (fun d p => d.flipSet ctx p.1 p.2) d
  let d := (d.bump (0x7300 + ctx) 9 1).bump i 7 1
  let d := (d.setObj i 8 (d.obj i 7)).scaleFlip ctx
  (d.nonfiniteDone ctx).modCtx ctx fun x => { x with restart := x.taken, seekStep := true, flipScale := some (d.obj i 9) }

/-- A skip or halt (R319): a record of STEP_SKIPPED or STEP_HALTED. -/
def Dev.suppress (d : Dev) (ctx : Nat) (halt : Bool) : Dev :=
  let i := 0xA100 + ctx
  let d := ((d.scaleSkip ctx).nonfiniteDone ctx).bump i 6 1
  let d := d.bump i 7 1
  let d := if halt then (d.setObj i 0x11 1).modCtx ctx fun x => { x with state := if x.state = 4 then 11 else x.state } else d
  d.fault (if halt then 0x0603 else 0x0602) (some ctx) 0

/-- The status a COMMIT ends with, and whether its list stops (R316, R320). -/
def outcomeStatus (o : Nat) : Nat × Bool := if o = 0 then (stOK, false) else if o = 1 then (stSuppressed, false) else if o = 2 then (stSuppressed, true) else (stMalformed, true)

/-- The COMMITs of a barrier and generation end with an outcome, or with TIMEOUT when they had expired before (R322). -/
def Dev.endCommits (d : Dev) (ctx n g o : Nat) : Dev :=
  (d.coresWhere fun x => waitsAt x ctx n && (match x.wait with | some w => w.tag.op == 0x50 && w.target == some g | none => false)).foldl
    (fun d c =>
      match (d.core c).wait with
      | none => d
      | some w => if w.late d.time then d.waitExpires c else d.endWait c (outcomeStatus o).1 (outcomeStatus o).2) d

/-- The snapshots in flight of the sets of a mask under one policy. -/
def Dev.snapsOf (d : Dev) (ctx mask : Nat) (abandon : Bool) : List Snap :=
  d.cmp.snaps.filter fun s => s.ctx == ctx && bit mask s.set_ && s.abandon == abandon

/-- A flip ends the snapshots of its sets under ABANDON (R325). -/
def Dev.abandonSnaps (d : Dev) (ctx mask : Nat) : Dev :=
  let gone := d.snapsOf ctx mask true
  let d := { d with cmp := { d.cmp with snaps := d.cmp.snaps.filter fun s => !(s.ctx == ctx && bit mask s.set_ && s.abandon) } }
  gone.foldl (fun d s => match s.tag with
    | some t => (d.bump 0xA000 0x0F 1).complete t stAbandoned 0 0 false
    | none => d.bump 0xA000 0x0F 1) d

/-- Whether a saved core waits with a COMMIT for a generation. -/
def SavedCore.commits (v : SavedCore) (n g : Nat) : Bool :=
  match v.st.wait with | some w => w.tag.op == 0x50 && sync w.word == n && w.target == some g | none => false

/-- An outcome noted for the COMMITs that were saved while they waited for it (R322). -/
def Ctx.noteOutcome (x : Ctx) (n g o : Nat) : Ctx :=
  if x.saved.any fun v => v.commits n g then { x with doneCommits := x.doneCommits ++ [(n, g, o)] } else x

/-- An outcome applied once for its generation, in one harbour cycle (R316): sets and counters, view records, then the COMMITs end. A malformed one moves no
set, and the non-finite counters are totalled by it too (R312). -/
def Dev.applyOutcome (d : Dev) (o : OutcomeF) : Dev :=
  let d := d.modCtx o.ctx fun x => { x with lastOutcome := some (o.bar, o.gen, o.outcome, o.mask) }
  let d := if o.outcome = 0 then (d.abandonSnaps o.ctx o.mask).flip o.ctx o.mask
    else if o.outcome = 1 then d.suppress o.ctx false
    else if o.outcome = 2 then d.suppress o.ctx true
    else d.nonfiniteDone o.ctx
  let d := d.writeViews o.ctx
  let d := (d.modCtx o.ctx fun x => x.noteOutcome o.bar o.gen o.outcome).endCommits o.ctx o.bar o.gen o.outcome
  if o.outcome = 3 then d.abortCtx o.ctx none else d

/-- Whether an outcome must still wait: for the acknowledgements of its votes, or under HOLD for a snapshot (R325). -/
def Dev.outcomeWaits (d : Dev) (o : OutcomeF) : Bool := o.outcome == 0 && !(d.snapsOf o.ctx o.mask false).isEmpty
def Dev.outcomeEarly (d : Dev) (o : OutcomeF) : Bool := d.cmp.acks.any fun a => a.ctx == o.ctx && a.bar == o.bar && a.gen == some o.gen

/-- An outcome that a snapshot holds: HOLD_WAITS counts it once, and the snapshot reads as holding. -/
def Dev.holdOutcome (d : Dev) (i : Nat) (o : OutcomeF) : Dev :=
  let d := if o.waited then d else d.bump 0xA000 0x10 1
  { d with cmp := { d.cmp with outcomes := setNth d.cmp.outcomes i { o with waited := true },
                               snaps := d.cmp.snaps.map fun s => if s.ctx == o.ctx && bit o.mask s.set_ && !s.abandon then { s with held := true } else s } }

/-- The sets of a flip whose new loader position stands in a line the companion owns (R191, R309). -/
def Dev.ownedBanks (d : Dev) (o : OutcomeF) : List Nat :=
  if o.outcome = 0 then ((d.maskSets o.ctx o.mask).map fun p => p.2.working).filter fun a => d.ownedIn a 8 else []

/-- The outcomes on hand from place `i` on: the first that may be applied is; those a snapshot holds wait, as does a flip for lines it has to recall. -/
def Dev.outcomesGo (only : Bool) : Nat → Nat → Dev → Dev
  | 0, _, d => d
  | fuel + 1, i, d =>
    match d.cmp.outcomes[i]? with
    | none => d
    | some o =>
      if d.outcomeWaits o then Dev.outcomesGo only fuel (i + 1) (d.holdOutcome i o)
      else if d.outcomeEarly o ∨ (only ∧ o.waited = false) then Dev.outcomesGo only fuel (i + 1) d
      else if d.ownedBanks o ≠ [] then
        Dev.outcomesGo only fuel (i + 1) ((d.ownedBanks o).foldl (fun d a => d.recallOwned a 8) { d with cmp := { d.cmp with outcomes := setNth d.cmp.outcomes i { o with waited := true } } })
      else { d with cmp := { d.cmp with outcomes := dropNth d.cmp.outcomes i } }.applyOutcome o

/-- The next outcome on hand takes effect. -/
def Dev.outcomeDue (d : Dev) (only : Bool) : Dev := Dev.outcomesGo only d.cmp.outcomes.length 0 d

/-! ### COMMIT (R313, R316) -/

def commitFields : List (Nat × Nat) := common ++ [(47, 32), (95, 64)]
def commitMask (w : Nat) : Nat := field w 47 32

/-- Whether a mirrored teacher set of a context lies in a region that is not frozen. -/
def Dev.teacherThawed (d : Dev) (ctx : Nat) : Bool :=
  (d.maskSets ctx 0xFFFF).any fun p => p.2.teacher && p.2.mirror && (match d.regionAt p.2.bank0 with | some r => !(attrFrozen r.attr) | none => true)

/-- Whether a COMMIT is well formed. -/
def Dev.commitOk (d : Dev) (t : OrderTag) (w : Nat) : Bool :=
  let m := commitMask w
  onlyFields w commitFields && d.ownsBarrier t.ctx (sync w) && m != 0 &&
    (List.range 16).all (fun s => !(bit m s) || (match d.sset t.ctx s with | some x => !x.teacher | none => false)) && !(d.teacherThawed t.ctx)

/-- COMMIT's turn: phase 0 fences, phase 1 waits for the mirror of every mirrored set of the context (R323, R330), phase 2 has voted and waits for the outcome. Its timeout runs from the
vote, as a wait's runs from its arrival (R216, R322). -/
def runCommit (w : Waiting) (d : Dev) : Turn :=
  let ctx := w.tag.ctx
  if d.commitOk w.tag w.word then
    if w.phase = 2 then .wait d w
    else if w.phase = 0 ∧ d.fenced w.tag = false then .wait (d.askWritten w.tag) w
    else if d.mirrorSynced ctx = false then
      .wait (d.bumpFree 0xA000 6) { w with phase := 1 }
    else if d.arrivalRoom ctx (sync w.word) clCtl = false then .wait (d.bumpFree 0x3100 0x0D) { w with phase := 1 }
    else
      .wait (d.sendArrival w.tag (sync w.word) 1 4 (some (commitMask w.word, d.obj (0xA100 + ctx) 3 == 1))) { w with phase := 2, start := d.time }
  else .malformed d

/-- COMMIT_TIMEOUT (R322). -/
def Dev.commitTimesOut (d : Dev) (c : CoreRef) : Dev :=
  match (d.core c).wait with
  | none => d
  | some w => if w.tag.op = 0x50 ∧ w.phase = 2 ∧ w.expired d.time then d.waitExpires c else d

/-! ### Snapshots (R324 to R326) -/

def snapFields : List (Nat × Nat) := common ++ [(8, 8), (47, 32), (115, 64)]
def snapSet (w : Nat) : Nat := field w 47 32

/-- Whether a snapshot of a set is in flight on this module. -/
def Dev.snapBusy (d : Dev) (ctx s : Nat) : Bool := d.cmp.snaps.any fun x => x.ctx == ctx && x.set_ == s

/-- The bank a snapshot copies: the committed one, BANK0 of a teacher set. -/
def StateSet.snapBank (x : StateSet) : Nat := if x.teacher then x.bank0 else x.committed

/-- SNAPSHOT's turn. -/
def runSnapshot (w : Waiting) (d : Dev) : Turn :=
  let s := snapSet w.word
  match (if s ≤ 15 then d.sset w.tag.ctx s else none) with
  | none => .malformed d
  | some x =>
    if onlyFields w.word snapFields && (sync w.word == 0xFFFF || d.ownsBarrier w.tag.ctx (sync w.word)) then
      if d.ordersDone w.tag.core w.tag.stamp && !(d.snapBusy w.tag.ctx s) then
        .done { d with cmp := { d.cmp with snaps := d.cmp.snaps ++
          [{ ctx := w.tag.ctx, set_ := s, bank := x.snapBank, dst := field w.word 115 64, abandon := bit w.word 8, bar := sync w.word, tag := some w.tag }] } }
      else .wait d w
    else .malformed d

/-- The I/O tugs the chandlery moves data with (R375). -/
def Dev.svcTugs (d : Dev) : List Nat := (List.range 8).filter fun t => d.obj (0x8210 + t) 1 == 1

/-- The I/O tugs whose USE carries snapshots: 2, else 3 (R324). Which of them carries one is not fixed. -/
def Dev.snapTugs (d : Dev) : List Nat :=
  let two := (List.range 8).filter fun t => d.obj (0x8210 + t) 1 == 2
  if two = [] then (List.range 8).filter fun t => d.obj (0x8210 + t) 1 == 3 else two

/-- One of the I/O tugs of a use moves `n` bytes as one descriptor (R135). -/
def Dev.ioTug (d : Dev) (ts : List Nat) (n : Nat) : Dev :=
  if ts = [] then d
  else
    let t := nth 0 ts (Config.freeCount d.fresh % ts.length)
    (({ d with fresh := d.fresh + 1 }).bump (0x8210 + t) 2 n).bump (0x8210 + t) 3 1

/-- A snapshot ends: its place is free, its arrival is made when it ended well, and its order reports. -/
def Dev.snapEnd (d : Dev) (i : Nat) (s : Snap) (n status : Nat) : Dev :=
  let d := { d with cmp := { d.cmp with snaps := dropNth d.cmp.snaps i } }
  let d := if n = 0 then d else d.ioTug (if s.svc.isSome then d.svcTugs else d.snapTugs) n
  let d := if status = stOK then (if s.len.isSome then d else d.bump 0xA000 0x0E 1) else if s.refused = 0 then d.refused status else d
  let d := match s.tag with
    | some t =>
      let d := if status = stOK ∧ s.bar ≠ 0xFFFF then d.sendArrival t s.bar 1 2 none else d
      d.complete t status 0 0 true
    | none => d.svcSnapDone s status
  d.outcomeDue true

/-- WRITEs of a remote snapshot from packet `k` on, in the device session (R249, R324). -/
def Dev.snapWrites (key dev src dst size max : Nat) : Nat → Nat → Dev → Dev × Nat
  | 0, k, d => (d, k)
  | fuel + 1, k, d =>
    if d.canSend key clReq ∧ k * max < size then
      let n := min max (size - k * max)
      Dev.snapWrites key dev src dst size max fuel (k + 1)
        (d.sendData key { cls := clReq, op := 0x01, addr := dev * 2 ^ 48 + dst + k * max, data := d.read (src + k * max) n,
                          last := (k + 1) * max ≥ size, poison := d.poisonIn (src + k * max) n, use := 2 })
    else (d, k)

/-- The bytes a snapshot copies: those of its checkpoint, else one bank of its set (R324, R377). -/
def Dev.snapSize (d : Dev) (s : Snap) : Nat := s.len.getD (match d.sset s.ctx s.set_ with | some x => x.size | none => 0)

/-- Snapshot number `i` runs to its completion, or moves on as far as the far end lets it (R324). -/
def Dev.snapRun (d : Dev) (i : Nat) (ext : External) : Dev :=
  match d.cmp.snaps[i]? with
  | none => d
  | some s =>
    let size := d.snapSize s
    let dev := s.dst / 2 ^ 48
    let a := s.dst % 2 ^ 48
    let bad := d.poisonIn s.bank size
    let ok := if bad then stPoison else stOK
    if d.safe ∨ d.pwr.offKind ≠ 0 then d
    else if basinDev dev = false ∨ 2 ^ 48 < a + size then d.snapEnd i s 0 stAddress
    else match d.access (.ctx s.ctx) false s.bank size with
      | some st => d.snapEnd i s 0 st
      | none =>
        if d.ownedIn s.bank size then d.recallOwned s.bank size
        else if dev = d.midOf s.ctx then
          match d.access (.ctx s.ctx) true a size with
          | some st => d.snapEnd i s 0 st
          | none =>
            if d.pinned a size then d.bumpFree (0x7400 + s.ctx) 5
            else if d.ownedIn a size then d.recallOwned a size
            else (d.copyRun s.bank a size).1.snapEnd i s size ok
        else if dev = 15 then
          if ext.accepted then (d.devWrites s.ctx a (d.read s.bank size) fun o k => d.poisonIn (s.bank + o) k).snapEnd i s size ok else d.snapEnd i s 0 stAddress
        else if ext.accepted = false then d.snapEnd i s 0 stAddress
        else match d.sessionTo none (d.rankOfMid s.ctx dev) with
          | none => d.snapEnd i s 0 stPathLost
          | some key =>
            if s.confirmed then d.snapEnd i s (if s.refused = 0 then size else 0) (if s.refused = 0 then ok else s.refused)
            else if s.txn.isSome then d
            else
              let m := d.payloadMax
              let x := Dev.snapWrites key dev s.bank a size m (ceilDiv size m - s.sent) s.sent d
              let psn := match x.1.session key with | some y => ((y.txc clReq).next + 2 ^ 32 - 1) % 2 ^ 32 | none => 0
              let s' := { s with sent := x.2, sess := key, txn := if size ≤ x.2 * m then some psn else none }
              { x.1 with cmp := { x.1.cmp with snaps := setNth x.1.cmp.snaps i s' } }

/-- The start of a periodic snapshot at a tick of the cadence timer (R326). -/
def Dev.snapTick (d : Dev) : Dev :=
  if d.obj 0xA000 8 = 0 then d
  else if d.cmp.snaps.any fun s => s.tag.isNone && s.svc.isNone then d.bump 0xA000 0x0D 1
  else
    let ctx := d.obj 0xA000 9
    let n := d.obj 0xA000 0x0A
    match d.sset ctx n with
    | none => d
    | some x =>
      if d.snapBusy ctx n then d.bump 0xA000 0x0D 1
      else { d with cmp := { d.cmp with snaps := d.cmp.snaps ++
        [{ ctx := ctx, set_ := n, bank := x.snapBank, dst := d.obj 0xA000 0x0B, abandon := d.obj 0xA000 0x0C == 1, bar := 0xFFFF, tag := none }] } }

/-! ### Mirroring (R330) -/

/-- The bytes of a granule still within its bank. -/
def granule (x : StateSet) (g : Nat) : Nat × Nat × Nat :=
  let bank := g / 2 ^ 32
  let off := (g % 2 ^ 32) * 65536
  (bank, off, min 65536 (x.size - off))

/-- One dirty granule sent to the standby in packets of at most PAYLOAD_MAX (R330). -/
def Dev.sendGranule (d : Dev) (key ctx s sb : Nat) (x : StateSet) (g : Nat) : Dev :=
  let (bank, off, n) := granule x g
  let base := if bank = 0 then x.bank0 else x.bank1
  let m := d.payloadMax
  (List.range (ceilDiv n m)).foldl (fun d k =>
    let len := min m (n - k * m)
    (d.sendData key { cls := clReq, op := 0x41, channel := sb * 16 + s, addr := bank * 2 ^ 51 + off + k * m, data := d.read (base + off + k * m) len,
                      poison := d.poisonIn (base + off + k * m) len, use := 1, origin := some (4096 + ctx, s) }).bump 0xA000 5 len) d

/-- Dirty granules sent by transport I/O tugs while the receive window has room (R255); those not sent. -/
def Dev.sendGranules (key ctx s sb : Nat) (x : StateSet) (ts : List Nat) : List Nat → Dev → Dev × List Nat
  | [], d => (d, [])
  | g :: gs, d =>
    let at_ := (if (granule x g).1 = 0 then x.bank0 else x.bank1) + (granule x g).2.1
    if d.ownedIn at_ (granule x g).2.2 then (d.recallOwned at_ (granule x g).2.2, g :: gs)
    else if ts ≠ [] ∧ d.canSend key clReq then Dev.sendGranules key ctx s sb x ts gs ((d.sendGranule key ctx s sb x g).ioTug ts (granule x g).2.2)
    else (d, g :: gs)

/-- The dirty granules of a mirrored set leave; once all are acknowledged the set is in sync (R330). -/
def Dev.mirrorSet (d : Dev) (ctx s : Nat) (x : StateSet) : Dev :=
  match (d.ctx ctx).standbyAt, d.sessionTo none (d.obj 0xA000 1) with
  | some sb, some key =>
    if x.mirror = false ∨ d.mirrorState x = 3 then d
    else if x.dirty = [] then (if d.mirrorKept ctx s = 0 then d.setSset ctx s { x with copied := x.sending != 0 || x.copied } else d)
    else
      let ts := (List.range 8).filter fun t => d.obj (0x8210 + t) 1 == 3
      let r := Dev.sendGranules key ctx s sb x ts x.dirty d
      r.1.setSset ctx s { x with dirty := r.2, sending := 1 }
  | _, _ => d

/-- MIRROR_SYNC: the mirrored sets of a context move toward sync. -/
def Dev.mirrorStep (d : Dev) (ctx : Nat) : Dev := (d.maskSets ctx 0xFFFF).foldl (fun d p => d.mirrorSet ctx p.1 p.2) d

/-- Every granule of a set marked, as mirroring starts (R330) or a teacher is frozen (R323). -/
def StateSet.wholeDirty (x : StateSet) : StateSet :=
  let n := ceilDiv x.size 65536
  { x with dirty := (List.range n) ++ (if x.teacher then [] else (List.range n).map fun g => 2 ^ 32 + g), copied := false, sending := 0 }

end Sys2Proof.Machine
end

