-- ==== Sys2Proof/Machine/Collectives.lean ====
section
/-! DEFINITION. Collectives (R282 to R300, R510): the COLLECT orders, the fragments they exchange, the fold in rank order, and
completion. -/

namespace Sys2Proof.Machine

/-! ### The order (R154, R285 to R287) -/

def clFields : List (Nat × Nat) := common ++ [(47, 32), (55, 48), (63, 56), (111, 64), (159, 112), (191, 160), (195, 192)]
def clGroup (w : Nat) : Nat := field w 47 32
def clKind (w : Nat) : Nat := field w 55 52
def clOp (w : Nat) : Nat := field w 51 48
def clCvt (w : Nat) : Cvt := .ofByte (field w 63 56)
def clSrc (w : Nat) : Nat := field w 111 64
def clDst (w : Nat) : Nat := field w 159 112
def clCount (w : Nat) : Nat := field w 191 160
def clFmt (w : Nat) : Nat := field w 195 192

/-- Whether a collective reduces. -/
def clReduces (w : Nat) : Bool := clKind w == 0 || clKind w == 1 || clKind w == 4

/-- The elements and bytes of the smallest piece of a format that stands on whole bytes (R34, R41). A block of an E4M3 pair is one block of each of its
two tensors (R43); how they lie in one range is left to the program, which alone reads them (log 97). -/
def unitOf (fmt : Nat) : Nat × Nat :=
  if fmt = cINT4 then (2, 1) else if fmt = cPair43 then (32, 66) else if elemBytes fmt = 0 then (32, 33) else (1, elemBytes fmt)

/-- The formats and operations of R286. -/
def clFmtsOk (w : Nat) : Bool :=
  let e := clFmt w
  let f := (clCvt w).fmt
  if !(clReduces w) then clOp w == 0 && field w 63 56 == 0 && decide (e ≤ cW64)
  else if (clCvt w).reserved || decide (1 < (clCvt w).rnd) then false
  else if clOp w = 0 then
    if e = cFP32 ∨ e = cBF16 then [cFP32, cBF16, cE4M3, cE5M2].contains f
    else if e = cPair32 then [cPair32, cFP32, cBF16].contains f
    else if e = cW64 then [cW64, cFP32, cBF16, cPair32].contains f
    else e == cINT32 && (f == cINT32 || f == cFP32)
  else decide (clOp w ≤ 2) && (e == cFP32 || e == cBF16 || e == cINT32) && f == e

/-- This member's group rank. -/
def Dev.groupRank (d : Dev) (ctx : Nat) (g : Group) : Nat := g.members.findIdx fun m => m == (d.ctx ctx).gangRank

/-- The block of a kind that cuts its data into n, in elements. -/
def clBlock (w n : Nat) : Nat := clCount w / n

/-- Whether the counts of a collective of `n` members divide as R287 asks. -/
def clCountOk (w n : Nat) : Bool :=
  let u := (unitOf (clFmt w)).1
  ((clKind w != 4 && clKind w != 5) || clCount w % n == 0) && clCount w % u == 0 && (clKind w != 5 || clBlock w n % u == 0)

/-- The bytes of a run of elements of a format other than W64. -/
def clBytes (fmt n : Nat) : Nat := n / (unitOf fmt).1 * (unitOf fmt).2

/-- The elements a member reads and writes, as counts; W64 counts tiles. -/
def clReads (w r root : Nat) : Nat := if clKind w = 2 ∧ r ≠ root then 0 else clCount w
def clWrites (w n r root : Nat) : Nat :=
  if clKind w = 1 then (if r = root then clCount w else 0)
  else if clKind w = 3 then n * clCount w
  else if clKind w = 4 then clBlock w n
  else clCount w

/-- Whether `a` bytes at SRC and `b` bytes at DST overlap otherwise than R287 allows. -/
def clMeets (w a b : Nat) : Bool :=
  a != 0 && b != 0 && decide (clSrc w < clDst w + b) && decide (clDst w < clSrc w + a) && !((clKind w == 0 || clKind w == 2) && clSrc w == clDst w)

/-- Whether SRC and DST overlap so, for the formats whose sizes the order gives. The sizes of W64 tiles stand in their headers: those ranges are looked
at when they are known, at the reading of SRC or when the tiles of DST have come. -/
def clOverlap (w n r root : Nat) : Bool :=
  let f := if clReduces w then (clCvt w).fmt else clFmt w
  clFmt w != cW64 && clMeets w (clBytes (clFmt w) (clReads w r root)) (clBytes f (clWrites w n r root))

/-- The bytes at SRC and DST that the order alone names (R186): those of its elements, or the first byte of a W64 range, whose size stands in its headers. -/
def clSrcSpan (w r root : Nat) : Nat := if clFmt w = cW64 then min 1 (clReads w r root) else clBytes (clFmt w) (clReads w r root)
def clDstSpan (w n r root : Nat) : Nat :=
  if clFmt w = cW64 then min 1 (clWrites w n r root) else clBytes (if clReduces w then (clCvt w).fmt else clFmt w) (clWrites w n r root)

/-- The group of a well-formed COLLECT: its local addresses lie in mapped parts of the windows (R186). -/
def Dev.clOk (d : Dev) (t : OrderTag) (w : Nat) : Option Group :=
  match (if clGroup w < 256 then d.group t.ctx (clGroup w) else none) with
  | none => none
  | some g =>
    let n := g.members.length
    let r := d.groupRank t.ctx g
    if onlyFields w clFields && (sync w == 0xFFFF || d.ownsBarrier t.ctx (sync w)) && g.driver == t.core && decide (r < n) && decide (clKind w ≤ 5) &&
        clFmtsOk w && clCountOk w n && d.mapped (clSrc w) (clSrcSpan w r g.root) && d.mapped (clDst w) (clDstSpan w n r g.root) &&
        (clKind w != 1 || r == g.root || clDst w == 0) && !(clOverlap w n r g.root) then some g else none

/-! ### Fragments (R295) -/

/-- What the members of a collective must agree on (R298): CKIND, EFMT, CVT and COUNT, never 0. -/
def clShape (w : Nat) : Nat := 1 + field w 55 48 + 2 ^ 8 * clFmt w + 2 ^ 12 * field w 63 56 + 2 ^ 20 * clCount w

/-- The ADDR of a COLLECT packet. -/
def collAddr (phase seq off : Nat) : Nat := phase * 2 ^ 50 + seq * 2 ^ 34 + off

/-- A run of bytes cut into fragments of whole units that fit a packet; `bad` says which bytes are poisoned. -/
def cutFrags (phase rank off ue ub most : Nat) (bs : List Byte) (bad : Nat → Nat → Bool) : List Frag :=
  let per := max 1 (most / ub)
  (List.range (ceilDiv bs.length (per * ub))).map fun i =>
    let n := min (per * ub) (bs.length - i * per * ub)
    { phase := phase, rank := rank, offset := off + i * per * ue, bytes := (bs.drop (i * per * ub)).take n, poison := bad (i * per * ub) n }

/-- A W64 tile cut into its header and runs of entries. -/
def tileFrags (phase rank tile most : Nat) (bs : List Byte) (bad : Nat → Nat → Bool) : List Frag :=
  { phase := phase, rank := rank, offset := tile * 65536 + 0xFFFF, bytes := bs.take 32, poison := bad 0 32 } ::
    cutFrags phase rank (tile * 65536) 1 8 most (bs.drop 32) fun o n => bad (32 + o) n

/-- The bytes a rank sent for elements [lo, hi) of a phase, once all have come. -/
def streamOf (fs : List Frag) (phase rank lo hi ue ub : Nat) : Option (List Byte) :=
  let mine := fs.filter fun f => f.phase == phase && f.rank == rank && decide (lo ≤ f.offset) && decide (f.offset < hi)
  let n := (hi - lo) / ue * ub
  if (mine.map fun f => f.bytes.length).sum = n then
    some (memRead (mine.foldl (fun c f => memWrite c ((f.offset - lo) / ue * ub) f.bytes) []) 0 n)
  else none

/-- One W64 tile a rank sent: its bytes, once its header and all its entries have come. One with a defective header has no entries. -/
def tileOf (fs : List Frag) (phase rank tile : Nat) : Option (List Byte) :=
  match fs.find? fun f => f.phase == phase && f.rank == rank && f.offset == tile * 65536 + 0xFFFF with
  | none => none
  | some h =>
    let hd := Header.ofWord (leNat h.bytes)
    let n := if headerOk (leNat h.bytes) then hd.rows * hd.columns else 0
    (streamOf fs phase rank (tile * 65536) (tile * 65536 + n) 1 8).map fun es => h.bytes ++ es

/-- The tiles [lo, lo + n) a rank sent. -/
def tilesOf (fs : List Frag) (phase rank : Nat) : Nat → Nat → Option (List (List Byte))
  | _, 0 => some []
  | lo, n + 1 =>
    match tileOf fs phase rank lo, tilesOf fs phase rank (lo + 1) n with
    | some t, some ts => some (t :: ts)
    | _, _ => none

/-- The values of a list of options, if all are there. -/
def allSome {α : Type} : List (Option α) → Option (List α)
  | [] => some []
  | some a :: l => (allSome l).map fun as => a :: as
  | none :: _ => none

/-! ### Folds (R288 to R290) -/

/-- The accumulator word of an element, and its bytes on the way between members. -/
def widen (w b : Nat) : Nat :=
  if clOp w ≠ 0 then b
  else if clFmt w = cBF16 then b * 65536
  else if clFmt w = cINT32 then low 64 (signed 32 b)
  else b
def accWidth (w : Nat) : Nat :=
  if clOp w ≠ 0 then elemBytes (clFmt w) else if clFmt w = cPair32 ∨ clFmt w = cINT32 then 8 else 4

/-- MAX and MIN of two elements of a format (R120). -/
def extreme (fmt : Nat) (most : Bool) (a b : Nat) : Nat :=
  let x := decodeElem fmt a
  let y := decodeElem fmt b
  let z := if most then Val.maxv x y else Val.minv x y
  (convElem ⟨fmt, 0, false, false⟩ { v := z, r := 0 }).bits

/-- One step of the fold: the accumulator, FINITE_SAT and GRID_MISMATCHES. -/
def foldStep (w a b : Nat) : Nat × Nat × Nat :=
  let range := (clCvt w).range
  if clOp w = 1 then (extreme (clFmt w) true a b, 0, 0)
  else if clOp w = 2 then (extreme (clFmt w) false a b, 0, 0)
  else if clFmt w = cINT32 then ((a + b) % 2 ^ 64, 0, 0)
  else if clFmt w = cPair32 then psumAdd range a b
  else
    let c := convFloat fFP32 .nearest range 0 ((decodeFloat fFP32 a).add (decodeFloat fFP32 b))
    (c.bits, c.cnt.finiteSat, 0)

/-- Two rows of accumulators added place by place. -/
def zipAdd {α : Type} (add : α → α → α × Nat × Nat) : List α → List α → List α × Nat × Nat
  | a :: as, b :: bs =>
    let c := add a b
    let r := zipAdd add as bs
    (c.1 :: r.1, c.2.1 + r.2.1, c.2.2 + r.2.2)
  | as, _ => (as, 0, 0)

/-- The fold of rows in the order given (R288). -/
def foldRows {α : Type} (add : α → α → α × Nat × Nat) : List (List α) → List α × Nat × Nat
  | [] => ([], 0, 0)
  | x :: xs => xs.foldl (fun a y => let r := zipAdd add a.1 y; (r.1, a.2.1 + r.2.1, a.2.2 + r.2.2)) (x, 0, 0)

/-- A tile's bytes as a W64 tile. -/
def w64Of (bs : List Byte) : W64 := ⟨Header.ofWord (leNat (bs.take 32)), entsOf (bs.drop 32)⟩
def W64.bytes (t : W64) : List Byte := t.h.bytes ++ entBytes t.es

/-- Whether rows of tiles agree place by place in ROWS, WIDTH and KIND (R286). -/
def tilesAgree (rows : List (List W64)) : Bool :=
  match rows with
  | [] => true
  | x :: xs => xs.all fun y => (x.zip y).all fun p => p.1.h.agrees p.2.h

/-! ### Segments and basins (R289, R296) -/

def segLo (count n s : Nat) : Nat := s * count / n

/-- The basin of a group rank (R289). -/
def Dev.rankBasin (d : Dev) (ctx : Nat) (g : Group) (r : Nat) : Nat := d.gangDevice ctx (nth 0 g.members r) / 8

/-- The ranks of each basin, basins by their lowest rank. -/
def Dev.basins (d : Dev) (ctx : Nat) (g : Group) : List (List Nat) :=
  let rs := List.range g.members.length
  ((rs.map fun r => d.rankBasin ctx g r).eraseDups).map fun b => rs.filter fun r => d.rankBasin ctx g r == b

/-- The ranks whose data the folding member of a segment folds: all of them, or the lowest of each basin. -/
def Dev.foldRanks (d : Dev) (ctx : Nat) (g : Group) : List Nat :=
  if g.basinFirst then (d.basins ctx g).map fun b => nth 0 b 0 else List.range g.members.length

/-- The rank that folds a contribution of rank `r` to segment `s` first. -/
def Dev.foldAt (d : Dev) (ctx : Nat) (g : Group) (r s : Nat) : Nat :=
  if g.basinFirst then
    match (d.basins ctx g).find? fun b => r ∈ b with
    | some b => nth 0 b 0
    | none => s
  else s

/-! ### A collective's progress -/

/-- A collective and the device it runs on, with the status it has to end with, if any; `own` where the order alone is malformed (R138, R287), which the
other members are not told. -/
structure CollRun where
  d : Dev
  f : Coll
  bad : Option Nat := none
  own : Bool := false

/-- Fragments given to a rank: kept here for this member, else sent in the collective class. -/
def CollRun.give (x : CollRun) (ctx : Nat) (g : Group) (rank : Nat) (fs : List Frag) : CollRun :=
  if rank = x.d.groupRank ctx g then { x with f := { x.f with frags := x.f.frags ++ fs } }
  else
    let dev := x.d.gangDevice ctx (nth 0 g.members rank)
    { x with d := fs.foldl (fun d p =>
        let d := d.sendTo (some ctx) dev { cls := clColl, op := 0x30, channel := clGroup x.f.word, addr := collAddr p.phase x.f.seq p.offset, data := p.bytes, poison := p.poison,
                                                 shape := clShape x.f.word }
        if p.phase = 0 ∨ clReduces x.f.word = false then d.bump (0x7100 + ctx) 7 p.bytes.length else d) x.d }

/-- The sizes of the W64 tiles at a local address, or the status of a refused header (R510). A tile with a defective header is its header
alone, and nothing is read of the tiles behind it: the member that folds or receives it ends the collective (R286, R298). -/
def Dev.tileSizes (d : Dev) (ctx : Nat) : Nat → Nat → Nat ⊕ List Nat
  | 0, _ => .inr []
  | k + 1, a =>
    match d.access (.ctx ctx) false a 32 with
    | some st => .inl st
    | none =>
      let h := leNat (d.read a 32)
      if headerOk h then
        let n := 32 + 8 * ((Header.ofWord h).rows * (Header.ofWord h).columns)
        match d.tileSizes ctx k (a + n) with
        | .inl st => .inl st
        | .inr ns => .inr (n :: ns)
      else .inr (32 :: List.replicate k 0)

/-- The fragments of this member's own data in elements (or tiles) [lo, hi). -/
def Dev.ownFrags (d : Dev) (w r phase : Nat) (sizes : List Nat) (lo hi : Nat) : List Frag :=
  if clFmt w = cW64 then
    ((List.range (hi - lo)).map fun i =>
      let t := lo + i
      let a := clSrc w + (sizes.take t).sum
      let n := nth 0 sizes t
      tileFrags phase r t d.payloadMax (d.read a n) fun o k => d.poisonIn (a + o) k).flatten
  else
    let u := unitOf (clFmt w)
    let a := clSrc w + clBytes (clFmt w) lo
    cutFrags phase r lo u.1 u.2 d.payloadMax (d.read a (clBytes (clFmt w) (hi - lo))) fun o k => d.poisonIn (a + o) k

/-- The bytes at DST that a member will write, as far as the order and the sizes of its own tiles tell (R286, R287); 0 for moved tiles. -/
def clDstBytes (w n r root : Nat) (sizes : List Nat) : Nat :=
  let f := if clReduces w then (clCvt w).fmt else clFmt w
  if clFmt w ≠ cW64 then clBytes f (clWrites w n r root)
  else if !(clReduces w) then 0
  else
    let mine := if clKind w = 4 then (sizes.drop (segLo (clCount w) n r)).take (segLo (clCount w) n (r + 1) - segLo (clCount w) n r)
                else if clKind w = 1 ∧ r ≠ root then [] else sizes
    if f = cW64 then mine.sum else (mine.map fun k => (k - 32) / 8 * elemBytes f).sum

/-- Whether a fragment can leave for a device of the group: it is this one, or the session there has room (R255). -/
def Dev.fragRoom (d : Dev) (ctx rank : Nat) : Bool :=
  rank == d.rank || match d.sessionTo (d.viaCtx (some ctx)) rank with | some k => d.canSend k clColl | none => true

/-- The reading of SRC (R287, R293): every part goes to the member that needs it, once SRC and DST are checked (R510). -/
def CollRun.start (x : CollRun) (ctx : Nat) (g : Group) : CollRun :=
  let w := x.f.word
  let n := g.members.length
  let r := x.d.groupRank ctx g
  let reads := clReads w r g.root
  let sizes := if clFmt w = cW64 then x.d.tileSizes ctx reads (clSrc w) else .inr []
  match sizes with
  | .inl st => { x with bad := some st }
  | .inr ns =>
    let src := if clFmt w = cW64 then ns.sum else clBytes (clFmt w) reads
    match (match x.d.access (.ctx ctx) false (clSrc w) src with
      | some st => some st
      | none => x.d.access (.ctx ctx) true (clDst w) (clDstBytes w n r g.root ns)) with
    | some st => { x with bad := some st }
    | none =>
      if clFmt w = cW64 ∧ clMeets w src (clDstBytes w n r g.root ns) then { x with bad := some stMalformed, own := true }
      else if x.d.ownedIn (clSrc w) src then { x with d := x.d.recallOwned (clSrc w) src }
      else if (List.range n).any fun k => !(x.d.fragRoom ctx (x.d.gangDevice ctx (nth 0 g.members k))) then { x with d := x.d.bumpFree 0x3100 0x0D }
      else
        let x := { x with f := { x.f with started := true } }
        let c := clCount w
        let d := x.d
        if clReduces w then
          (List.range n).foldl (fun x s => x.give ctx g (d.foldAt ctx g r s) (d.ownFrags w r 0 ns (segLo c n s) (segLo c n (s + 1)))) x
        else if clKind w = 2 then
          if r = g.root then (List.range n).foldl (fun x s => x.give ctx g s (d.ownFrags w r 1 ns 0 c)) x else x
        else if clKind w = 3 then (List.range n).foldl (fun x s => x.give ctx g s (d.ownFrags w r 1 ns 0 c)) x
        else (List.range n).foldl (fun x s => x.give ctx g s (d.ownFrags w r 1 ns (s * (c / n)) ((s + 1) * (c / n)))) x

/-- What ranks sent for a segment, folded in their order (R288): the fragments of the result under a phase, or none while data is missing. Where a folded element
was poisoned the whole result is marked so (R421). -/
def CollRun.fold (x : CollRun) (ctx : Nat) (g : Group) (ranks : List Nat) (s phase : Nat) (raw : Bool) : Option (CollRun × List Frag) :=
  let w := x.f.word
  let n := g.members.length
  let r := x.d.groupRank ctx g
  let lo := segLo (clCount w) n s
  let hi := segLo (clCount w) n (s + 1)
  let most := x.d.payloadMax
  let bad := x.f.frags.any fun f => f.phase == 0 && f.poison && ranks.contains f.rank
  let x := if bad then { x with bad := some stPoison } else x
  let counted := fun (sat mis : Nat) => { x with d := (x.d.count ctx { finiteSat := sat }).bump (0x7400 + ctx) 4 mis }
  if clFmt w = cW64 then
    match allSome (ranks.map fun k => tilesOf x.f.frags 0 k lo (hi - lo)) with
    | none => none
    | some rows =>
      let ts := rows.map fun row => row.map w64Of
      if rows.all (fun row => row.all fun b => headerOk (leNat (b.take 32))) && tilesAgree ts then
        let res := foldRows wsumAdd ts
        some (counted res.2.1 res.2.2, ((List.range (hi - lo)).map fun i => tileFrags phase r (lo + i) most (nth ⟨{}, []⟩ res.1 i).bytes fun _ _ => bad).flatten)
      else some ({ x with bad := some stMalformed }, [])
  else
    let e := elemBytes (clFmt w)
    let aw := accWidth w
    match allSome (ranks.map fun k => (streamOf x.f.frags 0 k lo hi 1 (if raw then e else aw)).map fun bs =>
        (chunks (if raw then e else aw) bs).map fun b => if raw then widen w (leNat b) else leNat b) with
    | none => none
    | some rows =>
      let res := foldRows (foldStep w) rows
      some (counted res.2.1 res.2.2, cutFrags phase r lo 1 aw most ((res.1.map fun a => natLe aw a).flatten) fun _ _ => bad)

/-- The partial of this member's basin for one segment, once its contributions have come (R289, R296). A partial this member folds
further itself is kept under the rank n + r, apart from its own contribution. -/
def CollRun.partialOf (x : CollRun) (ctx : Nat) (g : Group) (mates : List Nat) (s : Nat) : CollRun :=
  let r := x.d.groupRank ctx g
  if x.f.partials.contains s || x.bad.isSome then x
  else match x.fold ctx g mates s 0 true with
    | none => x
    | some (x, fs) =>
      let x := { x with f := { x.f with partials := x.f.partials ++ [s] } }
      x.give ctx g s (if s = r then fs.map fun f => { f with rank := g.members.length + r } else fs)

/-- The members that write the result of a segment. -/
def clWriters (w n root s : Nat) : List Nat := if clKind w = 0 then List.range n else if clKind w = 1 then [root] else [s]

/-- Whether every other member has accepted this member's part of collective `seq` of a group. -/
def Dev.collAccepted (d : Dev) (ctx grp seq : Nat) (reduces : Bool) : Bool :=
  !(d.net.sessions.any fun p => p.2.ctx == some ctx && (p.2.txc clColl).kept.any fun k =>
    k.pkt.op == 0x30 && k.pkt.channel == grp && field k.pkt.addr 49 34 == seq && (!reduces || field k.pkt.addr 51 50 == 0))

/-- Whether moved W64 data bears a defective header (R298): one received, or this member's own once the others have accepted it. -/
def CollRun.movedDefect (x : CollRun) (ctx : Nat) : Bool :=
  clFmt x.f.word == cW64 && x.f.frags.any fun p =>
    p.phase == 1 && p.offset % 65536 == 0xFFFF && !(headerOk (leNat p.bytes)) &&
      (p.shape != 0 || x.d.collAccepted ctx (clGroup x.f.word) x.f.seq false)

/-- The folds this member owes: its basin's partials, then its own segment. Moved data is checked instead. -/
def CollRun.folds (x : CollRun) (ctx : Nat) (g : Group) : CollRun :=
  let w := x.f.word
  let n := g.members.length
  let r := x.d.groupRank ctx g
  if !x.f.started then x
  else if !(clReduces w) then (if x.movedDefect ctx then { x with bad := some stMalformed } else x)
  else
    let mates := match (x.d.basins ctx g).find? fun b => r ∈ b with | some b => b | none => []
    let low := nth 0 mates 0 == r
    let x := if g.basinFirst && low then (List.range n).foldl (fun x s => x.partialOf ctx g mates s) x else x
    let ranks := if g.basinFirst then (x.d.foldRanks ctx g).map fun k => if k = r then n + r else k else x.d.foldRanks ctx g
    if x.bad.isSome || x.f.folded then x
    else match x.fold ctx g ranks r 1 (!g.basinFirst) with
      | none => x
      | some (x, fs) =>
        let x := { x with f := { x.f with folded := true } }
        (clWriters w n g.root r).foldl (fun x k => x.give ctx g k fs) x

/-- Whether this member owes no further fold. -/
def CollRun.duties (x : CollRun) (ctx : Nat) (g : Group) : Bool :=
  !(clReduces x.f.word) ||
    (x.f.folded && (!g.basinFirst || x.f.partials.length == g.members.length ||
      (match (x.d.basins ctx g).find? fun b => x.d.groupRank ctx g ∈ b with | some b => nth 0 b 0 | none => 0) != x.d.groupRank ctx g))

/-! ### Completion (R293, R294) -/

/-- The bytes of an assembled stream and which of them are poisoned. -/
def streamBad (fs : List Frag) (phase rank lo ue ub : Nat) (o n : Nat) : Bool :=
  fs.any fun f => f.phase == phase && f.rank == rank && f.poison && decide (lo ≤ f.offset) &&
    decide ((f.offset - lo) / ue * ub < o + n) && decide (o < (f.offset - lo) / ue * ub + f.bytes.length)

/-- What a member writes: address, bytes, and which of them are poisoned; none while something is missing. -/
abbrev CollWrite := Nat × List Byte × (Nat → Nat → Bool)

/-- The moved data of ranks laid out one after another at DST (R287), for formats that are not W64. -/
def movedPlain (fs : List Frag) (w : Nat) : Nat → List (Nat × Nat × Nat) → Option (List CollWrite)
  | _, [] => some []
  | a, (rank, lo, hi) :: rest =>
    let u := unitOf (clFmt w)
    match streamOf fs 1 rank lo hi u.1 u.2, movedPlain fs w (a + clBytes (clFmt w) (hi - lo)) rest with
    | some bs, some l => some ((a, bs, streamBad fs 1 rank lo u.1 u.2) :: l)
    | _, _ => none

/-- The same for W64: whole tiles back to back. -/
def movedTiles (fs : List Frag) : Nat → List (Nat × Nat × Nat) → Option (List CollWrite)
  | _, [] => some []
  | a, (rank, lo, hi) :: rest =>
    match tilesOf fs 1 rank lo (hi - lo) with
    | none => none
    | some ts =>
      let bad := fs.any fun f => f.phase == 1 && f.rank == rank && f.poison && decide (lo ≤ f.offset / 65536) && decide (f.offset / 65536 < hi)
      (movedTiles fs (a + ts.flatten.length) rest).map fun l => (a, ts.flatten, fun _ _ => bad) :: l

/-- The results a member writes, converted once (R291), and what they count. -/
def CollRun.results (x : CollRun) (g : Group) (segs : List Nat) : Option (List Byte × Counts) :=
  let w := x.f.word
  let n := g.members.length
  let cv := clCvt w
  let span := fun s => (segLo (clCount w) n s, segLo (clCount w) n (s + 1))
  if clFmt w = cW64 then
    (allSome (segs.map fun s => tilesOf x.f.frags 1 s (span s).1 ((span s).2 - (span s).1))).map fun tss =>
      let ts := tss.flatten.map w64Of
      if cv.fmt = cW64 then ((ts.map W64.bytes).flatten, (ts.map fun t => nonfiniteCounts t.es).foldl Counts.add Counts.zero)
      else convRun cv none ((ts.map fun t => t.es.map fun e => ({ v := e.val t.h.g, r := 0 } : Elem)).flatten)
  else
    let aw := accWidth w
    (allSome (segs.map fun s => streamOf x.f.frags 1 s (span s).1 (span s).2 1 aw)).map fun bss =>
      let words := (chunks aw bss.flatten).map leNat
      if clFmt w = cPair32 ∧ cv.fmt = cPair32 then
        let cs := words.map (pairWritten cv.range)
        ((cs.map fun c => natLe 8 c.bits).flatten, cs.foldl (fun (a : Counts) c => a.add c.cnt) Counts.zero)
      else
        let val := fun b =>
          if clOp w ≠ 0 then decodeElem (clFmt w) b
          else if clFmt w = cINT32 then Val.ofInt (signed 64 b)
          else if clFmt w = cPair32 then (if cv.fmt = cFP32 then decodeFloat fFP32 (b % 2 ^ 32) else decodeElem cPair32 b)
          else decodeFloat fFP32 b
        convRun cv none (words.map fun b => ({ v := val b, r := 0 } : Elem))

/-- Everything a member writes and counts at completion; none while something is missing. A result of which a fragment came marked poisoned is written marked
as a whole (R421). -/
def CollRun.output (x : CollRun) (ctx : Nat) (g : Group) : Option (List CollWrite × Counts) :=
  let w := x.f.word
  let n := g.members.length
  let r := x.d.groupRank ctx g
  let c := clCount w
  let move := fun (l : List (Nat × Nat × Nat)) =>
    (if clFmt w = cW64 then movedTiles x.f.frags (clDst w) l else movedPlain x.f.frags w (clDst w) l).map fun ws => (ws, Counts.zero)
  let bad := x.f.frags.any fun f => f.phase == 1 && f.poison
  let write := fun (segs : List Nat) => (x.results g segs).map fun o => ([(clDst w, o.1, fun _ _ => bad)], o.2)
  if clKind w = 0 then write (List.range n)
  else if clKind w = 1 then (if r = g.root then write (List.range n) else some ([], {}))
  else if clKind w = 2 then move [(g.root, 0, c)]
  else if clKind w = 3 then move ((List.range n).map fun j => (j, 0, c))
  else if clKind w = 4 then write [r]
  else move ((List.range n).map fun j => (j, r * (c / n), (r + 1) * (c / n)))

/-- The flight numbered `seq` of a group replaced or removed. -/
def Dev.putFlight (d : Dev) (ctx grp : Nat) (f : Coll) : Dev :=
  match d.group ctx grp with
  | none => d
  | some g => d.setGroup ctx grp { g with flights := g.flights.map fun x => if x.seq = f.seq then f else x }
def Dev.dropFlight (d : Dev) (ctx grp seq : Nat) : Dev :=
  match d.group ctx grp with
  | none => d
  | some g => d.setGroup ctx grp { g with flights := g.flights.filter fun x => x.seq != seq }

/-- The other members told that a collective ended with MALFORMED (R298): its group and number. -/
def Dev.tellMalformed (d : Dev) (ctx grp seq : Nat) : Dev :=
  (d.otherMembers ctx).foldl (fun d g => d.send (.gangNotice (d.gangDevice ctx g) ctx 4 (natLe 2 grp ++ natLe 2 seq))) d

/-- A collective that ended with MALFORMED on another member ends so here (R298); the abort of the context follows. -/
def Dev.collDisagrees (d : Dev) (ctx grp seq : Nat) : Dev :=
  match (d.group ctx grp).bind fun g => g.flights.find? fun f => f.seq == seq with
  | none => d
  | some f => ((d.dropFlight ctx grp seq).bump (0x7100 + ctx) 8 1).complete f.tag stMalformed 0 0 true

/-- Whether the tiles that move to DST overlap SRC (R287). -/
def Dev.tilesMeet (d : Dev) (ctx : Nat) (g : Group) (w : Nat) (ws : List CollWrite) : Bool :=
  clFmt w == cW64 && !(clReduces w) &&
    match d.tileSizes ctx (clReads w (d.groupRank ctx g) g.root) (clSrc w) with
    | .inl _ => false
    | .inr ns => clMeets w ns.sum (ws.map fun p => p.2.1.length).sum

/-- A collective that cannot go on ends here (R298, R510, R421): its status, then the abort of its context. The other members hear of a disagreement
(R298); of an order that alone is malformed (R287) they hear by the abort. -/
def Dev.collFails (d : Dev) (ctx grp : Nat) (f : Coll) (status : Nat) (own : Bool) : Dev :=
  let d := if status = stMalformed ∧ own = false then d.tellMalformed ctx grp f.seq else d
  let d := ((d.dropFlight ctx grp f.seq).bump (0x7100 + ctx) 8 1).refused status
  let d := d.complete f.tag status 0 0 true
  if status = stPoison then d.poisonFault ctx f.tag.core else d.abortCtx ctx (some f.tag.core)

/-- A collective completes: DST is written, its arrival made, its report left. -/
def Dev.collEnds (d : Dev) (ctx grp : Nat) (f : Coll) (ws : List CollWrite) (n : Counts) : Dev :=
  let d := ws.foldl (fun d p => d.writeMarked p.1 p.2.1 p.2.2) (d.dropFlight ctx grp f.seq)
  let d := (d.count ctx n).bump (0x7100 + ctx) 6 1
  let d := if sync f.word = 0xFFFF then d else d.sendArrival f.tag (sync f.word) 1 3 none
  d.complete f.tag stOK 0 0 false

/-- One collective moves on: it ends where its members disagree (R298), it starts, once its core's earlier work is done (R155, R293), it folds what has come, and, where `finish` allows it, it completes. -/
def Dev.collStep (d : Dev) (ctx grp : Nat) (f : Coll) (finish : Bool) : Dev :=
  match d.group ctx grp with
  | none => d
  | some g =>
    let x : CollRun := { d := d, f := f, bad := if f.frags.any fun p => p.shape != 0 && p.shape != clShape f.word then some stMalformed else none }
    let x := if f.started || x.bad.isSome then x else if d.fenced f.tag then x.start ctx g else { x with d := d.askWritten f.tag }
    let x := if x.bad.isSome then x else x.folds ctx g
    match x.bad with
    | some st => x.d.collFails ctx grp f st x.own
    | none =>
      let d := x.d.putFlight ctx grp x.f
      if finish && x.f.started && x.duties ctx g && x.d.collAccepted ctx grp f.seq (clReduces f.word) then
        match x.output ctx g with
        | none => d
        | some (ws, n) =>
          match (if d.tilesMeet ctx g f.word ws then some stMalformed else ws.findSome? fun p => d.access (.ctx ctx) true p.1 p.2.1.length) with
          | some st => d.collFails ctx grp x.f st (st == stMalformed)
          | none =>
            if ws.any fun p => d.pinned p.1 p.2.1.length then d.bumpFree (0x7400 + ctx) 5
            else if ws.any fun p => d.ownedIn p.1 p.2.1.length then ws.foldl (fun d p => d.recallOwned p.1 p.2.1.length) d
            else d.collEnds ctx grp x.f ws n
      else d

/-- Every collective of a group moves on, in the order of their numbers. -/
def Dev.collGroup (d : Dev) (ctx grp : Nat) (finish : Bool) : Dev :=
  match d.group ctx grp with
  | none => d
  | some g => g.flights.foldl (fun d f =>
      match (d.group ctx grp).bind fun g => g.flights.find? fun y => y.seq == f.seq with
      | some y => d.collStep ctx grp y finish
      | none => d) d

/-! ### COLLECT (R284, R293) -/

/-- COLLECT's turn: at most 4 of a group are in flight; its number meets the same number on the other members. -/
def runCollect (w : Waiting) (d : Dev) : Turn :=
  let ctx := w.tag.ctx
  let grp := clGroup w.word
  match d.clOk w.tag w.word with
  | none => .malformed d
  | some g =>
    if 4 ≤ g.flights.length then .wait d w
    else
      let seq := g.next
      let f : Coll := { tag := w.tag, seq := seq, word := w.word, frags := (g.early.filter fun e => e.1 == seq).map Prod.snd }
      .done (d.setGroup ctx grp { g with next := (seq + 1) % 2 ^ 16, flights := g.flights ++ [f], early := g.early.filter fun e => e.1 != seq })

/-- The rows of COLLECT by kind. An unknown kind is malformed whichever row is asked; it goes with ALL_REDUCE. -/
def selCollect (kind w : Nat) : Bool := isOp 0x60 w && (clKind w == kind || (kind == 0 && decide (5 < clKind w)))

/-- A fragment that has come for collective `seq` of a group: to its flight, or kept until its COLLECT begins (R284, R296). -/
def Dev.collArrives (d : Dev) (ctx grp seq : Nat) (fr : Frag) : Dev :=
  match d.group ctx grp with
  | none => d
  | some g =>
    if g.flights.any fun f => f.seq == seq then
      d.setGroup ctx grp { g with flights := g.flights.map fun f => if f.seq = seq then { f with frags := f.frags ++ [fr] } else f }
    else d.setGroup ctx grp { g with early := g.early ++ [(seq, fr)] }

end Sys2Proof.Machine
end

