-- ==== Sys2Proof/Machine/Orders.lean ====
section
/-! DEFINITION. The orders of R137 as commands: each gives a core's sequencer the turn of one order, which stands at its list's place
or waits there; and the retry of waiting orders after an event. -/

namespace Sys2Proof.Machine

/-- WLOAD (R140). -/
def execWload (c : CoreRef) (s : State) : Host.Outcome State Fault Refusal :=
  onDev (wellFormed (.wload c)) (fun d => d.attempt c (isOp 0x01) runWload) s

/-- PASS (R141). -/
def execPass (c : CoreRef) (s : State) : Host.Outcome State Fault Refusal :=
  onDev (wellFormed (.pass c)) (fun d => d.attempt c (isOp 0x02) runPass) s

/-- PAIRPASS (R73). -/
def execPairpass (c : CoreRef) (s : State) : Host.Outcome State Fault Refusal :=
  onDev (wellFormed (.pairpass c)) (fun d => d.attempt c (isOp 0x04) runPairpass) s

/-- DRAIN (R143). -/
def execDrain (c : CoreRef) (s : State) : Host.Outcome State Fault Refusal :=
  onDev (wellFormed (.drain c)) (fun d => d.attempt c (isOp 0x03) runDrain) s

/-- VEC (R118, R145). -/
def execVec (c : CoreRef) (s : State) : Host.Outcome State Fault Refusal :=
  onDev (wellFormed (.vec c)) (fun d => d.attempt c (isOp 0x10) runVec) s

/-- VREDUCE (R123, R147). -/
def execVreduce (c : CoreRef) (s : State) : Host.Outcome State Fault Refusal :=
  onDev (wellFormed (.vreduce c)) (fun d => d.attempt c (isOp 0x11) runVreduce) s

/-- TUG (R148). -/
def execTug (c : CoreRef) (s : State) : Host.Outcome State Fault Refusal :=
  onDev (wellFormed (.tug c)) (fun d => d.attempt c (isOp 0x20) runTug) s

/-- CONVEY_PUT (R149). -/
def execConveyPut (c : CoreRef) (s : State) : Host.Outcome State Fault Refusal :=
  onDev (wellFormed (.conveyPut c)) (fun d => d.attempt c (isOp 0x21) runPut) s

/-- CONVEY_GET, take form (R150). -/
def execConveyGetTake (c : CoreRef) (s : State) : Host.Outcome State Fault Refusal :=
  onDev (wellFormed (.conveyGetTake c)) (fun d => d.attempt c selTake runTake) s

/-- CONVEY_GET, RELEASE form (R150). -/
def execConveyGetRelease (c : CoreRef) (s : State) : Host.Outcome State Fault Refusal :=
  onDev (wellFormed (.conveyGetRelease c)) (fun d => d.attempt c selRelease runRelease) s

/-- CONVEY_GET, COPY form (R150). -/
def execConveyGetCopy (c : CoreRef) (s : State) : Host.Outcome State Fault Refusal :=
  onDev (wellFormed (.conveyGetCopy c)) (fun d => d.attempt c selCopy runCopy) s

/-- ARRIVE (R151, R217). -/
def execArrive (c : CoreRef) (s : State) : Host.Outcome State Fault Refusal :=
  onDev (wellFormed (.arrive c)) (fun d => d.attempt c (isOp 0x30) runArrive) s

/-- WAIT (R151, R214). -/
def execWait (c : CoreRef) (s : State) : Host.Outcome State Fault Refusal :=
  onDev (wellFormed (.wait c)) (fun d => d.attempt c (isOp 0x31) runWait) s

/-- ARRIVE_WAIT (R151, R214). -/
def execArriveWait (c : CoreRef) (s : State) : Host.Outcome State Fault Refusal :=
  onDev (wellFormed (.arriveWait c)) (fun d => d.attempt c (isOp 0x32) runArriveWait) s

/-- HINT (R152). -/
def execHint (c : CoreRef) (s : State) : Host.Outcome State Fault Refusal :=
  onDev (wellFormed (.hint c)) (fun d => d.attempt c selHint runHint) s

/-- HINT with END (R152). -/
def execHintEnd (c : CoreRef) (s : State) : Host.Outcome State Fault Refusal :=
  onDev (wellFormed (.hintEnd c)) (fun d => d.attempt c selHintEnd runHintEnd) s

/-- COMMIT (R153, R316). -/
def execCommit (c : CoreRef) (s : State) : Host.Outcome State Fault Refusal :=
  onDev (wellFormed (.commit c)) (fun d => d.attempt c (isOp 0x50) runCommit) s

/-- SNAPSHOT (R153, R324). -/
def execSnapshot (c : CoreRef) (s : State) : Host.Outcome State Fault Refusal :=
  onDev (wellFormed (.snapshot c)) (fun d => d.attempt c (isOp 0x51) runSnapshot) s

/-- COLLECT ALL_REDUCE (R285, R287). -/
def execCollAllReduce (c : CoreRef) (s : State) : Host.Outcome State Fault Refusal :=
  onDev (wellFormed (.collAllReduce c)) (fun d => d.attempt c (selCollect 0) runCollect) s

/-- COLLECT REDUCE (R285, R287). -/
def execCollReduce (c : CoreRef) (s : State) : Host.Outcome State Fault Refusal :=
  onDev (wellFormed (.collReduce c)) (fun d => d.attempt c (selCollect 1) runCollect) s

/-- COLLECT BROADCAST (R285, R287). -/
def execCollBroadcast (c : CoreRef) (s : State) : Host.Outcome State Fault Refusal :=
  onDev (wellFormed (.collBroadcast c)) (fun d => d.attempt c (selCollect 2) runCollect) s

/-- COLLECT ALL_GATHER (R285, R287). -/
def execCollAllGather (c : CoreRef) (s : State) : Host.Outcome State Fault Refusal :=
  onDev (wellFormed (.collAllGather c)) (fun d => d.attempt c (selCollect 3) runCollect) s

/-- COLLECT REDUCE_SCATTER (R285, R287). -/
def execCollReduceScatter (c : CoreRef) (s : State) : Host.Outcome State Fault Refusal :=
  onDev (wellFormed (.collReduceScatter c)) (fun d => d.attempt c (selCollect 4) runCollect) s

/-- COLLECT ALL_TO_ALL (R285, R287). -/
def execCollAllToAll (c : CoreRef) (s : State) : Host.Outcome State Fault Refusal :=
  onDev (wellFormed (.collAllToAll c)) (fun d => d.attempt c (selCollect 5) runCollect) s

/-- FENCE (R155). -/
def execFence (c : CoreRef) (s : State) : Host.Outcome State Fault Refusal :=
  onDev (wellFormed (.fence c)) (fun d => d.attempt c (isOp 0x7F) runFence) s

/-- The turn of a waiting order, by its opcode. -/
def runWaiting (w : Waiting) (d : Dev) : Turn :=
  match w.tag.op with
  | 0x01 => runWload w d
  | 0x02 => runPass w d
  | 0x03 => runDrain w d
  | 0x04 => runPairpass w d
  | 0x10 => runVec w d
  | 0x11 => runVreduce w d
  | 0x20 => runTug w d
  | 0x21 => runPut w d
  | 0x22 => if bit w.word 8 then runRelease w d else if bit w.word 9 then runCopy w d else runTake w d
  | 0x30 => runArrive w d
  | 0x31 => runWait w d
  | 0x32 => runArriveWait w d
  | 0x50 => runCommit w d
  | 0x51 => runSnapshot w d
  | 0x60 => runCollect w d
  | 0x7F => runFence w d
  | _ => .wait d w

/-- A core's waiting order is tried again after an event (R158). -/
def Dev.retryCore (d : Dev) (c : CoreRef) : Dev := if (d.core c).wait.isSome then d.attempt c (fun _ => true) runWaiting else d

/-- The cores with a waiting order. -/
def Dev.waitingCores (d : Dev) : List CoreRef := d.coresWhere fun x => x.wait.isSome

/-- Every waiting order tried again, and those that are left once more while some of them went on: an order may have waited for another. -/
def Dev.retryGo : Nat → Dev → Dev
  | 0, d => d
  | fuel + 1, d =>
    let d' := d.waitingCores.foldl Dev.retryCore d
    if d'.waitingCores.length < d.waitingCores.length then Dev.retryGo fuel d' else d'

/-- Every waiting order is tried again. -/
def Dev.retry (d : Dev) : Dev := Dev.retryGo (d.waitingCores.length + 1) d

end Sys2Proof.Machine
end

