-- ==== Sys2Proof/Machine/Events.lean ====
section
/-! DEFINITION. The events of the compute side: replays, windows, drains, tugs, messages, credits, snapshots, collectives, arrivals and
releases, timeouts, the board line, cadence (R170, R171), the tide gate (R396) and self-gating (R399, R400). -/

namespace Sys2Proof.Machine

/-! ### Arrays -/

/-- TILE_REPLAY: the abandoned tiles of a core replay, bank 0 first; the orders that waited for it go on. -/
def Dev.tileReplay (d : Dev) (c : CoreRef) : Dev :=
  if d.safe ∨ (d.core c).replayPending = false then d else ((d.replayBank c false).replayBank c true).retryCore c

/-- ACC_WAIT_EXPIRY: an accreting PASS that waits for rows is tried again; its window issues it when it is full or expired. -/
def Dev.windowExpires (d : Dev) (c : CoreRef) : Dev :=
  match (d.core c).wait with
  | some w => if w.tag.op = 0x02 ∧ psAccrete w.word then d.retryCore c else d
  | none => d

/-- WLOAD_COMPLETE: the oldest load finishes writing its sets (R70). -/
def Dev.loadCompletes (d : Dev) (c : CoreRef) : Dev :=
  if d.safe then d else (d.modCore c fun x => { x with loads := x.loads.drop 1 }).retryCore c

/-- DRAIN_READ. A core stopped by a failure drains nothing until it is mended (R77, R418). -/
def Dev.drainStep (d : Dev) (c : CoreRef) : Dev := if d.safe ∨ (d.core c).stopped then d else (d.drainRead c).retry

/-- TILE_REPLAY (R95). -/
def execTileReplay (c : CoreRef) (s : State) : Host.Outcome State Fault Refusal := onDev (wellFormed (.tileReplay c)) (fun d => d.tileReplay c) s

/-- ACC_WAIT_EXPIRY (R81). -/
def execAccWaitExpiry (c : CoreRef) (s : State) : Host.Outcome State Fault Refusal := onDev (wellFormed (.accWaitExpiry c)) (fun d => d.windowExpires c) s

/-- WLOAD_COMPLETE (R70). -/
def execWloadComplete (c : CoreRef) (s : State) : Host.Outcome State Fault Refusal := onDev (wellFormed (.wloadComplete c)) (fun d => d.loadCompletes c) s

/-- DRAIN_READ (R102). -/
def execDrainRead (c : CoreRef) (s : State) : Host.Outcome State Fault Refusal := onDev (wellFormed (.drainRead c)) (fun d => d.drainStep c) s

/-! ### Tugs, conveyors, snapshots and collectives -/

/-- TUG_DESCRIPTOR_COMPLETE (R131). -/
def execTugDescriptorComplete (cl tug pos : Nat) (ext : External) (s : State) : Host.Outcome State Fault Refusal :=
  onDev (wellFormed (.tugDescriptorComplete cl tug pos ext)) (fun d => (d.tugRun cl tug pos ext).retry) s

/-- CONVEY_MESSAGE_VISIBLE: the oldest message on its way to a ring here is written, unless a pinned range stalls it (R98, R167). -/
def Dev.messageArrives (d : Dev) (ctx n : Nat) : Dev :=
  match d.conv ctx n with
  | none => d
  | some v =>
    match v.flying with
    | [] => d
    | m :: rest =>
      if d.pinned (v.slotAt m.seq) v.slot then d.bumpFree (0x7400 + ctx) 5
      else if d.ownedIn (v.slotAt m.seq) v.slot then d.recallOwned (v.slotAt m.seq) v.slot
      else (d.leaveIdle.deliver ctx n { v with flying := rest } m.seq m.tag m.bytes m.poison).retry

/-- CONVEY_MESSAGE_VISIBLE (R167). -/
def execConveyMessageVisible (ctx conv : Nat) (s : State) : Host.Outcome State Fault Refusal :=
  onDev (wellFormed (.conveyMessageVisible ctx conv)) (fun d => d.messageArrives ctx conv) s

/-- CREDIT_RETURN: one credit on its way becomes visible at the producer (R166). -/
def Dev.creditArrives (d : Dev) (ctx n : Nat) : Dev :=
  match d.conv ctx n with
  | none => d
  | some v => if v.returning = 0 then d else (d.setConv ctx n { v with returning := v.returning - 1, credits := v.credits + 1 }).retry

/-- CREDIT_RETURN (R166). -/
def execCreditReturn (ctx conv : Nat) (s : State) : Host.Outcome State Fault Refusal :=
  onDev (wellFormed (.creditReturn ctx conv)) (fun d => d.creditArrives ctx conv) s

/-- SNAPSHOT_COMPLETE (R324). -/
def execSnapshotComplete (i : Nat) (ext : External) (s : State) : Host.Outcome State Fault Refusal :=
  onDev (wellFormed (.snapshotComplete i ext)) (fun d => (d.snapRun i ext).retry) s

/-- COLLECTIVE_COMPLETE (R293): the collectives of a group move on, and those that can complete do. -/
def execCollectiveComplete (ctx group : Nat) (s : State) : Host.Outcome State Fault Refusal :=
  onDev (wellFormed (.collectiveComplete ctx group)) (fun d => if d.safe then d else (d.collGroup ctx group true).retry) s

/-! ### Barriers -/

/-- ARRIVAL_COUNTED (R211). -/
def execArrivalCounted (i : Nat) (s : State) : Host.Outcome State Fault Refusal :=
  onDev (wellFormed (.arrivalCounted i)) (fun d => d.arrivalCounted i) s

/-- ARRIVAL_ACK (R214): the waiting order of that core goes on with its target. -/
def execArrivalAck (i : Nat) (s : State) : Host.Outcome State Fault Refusal := onDev (wellFormed (.arrivalAck i)) (fun d => (d.ackArrives i).retry) s

/-- RELEASE_VISIBLE (R215). -/
def execReleaseVisible (i : Nat) (s : State) : Host.Outcome State Fault Refusal := onDev (wellFormed (.releaseVisible i)) (fun d => d.releaseArrives i) s

/-- WAIT_TIMEOUT (R216). -/
def execWaitTimeout (c : CoreRef) (s : State) : Host.Outcome State Fault Refusal := onDev (wellFormed (.waitTimeout c)) (fun d => d.waitTimesOut c) s

/-- COMMIT_TIMEOUT (R322). -/
def execCommitTimeout (c : CoreRef) (s : State) : Host.Outcome State Fault Refusal := onDev (wellFormed (.commitTimeout c)) (fun d => d.commitTimesOut c) s

/-- FAST_LINE_HIGH (R222). -/
def execFastLineHigh (s : State) : Host.Outcome State Fault Refusal := onDev (wellFormed .fastLineHigh) (fun d => d.fastHigh) s

/-- FAST_LINE_REPULL (R222). -/
def execFastLineRepull (s : State) : Host.Outcome State Fault Refusal := onDev (wellFormed .fastLineRepull) (fun d => d.fastRepull) s

/-! ### Cadence (R170, R171) -/

/-- A list after a tick, and whether the tick was dropped. A list whose last repetition is issued begins no other. -/
def ListRun.ticked (l : ListRun) : ListRun × Bool :=
  if !l.cadence || l.stop || (l.repeats != 0 && decide (l.repeats ≤ l.rep)) then (l, false)
  else if !l.ready then ({ l with ready := true }, false)
  else if l.tick then (l, true)
  else ({ l with tick := true }, false)

/-- A core's list after a tick, and how many ticks it dropped. -/
def CoreSt.ticked (x : CoreSt) : CoreSt := { x with list := x.list.map fun (l : ListRun) => l.ticked.1 }
def CoreSt.drops (x : CoreSt) : Nat := match x.list with | some l => b2n l.ticked.2 | none => 0

/-- A cadence tick at timebase value `t`: TICKS and LAST_TICK, and every list with CADENCE, those of saved contexts among them. -/
def Dev.tickLists (d : Dev) (t : Nat) : Dev :=
  let saved := (d.ctxs.map fun (p : Nat × Ctx) => p.2.saved.map SavedCore.st).flatten
  let drops := ((d.cmp.cores.map fun (p : Nat × CoreSt) => p.2.drops) ++ saved.map CoreSt.drops).sum
  let d := { d with cmp := { d.cmp with cores := d.cmp.cores.map fun (p : Nat × CoreSt) => (p.1, p.2.ticked) },
                    ctxs := d.ctxs.map fun (p : Nat × Ctx) => (p.1, { p.2 with saved := p.2.saved.map fun (v : SavedCore) => { v with st := v.st.ticked } }) }
  ((d.bump 0xD300 4 1).bump 0xD300 5 drops).setObj 0xD300 6 t

/-- The cadence timer reaches its next tick (R170). -/
def Dev.cadenceTick (d : Dev) : Dev :=
  match d.cmp.timer with
  | some t => if d.obj 0xD300 1 = 1 ∧ t ≤ d.time then { d with cmp := { d.cmp with timer := some (t + d.obj 0xD300 2) } }.tickLists t else d
  | none => d

/-- CADENCE_TICK (R171). -/
def execCadenceTick (s : State) : Host.Outcome State Fault Refusal := onDev (wellFormed .cadenceTick) (fun d => d.cadenceTick) s

/-- SYNC_IO_RISING_EDGE (R170, R488): a tick when SYNC_IO is held as the external frame trigger. -/
def execSyncIoRisingEdge (s : State) : Host.Outcome State Fault Refusal :=
  onDev (wellFormed .syncIoRisingEdge) (fun d => if d.obj 0xD300 1 = 2 then d.tickLists d.time else d) s

/-- The timer of periodic snapshots reaches its next tick (R326). -/
def Dev.snapTimer (d : Dev) : Dev :=
  match d.cmp.timer with
  | some t => if d.obj 0xA000 8 ≠ 0 ∧ t ≤ d.time then { d with cmp := { d.cmp with timer := some (t + d.obj 0xA000 8) } }.snapTick else d
  | none => d

/-- SNAP_TICK (R326). -/
def execSnapTick (s : State) : Host.Outcome State Fault Refusal := onDev (wellFormed .snapTick) (fun d => d.snapTimer) s

/-! ### The tide gate and self-gating (R396, R399, R400) -/

/-- Whether a core has a row ready to issue: a PASS or PAIRPASS that waits for nothing but the tide gate. -/
def CoreSt.rowReady (x : CoreSt) : Bool := match x.wait with | some w => w.gated | none => false

/-- A quiet core asks the tide gate of its die; a gated array begins its wake (R397); a request that finds no tide opens one. -/
def Dev.tideAsk (d : Dev) (c : CoreRef) : Dev :=
  let x := d.core c
  if x.rowReady && d.quiet c && !x.asking then
    let d := d.setCore c { x with asking := true, wakeAt := if x.powerGated then d.time + 200 else x.wakeAt, powerGated := false, clockGated := false }
    if (tblFind d.cmp.tides (c.cl / 2)).isSome then d
    else { d with cmp := { d.cmp with tides := tblSet d.cmp.tides (c.cl / 2) { start := d.time } } }.bump (0x2010 + c.cl / 2) 0x0A 1
  else d

/-- TIDE_REQUEST (R396). -/
def execTideRequest (c : CoreRef) (s : State) : Host.Outcome State Fault Refusal := onDev (wellFormed (.tideRequest c)) (fun d => d.tideAsk c) s

/-- Whether the tide gate treats a core as hinted (R389): from the HINT until its END or until SPAN has elapsed after the phase's begin. -/
def Dev.hinted (d : Dev) (c : CoreRef) : Bool :=
  match (d.core c).hint with | some h => h.span == 0 || decide (d.time < h.at_ + h.lead + 1000 * h.span) | none => false

/-- The cores of a die that ask, hinted ones first, then by cluster and core. -/
def Dev.askers (d : Dev) (die : Nat) : List CoreRef :=
  let all := (d.coresWhere fun x => x.asking).filter fun c => c.cl / 2 == die
  (all.filter d.hinted) ++ all.filter fun c => !(d.hinted c)

/-- A wave of a die's tide: up to three cores are admitted, one that still wakes at the end of its wake (R397); the first wave that finds none ends the tide. -/
def Dev.tideWave (d : Dev) (die : Nat) : Dev :=
  match tblFind d.cmp.tides die with
  | none => d
  | some t =>
    if d.time < t.start + 64 * t.wave then d
    else if d.askers die = [] then { d with cmp := { d.cmp with tides := tblErase d.cmp.tides die } }
    else
      let d := ((d.askers die).take 3).foldl (fun d c => (d.modCore c fun x => { x with asking := false, quiet := false, lastRow := max d.time x.wakeAt }).bumpFree (0x2010 + die) 0x0B) d
      { d with cmp := { d.cmp with tides := tblSet d.cmp.tides die { t with wave := t.wave + 1 } } }.retry

/-- TIDE_WAVE (R396). -/
def execTideWave (die : Nat) (s : State) : Host.Outcome State Fault Refusal := onDev (wellFormed (.tideWave die)) (fun d => d.tideWave die) s

/-- Whether the arrays of a core have had no work for a time: no PASS, PAIRPASS or WLOAD waits there, no weights are on their way, and no row was issued since. -/
def Dev.arraysIdle (d : Dev) (c : CoreRef) (for_ : Nat → Bool) : Bool :=
  let x := d.core c
  !(x.wait.any fun w => [0x01, 0x02, 0x04].contains w.tag.op) && x.loads.isEmpty && for_ (d.time - max x.lastRow x.lastLoad)

/-- Whether the vector unit of a core has had no work for a time: no VEC or VREDUCE waits there, and none worked since. -/
def Dev.vectorIdle (d : Dev) (c : CoreRef) (for_ : Nat → Bool) : Bool :=
  let x := d.core c
  !(x.wait.any fun w => [0x10, 0x11].contains w.tag.op) && for_ (d.time - x.lastVec)

/-- Arrays and vector unit of a core each remove their power after 20 µs with no work of their own (R400). -/
def Dev.powerGate (d : Dev) (c : CoreRef) : Dev :=
  let long := fun (t : Nat) => decide (20000 ≤ t)
  d.modCore c fun x => { x with powerGated := x.powerGated || d.arraysIdle c long, vecPower := x.vecPower || d.vectorIdle c long }

/-- POWER_GATE (R400). -/
def execPowerGate (c : CoreRef) (s : State) : Host.Outcome State Fault Refusal := onDev (wellFormed (.powerGate c)) (fun d => d.powerGate c) s

/-- Arrays and vector unit of a core each gate their clock after 16 cycles with no work of their own (R399). The clocks of other blocks are timing alone and not
modelled (log 103). -/
def Dev.selfGate (d : Dev) (c : CoreRef) : Dev :=
  let long := fun (t : Nat) => decide (16 * 1000 ≤ t * d.mhz)
  d.modCore c fun x => { x with clockGated := x.clockGated || d.arraysIdle c long, vecClock := x.vecClock || d.vectorIdle c long }

/-- SELF_GATE (R399). -/
def execSelfGate (c : CoreRef) (s : State) : Host.Outcome State Fault Refusal := onDev (wellFormed (.selfGate c)) (fun d => d.selfGate c) s

end Sys2Proof.Machine
end

