-- ==== Sys2Proof/Machine/Curve.lean ====
section
/-! DEFINITION. Public keys, signatures and key agreement on NIST P-521 (R430), HKDF with SHA-512, and X.509 certificates in DER (R432). -/

namespace Sys2Proof.Machine

/-! ### NIST P-521 -/

/-- The field's prime, the curve's coefficient b (a is −3), the base point and its order. -/
def curveP : Nat := 2 ^ 521 - 1
def curveB : Nat := 0x0051953EB9618E1C9A1F929A21A0B68540EEA2DA725B99B315F3B8B489918EF109E156193951EC7E937B1652C0BD3BB1BF073573DF883D2C34F1EF451FD46B503F00
def baseX : Nat := 0x00C6858E06B70404E9CD9E3ECB662395B4429C648139053FB521F828AF606B4D3DBAA14B5E77EFE75928FE1DC127A2FFA8DE3348B3C1856A429BF97E7E31C2E5BD66
def baseY : Nat := 0x011839296A789A3BC0045C8A5FB42C7D1BD998F54449579B446817AFBD17273E662C97EE72995EF42640C550B9013FAD0761353C7086A272C24088BE94769FD16650
def curveN : Nat := 0x01FFFFFFFFFFFFFFFFFFFFFFFFFFFFFFFFFFFFFFFFFFFFFFFFFFFFFFFFFFFFFFFFFA51868783BF2F966B7FCC0148F709A5D03BB5C9B8899C47AEBB6FB71E91386409

/-- A power modulo `m`, with an exponent below 2^521. -/
def powMod (m b e : Nat) : Nat :=
  ((List.range 521).foldl (fun (x : Nat × Nat) i => (if e.testBit i then x.1 * x.2 % m else x.1, x.2 * x.2 % m)) (1, b % m)).1

/-- The inverse modulo a prime. -/
def invMod (m b : Nat) : Nat := powMod m b (m - 2)

/-- A point in Jacobian coordinates (x = X/Z², y = Y/Z³); Z = 0 is the point at infinity. -/
structure CurvePoint where
  x : Nat
  y : Nat
  z : Nat
deriving DecidableEq, Repr

/-- A difference in the field. -/
def fsub (a b : Nat) : Nat := (a + curveP - b % curveP) % curveP

/-- A point doubled. -/
def CurvePoint.double (p : CurvePoint) : CurvePoint :=
  let delta := p.z * p.z % curveP
  let gamma := p.y * p.y % curveP
  let beta := p.x * gamma % curveP
  let alpha := 3 * fsub p.x delta * (p.x + delta) % curveP
  let x := fsub (alpha * alpha % curveP) (8 * beta)
  { x := x, y := fsub (alpha * fsub (4 * beta) x % curveP) (8 * gamma * gamma), z := 2 * p.y * p.z % curveP }

/-- The sum of two points. -/
def CurvePoint.add (p q : CurvePoint) : CurvePoint :=
  if p.z = 0 then q
  else if q.z = 0 then p
  else
    let zp := p.z * p.z % curveP
    let zq := q.z * q.z % curveP
    let u := p.x * zq % curveP
    let s := p.y * q.z % curveP * zq % curveP
    let h := fsub (q.x * zp % curveP) u
    let r := fsub (q.y * p.z % curveP * zp % curveP) s
    if h = 0 then (if r = 0 then p.double else { x := 1, y := 1, z := 0 })
    else
      let hh := h * h % curveP
      let hhh := h * hh % curveP
      let v := u * hh % curveP
      let x := fsub (fsub (r * r % curveP) hhh) (2 * v)
      { x := x, y := fsub (r * fsub v x % curveP) (s * hhh), z := p.z * q.z % curveP * h % curveP }

/-- A multiple of a point. -/
def CurvePoint.mul (k : Nat) (p : CurvePoint) : CurvePoint :=
  (List.range 521).foldl (fun acc i => let d := acc.double; if k.testBit (520 - i) then d.add p else d) { x := 1, y := 1, z := 0 }

/-- The affine coordinates of a point. -/
def CurvePoint.affine (p : CurvePoint) : Nat × Nat :=
  let i := invMod curveP p.z
  let ii := i * i % curveP
  (p.x * ii % curveP, p.y * ii % curveP * i % curveP)

def basePoint : CurvePoint := { x := baseX, y := baseY, z := 1 }

/-- A private key from random bytes: between 1 and the order less 1. -/
def privateKey (bs : List Byte) : Nat := 1 + beNat bs % (curveN - 1)

/-- A public key as it travels: the uncompressed point, 133 bytes (R430). -/
def publicKey (key : Nat) : List Byte :=
  let p := (basePoint.mul key).affine
  [4#8] ++ natBe 66 p.1 ++ natBe 66 p.2

/-- ECDH: the X coordinate, 66 bytes, of the peer's point times the private key (R441). -/
def ecdh (key : Nat) (peer : List Byte) : List Byte :=
  natBe 66 ((CurvePoint.mk (beNat (slice peer 1 66)) (beNat (slice peer 67 66)) 1).mul key).affine.1

/-- ECDSA with SHA-512 over a message: r and s, 132 bytes (R430). The secret of each signature is the generator's, of which nothing is known. -/
def ecdsa (key : Nat) (message : List Byte) : List Byte :=
  let z := beNat (sha512 message)
  let k := 1 + Config.signingSecret key z % (curveN - 1)
  let r := (basePoint.mul k).affine.1 % curveN
  natBe 66 r ++ natBe 66 (invMod curveN k * (z + r * key) % curveN)

/-! ### HKDF (R430) -/

/-- HMAC with SHA-512 (RFC 2104). -/
def hmac (key text : List Byte) : List Byte :=
  let k := slice (if 128 < key.length then sha512 key else key) 0 128
  sha512 (k.map (fun b => b ^^^ 0x5C#8) ++ sha512 (k.map (fun b => b ^^^ 0x36#8) ++ text))

/-- The first 64 bytes that HKDF with SHA-512 (RFC 5869) derives. -/
def hkdf (salt secret info : List Byte) : List Byte := hmac (hmac salt secret) (info ++ [1#8])

/-- A private key derived from a secret: how the derived bytes become a key of the curve is not stated (log 105). -/
def derivedKey (secret info : List Byte) : Nat := 1 + Config.keyOfBytes (hkdf [] secret info) % (curveN - 1)

/-! ### Certificates: X.509 version 3, DER (R430, R432) -/

/-- A DER element of a tag and contents below 64 KiB. -/
def der (tag : Nat) (body : List Byte) : List Byte :=
  natBe 1 tag ++ (if body.length < 128 then natBe 1 body.length else if body.length < 256 then natBe 1 0x81 ++ natBe 1 body.length
                  else natBe 1 0x82 ++ natBe 2 body.length) ++ body

def derSeq (parts : List (List Byte)) : List Byte := der 0x30 parts.flatten

/-- A number as a DER INTEGER: no needless leading zero, and none that would make it negative. -/
def derNat (n : Nat) : List Byte :=
  let bs := (natBe 66 n).dropWhile fun b => b == 0#8
  der 2 (if bs = [] then [0#8] else if 128 ≤ (bs.headD 0#8).toNat then 0#8 :: bs else bs)

/-- The validity's end, 99991231235959Z, as a GeneralizedTime (R432). -/
def derEnd : List Byte := der 0x18 ("99991231235959Z".toList.map fun c => BitVec.ofNat 8 c.toNat)

/-- The identifiers of ECDSA with SHA-512, of a public key on P-521, and of the subject serial number (X.509, PRESUMED: log 105). -/
def oidEcdsa : List Byte := der 6 (natBe 8 0x2A8648CE3D040304)
def oidKey : List Byte := derSeq [der 6 (natBe 7 0x2A8648CE3D0201), der 6 (natBe 5 0x2B81040023)]
def oidSerial : List Byte := der 6 (natBe 3 0x550405)

/-- A Name with a subject serial number and what else names the subject. -/
def derName (serial rest : List Byte) : List Byte := derSeq [rest, der 0x31 (derSeq [oidSerial, der 0x13 serial])]

/-- An extension: its identifier, which the spec does not give, and its value. -/
def derExtension (oid value : List Byte) : List Byte := derSeq [der 6 oid, der 4 value]

/-- A certificate: what is signed, and the issuer's signature over it. -/
def certificate (number : Nat) (issuer subject begins key extensions : List Byte) (issuerKey : Nat) : List Byte :=
  let tbs := derSeq [der 0xA0 (derNat 2), derNat number, derSeq [oidEcdsa], issuer, derSeq [begins, derEnd], subject,
    derSeq [oidKey, der 3 (0#8 :: key)], der 0xA3 (derSeq [extensions])]
  let sig := ecdsa issuerKey tbs
  derSeq [tbs, derSeq [oidEcdsa], der 3 (0#8 :: derSeq [derNat (beNat (slice sig 0 66)), derNat (beNat (slice sig 66 66))])]

end Sys2Proof.Machine
end

