-- ==== Sys2Proof/Machine/Identity.lean ====
section
/-! DEFINITION. What the module is: the plan's hash (R277), the bundle's version (R374), the disabled-unit map (R423), the fingerprint
(R301) and what a change of any of them moves (R302, R305, R438). -/

namespace Sys2Proof.Machine

/-! ### Hashes and versions -/

/-- The first 8 bytes of a digest as a number. -/
def firstEight (bs : List Byte) : Nat := leNat ((sha512 bs).take 8)

/-- PLAN_HASH (R277). -/
def Dev.planHash (d : Dev) : Nat := firstEight d.plan

/-- Whether a neighbour's PLAN_HASH is this module's (R272). -/
def Dev.planAgrees (d : Dev) (hash : Nat) : Bool := hash == d.planHash

def Dev.fwCore (d : Dev) (k : Nat) : FwCore := tblGet {} d.fw k
def Dev.setFw (d : Dev) (k : Nat) (x : FwCore) : Dev := { d with fw := tblSet d.fw k x }

/-- Whether firmware core `k` restarts (R342). -/
def Dev.restarting (d : Dev) (k : Nat) : Bool := (d.fwCore k).restarting

/-- The running image version of every firmware core. -/
def Dev.images (d : Dev) : List Nat := (List.range 15).map fun k => (d.fwCore k).version

/-- BUNDLE_VERSION (R374): the newest bundle any image is of, PARTIAL where another runs beside it. -/
def Dev.bundleVersion (d : Dev) : Nat :=
  let top := d.images.foldl max 0
  2 * (top / 2) + (if d.images.all fun v => v == top then 0 else 1)

/-! ### The disabled-unit map (R423) -/

def Dev.physCore (d : Dev) (cl p : Nat) : PhysCore := tblGet {} d.cmp.phys (12 * cl + p)
def Dev.setPhysCore (d : Dev) (cl p : Nat) (x : PhysCore) : Dev := { d with cmp := { d.cmp with phys := tblSet d.cmp.phys (12 * cl + p) x } }

/-- A hold's window closes: a physical core keeps what it showed, none where it is 0xFF (R16). -/
def Dev.stowHold (d : Dev) (c : CoreRef) (p : Nat) : Dev :=
  (if p = 0xFF then d else d.setPhysCore c.cl p { d.physCore c.cl p with hold := d.holdCells c, marks := d.holdMarks c }).putHold c [] []

/-- A window opens on the hold of a physical core (R16). -/
def Dev.showHold (d : Dev) (c : CoreRef) (p : Nat) : Dev :=
  let x := d.physCore c.cl p
  (d.putHold c x.hold x.marks).setPhysCore c.cl p { x with hold := [], marks := [] }

/-- SPARE_MAP of an array (R85): its four spare rows' assignments, unused ones 0xFFFF. -/
def PhysCore.spares (x : PhysCore) (array : Nat) : List Nat := (List.range 4).map fun i => x.rowsMap.getD (4 * array + i) 0xFFFF

/-- UNIT_MAP: 3,456 bytes. The disabled arrays of a core in use are entered when the core is replaced, in one change of the map (R418). -/
def Dev.unitMap (d : Dev) : List Byte :=
  let byte := fun (n : Nat) => BitVec.ofNat 8 n
  let cores := (List.range 96).map fun i => d.physCore (i / 12) (i % 12)
  let bound := fun (cl p : Nat) => (List.range 10).any fun k => tblGet k d.cmp.bound (CoreRef.mk cl k).key == p
  natLe 2 1 ++ natLe 2 3456 ++ natLe 4 0 ++
    ((List.range 80).map fun i => byte (tblGet (i % 10) d.cmp.bound (CoreRef.mk (i / 10) (i % 10)).key)) ++
    (cores.map fun x => byte (if x.disabled then 1 else 0)) ++
    (cores.map fun x => ((List.range 16).map fun j => natLe 2 (x.rowsMap.getD j 0xFFFF)).flatten).flatten ++
    ((List.range 96).map fun i => byte (let x := d.physCore (i / 12) (i % 12); if x.disabled || !(bound (i / 12) (i % 12)) then x.arraysOff else 0)) ++
    ((List.range 32).map fun s => byte (d.obj (0x8300 + s) 3)) ++
    natLe 4 ((List.range 32).foldl (fun n s => n + d.obj (0x8300 + s) 4 * 2 ^ s) 0) ++
    ((List.range 48).map fun i => byte (d.objAt (0x3040 + i / 12) 1 (i % 12))) ++
    (List.range 20).map fun p => byte (d.portSt p).failed

/-- FINGERPRINT (R301). -/
def Dev.fingerprint (d : Dev) : Nat :=
  firstEight (natLe 1 (d.obj 0x7000 2) ++ natLe 2 (d.obj 0x7000 3) ++ natLe 4 d.bundleVersion ++ d.unitMap)

/-! ### What a change moves -/

/-- OWNER_DIGEST: 64 zero bytes in every state but OWNED (R445). -/
def Fuses.ownerDigest (f : Fuses) : List Byte := if f.lcState = 2 then slice f.digest 0 64 else List.replicate 64 0#8

/-- SECURITY_VERSION (R374, R456): that of the newest bundle of which an image runs. -/
def Dev.securityVersion (d : Dev) : Nat :=
  match (List.range 15).find? fun k => (d.fwCore k).version == 2 * (d.bundleVersion / 2) with
  | some k => (d.fwCore k).image.bundle
  | none => 1

/-- The measurement of SEC ROM, of index 1, or of an image by index and version (R434, R437). -/
def imageMeasure (i v : Nat) : List Byte := slice (Config.imageDigest i v) 0 64

/-- The unique device secret as the fuses hold it: zeros in a BLANK module, all ones once RETIRED burned it (R431, R452). -/
def Fuses.secret (f : Fuses) : List Byte :=
  if f.uds then slice Config.deviceSecret 0 32 else List.replicate 32 (if f.lcState = 4 then 0xFF#8 else 0#8)

/-- The device identity key: it is of the secret of provisioning, with the label "KC9 devid" (R431). -/
def identityKey : Nat := derivedKey (slice Config.deviceSecret 0 32) (natBe 9 0x4B4339206465766964)

/-- The alias key: of the secret, the digest of the SEC image it was last derived with, LC_STATE and OWNER_DIGEST (R431). -/
def Dev.aliasKey (f : Fuses) (d : Dev) : Nat :=
  derivedKey f.secret (imageMeasure 2 (nth 0 d.sec.aliasImages 0) ++ natLe 1 f.lcState ++ f.ownerDigest)

/-- The Name of the device, whose serial number it carries (R432). -/
def deviceSubject : List Byte := derName Config.serial Config.deviceName

/-- The device identity certificate, which the product CA issued at provisioning, with the stepping in an extension (R432). -/
def devidCert : List Byte :=
  certificate Config.deviceNumber Config.productName deviceSubject (Config.certTime none) (publicKey identityKey) (derExtension Config.steppingOid (natLe 1 0xA1))
    Config.productKey

/-- The extension of the alias certificate (R432): what stood at its issue. The life-cycle state, its transitions and the owner change only with a
transition, which starts the module again. -/
def Dev.aliasExtension (f : Fuses) (d : Dev) : List Byte :=
  sha512 (imageMeasure 1 0 ++ ((List.range 15).map fun k => imageMeasure (k + 2) (nth 0 d.sec.aliasImages k)).flatten) ++ f.ownerDigest ++
    natLe 1 f.lcState ++ natLe 1 f.left ++ natLe 2 (d.sec.aliasFloor.getD f.floor) ++ natLe 2 d.sec.aliasSecurity ++ natLe 2 0

/-- The alias certificate, which the device identity key issues at every derivation (R432). -/
def Dev.aliasCert (f : Fuses) (d : Dev) : List Byte :=
  certificate (Config.aliasNumber d.sec.aliasDraw) deviceSubject deviceSubject (Config.certTime d.sec.aliasFrom) (publicKey (Dev.aliasKey f d))
    (derExtension Config.aliasOid (Dev.aliasExtension f d)) identityKey

/-- Whether the calendar, where it is set, lies in a certificate's validity, and the count of one whose validity is not checked (R433). -/
def Dev.certCurrent (d : Dev) (from_ to_ : Nat) : Bool := d.obj 0xB000 6 == 0 || (decide (from_ ≤ d.calendar) && decide (d.calendar ≤ to_))
def Dev.noteUnchecked (d : Dev) (n : Nat) : Dev := if d.obj 0xB000 6 = 0 then d.bump 0x6000 0x13 n else d

/-- Whether a context is resident, saved or parked: past CREATED. -/
def Ctx.resident (x : Ctx) : Bool := decide (3 ≤ x.state)

/-- Whether a context is resident itself: READY, RUNNING, HELD, ABORTED, a STANDBY or HALTED, and neither saved nor parked (R235, R358). -/
def Ctx.live (x : Ctx) : Bool := [3, 4, 7, 9, 10, 11].contains x.state

/-- The number of contexts past FREE. -/
def Dev.inUse (d : Dev) : Nat := (d.ctxs.filter fun p => p.2.state != 0).length

/-- Whether any context is resident. -/
def Dev.anyResident (d : Dev) : Bool := d.ctxs.any fun p => p.2.resident

/-- Whether no context is resident (R204, R269, R277, R336). -/
def Dev.noneResident (d : Dev) : Bool := !(d.ctxs.any fun p => p.2.live)

/-- The enabled regions that measurement 20 covers (R437): frozen or sealed ones. -/
def Dev.measuredRegions (d : Dev) : List (Nat × Region) := d.regions.filter fun p => p.2.enabled && field p.2.attr 3 1 != 0

/-- The fingerprint changes: counted, timed, and every resident context and its gang hear of it (R302, R305). -/
def Dev.fingerprintChanged (d : Dev) : Dev :=
  let d := (d.bump 0x7000 6 1).setObj 0x7000 7 d.time
  (d.ctxs.filter fun p => p.2.resident).foldl (fun d p =>
    let d := d.setObj (0x7100 + p.1) 3 1
    (d.otherMembers p.1).foldl (fun d g => d.send (.gangNotice (d.gangDevice p.1 g) p.1 2 [])) (d.setObj (0x7100 + p.1) 4 1)) d

/-- What a command's change of the module's make-up moves: the fingerprint where the images or the unit map differ from before, and
MEAS_GENERATION where any measured value does (R438). -/
def Dev.audit (d old : Dev) : Dev :=
  let units := d.images != old.images || d.unitMap != old.unitMap
  let d' := if units then d.fingerprintChanged else d
  if units || d.securityVersion != old.securityVersion || d.obj 0x8000 5 != old.obj 0x8000 5 || d.measuredRegions != old.measuredRegions || d.plan != old.plan then
    d'.setObj 0x6000 0x11 ((d'.obj 0x6000 0x11 + 1) % 2 ^ 32)
  else d'

end Sys2Proof.Machine
end

