-- ==== Sys2Proof/Machine/Sessions.lean ====
section
/-! DEFINITION. Sessions (R249, R250): the handshake and rekeying (R439 to R443), the checks of a peer (R440), acknowledgements (R253),
and the timers of both. -/

namespace Sys2Proof.Machine

/-! ### Acknowledgements (R253) -/

/-- The place of a PSN after another, modulo 2^32. -/
def psnAfter (psn base : Nat) : Nat := (psn + 2 ^ 32 - base % 2 ^ 32) % 2 ^ 32

/-- The bitmap of the 32 PSNs that follow the highest accepted in order. -/
def RxClass.bitmap (r : RxClass) : Nat :=
  (List.range 32).foldl (fun n i => if r.held.any fun p => p.psn == (r.next + i) % 2 ^ 32 then n + 2 ^ i else n) 0

/-- The receive window a session grants its peer in a class: as many packets as find room beside what is there and what was promised to other classes, and
none in the request class while what came waits on a pinned range (R255). -/
def Dev.grantWindow (d : Dev) (key : Nat) (s : Session) (cls : Nat) : Nat :=
  let ctl := cls == clCtl
  if cls = clReq ∧ (s.rx.any fun q => q.2.pinned) then 0
  else min 4096 ((bufferPart ctl - d.bufferUsed ctl - d.promisedRoom ctl key cls) / d.pktMost ctl)

/-- An ACK of a session class. It travels on the first up path and is never kept. -/
def Dev.sendAck (d : Dev) (key cls : Nat) : Dev :=
  match d.session key with
  | none => d
  | some s =>
    let r := s.rxc cls
    let p : Packet := { typ := 1, cls := cls, epoch := s.txEpoch % 4, ceEcho := r.ce, session := s.theirs, src := d.rank, dst := s.peer,
                        ackPsn := (r.next + 2 ^ 32 - 1) % 2 ^ 32, txn := s.txn, addr := r.bitmap + d.grantWindow key s cls * 2 ^ 32 }
    (d.setSession key { s with rx := tblSet s.rx cls { r with fresh := 0, ackSince := none, ce := false, promised := d.grantWindow key s cls, shut := d.grantWindow key s cls == 0 }, txn := s.txn + 1 }).transmit
      s (d.firstPath s.peer) 0 p

/-- Windows that were shut for want of room open again when there is room, which an ACK tells (R255). -/
def Dev.openWindows (d : Dev) : Dev :=
  let shut := (d.net.sessions.map fun (p : Nat × Session) => ((List.range 4).filter fun c => p.2.state == 1 && (p.2.rxc c).shut).map fun c => (p.1, c)).flatten
  shut.foldl (fun d w => match d.session w.1 with
    | some s => if d.grantWindow w.1 s w.2 = 0 then d else d.sendAck w.1 w.2
    | none => d) d

/-- A NACK that names the missing PSN of a session class (R254). -/
def Dev.sendNack (d : Dev) (key cls : Nat) : Dev :=
  match d.session key with
  | none => d
  | some s =>
    let r := s.rxc cls
    let p : Packet := { typ := 2, cls := cls, epoch := s.txEpoch % 4, session := s.theirs, src := d.rank, dst := s.peer,
                        ackPsn := (r.next + 2 ^ 32 - 1) % 2 ^ 32, txn := s.txn, addr := r.next }
    (d.setSession key { s with rx := tblSet s.rx cls { r with gapSince := some d.time }, txn := s.txn + 1 }).transmit
      s (d.firstPath s.peer) 0 p

/-! ### Handshake messages (R439) -/

def hsOffer : Nat := 1
def hsAccept : Nat := 2
def hsConfirm : Nat := 3
def hsRekey : Nat := 4
def hsRekeyAck : Nat := 5
def hsRefuse : Nat := 6

/-- The certificates OFFER and ACCEPT carry. -/
def handshakeCerts (aliasCert : List Byte) (msg : Nat) : List Byte := if msg ≤ hsAccept then devidCert ++ aliasCert else []

/-- Bytes [183:0] of a part. -/
def handshakeHead (s : Session) (msg part parts certLen : Nat) (nonce key : List Byte) : List Byte :=
  natLe 1 msg ++ natLe 1 part ++ natLe 1 parts ++ natLe 1 (if s.ctx.isSome then 1 else 0) ++ natLe 4 s.mine ++ natLe 4 (if msg = hsOffer then 0 else s.theirs) ++
    natLe 2 (s.ctx.getD 0) ++ natLe 2 certLen ++ nonce ++ key ++ natLe 3 0

/-- The payloads of a handshake message, one for each part. The alias key signs the head of part 0, the peer's nonce and the certificates (R439), and in CONFIRM both
messages of the handshake, `both` (R441). -/
def handshakeParts (signer : Nat) (aliasCert both : List Byte) (s : Session) (msg max : Nat) (nonce key : List Byte) : List (List Byte) :=
  let certs := handshakeCerts aliasCert msg
  let room := max - 316
  let parts := min 4 (Nat.max 1 (ceilDiv certs.length room))
  let cut := fun i => (certs.drop (i * room)).take room
  let peer := if msg = hsOffer then List.replicate 32 0#8 else slice s.peerNonce 0 32
  let sig := ecdsa signer (if msg = hsConfirm then both else handshakeHead s msg 0 parts (cut 0).length nonce key ++ peer ++ certs)
  (List.range parts).map fun i =>
    handshakeHead s msg i parts (cut i).length nonce key ++ (if i + 1 = parts then sig else List.replicate 132 0#8) ++ cut i

/-- The fields of a received part. -/
def hsMsg (p : Packet) : Nat := leNat (slice p.payload 0 1)
def hsPart (p : Packet) : Nat := leNat (slice p.payload 1 1)
def hsParts (p : Packet) : Nat := leNat (slice p.payload 2 1)
def hsKind (p : Packet) : Nat := leNat (slice p.payload 3 1)
def hsSender (p : Packet) : Nat := leNat (slice p.payload 4 4)
def hsPeer (p : Packet) : Nat := leNat (slice p.payload 8 4)
def hsCtx (p : Packet) : Nat := leNat (slice p.payload 12 2)
def hsNonce (p : Packet) : List Byte := slice p.payload 16 32

def hsKey (p : Packet) : List Byte := slice p.payload 48 133

/-! ### Keys (R430, R441) -/

/-- The keys of an epoch of a session from this module's nonce and private ephemeral key, and the peer's nonce and public one. -/
def Session.derive (s : Session) (epoch : Nat) (nonce key peerNonce peerKey : List Byte) : List Byte :=
  let salt := if s.initiator then nonce ++ peerNonce else peerNonce ++ nonce
  let ids := if s.initiator then natBe 4 s.mine ++ natBe 4 s.theirs else natBe 4 s.theirs ++ natBe 4 s.mine
  hkdf salt (ecdh (privateKey key) peerKey) (natBe 5 0x67657A616C ++ ids ++ natBe 4 epoch)

/-- A session with what a message of the peer brought. -/
def Session.heard (s : Session) (p : Packet) : Session := { s with peerNonce := hsNonce p, peerKey := hsKey p }

/-- The payloads of a session's message put on the wire, never encrypted (R251). -/
def Dev.emitHandshake (d : Dev) (key : Nat) (msgs : List (List Byte)) : Dev :=
  msgs.foldl (fun d bs =>
    match d.session key with
    | none => d
    | some s =>
      let p : Packet := { typ := 4, cls := clCtl, enc := false, epoch := s.txEpoch % 4, session := s.theirs, src := d.rank, dst := s.peer, txn := s.txn, payload := bs }
      (d.setSession key { s with txn := s.txn + 1 }).transmit s (d.firstPath s.peer) 0 p) d

/-- A session after a message of its own with a nonce and a private ephemeral key. ACCEPT and REKEY_ACK answer the peer's, so that the keys follow; every message but
REKEY_ACK awaits an answer and is sent again till then (R442). -/
def Session.said (s : Session) (msg time : Nat) (nonce key : List Byte) (msgs : List (List Byte)) : Session :=
  let s := if msg = hsAccept ∨ msg = hsRekeyAck then { s with keys := s.derive s.epoch nonce key s.peerNonce s.peerKey } else s
  let s := if msg = hsOffer ∨ msg = hsRekey then { s with myNonce := nonce, myKey := key } else s
  if msg = hsRekeyAck then { s with msg := msgs }
  else { s with stage := msg, msg := msgs, resent := 0, lastSent := time, startAt := if msg = hsOffer then time else s.startAt }

/-- A message sent with a fresh nonce and ephemeral key. An initiator's CONFIRM signs its OFFER, kept to be sent again, and the ACCEPT it heard. -/
def Dev.sendHandshake (f : Fuses) (d : Dev) (key msg : Nat) : Dev :=
  match d.session key with
  | none => d
  | some s =>
    let bs := slice d.draw.1 0 98
    let d := d.draw.2
    let msgs := handshakeParts (Dev.aliasKey f d) (Dev.aliasCert f d) (s.msg.flatten ++ d.net.heard) s msg d.payloadMax (bs.take 32) (publicKey (privateKey (bs.drop 32)))
    (d.setSession key (s.said msg d.time (bs.take 32) (bs.drop 32) msgs)).emitHandshake key msgs

/-- The session a received message speaks of. -/
def hsOwner (p : Packet) : Option Nat := if hsKind p = 1 then some (hsCtx p) else none

/-- A REFUSE to the sender of a message, with a nonce, an ephemeral key and a signature of its own, counted in SESSION_REFUSALS (R439, R440). -/
def Dev.refuseHandshake (f : Fuses) (d : Dev) (p : Packet) : Dev :=
  let bs := slice d.draw.1 0 98
  let d := d.draw.2
  let s : Session := { ctx := hsOwner p, peer := p.src, mine := hsPeer p, theirs := hsSender p, peerNonce := hsNonce p }
  (handshakeParts (Dev.aliasKey f d) [] [] s hsRefuse d.payloadMax (bs.take 32) (publicKey (privateKey (bs.drop 32)))).foldl
    (fun d part => d.transmitTo p.src (d.firstPath p.src) { typ := 4, cls := clCtl, enc := false, session := hsSender p, src := d.rank, dst := p.src, payload := part })
    d |>.bump 0x6000 0x12 1

def Dev.eraseSession (d : Dev) (key : Nat) : Dev := { d with net := { d.net with sessions := tblErase d.net.sessions key } }

/-- SESSIONS_OPEN (R280). -/
def Dev.sessionsOpen (d : Dev) : Nat := (d.net.sessions.filter fun p => p.2.state == 1).length

/-- Whether a module holds as many sessions as it may, those whose handshake runs among them (R249). -/
def Dev.sessionsFull (d : Dev) : Bool := decide (8192 ≤ (d.net.sessions.filter fun p => p.2.state != 2).length)

/-- Whether this module's life-cycle state lets sessions open (R440, R448). -/
def Fuses.mayMeet (f : Fuses) : Bool := f.lcState == 1 || f.lcState == 2

/-- Whether a module can be addressed: a basin member, or a rank whose entry of the roadstead directory is in order (R243). -/
def Dev.addressable (d : Dev) (rank : Nat) : Bool :=
  let base := d.obj 0x3000 4
  d.inBasin rank || (base != 0 && decide (rank < d.obj 0x3000 5) && (d.access .firmware false (base + 16 * rank) 16).isNone &&
    leNat (d.read (base + 16 * rank + 15) 1) % 16 == 0)

/-- A session is asked for (R249, R250): the module of lower rank sends OFFER, the other waits for it. -/
def Dev.openSession (f : Fuses) (d : Dev) (ctx : Option Nat) (peer : Nat) : Dev :=
  if peer = d.rank ∨ peer < d.rank ∨ (d.sessionTo ctx peer).isSome ∨ f.mayMeet = false ∨ d.addressable peer = false ∨ d.sessionsFull then d
  else
    let key := d.net.nextId
    Dev.sendHandshake f { d with net := { d.net with nextId := key + 1, sessions := tblSet d.net.sessions key { ctx := ctx, peer := peer, mine := key, road := d.roadPair peer } } } key hsOffer

/-- Device sessions to every basin member that can be reached and has none (R249). -/
def Dev.openDevices (f : Fuses) (d : Dev) : Dev :=
  (List.range 8).foldl (fun d n =>
    let r := d.basinNumber * 8 + n
    if n ≠ d.mid ∧ d.reachable r then Dev.openSession f d none r else d) d

/-! ### Received messages (R440 to R443) -/

/-- Rule 2 of R440: the identity of a basin peer is PEER_DIGEST of the port that received its HELLO: the port of the message where that port heard the peer, else every
port that did, and at least one (log 34). -/
def Dev.identityMet (d : Dev) (p : Packet) (v : PeerProof) : Bool :=
  let heard := fun q => [0, 1].any fun h => d.role q h == 1 && (d.half q h).peerRank == p.src
  let ports := if heard p.port then [p.port] else (List.range 20).filter heard
  d.role p.port p.half != 1 || (!ports.isEmpty && ports.all fun q => d.blob (0x3010 + q) 6 == some (slice v.ident 0 32))

/-- Whether a peer is accepted: chain and signature, identity, life-cycle state, owner (R440, R433). -/
def Dev.peerOk (f : Fuses) (d : Dev) (p : Packet) (v : PeerProof) : Bool :=
  v.chainOk && v.sigOk && d.certCurrent v.validFrom v.validTo && d.identityMet p v && f.mayMeet && v.lcState == f.lcState &&
    slice v.owner 0 64 == f.ownerDigest

/-- The two certificates of a message are checked without a calendar (R433). -/
def Dev.uncheckedTime (d : Dev) : Dev := d.noteUnchecked 2

/-- A received part is noted; whether its message is now whole, in which case `net.heard` holds it. -/
def Dev.notePart (d : Dev) (p : Packet) : Dev × Bool :=
  let e := (p.src, hsMsg p, hsSender p, hsPart p, p.payload)
  let mine := fun (x : Nat × Nat × Nat × Nat × List Byte) => x.1 == p.src && x.2.1 == hsMsg p && x.2.2.1 == hsSender p
  let all := if d.net.parts.any fun x => mine x && x.2.2.2.1 == hsPart p then d.net.parts else d.net.parts ++ [e]
  let whole := (List.range (hsParts p)).map fun i => ((all.find? fun x => mine x && x.2.2.2.1 == i).map fun x => x.2.2.2.2).getD []
  if (all.filter mine).length = hsParts p then ({ d with net := { d.net with parts := all.filter fun x => !(mine x), heard := whole.flatten } }, true)
  else ({ d with net := { d.net with parts := all } }, false)

/-- Whether a SESSION packet may be looked at (R242, R248, R271): discarded and counted otherwise. -/
def Dev.handshakeFrame (d : Dev) (p : Packet) : Bool :=
  d.carries p && p.frameOk && p.ver == 1 && p.reserved == 0 && decide (316 ≤ p.payload.length) && decide (p.payload.length ≤ d.payloadMax) &&
    decide (hsPart p < hsParts p) && decide (hsParts p ≤ 4) && decide (hsKind p ≤ 1) && (hsKind p == 1 || hsCtx p == 0) && decide (hsCtx p < 64)

/-- A SESSION packet of one message arrives at its port: when it is for this module and its message is whole, `f` says what follows. -/
def Dev.handshake (d : Dev) (p : Packet) (msg : Nat) (f : Dev → Dev) : Dev :=
  if p.typ ≠ 4 ∨ hsMsg p ≠ msg ∨ p.dst ≠ d.rank then d
  else
    let d := d.bump (0x3010 + p.port) 0x10 1
    if d.handshakeFrame p = false then d.bump (0x3010 + p.port) 0x11 1
    else
      let x := d.notePart p
      if x.2 then f x.1 else x.1

/-- Sessions of the same ends replaced by one that opens. -/
def Dev.replaceOthers (d : Dev) (key : Nat) (s : Session) : Dev :=
  { d with net := { d.net with sessions := d.net.sessions.filter fun q => q.1 == key || !(q.2.ctx == s.ctx && q.2.peer == s.peer) } }

/-- A session opens (R441). -/
def Dev.sessionOpens (d : Dev) (key : Nat) (s : Session) : Dev :=
  ((d.setSession key { s with state := 1, stage := 0, msg := [], rekeyAt := d.time, txnAt := s.txn }).replaceOthers key s).pushSession key

/-- OFFER: answered by ACCEPT or REFUSE. That of a higher rank is discarded without reply (R442), as is one for a context this module lacks. -/
def Dev.onOffer (f : Fuses) (d : Dev) (p : Packet) (v : PeerProof) : Dev :=
  let peer := p.src
  let absent := match hsOwner p with | some c => (d.ctx c).state == 0 || (d.ctx c).state == 9 | none => false
  if d.rank ≤ peer ∨ absent = true then d
  else match d.net.sessions.find? fun q => q.2.peer == peer && q.2.theirs == hsSender p && q.2.ctx == hsOwner p && q.2.state != 2 with
    | some q => if q.2.state = 0 then d.emitHandshake q.1 q.2.msg else d
    | none =>
      let d := d.uncheckedTime
      if Dev.peerOk f d p v = false then Dev.refuseHandshake f d p
      else if d.addressable peer = false ∨ d.sessionsFull then d
      else
        let key := d.net.nextId
        let s : Session := { ctx := hsOwner p, peer := peer, mine := key, theirs := hsSender p, initiator := false, startAt := d.time, road := d.roadPair peer }
        let s := s.heard p
        Dev.sendHandshake f { d with net := { d.net with nextId := key + 1, sessions := tblSet d.net.sessions key s } } key hsAccept

/-- ACCEPT: verified, and answered by CONFIRM. -/
def Dev.onAccept (f : Fuses) (d : Dev) (p : Packet) (v : PeerProof) : Dev :=
  match d.session (hsPeer p) with
  | none => d
  | some s =>
    if s.state ≠ 0 ∨ s.initiator = false ∨ s.peer ≠ p.src then d
    else if s.stage = hsConfirm then d.emitHandshake (hsPeer p) s.msg
    else
      let d := d.uncheckedTime
      if Dev.peerOk f d p v = false then (Dev.refuseHandshake f d p).eraseSession (hsPeer p)
      else
        let s := { s with theirs := hsSender p }.heard p
        Dev.sendHandshake f (d.setSession (hsPeer p) { s with keys := s.derive 0 s.myNonce s.myKey s.peerNonce s.peerKey }) (hsPeer p) hsConfirm

/-- CONFIRM: verified, the session is OPEN here, and an ACK says so to the initiator. -/
def Dev.onConfirm (f : Fuses) (d : Dev) (p : Packet) (v : PeerProof) : Dev :=
  match d.session (hsPeer p) with
  | none => d
  | some s =>
    if s.initiator ∨ s.peer ≠ p.src then d
    else if s.state = 1 then d.sendAck (hsPeer p) clCtl
    else if s.state ≠ 0 then d
    else if v.sigOk then (d.sessionOpens (hsPeer p) { s with peerNonce := hsNonce p }).sendAck (hsPeer p) clCtl
    else (Dev.refuseHandshake f d p).eraseSession (hsPeer p)

/-- The next epoch begins (R443): the keys it had so far stay for reception. -/
def Session.nextEpoch (s : Session) (time : Nat) : Session :=
  { s with epoch := s.epoch + 1, txEpoch := s.epoch + 1, rekeyAt := time, txnAt := s.txn, retryAt := 0, oldKeys := s.keys, rekeying := false, stage := 0, msg := [] }

/-- REKEY: answered by REKEY_ACK, with the keys of the next epoch. When both sides ask at once, the lower rank's request stands. -/
def Dev.onRekey (f : Fuses) (d : Dev) (p : Packet) (v : PeerProof) : Dev :=
  match d.session (hsPeer p) with
  | none => d
  | some s =>
    if s.state ≠ 1 ∨ s.peer ≠ p.src ∨ (s.rekeying ∧ d.rank < s.peer) then d
    else if s.peerNonce = hsNonce p then d.emitHandshake (hsPeer p) s.msg
    else if v.sigOk = false then Dev.refuseHandshake f d p
    else Dev.sendHandshake f (d.setSession (hsPeer p) ((s.nextEpoch d.time).heard p)) (hsPeer p) hsRekeyAck

/-- REKEY_ACK: the sender of REKEY goes on with the new epoch. -/
def Dev.onRekeyAck (f : Fuses) (d : Dev) (p : Packet) (v : PeerProof) : Dev :=
  match d.session (hsPeer p) with
  | none => d
  | some s =>
    if s.state ≠ 1 ∨ s.peer ≠ p.src ∨ s.rekeying = false then d
    else if v.sigOk then
      let s := (s.nextEpoch d.time).heard p
      d.setSession (hsPeer p) { s with keys := s.derive s.epoch s.myNonce s.myKey s.peerNonce s.peerKey }
    else Dev.refuseHandshake f d p

/-- A handshake ends without success: no session, or, for a rekey, the current epoch and another try after 1 s (R442, R443). -/
def Dev.handshakeFails (d : Dev) (key : Nat) (s : Session) : Dev :=
  if s.state = 0 then d.eraseSession key
  else if s.rekeying then d.setSession key { s with rekeying := false, stage := 0, msg := [], retryAt := d.time + 1000000000 }
  else d

/-- REFUSE: the handshake ends. -/
def Dev.onRefuse (d : Dev) (p : Packet) : Dev :=
  match d.session (hsPeer p) with
  | none => d
  | some s => if s.peer = p.src then d.handshakeFails (hsPeer p) s else d

/-! ### Timers -/

/-- HANDSHAKE_RESEND (R442). -/
def Dev.handshakeResend (d : Dev) (key : Nat) : Dev :=
  match d.session key with
  | none => d
  | some s =>
    if s.stage = 0 ∨ s.state = 2 ∨ d.time < s.lastSent + 1000000 then d
    else if 20 ≤ s.resent then d.handshakeFails key s
    else (d.setSession key { s with resent := s.resent + 1, lastSent := d.time }).emitHandshake key s.msg

/-- REKEY_TIMER (R443): 2^36 packets, REKEY_INTERVAL, or 1 s after a rekey that failed. -/
def Dev.rekeyTimer (f : Fuses) (d : Dev) (key : Nat) : Dev :=
  match d.session key with
  | none => d
  | some s =>
    let due := if s.retryAt = 0 then decide (2 ^ 36 ≤ s.txn - s.txnAt) || decide (s.rekeyAt + d.obj 0x6000 0x0E * 1000000000 ≤ d.time) else decide (s.retryAt ≤ d.time)
    if s.state = 1 ∧ s.rekeying = false ∧ due then Dev.sendHandshake f (d.setSession key { s with rekeying := true, retryAt := 0 }) key hsRekey else d

/-! ### The rows -/

/-- Work of SEC that waits while it restarts (R342): the command is kept and done when the restart ends. -/
def Dev.bySec (d : Dev) (i : Instr) (f : Dev → Dev) : Dev :=
  if d.restarting 0 then { d with sec := { d.sec with waiting := d.sec.waiting ++ [i] } } else f d

/-- OFFER (R439, R440). -/
def execOffer (p : Packet) (v : PeerProof) (s : State) : Host.Outcome State Fault Refusal :=
  onDevF (wellFormed (.offer p v)) (fun f d => d.bySec (.offer p v) fun d => d.handshake p hsOffer fun d => Dev.onOffer f d p v) s

/-- ACCEPT (R440). -/
def execAccept (p : Packet) (v : PeerProof) (s : State) : Host.Outcome State Fault Refusal :=
  onDevF (wellFormed (.accept p v)) (fun f d => d.bySec (.accept p v) fun d => d.handshake p hsAccept fun d => Dev.onAccept f d p v) s

/-- REKEY (R443). -/
def execRekey (p : Packet) (v : PeerProof) (s : State) : Host.Outcome State Fault Refusal :=
  onDevF (wellFormed (.rekey p v)) (fun f d => d.bySec (.rekey p v) fun d => d.handshake p hsRekey fun d => Dev.onRekey f d p v) s

/-- REKEY_ACK (R443). -/
def execRekeyAck (p : Packet) (v : PeerProof) (s : State) : Host.Outcome State Fault Refusal :=
  onDevF (wellFormed (.rekeyAck p v)) (fun f d => d.bySec (.rekeyAck p v) fun d => d.handshake p hsRekeyAck fun d => Dev.onRekeyAck f d p v) s

/-- REFUSE (R440). -/
def execRefuse (p : Packet) (s : State) : Host.Outcome State Fault Refusal :=
  onDev (wellFormed (.refuse p)) (fun d => d.handshake p hsRefuse fun d => d.onRefuse p) s

/-- HANDSHAKE_RESEND (R442). -/
def execHandshakeResend (sess : Nat) (s : State) : Host.Outcome State Fault Refusal :=
  onDev (wellFormed (.handshakeResend sess)) (fun d => d.handshakeResend sess) s

/-- REKEY_TIMER (R443). -/
def execRekeyTimer (sess : Nat) (s : State) : Host.Outcome State Fault Refusal :=
  onDevF (wellFormed (.rekeyTimer sess)) (fun f d => if d.restarting 0 then d else Dev.rekeyTimer f d sess) s

end Sys2Proof.Machine
end

