-- ==== Sys2Proof/Machine/Rings.lean ====
section
/-! DEFINITION. Rings (R343, R346 to R354): the doorbells, the dockets at a ring's head, completions and interrupts, and the dockets
NOP and CREATE. -/

namespace Sys2Proof.Machine

/-! ### Requests of the companion -/

/-- A wake from SLEEP (R502, R506): the module is in RUN again, and its ports are discovered again. WAKE_AFTER is cleared where it fired. -/
def Dev.wakeSleep (d : Dev) (cause : Nat) : Dev :=
  let d := (d.setObj 0x2000 0x20 0).setObj 0x2000 0x24 cause
  let d := if cause = 2 then d.setObj 0x2000 0x23 0 else d
  { d with pwr := { d.pwr with offKind := 0, wakeLatched := false, rails := 6 }, net := { d.net with halves := d.net.halves.map fun p => (p.1, { p.2 with since := d.time }) } }

/-- Whether a request returns a line the module recalled: no request that waits holds it back (R190, R191). -/
def Dev.answersRecall (d : Dev) (i : Instr) : Bool :=
  match i with
  | .kclWriteback a _ _ => tblFind d.host.snoop (d.canon a / 64) == some .recalled
  | _ => false

/-- A KCL request arrives (R189, R193, R495, R502): it wakes the module from SLEEP, and waits before READY, while the link retrains, or behind earlier ones. -/
def Dev.byLink (d : Dev) (i : Instr) (f : Dev → Dev) : Dev :=
  if d.host.linkUp = false ∨ 3 ≤ d.pwr.offKind then d
  else
    let d := (if d.pwr.offKind = 2 ∧ d.entering.isNone then d.wakeSleep 4 else d).flitIn
    if d.obj 0x2000 0x28 ≠ 8 ∨ d.host.retraining ∨ (d.host.held ≠ [] ∧ d.answersRecall i = false) then { d with host := { d.host with held := d.host.held ++ [i] } } else f d

/-- A request that safe state refuses with ADDRESS (R407). -/
def Dev.unlessSafe (d : Dev) (f : Dev → Dev) : Dev := if d.safe then d.send (.kclReply stAddress [] false) else f d

/-- A KCL request other than READ_UNCACHED. -/
def Dev.byKcl (d : Dev) (i : Instr) (f : Dev → Dev) : Dev := d.byLink i fun d => d.unlessSafe f

/-! ### The objects of a ring -/

def Dev.sqBase (d : Dev) (c : Nat) : Nat := d.obj (0xD100 + c) 1
def Dev.sqDepth (d : Dev) (c : Nat) : Nat := d.obj (0xD100 + c) 2
def Dev.cqBase (d : Dev) (c : Nat) : Nat := d.obj (0xD100 + c) 3
def Dev.cqDepth (d : Dev) (c : Nat) : Nat := d.obj (0xD100 + c) 4
def Dev.cqTail (d : Dev) (c : Nat) : Nat := d.obj (0xD100 + c) 6
def Dev.ringState (d : Dev) (c : Nat) : Nat := d.obj (0xD100 + c) 7
def Dev.setRing (d : Dev) (c v : Nat) : Dev := d.setObj (0xD100 + c) 7 v

/-- Whether a context keeps its dockets from its restart point on (R347, R362): it has a mirrored set, or is a standby. -/
def Dev.keepsDockets (d : Dev) (c : Nat) : Bool := (d.ctx c).state == 10 || (d.maskSets c 0xFFFF).any fun p => p.2.mirror

/-- SQ_HEAD (R347). -/
def Dev.sqHead (d : Dev) (c : Nat) : Nat := if d.keepsDockets c then (d.ctx c).restart else (d.ctx c).taken

/-! ### Completions (R351, R353, R354) -/

/-- Whether the completion ring has room (R353). -/
def Dev.cqRoom (d : Dev) (c : Nat) : Bool := decide ((d.cqTail c + 2 ^ 32 - (d.ctx c).cqHead) % 2 ^ 32 < d.cqDepth c)

/-- The slot of the next completion. -/
def Dev.cqSlot (d : Dev) (c : Nat) : Nat := d.cqBase c + 32 * (d.cqTail c % d.cqDepth c)

/-- A completion written to its slot, with its PHASE. -/
def Dev.writeCompletion (d : Dev) (c w : Nat) : Dev :=
  let j := d.cqTail c
  let a := d.cqSlot c
  let d := match d.access .firmware true a 32 with | some st => d.refused st | none => d.write a (natLe 32 (w + j / d.cqDepth c % 2)) false
  d.setObj (0xD100 + c) 6 ((j + 1) % 2 ^ 32)

/-- The interrupt of a ring whose completions were written, at most one in every INT_HOLDOFF (R354). -/
def Dev.ringInterrupt (d : Dev) (c : Nat) : Dev :=
  let x := d.ctx c
  let free := match x.intAt with | some t => decide (t + d.obj 0xD000 8 ≤ d.time) | none => true
  if x.intDue && free then (d.send (.interrupt c)).modCtx c fun x => { x with intDue := false, intAt := some d.time } else d

/-- Waiting completions written as far as the ring has room; an emptied queue unblocks the ring. -/
def Dev.flushGo (c : Nat) : Nat → Dev → Dev
  | 0, d => d
  | fuel + 1, d =>
    match (d.ctx c).waiting with
    | [] => d
    | w :: ws =>
      if d.cqRoom c = false then d
      else if d.ownedIn (d.cqSlot c) 32 then d.recallOwned (d.cqSlot c) 32
      else Dev.flushGo c fuel ((d.writeCompletion c w).modCtx c fun x => { x with waiting := ws, intDue := true })

def Dev.flush (d : Dev) (c : Nat) : Dev :=
  let d := Dev.flushGo c (d.ctx c).waiting.length d
  let d := if d.ringState c = 3 ∧ (d.ctx c).waiting = [] then d.setRing c 1 else if d.ringState c = 1 ∧ 64 < (d.ctx c).waiting.length then d.setRing c 3 else d
  d.ringInterrupt c

/-- A completion made for a ring (R353). An unregistered ring takes none. -/
def Dev.post (d : Dev) (c w : Nat) : Dev := if d.ringState c = 0 then d else (d.modCtx c fun x => { x with waiting := x.waiting ++ [w] }).flush c

/-- NOPs at the head of the dockets under way complete: every docket before them has (R349). -/
def Dev.nops (c : Nat) : Nat → Dev → Dev
  | 0, d => d
  | fuel + 1, d =>
    match (d.ctx c).runs with
    | r :: rs =>
      if r.kind = 0 then
        let again := (d.ctx c).replayed.contains r.seq
        let d := d.modCtx c fun x => { x with runs := rs, doneSeqs := if d.keepsDockets c then x.doneSeqs ++ [r.seq] else [] }
        Dev.nops c fuel (d.post c (completionWord c 0 r.tag d.time stOK 0xFFFF 0xFFFF 0 again))
      else d
    | [] => d

/-- A docket under way completes (R351), and NOPs that waited for it with it. -/
def Dev.docketDone (d : Dev) (c : Nat) (r : DocketRun) (status endpoint index detail : Nat) : Dev :=
  let again := (d.ctx c).replayed.contains r.seq
  let d := d.modCtx c fun x => { x with runs := x.runs.filter fun q => q.seq != r.seq, doneSeqs := if d.keepsDockets c then x.doneSeqs ++ [r.seq] else [] }
  let d := d.post c (completionWord c r.kind r.tag d.time status endpoint index detail again)
  Dev.nops c (d.ctx c).runs.length d

/-! ### Dockets (R348, R349) -/

def dkKind (w : Nat) : Nat := field w 7 0
def dkStep (w : Nat) : Bool := bit w 8
def dkFence (w : Nat) : Bool := bit w 10
def dkTag (w : Nat) : Nat := field w 127 64
def dkArg (w : Nat) : Nat := field w 175 128
def dkEntries (w : Nat) : Nat := field w 191 176

/-- Whether a docket is malformed. -/
def dkMalformed (w : Nat) : Bool :=
  field w 511 192 != 0 || field w 63 11 != 0 || bit w 9 || decide (7 < dkKind w) || dkArg w % 128 != 0 ||
    (if dkKind w = 3 then dkEntries w == 0 || decide (88 < dkEntries w) else dkEntries w != 0) ||
    (dkKind w != 2 && dkKind w != 3 && dkArg w != 0)

/-- The states in which a kind is accepted. -/
def dkAccepts (kind state : Nat) : Bool :=
  match kind with
  | 0 => true
  | 1 => state == 0
  | 2 => state == 1
  | 3 => state == 3 || state == 4 || state == 5
  | 4 => state == 3 || state == 4 || state == 5
  | 5 => state == 6
  | 6 => state != 0
  | 7 => state == 1 || state == 3 || state == 6 || state == 9 || state == 11
  | _ => false

/-- The address of the docket at a ring's head. -/
def Dev.headAt (d : Dev) (c : Nat) : Nat := d.sqBase c + 64 * ((d.ctx c).taken % d.sqDepth c)

/-- The dockets between those taken and the tail: both are counted from SQ_HEAD, to which a resumed ring sets the tail back (R347). -/
def Dev.docketsLeft (d : Dev) (c : Nat) : Nat :=
  let far := fun (j : Nat) => (j + 2 ^ 32 - d.sqHead c) % 2 ^ 32
  far (d.ctx c).sqTail - far (d.ctx c).taken

/-- Whether the docket at a ring's head may be read: none on a ring that is not active (R347, R353), after host loss (R365), in safe state or asleep,
for a standby (R362), while a takeover is reconciled (R334), or where its slot may not be read (R186, log 94). -/
def Dev.headReadable (d : Dev) (c : Nat) : Bool :=
  let x := d.ctx c
  d.ringState c == 1 && d.docketsLeft c != 0 && d.obj 0xD000 9 == 0 && !d.safe && d.pwr.offKind == 0 && x.state != 10 && x.awaiting.isEmpty &&
    (d.access .firmware false (d.headAt c) 64).isNone

/-- A docket of a ring, by its place. -/
def Dev.docketAt (d : Dev) (c j : Nat) : Nat := leNat (d.read (d.sqBase c + 64 * (j % d.sqDepth c)) 64)

/-- The docket at a ring's head, when one stands there that may start now: not one whose line the companion owns (R191), one before the step entry that
a standby seeks (R335), or one behind a FENCE. -/
def Dev.headDocket (d : Dev) (c : Nat) : Option Nat :=
  let x := d.ctx c
  if d.headReadable c ∧ d.ownedIn (d.headAt c) 64 = false then
    let w := d.docketAt c x.taken
    if (dkFence w ∧ x.runs ≠ []) ∨ (x.seekStart ∧ dkStep w = false) then none else some w
  else none

/-- A standby that woke passes over the dockets before the first step entry (R335). -/
def Dev.seekGo (c : Nat) : Nat → Dev → Dev
  | 0, d => d
  | fuel + 1, d =>
    let x := d.ctx c
    if x.seekStart ∧ d.headReadable c ∧ d.ownedIn (d.headAt c) 64 = false then
      if dkStep (d.docketAt c x.taken) then d.modCtx c fun x => { x with seekStart := false }
      else
        let next := (x.taken + 1) % 2 ^ 32
        Dev.seekGo c fuel (d.modCtx c fun x => { x with taken := next, restart := next })
    else d

def Dev.seekHead (d : Dev) (c : Nat) : Dev := Dev.seekGo c (d.docketsLeft c) d

/-- The line of a ring's head recalled where the companion owns it (R191). -/
def Dev.headRecalled (d : Dev) (c : Nat) : Dev := if d.headReadable c then d.recallOwned (d.headAt c) 64 else d

/-- Whether SCH can decide: it neither restarts nor overruns its budget (R342, R363). -/
def Dev.schReady (d : Dev) : Bool := !(d.restarting 2) && d.obj 0xD000 4 == 0

/-- The docket at a ring's head is taken (R353): the ring moves on; a restart point being sought is the first step entry (R318). -/
def Ctx.takeHead (x : Ctx) (w : Nat) : Ctx :=
  let next := (x.taken + 1) % 2 ^ 32
  let found := x.seekStep && dkStep w
  { x with taken := next, seekStep := x.seekStep && !(dkStep w), restart := if found then x.taken else if x.seekStep then next else x.restart,
           runs := x.runs ++ [{ seq := x.taken, kind := dkKind w, tag := dkTag w }] }

/-- The run of the docket just taken. -/
def Dev.lastRun (d : Dev) (c : Nat) : DocketRun := (d.ctx c).runs.getLastD { seq := 0, kind := 0, tag := 0 }

/-- A docket taken off the head of its ring and started; its poison, defects and refusals complete it at once (R349, R421). -/
def Dev.startDocket (d : Dev) (c w : Nat) (run : DocketRun → Dev → Dev) : Dev :=
  let a := d.headAt c
  let d := (d.leaveIdle).modCtx c fun x => x.takeHead w
  let r := d.lastRun c
  if d.poisonIn a 64 then d.docketDone c r stPoison 0xFFFF 0xFFFF 0
  else if dkMalformed w then d.docketDone c r stMalformed 0xFFFF 0xFFFF 0
  else if dkAccepts (dkKind w) (d.ctx c).state then run r d
  else d.docketDone c r stState 0xFFFF 0xFFFF 0

/-- SCH is told to start the docket of one kind at a ring's head. Kinds R349 does not list go with NOP. -/
def Dev.docketHead (d : Dev) (c : Nat) (sel : Nat → Bool) (run : Nat → DocketRun → Dev → Dev) : Dev :=
  match d.headDocket c with
  | none => d.headRecalled c
  | some w => if d.schReady && sel (dkKind w) then d.startDocket c w (run w) else d

/-- The same once a standby that woke has sought its first step entry. -/
def Dev.docket (d : Dev) (c : Nat) (sel : Nat → Bool) (run : Nat → DocketRun → Dev → Dev) : Dev := (d.seekHead c).docketHead c sel run

/-! ### NOP and CREATE -/

/-- NOP: it completes when every docket before it has. -/
def Dev.runNop (d : Dev) (c : Nat) : Dev := Dev.nops c (d.ctx c).runs.length d

/-- CREATE takes the key slot, and the context is CREATED. What the ring holds stays. -/
def Dev.create (d : Dev) (c : Nat) (r : DocketRun) : Dev :=
  let d := { d with sec := { d.sec with slots := tblSet d.sec.slots c d.fresh }, fresh := d.fresh + 1 }
  (d.modCtx c fun x => { x with state := 1 }).docketDone c r stOK 0xFFFF 0xFFFF 0

/-- NOP (R349). -/
def execDocketNop (ctx : Nat) (s : State) : Host.Outcome State Fault Refusal :=
  onDev (wellFormed (.docketNop ctx)) (fun d => d.docket ctx (fun k => k == 0 || decide (7 < k)) fun _ _ d => d.runNop ctx) s

/-- CREATE (R349). It waits for SEC, which makes the key (R342). -/
def execDocketCreate (ctx : Nat) (s : State) : Host.Outcome State Fault Refusal :=
  onDev (wellFormed (.docketCreate ctx)) (fun d => if d.restarting 0 then d else d.docket ctx (fun k => k == 1) fun _ r d => d.create ctx r) s

/-! ### Doorbells (R343, R347) -/

/-- A submission doorbell: the new tail, or an overrun. -/
def Dev.newTail (d : Dev) (c v : Nat) : Dev :=
  let d := d.leaveIdle
  if 2 ^ 32 ≤ v then d.send (.kclReply stAddress [] false)
  else if d.ringState c = 0 ∨ d.ringState c = 2 then d
  else if d.sqDepth c < (v + 2 ^ 32 - d.sqHead c) % 2 ^ 32 then
    ((d.setRing c 2).post c (completionWord c 0 0 d.time stOverrun 0xFFFF 0xFFFF 0 false)).fault 0x0601 (some c) 0
  else d.modCtx c fun x => { x with sqTail := v }

/-- SUBMISSION_TAIL (R347). -/
def execSubmissionTail (ctx value : Nat) (s : State) : Host.Outcome State Fault Refusal :=
  onDev (wellFormed (.submissionTail ctx value)) (fun d => d.byKcl (.submissionTail ctx value) fun d => d.newTail ctx value) s

/-- A completion head write: room for completions that waited. -/
def Dev.newHead (d : Dev) (c v : Nat) : Dev :=
  let d := d.leaveIdle
  if 2 ^ 32 ≤ v then d.send (.kclReply stAddress [] false)
  else if d.ringState c = 0 then d
  else (d.modCtx c fun x => { x with cqHead := v }).flush c

/-- COMPLETION_HEAD (R353). -/
def execCompletionHead (ctx value : Nat) (s : State) : Host.Outcome State Fault Refusal :=
  onDev (wellFormed (.completionHead ctx value)) (fun d => d.byKcl (.completionHead ctx value) fun d => d.newHead ctx value) s

end Sys2Proof.Machine
end

