-- ==== Sys2Proof/Machine/Admission.lean ====
section
/-! DEFINITION. Admission (R355 to R357): the context descriptor, the tables of barriers (R209, R210), conveyors (R163, R164), groups
(R282, R283) and state sets (R307, R308), the sessions and digests of a gang (R250), and the mooring standby (R329). -/

namespace Sys2Proof.Machine

/-! ### The descriptor (R355) -/

def cdPrio (w : Nat) : Nat := field w 1 0
def cdPilotable (w : Nat) : Bool := bit w 2
def cdEval (w : Nat) : Bool := bit w 3
def cdRank (w : Nat) : Nat := field w 31 16
def cdSize (w : Nat) : Nat := field w 47 32
def cdMembers (w : Nat) : Nat := field w 239 192
def cdBars (w : Nat) : Nat := field w 303 256
def cdBarLen (w : Nat) : Nat := field w 319 304
def cdConvs (w : Nat) : Nat := field w 367 320
def cdConvLen (w : Nat) : Nat := field w 383 368
def cdGroups (w : Nat) : Nat := field w 431 384
def cdGroupLen (w : Nat) : Nat := field w 447 432
def cdSets (w : Nat) : Nat := field w 495 448
def cdSetLen (w : Nat) : Nat := field w 511 496
def cdSaveBase (w : Nat) : Nat := field w 559 512
def cdSaveSize (w : Nat) : Nat := field w 639 576

/-- The cores a descriptor names. -/
def cdCores (w : Nat) : List CoreRef :=
  (List.range 128).filterMap fun b => if bit w (64 + b) then some ⟨b / 16, b % 16⟩ else none

/-- The fields of a descriptor; every other bit is reserved. -/
def cdFields : List (Nat × Nat) :=
  [(3, 0), (31, 16), (47, 32), (191, 64), (239, 192), (303, 256), (319, 304), (367, 320), (383, 368), (431, 384), (447, 432), (495, 448), (511, 496),
   (559, 512), (639, 576)]

/-- Whether a range lies wholly in one enabled region that satisfies a test. -/
def Dev.inRegion (d : Dev) (a n : Nat) (ok : Region → Bool) : Bool :=
  match d.regionAt a with
  | some r => decide (a + n ≤ r.base + r.size) && ok r
  | none => false

/-- Whether a core of a descriptor may be named: a logical core with a physical one behind it, or, for an evaluation context, a slot core
whose slot is set (R327, R357, R420). -/
def Dev.coreOk (d : Dev) (w : Nat) (c : CoreRef) : Bool :=
  if cdEval w then c.k == 10 && decide (d.evalSlot c.cl ≤ 10) && d.phys c != 0xFF else decide (c.k ≤ 9) && d.phys c != 0xFF

/-- Whether a descriptor passes the checks that need no table (R355 to R357). -/
def Dev.descriptorOk (d : Dev) (ctx w : Nat) : Bool :=
  let cores := cdCores w
  onlyFields w cdFields && (cores.all fun c => decide (c.k ≤ 10)) && decide (cdBarLen w ≤ 1024) && decide (cdConvLen w ≤ 4096) && decide (cdGroupLen w ≤ 256) &&
    decide (cdSetLen w ≤ 16) && decide (1 ≤ cdSize w) && decide (cdSize w ≤ 16384) && decide (cdRank w < cdSize w) && (cdSize w == 1 || cdMembers w != 0) &&
    (!(cdEval w) || cdSize w == 1) && cdSaveSize w % 2097152 == 0 && decide (8388608 * cores.length + 4194304 ≤ cdSaveSize w) &&
    d.inRegion (cdSaveBase w) (cdSaveSize w) (fun r => r.owner == ctx) && cores.all (d.coreOk w)

/-! ### Reading tables -/

/-- Bytes read by SCH: the refusal of the place, POISON, or the bytes. -/
def Dev.fwRead (d : Dev) (a n : Nat) : Nat ⊕ List Byte :=
  if n = 0 then .inr []
  else match d.access .firmware false a n with
    | some st => .inl st
    | none => if d.poisonIn a n then .inl stPoison else .inr (d.read a n)

/-- A table of entries of `size` bytes each, as numbers. -/
def Dev.fwTable (d : Dev) (a len size : Nat) : Nat ⊕ List Nat :=
  match d.fwRead a (len * size) with
  | .inl st => .inl st
  | .inr bs => .inr ((chunks size bs).map leNat)

/-- The member lists of a group table's valid entries (R282). -/
def Dev.fwGroups (d : Dev) : List Nat → Nat ⊕ List (Nat × List Nat)
  | [] => .inr []
  | g :: gs =>
    match (if bit g 0 then d.fwTable (field g 127 80) (field g 79 64) 2 else .inr []), d.fwGroups gs with
    | .inl st, _ => .inl st
    | _, .inl st => .inl st
    | .inr l, .inr ls => .inr ((g, l) :: ls)

/-- Every table a descriptor names. With one member MEMBERS may be 0. -/
def Dev.fwTables (d : Dev) (ctx w : Nat) : Nat ⊕ AdmitTables :=
  match (if cdMembers w = 0 then .inr [d.rank] else d.fwTable (cdMembers w) (cdSize w) 2), d.fwTable (cdBars w) (cdBarLen w) 16,
      d.fwTable (cdConvs w) (cdConvLen w) 32, d.fwTable (cdGroups w) (cdGroupLen w) 16, d.fwTable (cdSets w) (cdSetLen w) 32 with
  | .inr ms, .inr bs, .inr cs, .inr gs, .inr ss =>
    match d.fwGroups gs with
    | .inl st => .inl st
    | .inr gl => .inr { desc := w, members := ms, bars := bs, convs := cs, groups := gl, sets := ss,
                        regions := (d.regions.filter fun p => p.2.enabled && p.2.owner == ctx).map fun p => (p.2.base, p.2.size, p.2.attr) }
  | .inl st, _, _, _, _ => .inl st
  | _, .inl st, _, _, _ => .inl st
  | _, _, .inl st, _, _ => .inl st
  | _, _, _, .inl st, _ => .inl st
  | _, _, _, _, .inl st => .inl st

/-! ### Entries -/

/-- A barrier table entry (R209). -/
def barEntryOk (size e : Nat) : Bool :=
  onlyFields e [(2, 0), (31, 16), (45, 32)] && (!(bit e 0) || (field e 31 16 != 0 && (bit e 1 || decide (field e 45 32 < size))))
def barOf (own e : Nat) : Barrier :=
  { home := if bit e 1 then own else field e 45 32, count := field e 31 16, gangpoint := bit e 2, fast := bit e 1 }

/-- A conveyor table entry (R163, R164). `cores` is the number of cores a cluster shows: 11 to an evaluation context. -/
def convEntryOk (cores : Nat) (mids : List Nat) (e : Nat) : Bool :=
  let depth := field e 159 144
  let slot := field e 143 128
  let cons := field e 63 48
  let prod := field e 47 32
  let quay := bit e 192
  onlyFields e [(192, 192), (191, 128), (63, 32), (0, 0)] &&
    (!(bit e 0) ||
      (decide (2 ≤ depth) && decide (depth ≤ 4096) && slot % 8 == 0 && decide (16 ≤ slot) && decide (slot ≤ 65528) && field e 191 160 % 64 == 0 &&
        cons % 16 == 0 && prod % 16 == 0 && mids.contains (epMid cons) && mids.contains (epMid prod) && decide ((epCore prod).cl < 8) && decide ((epCore cons).cl < 8) &&
        decide ((epCore prod).k < cores) && (if quay then (epCore cons).k == 15 || decide ((epCore cons).k < cores) else decide ((epCore cons).k < cores)) &&
        decide (field e 191 160 + depth * slot ≤ if quay then 6291456 else holdSize)))
def convOf (e : Nat) : Conveyor :=
  { quay := bit e 192, ring := field e 191 160, depth := field e 159 144, slot := field e 143 128, cons := field e 63 48, prod := field e 47 32, credits := field e 159 144 }

/-- The memory a ring lies in: a module's quay of a cluster, or a core's hold. -/
def Conveyor.where_ (v : Conveyor) : Nat := if v.quay then v.cons / 256 * 256 + 0xF0 else v.cons
def Conveyor.clash (v u : Conveyor) : Bool :=
  v.where_ == u.where_ && decide (v.ring < u.ring + u.depth * u.slot) && decide (u.ring < v.ring + v.depth * v.slot)

/-- Whether no two elements of a list clash. -/
def pairwiseFree {α : Type} (f : α → α → Bool) : List α → Bool
  | [] => true
  | a :: as => !(as.any (f a)) && pairwiseFree f as

/-- Whether the rings and the numbers of conveyors of each core keep R164. -/
def convTableOk (vs : List Conveyor) : Bool :=
  pairwiseFree Conveyor.clash vs && vs.all fun v =>
    decide ((vs.filter fun u => u.prod == v.prod).length ≤ 64) && ((epCore v.cons).k == 15 || decide ((vs.filter fun u => u.cons == v.cons).length ≤ 64))

/-- A group table entry with its list (R282, R283). -/
def groupEntryOk (cores size : Nat) (p : Nat × List Nat) : Bool :=
  let e := p.1
  onlyFields e [(2, 0), (127, 40)] &&
    (!(bit e 0) ||
      (decide (field e 2 1 ≤ 1) && decide (1 ≤ field e 79 64) && decide (field e 79 64 ≤ 16384) && decide (field e 63 48 < field e 79 64) &&
        decide (field e 47 44 < 8) && decide (field e 43 40 < cores) && (p.2.all fun r => decide (r < size)) && p.2.eraseDups.length == p.2.length))
def groupOf (p : Nat × List Nat) : Group :=
  { members := p.2, root := field p.1 63 48, driver := ⟨field p.1 47 44, field p.1 43 40⟩, basinFirst := field p.1 2 1 == 1 }

/-- A state-set table entry (R307). -/
def setOf (e : Nat) : StateSet :=
  { view := field e 207 160, bank0 := field e 111 64, bank1 := field e 159 112, size := field e 63 24, mirror := bit e 3, teacher := field e 2 1 == 1 }

/-- Whether an entry of the state-set table keeps R307 and R308, the overlap of banks aside. -/
def Dev.setEntryOk (d : Dev) (ctx : Nat) (cores : List CoreRef) (e : Nat) : Bool :=
  let x := setOf e
  let own := fun (r : Region) => r.owner == ctx || (x.teacher && attrShare r.attr)
  onlyFields e [(3, 0), (63, 24), (207, 64)] &&
    (!(bit e 0) ||
      (decide (field e 2 1 ≤ 1) && x.size % 2097152 == 0 && x.bank0 % 2097152 == 0 && d.inRegion x.bank0 x.size own &&
        (!x.mirror || d.obj 0xA000 2 != 0) &&
        (if x.teacher then x.bank1 == 0 && x.view == 0
         else x.bank1 % 2097152 == 0 && x.view % 32 == 0 && d.inRegion x.bank1 x.size own &&
           cores.any fun c => decide (holdBase c ≤ x.view) && decide (x.view + 32 ≤ holdBase c + holdSize))))

/-- The banks of a set, and whether two of them overlap. -/
def StateSet.banks (x : StateSet) : List (Nat × Nat) := if x.teacher then [(x.bank0, x.size)] else [(x.bank0, x.size), (x.bank1, x.size)]
def banksMeet (a b : Nat × Nat) : Bool := decide (a.1 < b.1 + b.2) && decide (b.1 < a.1 + a.2)

/-! ### The tables as a whole -/

/-- The valid entries of a table with their numbers. -/
def validOf {α : Type} (valid : α → Bool) (es : List α) : List (Nat × α) :=
  (List.range es.length).filterMap fun i => match es[i]? with | some e => if valid e then some (i, e) else none | none => none

def tabBars (t : AdmitTables) : List (Nat × Barrier) := (validOf (fun e => bit e 0) t.bars).map fun p => (p.1, barOf (cdRank t.desc) p.2)
def tabConvs (t : AdmitTables) : List (Nat × Conveyor) := (validOf (fun e => bit e 0) t.convs).map fun p => (p.1, convOf p.2)
def tabGroups (t : AdmitTables) : List (Nat × Group) := (validOf (fun (e : Nat × List Nat) => bit e.1 0) t.groups).map fun p => (p.1, groupOf p.2)
def tabSets (t : AdmitTables) : List (Nat × StateSet) := (validOf (fun e => bit e 0) t.sets).map fun p => (p.1, setOf p.2)

/-- The MIDs of the gang's members in this basin. -/
def Dev.gangMids (d : Dev) (t : AdmitTables) : List Nat := (t.members.filter fun r => d.inBasin r).map fun r => r % 8

/-- BARRIERS_IN_USE: the objects of this module's store (R208). -/
def Dev.storeUse (d : Dev) : Nat := (d.cmp.bars.filter fun p => p.2.fast || p.2.home == (d.ctx (p.1 / 1024)).gangRank).length

/-- Whether the tables keep the rules that end in STATE (R164, R210, R283, R308, R355). -/
def Dev.tablesOk (d : Dev) (ctx : Nat) (t : AdmitTables) : Bool :=
  let w := t.desc
  let own := cdRank w
  let cores := if cdEval w then 11 else 10
  let bars := (tabBars t).map Prod.snd
  (t.members.all fun r => decide (r < 16384)) && nth 0xFFFF t.members own == d.rank &&
    t.bars.all (barEntryOk (cdSize w)) && decide ((bars.filter fun b => b.gangpoint).length ≤ 1) && decide ((bars.filter fun b => b.fast).length ≤ 1) &&
    decide (d.storeUse + (bars.filter fun b => b.fast || b.home == own).length ≤ 8192) &&
    t.convs.all (convEntryOk cores (d.gangMids t)) && convTableOk ((tabConvs t).map Prod.snd) && t.groups.all (groupEntryOk cores (cdSize w)) &&
    t.sets.all (d.setEntryOk ctx (cdCores w)) && pairwiseFree banksMeet (((tabSets t).map fun p => p.2.banks).flatten)

/-! ### Resources held elsewhere (R475, R476) -/

def holderCtx (c : Nat) : Nat := 2 ^ 28 + c
def holderFeature (idx sub : Nat) : Nat := 2 * 2 ^ 28 + idx * 2 ^ 8 + sub
def holderBarrier (c n : Nat) : Nat := 3 * 2 ^ 28 + c * 2 ^ 16 + n
def holderRegion (r : Nat) : Nat := 4 * 2 ^ 28 + r

/-- Whether CADENCE_SOURCE holds the timer (1) or SYNC_IO (2). -/
def Dev.cadenceHolds (d : Dev) (v : Nat) : Bool := d.obj 0xD300 1 == v || bit d.cmp.cadence (v - 1)

/-- The holder of SYNC_IO, none when it is free. -/
def Dev.syncHolder (d : Dev) : Option Nat :=
  if d.cadenceHolds 2 then some (holderFeature 0xD300 1)
  else (d.fastBar).map fun p => holderBarrier p.1 p.2

/-- The clusters whose retention part a context's rings on this module need (R169). -/
def Dev.ringClusters (d : Dev) (t : AdmitTables) : List Nat :=
  (((tabConvs t).filter fun p => p.2.quay && epMid p.2.cons == d.mid).map fun p => (epCore p.2.cons).cl).eraseDups

/-- The evaluation context resident on the slot of a cluster, named as holder; the slot itself where there is none. -/
def Dev.slotHolder (d : Dev) (cl : Nat) : Nat :=
  match d.ctxs.find? fun p => p.2.resident && p.2.evaluation && p.2.cores.contains (11 * cl + 10) with
  | some p => holderCtx p.1
  | none => holderFeature (0xA600 + cl) 1

/-- The first resource of a context that another holds (R169, R210, R327). -/
def Dev.admitConflict (d : Dev) (t : AdmitTables) : Option Nat :=
  let fast : Bool := (tabBars t).any fun p => p.2.fast
  match (if fast then d.syncHolder else none) with
  | some h => some h
  | none =>
    match (d.ringClusters t).find? fun cl => d.obj (0x8320 + cl) 1 == 1 with
    | some cl => some (holderFeature (0x8320 + cl) 1)
    | none =>
      if cdEval t.desc then none
      else ((cdCores t.desc).find? fun c => d.evalSlot c.cl == c.k).map fun c => d.slotHolder c.cl

/-- The members of groups that cannot be reached, by gang rank (R283). -/
def Dev.unreachedMember (d : Dev) (t : AdmitTables) : Option Nat :=
  (((tabGroups t).map fun p => p.2.members).flatten).find? fun g => g != cdRank t.desc && !(d.reachable (nth 0 t.members g))

/-! ### What an admitted context puts in place -/

/-- The keys of a context's entries replaced in a table of entries numbered `per` to a context. -/
def tblPut {α : Type} (per ctx : Nat) (t : Tbl α) (es : List (Nat × α)) : Tbl α :=
  es.foldl (fun t e => tblSet t (per * ctx + e.1) e.2) (t.filter fun p => p.1 / per != ctx)

/-- The tables of a context in place, all barriers at generation 0, all credits at DEPTH. -/
def Dev.placeTables (d : Dev) (ctx : Nat) (t : AdmitTables) : Dev :=
  { d with cmp := { d.cmp with bars := tblPut 1024 ctx d.cmp.bars (tabBars t), convs := tblPut 4096 ctx d.cmp.convs (tabConvs t),
                               groups := tblPut 256 ctx d.cmp.groups (tabGroups t), sets := tblPut 16 ctx d.cmp.sets (tabSets t) } }

/-- The context's own fields, from its descriptor. -/
def Ctx.describe (x : Ctx) (t : AdmitTables) : Ctx :=
  let w := t.desc
  { x with prio := cdPrio w, pilotable := cdPilotable w, evaluation := cdEval w, gangSize := cdSize w, gangRank := cdRank w, members := t.members,
           cores := (cdCores w).map CoreRef.key, saveBase := cdSaveBase w, saveSize := cdSaveSize w, barLen := cdBarLen w, convLen := cdConvLen w,
           groupLen := cdGroupLen w, setLen := cdSetLen w }

/-- The outcome of a mirrored one. -/
def MirrorDue.outcome : MirrorDue → OutcomeF
  | .standby o => o
  | .reconcile _ o => o
  | .pair o => o

/-- The tables of a context leave (R227), and SYNC_IO with its fast barrier. -/
def Dev.clearTables (d : Dev) (ctx : Nat) : Dev :=
  let d := match d.fastBar with | some (c, _) => if c = ctx then d.setObj 0x9000 7 0xFFFFFFFF else d | none => d
  { d with cmp := { d.cmp with bars := d.cmp.bars.filter fun p => p.1 / 1024 != ctx, convs := d.cmp.convs.filter fun p => p.1 / 4096 != ctx,
                               groups := d.cmp.groups.filter fun p => p.1 / 256 != ctx, sets := d.cmp.sets.filter fun p => p.1 / 16 != ctx,
                               arrivals := d.cmp.arrivals.filter fun a => a.ctx != ctx, acks := d.cmp.acks.filter fun a => a.ctx != ctx,
                               releases := d.cmp.releases.filter fun a => a.ctx != ctx, outcomes := d.cmp.outcomes.filter fun a => a.ctx != ctx,
                               mirrored := d.cmp.mirrored.filter fun m => m.outcome.ctx != ctx } }

/-! ### Digests (R283, R357) -/

/-- What this module's tables and those of a member must agree in: the member table, and N, ROOT, ORDER and list of each group that names
both. -/
def tabDigest (t : AdmitTables) (a b : Nat) : List Byte :=
  sha512 ((t.members.map (natLe 2)).flatten) ++
    (((tabGroups t).filter fun p => p.2.members.contains a && p.2.members.contains b).map fun p =>
      sha512 (natLe 2 p.1 ++ natLe 2 p.2.members.length ++ natLe 2 p.2.root ++ natLe 1 (if p.2.basinFirst then 1 else 0) ++ (p.2.members.map (natLe 2)).flatten)).flatten

/-- The members whose sessions an admission needs (R250): those the conveyor, barrier and group tables name. -/
def Dev.namedMembers (d : Dev) (t : AdmitTables) : List Nat :=
  let own := cdRank t.desc
  let mids := (((tabConvs t).map fun p => [epMid p.2.cons, epMid p.2.prod]).flatten).eraseDups
  let byConv := (List.range t.members.length).filter fun g => d.inBasin (nth 0 t.members g) && mids.contains (nth 0 t.members g % 8)
  let byBar := ((tabBars t).filter fun p => !p.2.fast).map fun p => p.2.home
  ((byConv ++ byBar ++ ((tabGroups t).map fun p => p.2.members).flatten).filter fun g => g != own).eraseDups

/-! ### ADMIT -/

/-- An admission ends with a refusal: the context is CREATED again and holds nothing (R357, R476). A retention part it took stays in use where a context admitted meanwhile
has a ring there. -/
def Dev.unadmit (d : Dev) (ctx : Nat) (status detail : Nat) : Dev :=
  match (d.ctx ctx).admitting with
  | none => d
  | some a =>
    let d := (d.clearTables ctx).closeSessions fun s => s.ctx == some ctx
    let used := fun cl => d.cmp.convs.any fun p => p.2.quay && epMid p.2.cons == d.midOf (p.1 / 4096) && (epCore p.2.cons).cl == cl
    let d := a.took.foldl (fun d cl => if used cl then d else d.setObj (0x8320 + cl) 1 0) d
    let r := ((d.ctx ctx).runs.find? fun (r : DocketRun) => r.seq == a.seq).getD { seq := a.seq, kind := 2, tag := 0 }
    (d.modCtx ctx fun x => { x with state := 1, admitting := none, gangSize := 1, members := [], cores := [] }).docketDone ctx r status 0xFFFF 0xFFFF detail

/-- GANG_FPR: the members' fingerprints in gang-rank order (R302). -/
def Dev.gangFpr (d : Dev) (ctx : Nat) : Nat :=
  let x := d.ctx ctx
  firstEight (((List.range x.gangSize).map fun g =>
    natLe 8 (if g = x.gangRank then d.fingerprint else match x.digests.find? fun e => e.1 == d.gangDevice ctx g with | some e => e.2.2 | none => 0)).flatten)

/-- Whether an address lies in an enabled region that is FROZEN. -/
def Dev.frozenAt (d : Dev) (a : Nat) : Bool := match d.regionAt a with | some r => attrFrozen r.attr | none => false

/-- The numbers of training and of stochastic rounding that a standby shares with its member (R51, R331): SR_SEED and SR_COUNTER, then LOSS_SCALE_INIT to
MAX_SKIPS. -/
def trainKeys (ctx : Nat) : List (Nat × Nat) :=
  [(0x7300 + ctx, 8), (0x7300 + ctx, 9)] ++ (List.range 6).map fun i => (0xA100 + ctx, 0x0B + i)
def Dev.trainOf (d : Dev) (ctx : Nat) : List Nat := (trainKeys ctx).map fun k => d.obj k.1 k.2
def Dev.setTrain (d : Dev) (ctx : Nat) (vs : List Nat) : Dev := ((trainKeys ctx).zip vs).foldl (fun d p => d.setObj p.1.1 p.1.2 p.2) d

/-- A number of training written on a member goes to its standby too (R331). -/
def Dev.tellStandby (d : Dev) (idx : Nat) : Dev :=
  let ctx := if idx / 64 = 0x7300 / 64 then idx - 0x7300 else idx - 0xA100
  if (idx / 64 = 0x7300 / 64 ∨ idx / 64 = 0xA100 / 64) ∧ (d.ctx ctx).standbyAt.isSome then
    d.send (.gangNotice (d.obj 0xA000 1) ctx 12 ((d.trainOf ctx).map (natLe 8)).flatten)
  else d

/-- The other members of a gang told which standby this member has (R316), and whether it takes over (R329). -/
def Dev.tellMoored (d : Dev) (ctx : Nat) : Dev :=
  match (d.ctx ctx).standbyAt with
  | some n => ((d.ctx ctx).members.eraseDups.filter fun r => r != d.rank).foldl (fun d r => d.send (.gangNotice r ctx 11 (natLe 2 (d.obj 0xA000 1) ++ natLe 2 n ++ natLe 1 (if d.obj 0xA000 2 = 2 then 1 else 0)))) d
  | none => d

/-- Admission completes: the context is READY, its view records stand, its mirrored sets begin to mirror; a teacher does where its region is FROZEN
already (R323). -/
def Dev.admitted (d : Dev) (ctx : Nat) (a : Admitting) : Dev :=
  let i := 0xA100 + ctx
  let d := ((d.setObj (0x7100 + ctx) 1 d.fingerprint).setObj (0x7100 + ctx) 2 (d.gangFpr ctx)).setObj i 9 (d.obj i 0x0B)
  let d := { d with cmp := { d.cmp with sets := d.cmp.sets.map fun (p : Nat × StateSet) => if p.1 / 16 = ctx ∧ p.2.mirror ∧ (p.2.teacher = false ∨ d.frozenAt p.2.bank0) then (p.1, p.2.wholeDirty) else p } }
  let r := ((d.ctx ctx).runs.find? fun (r : DocketRun) => r.seq == a.seq).getD { seq := a.seq, kind := 2, tag := 0 }
  let d := d.modCtx ctx fun x => { x with state := 3, admitting := none, digests := [], ready := [], restoredAt := 0, ran := 0, seekStep := true, restart := x.taken,
                                          standbyAt := (match a.gotStandby with | some (some n) => some n | _ => none), flipScale := some (d.obj i 0x0B) }
  (((d.writeViews ctx).tellMoored ctx).docketDone ctx r stOK 0xFFFF 0xFFFF 0).stopGang ctx

/-- The home of a barrier opens the session with a member of higher rank that its admission shows to have a use for it (R218, R250): the
lower rank initiates (R439), and the tables of the home need not name that member. -/
def Dev.meetMember (f : Fuses) (d : Dev) (ctx rank : Nat) : Dev :=
  let x := d.ctx ctx
  let serves := d.cmp.bars.any fun p => p.1 / 1024 == ctx && !p.2.fast && p.2.home == x.gangRank
  if x.state = 2 ∧ rank ∈ x.members ∧ x.digests.any (fun e => e.1 == rank) ∧ serves = true then Dev.openSession f d (some ctx) rank else d

/-- Nothing here is missing any more: every other member is told, once (R357, log 96). -/
def Dev.sayReady (d : Dev) (ctx : Nat) (a : Admitting) : Dev :=
  if a.said then d
  else (a.expect.foldl (fun d e => d.send (.gangNotice e.1 ctx 13 [])) d).modCtx ctx fun x => { x with admitting := some { a with said := true } }

/-- An admission under way moves on: refused where a member's digest differs or the partner refuses, complete when every session is OPEN
and every member has admitted (R250, R357). It waits while SCH restarts (R342). -/
def Dev.admitGo (d : Dev) (ctx : Nat) : Dev :=
  match (d.ctx ctx).admitting with
  | none => d
  | some a =>
    let got := (d.ctx ctx).digests
    let find := fun (r : Nat) => got.find? fun e => e.1 == r
    if d.restarting 2 then d
    else if a.expect.any fun e => match find e.1 with | some g => g.2.1 != e.2 | none => false then d.unadmit ctx stState 0
    else if a.gotStandby = some none then d.unadmit ctx stState 0
    else if (a.expect.all fun e => (find e.1).isSome) && (a.needs.all fun r => d.sessionOpen (some ctx) r) && (!a.wantStandby || a.gotStandby.isSome) then
      let d := d.sayReady ctx a
      if a.expect.all fun e => (d.ctx ctx).ready.contains e.1 then d.admitted ctx a else d
    else d

/-- Every admission under way moves on. -/
def Dev.admitAll (d : Dev) : Dev := (tblKeys (d.ctxs.filter fun p => p.2.admitting.isSome)).foldl Dev.admitGo d

/-- The local checks passed: tables in place, resources held, sessions asked for, digests and the request for a standby sent. -/
def Dev.admitLocal (f : Fuses) (d : Dev) (ctx : Nat) (t : AdmitTables) (seq : Nat) : Dev :=
  let own := cdRank t.desc
  let others := (List.range t.members.length).filter fun g => g != own
  let took := (d.ringClusters t).filter fun cl => d.obj (0x8320 + cl) 1 == 0
  let want := (tabSets t).any fun p => p.2.mirror
  let needs := (d.namedMembers t).map fun g => nth 0 t.members g
  let a : Admitting := { seq := seq, since := d.time, expect := others.map fun g => (nth 0 t.members g, tabDigest t own g), needs := needs, wantStandby := want, took := took }
  let d := took.foldl (fun d cl => d.setObj (0x8320 + cl) 1 2) (d.placeTables ctx t)
  let d := match (tabBars t).find? fun p => p.2.fast with | some p => d.setObj 0x9000 7 (ctx * 2 ^ 16 + p.1) | none => d
  let d := d.modCtx ctx fun x => { x.describe t with state := 2, admitting := some a, ready := [] }
  let d := others.foldl (fun d g =>
    let r := nth 0 t.members g
    (Dev.openSession f d none r).send (.gangNotice r ctx 1 (tabDigest t own g ++ natLe 8 d.fingerprint))) d
  let d := needs.foldl (fun d r => Dev.openSession f d (some ctx) r) d
  let d := others.foldl (fun d g => Dev.meetMember f d ctx (nth 0 t.members g)) d
  let d := if want then d.send (.standbyAsk (d.obj 0xA000 1) ctx { t with train := d.trainOf ctx }) else d
  d.admitGo ctx

/-- ADMIT: the first check that fails gives its status. -/
def Dev.admitCtx (f : Fuses) (d : Dev) (ctx w : Nat) (r : DocketRun) : Dev :=
  let no := fun (d : Dev) (st detail : Nat) => d.docketDone ctx r st 0xFFFF 0xFFFF detail
  match if f.mayMeet then d.fwRead (dkArg w) 128 else .inr [] with
  | .inl st => no (d.refused st) st 0
  | .inr bs =>
    let desc := leNat bs
    if f.mayMeet = false ∨ d.descriptorOk ctx desc = false then no d stState 0
    else match d.fwTables ctx desc with
      | .inl st => no (d.refused st) st 0
      | .inr t =>
        if d.tablesOk ctx t = false then no d stState 0
        else match d.admitConflict t with
          | some h => no d stConflict h
          | none =>
            match d.unreachedMember t with
            | some g => no d stMemberAbsent g
            | none =>
              if ((tabSets t).any fun p => p.2.mirror) ∧ d.obj 0xA000 3 ≠ 1 then no d stMemberAbsent (cdRank desc)
              else Dev.admitLocal f d ctx t r.seq

/-- The ranges an ADMIT reads: the descriptor, the tables it names and the member lists of its groups. -/
def Dev.admitReads (d : Dev) (a : Nat) : List (Nat × Nat) :=
  let w := leNat (d.read a 128)
  let groups := match d.fwTable (cdGroups w) (cdGroupLen w) 16 with | .inr gs => gs | .inl _ => []
  [(a, 128), (cdMembers w, 2 * cdSize w), (cdBars w, 16 * cdBarLen w), (cdConvs w, 32 * cdConvLen w), (cdGroups w, 16 * cdGroupLen w),
   (cdSets w, 32 * cdSetLen w)] ++ groups.map fun g => (field g 127 80, 2 * field g 79 64)

/-- The docket ADMIT at a ring's head: it waits while the companion owns a line of what it reads (R191). -/
def Dev.docketAdmit (f : Fuses) (d : Dev) (ctx : Nat) : Dev :=
  let own := match d.headDocket ctx with
    | some w => if dkKind w = 2 then (d.admitReads (dkArg w)).filter fun p => d.ownedIn p.1 p.2 else []
    | none => []
  if own = [] then d.docket ctx (fun k => k == 2) fun w r d => Dev.admitCtx f d ctx w r
  else own.foldl (fun d p => d.recallOwned p.1 p.2) d

/-- ADMIT (R357). -/
def execDocketAdmit (ctx : Nat) (s : State) : Host.Outcome State Fault Refusal :=
  onDevF (wellFormed (.docketAdmit ctx)) (fun f d => Dev.docketAdmit f d ctx) s

/-! ### Sessions, digests and standbys that come -/

/-- CONFIRM (R441): a session opens here, and an admission that waited for it moves on. -/
def execConfirm (p : Packet) (v : PeerProof) (s : State) : Host.Outcome State Fault Refusal :=
  onDevF (wellFormed (.confirm p v)) (fun f d => d.bySec (.confirm p v) fun d => (d.handshake p hsConfirm fun d => Dev.onConfirm f d p v).admitAll) s

/-- The member an admission still misses: the first whose session is not OPEN (R250), else the first of a group that has not admitted (R283). -/
def Dev.absentMember (d : Dev) (ctx : Nat) (a : Admitting) : Option Nat :=
  match a.needs.find? fun r => !(d.sessionOpen (some ctx) r) with
  | some r => some r
  | none =>
    let grouped := ((d.cmp.groups.filter fun p => p.1 / 256 == ctx).map fun p => p.2.members.map fun g => nth 0 (d.ctx ctx).members g).flatten
    (a.expect.map Prod.fst).find? fun r => grouped.contains r && !((d.ctx ctx).ready.contains r)

/-- SESSION_OPEN_TIMEOUT: 100 ms without every session or group, or without the partner's answer: MEMBER_ABSENT, naming the first member. -/
def Dev.sessionTimeout (d : Dev) (ctx : Nat) : Dev :=
  match (d.ctx ctx).admitting with
  | none => d
  | some a =>
    if d.time < a.since + 100000000 then d
    else match d.absentMember ctx a with
      | some r => d.unadmit ctx stMemberAbsent (d.gangOf ctx r)
      | none => if a.wantStandby && a.gotStandby.isNone then d.unadmit ctx stMemberAbsent (d.ctx ctx).gangRank else d

/-- SESSION_OPEN_TIMEOUT (R250). -/
def execSessionOpenTimeout (ctx : Nat) (s : State) : Host.Outcome State Fault Refusal :=
  onDev (wellFormed (.sessionOpenTimeout ctx)) (fun d => d.sessionTimeout ctx) s

/-- The numbers of `n` disabled regions that are not being filled. -/
def Dev.freeRegions (d : Dev) (n : Nat) : List Nat := ((List.range 1024).filter fun r => !(d.region r).enabled && (d.region r).filling.isNone).take n

/-- Whether a standby can be admitted here (R329): a pair, a free context, region entries, no overlap with enabled regions. -/
def Dev.standbyOk (d : Dev) (t : AdmitTables) : Option Nat :=
  let meets := t.regions.any fun q => d.regions.any fun p => p.2.enabled && decide (q.1 < p.2.base + p.2.size) && decide (p.2.base < q.1 + q.2.1)
  if d.obj 0xA000 3 = 1 ∧ meets = false ∧ (d.freeRegions t.regions.length).length = t.regions.length then (List.range 64).find? fun c => (d.ctx c).state == 0 else none

/-- A standby is admitted for a member on another module (R329, R362). Its regions have the member's ATTR but for FROZEN, which would keep the mirror
out (log 94). -/
def Dev.admitStandby (d : Dev) (rank ctx : Nat) (t : AdmitTables) : Dev :=
  match d.standbyOk t with
  | none => d.send (.gangNotice rank ctx 3 [])
  | some c =>
    let d := (List.zip (d.freeRegions t.regions.length) t.regions).foldl (fun d p =>
      { d with regions := tblSet d.regions p.1 { base := p.2.1, size := p.2.2.1, owner := c, attr := p.2.2.2 % 8, enabled := true } }) d
    let d := { d.placeTables c t with sec := { d.sec with slots := tblSet d.sec.slots c d.fresh }, fresh := d.fresh + 1 }
    let d := (d.setTrain c t.train).modCtx c fun x =>
      { x.describe t with state := 10, standbyFor := some rank, via := some ctx, seekStep := true, restart := x.taken, flipScale := some (nth 0 t.train 2) }
    let d := { d with cmp := { d.cmp with sets := d.cmp.sets.map fun (p : Nat × StateSet) => if p.1 / 16 = c then (p.1, { p.2 with copy := true }) else p } }
    ((d.setObj (0xA100 + c) 0x13 rank).setObj (0xA100 + c) 9 (d.obj (0xA100 + c) 0x0B)).send (.gangNotice rank ctx 3 (natLe 2 c))

/-- GANG_FPR_CHANGED (R302): a member's fingerprint changed. -/
def execGangFprChanged (ctx rank : Nat) (s : State) : Host.Outcome State Fault Refusal :=
  onDev (wellFormed (.gangFprChanged ctx rank)) (fun d =>
    if (d.ctx ctx).resident ∧ rank ∈ (d.ctx ctx).members ∧ rank ≠ d.rank then d.setObj (0x7100 + ctx) 4 1 else d) s

end Sys2Proof.Machine
end

