-- ==== Sys2Proof/Machine/Schedule.lean ====
section
/-! DEFINITION. Scheduling: LAUNCH and the completion of lists (R156, R157, R160, R350, R352), saving, restoring and pre-emption (R224,
R225, R359, R360), the dockets STOP, START, ABORT and DESTROY (R349, R361), and pilot dispatch (R363). -/

namespace Sys2Proof.Machine

/-! ### Who holds a core (R359) -/

/-- Whether a context keeps a core it ran on: not once it is FREE, ABORTED or HALTED, unless a list still runs there. -/
def Dev.keepsCore (d : Dev) (y : Nat) (x : CoreSt) : Bool :=
  x.list.isSome || !((d.ctx y).state == 0 || (d.ctx y).state == 9 || (d.ctx y).state == 11)

/-- Whether another context holds a core. -/
def Dev.heldByOther (d : Dev) (ctx : Nat) (c : CoreRef) : Bool :=
  match (d.core c).armed with
  | some y => y != ctx && d.keepsCore y (d.core c)
  | none => false

/-- What stays with a core when its context leaves: its place in the power and clock gating, and whether it is stopped. -/
def CoreSt.bare (x : CoreSt) : CoreSt :=
  { quiet := x.quiet, lastRow := x.lastRow, clockGated := x.clockGated, powerGated := x.powerGated, wakeAt := x.wakeAt, stopped := x.stopped, lastLoad := x.lastLoad, lastVec := x.lastVec, vecClock := x.vecClock,
    vecPower := x.vecPower }

/-- A context's state put on a core. -/
def CoreSt.onto (y x : CoreSt) : CoreSt :=
  { y with quiet := x.quiet, lastRow := x.lastRow, asking := false, clockGated := x.clockGated, powerGated := x.powerGated, wakeAt := x.wakeAt, stopped := x.stopped, lastLoad := x.lastLoad, lastVec := x.lastVec, vecClock := x.vecClock, vecPower := x.vecPower }

/-- The cores a context is on. -/
def Dev.coresOf (d : Dev) (ctx : Nat) : List CoreRef := d.coresWhere fun x => x.armed == some ctx

/-! ### Saving and restoring (R224, R356, R360) -/

/-- A core as it is saved: a wait keeps how long it has run. -/
def Dev.savedCore (d : Dev) (c : CoreRef) : SavedCore :=
  let x := d.core c
  { key := c.key, st := { x with wait := x.wait.map fun w => { w with left := some (d.time - w.start) } }, hold := d.holdCells c, poison := d.holdMarks c }

/-- A context saved: its cores, holds and queued descriptors; SAVES counts it and its run ends. `state` is the state it is in then. -/
def Dev.saveCtx (d : Dev) (ctx state : Nat) : Dev :=
  let cs := d.coresOf ctx
  let saved := cs.map d.savedCore
  let tugs := (d.cmp.tugs.map fun (p : Nat × List TugItem) => (p.2.filter fun i => i.tag.ctx == ctx).map fun i => (p.1, i)).flatten
  let d := { d with cmp := { d.cmp with tugs := d.cmp.tugs.map fun (p : Nat × List TugItem) => (p.1, p.2.filter fun i => i.tag.ctx != ctx) } }
  let d := cs.foldl (fun d c => d.modCore c CoreSt.bare) d
  ((d.runOff ctx).bump (0xD100 + ctx) 0x0B 1).modCtx ctx fun x =>
    { x with state := state, saved := saved, savedTugs := tugs, savedAt := d.time, saveWanted := false, stopWanted := false, parkWanted := false }

/-- A saved core put back. A core that has made no arrival since its last restore knows of none (R214). -/
def Dev.restoreCore (d : Dev) (v : SavedCore) : Dev :=
  let c := CoreRef.ofKey v.key
  let back := fun (w : Waiting) =>
    let w := if w.tag.op = 0x31 ∨ w.tag.op = 0x32 then { w with phase := min 1 w.phase } else w
    match w.left with | some n => { w with start := d.time - n, left := none } | none => w
  (d.putHold c v.hold v.poison).modCore c fun x => ({ v.st with wait := v.st.wait.map back, joined := [] } : CoreSt).onto x

/-- The releases held at a gang pre-emption point are delivered (R225). -/
def Dev.deliverHeld (d : Dev) (ctx : Nat) : Dev :=
  (d.barsOf ctx).foldl (fun d n =>
    match d.bar ctx n with
    | some b => if b.holding then (d.setBar ctx n { b with holding := false, held := [] }).releaseAll ctx n ((b.gen + 2 ^ 32 - 1) % 2 ^ 32) b.held b.fast stOK else d
    | none => d) d

/-- The number of a context's gang pre-emption point. -/
def Dev.gangPoint (d : Dev) (ctx : Nat) : Option (Nat × Barrier) :=
  (d.cmp.bars.find? fun p => p.1 / 1024 == ctx && p.2.gangpoint).map fun p => (p.1 % 1024, p.2)

/-- The member that leads the save at a gang pre-emption point: the home, or gang rank 0 at a FAST barrier, of which each member has a copy. -/
def Barrier.lead (b : Barrier) : Nat := if b.fast then 0 else b.home

/-- A member of a gang is restored (R225): the member that leads delivers the held release once every member is. -/
def Dev.gangRestored (d : Dev) (ctx rank : Nat) : Dev :=
  let d := d.modCtx ctx fun x => { x with gangBack := (x.gangBack.filter fun g => g != rank) ++ [rank] }
  if ((d.ctx ctx).gangRank :: d.farMembers ctx).all fun g => g ∈ (d.ctx ctx).gangBack then
    let d := match d.gangPoint ctx with | some (_, b) => if b.fast then d.tellGang ctx 20 else d | none => d
    (d.modCtx ctx fun x => { x with gangBack := [], gangAsked := false }).deliverHeld ctx
  else d

/-- What a restored context of a gang does: the member that leads waits for the others, another member tells it; a context that is no gang delivers what it
holds. -/
def Dev.gangReturns (d : Dev) (ctx : Nat) : Dev :=
  let d := d.modCtx ctx fun x => { x with gangHeld := false, gangSaid := false, gangGo := false, gangQuiet := [], gangFrozen := false, gangYes := [], gangUnnoted := [] }
  match d.cmp.bars.find? fun p => p.1 / 1024 == ctx && p.2.gangpoint with
  | some (_, b) =>
    if b.lead = (d.ctx ctx).gangRank then d.gangRestored ctx b.lead
    else d.send (.gangNotice (d.gangDevice ctx b.lead) ctx 9 [])
  | none => d

/-- A saved context back on its cores: RUNNING, or READY with no list, or HALTED by an outcome applied meanwhile (R320). COMMITs whose outcome was applied
while they were saved end (R322); the other waiting orders are tried again. -/
def Dev.restoreCtx (d : Dev) (ctx : Nat) : Dev :=
  let x := d.ctx ctx
  let d := x.saved.foldl Dev.restoreCore d
  let d := x.savedTugs.foldl (fun d p => d.setTugQ (p.1 / 4) (p.1 % 4) (d.tugQ (p.1 / 4) (p.1 % 4) ++ [p.2])) d
  let runs := x.saved.any fun v => v.st.list.isSome
  let state := if d.obj (0xA100 + ctx) 0x11 = 1 then 11 else if runs then 4 else 3
  let d := d.modCtx ctx fun y => { y with state := state, saved := [], savedTugs := [], doneCommits := [], restoredAt := d.time, ran := 0 }
  let d := if runs then d.runOn ctx else d
  let d := x.doneCommits.foldl (fun d o => d.endCommits ctx o.1 o.2.1 o.2.2) (d.writeViews ctx)
  (d.gangReturns ctx).retry

/-- Whether a cluster core that saves and restores the cores of a list restarts (R342). -/
def Dev.ccBusy (d : Dev) (keys : List Nat) : Bool := keys.any fun k => d.restarting (3 + k / 11)

/-! ### Boundaries (R360, R225, R297) -/

/-- The waiting orders that a save stops and a restore begins again: not one that stalls on a pinned range or on its operands, which has begun. -/
def stoppable (w : Waiting) : Bool :=
  !w.stalled && [0x31, 0x32, 0x50, 0x21, 0x22, 0x20, 0x7F].contains w.tag.op || (w.tag.op == 0x02 && psAccrete w.word)

/-- Whether a core stands at an order boundary with its drains, loads and arrivals done. -/
def CoreSt.atBoundary (x : CoreSt) : Bool :=
  (match x.wait with | some w => stoppable w | none => true) && x.drains.isEmpty && x.loads.isEmpty && x.acksDue.isEmpty

/-- Whether nothing of a context is on its way: collectives, snapshots, running tugs, arrivals, acknowledgements, messages. -/
def Dev.ctxQuiet (d : Dev) (ctx : Nat) : Bool :=
  !(d.cmp.groups.any fun p => p.1 / 256 == ctx && p.2.flights != []) && !(d.cmp.snaps.any fun s => s.ctx == ctx && s.tag.isSome) &&
    !(d.cmp.tugs.any fun p => p.2.any fun i => i.tag.ctx == ctx && i.remote != 0) && !(d.cmp.arrivals.any fun a => a.ctx == ctx) &&
    !(d.cmp.acks.any fun a => a.ctx == ctx) && !(d.cmp.convs.any fun p => p.1 / 4096 == ctx && p.2.flying != [])

/-- Whether a gang is saved now, its release held at its gang pre-emption point: each core stops at its next order boundary. -/
def Dev.atGangPoint (d : Dev) (ctx : Nat) : Bool := (d.ctx ctx).gangGo

/-- The save of a gang is decided: every member has said that nothing of the context is on its way, and begins no collective. -/
def Dev.gangGoes (d : Dev) (ctx : Nat) : Dev := (d.tellGang ctx 8).modCtx ctx fun y => { y with gangGo := true, saveWanted := y.saveWanted || !y.saveAsked }

/-- A gang pre-emption point moves on (R225, R297): a member that holds the release and whose collectives have completed says so to the member that leads,
which then has every member begin no collective more, and has the gang saved when all are still quiet. -/
def Dev.gangStep (d : Dev) (ctx : Nat) : Dev :=
  let x := d.ctx ctx
  match d.gangPoint ctx with
  | none => d
  | some (_, b) =>
    let held := if b.fast ∨ b.home = x.gangRank then b.holding else x.gangHeld
    if x.gangSize ≤ 1 ∨ x.gangGo ∨ x.gangFrozen ∨ held = false ∨ d.ctxQuiet ctx = false then d
    else if b.lead = x.gangRank then
      if (d.farMembers ctx).all (fun g => g ∈ x.gangQuiet) then
        if d.farMembers ctx = [] then d.gangGoes ctx
        else (d.tellGang ctx 15).modCtx ctx fun y => { y with gangFrozen := true, gangYes := [], gangQuiet := [] }
      else d
    else if x.gangSaid = false then (d.send (.gangNotice (d.gangDevice ctx b.lead) ctx 7 [])).modCtx ctx fun y => { y with gangSaid := true }
    else d

/-- The other rank of a gang that this module runs after a takeover (R335). -/
def Dev.sibling (d : Dev) (ctx : Nat) : Option Nat :=
  match (d.ctx ctx).via with
  | some n => if (d.ctx ctx).asMid.isSome then some n else none
  | none => (d.ctxs.find? fun p => p.2.via == some ctx && p.2.asMid.isSome).map Prod.fst

/-- Whether a context gives its cores to its sibling: every core waits on a barrier, a credit or a message, or has no list (R335). -/
def Dev.siblingTurn (d : Dev) (ctx : Nat) : Bool :=
  (d.sibling ctx).isSome && (d.coresOf ctx).all fun c =>
    (d.core c).list.isNone || match (d.core c).wait with | some w => [0x31, 0x32, 0x50, 0x21, 0x22].contains w.tag.op | none => false

/-- Whether a context can be saved now. -/
def Dev.canSave (d : Dev) (ctx : Nat) : Bool :=
  (d.coresOf ctx).all (fun c => (d.core c).atBoundary) && d.ctxQuiet ctx && (decide ((d.ctx ctx).gangSize ≤ 1) || d.atGangPoint ctx || d.siblingTurn ctx) &&
    !(d.ccBusy ((d.coresOf ctx).map CoreRef.key))

/-! ### Runs that end (R351, R352, R361) -/

/-- The run of one kind under way. -/
def Ctx.runOf (x : Ctx) (kind : Nat) : Option DocketRun := x.runs.find? fun r => r.kind == kind

/-- ADMIT and STOP dockets of a context that can no longer do what they ask complete with ABORTED, or STATE for a halted one. -/
def Dev.settleRuns (d : Dev) (ctx : Nat) : Dev :=
  let x := d.ctx ctx
  let gone := x.runs.filter fun r => (r.kind == 2 && x.state != 2) || (r.kind == 4 && (x.state == 9 || x.state == 11))
  gone.foldl (fun d r => d.docketDone ctx r (if x.state = 11 then stState else stAborted) 0xFFFF 0xFFFF 0) d

/-- A save that was asked for is made when it can be, and SCH can decide it (R342): pre-empted, stopped, whose STOP completes, or parked. Lines of its holds that
the companion owns are recalled first (R191). -/
def Dev.trySave (d : Dev) (ctx : Nat) : Dev :=
  let d := d.gangStep ctx
  let x := d.ctx ctx
  if d.schReady ∧ x.saveAsked ∧ (x.state = 3 ∨ x.state = 4) ∧ d.holdsOwned x.cores then d.recallHolds x.cores
  else if d.schReady ∧ x.saveAsked ∧ (x.state = 3 ∨ x.state = 4) ∧ d.canSave ctx then
    if x.stopWanted then
      let d := d.saveCtx ctx 6
      match x.runOf 4 with | some r => d.docketDone ctx r stOK 0xFFFF 0xFFFF 0 | none => d
    else if x.parkWanted then d.saveCtx ctx 8
    else (d.saveCtx ctx 5).bump 0xD000 7 1
  else d

/-- A request to save a gang is deferred to its next gang pre-emption point, counted (R225), and told to the point's home, or, at a FAST point, to every
member, whose note of it is waited for. -/
def Dev.deferGang (d : Dev) (ctx : Nat) : Dev :=
  if (d.ctx ctx).gangSize ≤ 1 then d
  else
    let d := d.bump 0x9000 6 1
    match d.gangPoint ctx with
    | some (_, b) =>
      if b.fast then (d.tellGang ctx 5).modCtx ctx fun x => { x with gangAsked := true, gangUnnoted := d.farMembers ctx }
      else if b.home = (d.ctx ctx).gangRank ∨ d.gangDevice ctx b.home = d.rank then d else d.send (.gangNotice (d.gangDevice ctx b.home) ctx 5 [])
    | none => d

/-- What a LAUNCH completes with: the list that caused an abort, else the first list in table order that did not end with OK. -/
def launchResult (r : DocketRun) : Option (Nat × Nat × Nat) :=
  let of := fun (l : LaunchList) => match l.result with | some v => some (l.key, v.1, v.2) | none => none
  match (match r.abortAt with | some k => r.lists.find? fun (l : LaunchList) => l.key == k | none => none) with
  | some l => of l
  | none => (r.lists.find? fun (l : LaunchList) => match l.result with | some v => v.1 != stOK | none => false).bind of

/-- A LAUNCH whose lists have all completed completes. -/
def Dev.launchEnds (d : Dev) (ctx : Nat) (r : DocketRun) : Dev :=
  if r.lists.all fun l => l.result.isSome then
    match launchResult r with
    | some (k, st, idx) => d.docketDone ctx r st (endpoint (d.midOf ctx) (CoreRef.ofKey k)) idx 0
    | none => d.docketDone ctx r stOK 0xFFFF 0xFFFF 0
  else d

/-- The result of a list of a context: the LAUNCH that started it hears of it. -/
def Dev.listResult (d : Dev) (ctx key : Nat) (res : Nat × Nat) : Dev :=
  let waits := fun (l : LaunchList) => l.key == key && l.result.isNone
  match (d.ctx ctx).runs.find? fun r => r.kind == 3 && r.lists.any waits with
  | none => d
  | some r =>
    let r' := { r with lists := r.lists.map fun l => if waits l then { l with result := some res } else l }
    (d.modCtx ctx fun x => { x with runs := x.runs.map fun q => if q.seq == r.seq then r' else q }).launchEnds ctx r'

/-- A context whose last list has completed is READY again. -/
def Dev.idleCtx (d : Dev) (ctx : Nat) : Dev :=
  if ((d.coresOf ctx).any fun c => (d.core c).list.isSome) || ((d.ctx ctx).saved.any fun v => v.st.list.isSome) then d
  else if (d.ctx ctx).state = 4 then (d.runOff ctx).modCtx ctx fun x => { x with state := 3 }
  else d.runOff ctx

/-! ### Notices from other modules -/

/-- A member has noted a request to save the gang at a FAST point: when all have, the line is no longer held for it. -/
def Dev.fastNoted (d : Dev) (ctx g : Nat) : Dev :=
  let d := d.modCtx ctx fun x => { x with gangUnnoted := x.gangUnnoted.filter fun r => r != g }
  match d.gangPoint ctx with
  | some (n, b) => if b.fast ∧ (d.ctx ctx).gangUnnoted = [] ∧ b.count ≤ b.arrived ∧ b.sawHigh.isNone then d.setBar ctx n { b with pulling := false } else d
  | none => d

/-- A step of a gang pre-emption point that another member takes (R225, R297). -/
def Dev.gangHeard (d : Dev) (ctx rank step : Nat) : Dev :=
  let g := d.gangOf ctx rank
  if step = 5 then
    let d := d.modCtx ctx fun x => { x with gangAsked := true }
    match d.gangPoint ctx with | some (_, b) => if b.fast then d.send (.gangNotice rank ctx 19 []) else d | none => d
  else if step = 15 then
    if d.ctxQuiet ctx then (d.send (.gangNotice rank ctx 16 [])).modCtx ctx fun x => { x with gangFrozen := true }
    else (d.send (.gangNotice rank ctx 17 [])).modCtx ctx fun x => { x with gangSaid := false }
  else if step = 16 then
    let d := d.modCtx ctx fun x => { x with gangYes := (x.gangYes.filter fun r => r != g) ++ [g] }
    if (d.ctx ctx).gangFrozen ∧ (d.farMembers ctx).all (fun r => r ∈ (d.ctx ctx).gangYes) then (d.gangGoes ctx).trySave ctx else d
  else if step = 17 then (d.tellGang ctx 18).modCtx ctx fun x => { x with gangFrozen := false, gangYes := [], gangQuiet := [] }
  else if step = 18 then (d.modCtx ctx fun x => { x with gangFrozen := false, gangSaid := false }).gangStep ctx
  else if step = 19 then d.fastNoted ctx g
  else if step = 20 then d.deliverHeld ctx
  else if step = 6 then (d.modCtx ctx fun x => { x with gangHeld := true }).gangStep ctx
  else if step = 7 then (d.modCtx ctx fun x => { x with gangQuiet := (x.gangQuiet.filter fun r => r != g) ++ [g] }).trySave ctx
  else if step = 8 then (d.modCtx ctx fun x => { x with gangGo := true, saveWanted := x.saveWanted || !x.saveAsked }).trySave ctx
  else if step = 9 then d.gangRestored ctx g
  else d

/-! ### The completion of a list (R160) -/

/-- Whether a list has begun its last order. -/
def ListRun.finished (l : ListRun) : Bool := l.stop || (l.repeats != 0 && decide (l.repeats ≤ l.rep))

/-- The status and index a list completes with. -/
def ListRun.outcome (l : ListRun) : Nat × Nat := match l.ended with | some e => (e.2.1, e.2.2) | none => (stOK, 0xFFFF)

/-- Whether every order and descriptor of a core's list has completed. -/
def Dev.listDone (d : Dev) (c : CoreRef) (ctx : Nat) : Bool :=
  let x := d.core c
  (match x.list with | some l => l.finished | none => false) && x.wait.isNone && d.ordersDone c x.stamp && d.tugsDone c x.stamp &&
    (x.acksDue.isEmpty || (d.ctx ctx).state == 9)

/-- The list of a core completes. -/
def Dev.listCompletes (d : Dev) (c : CoreRef) : Dev :=
  match (d.core c).armed, (d.core c).list with
  | some ctx, some l =>
    if d.listDone c ctx then
      ((((d.modCore c fun x => { x with list := none, acksDue := [] }).listResult ctx c.key l.outcome).idleCtx ctx).settleRuns ctx).trySave ctx
    else d
  | _, _ => d

/-- The list of a core that was saved with a context since aborted completes. -/
def Dev.savedListCompletes (d : Dev) (c : CoreRef) : Dev :=
  match d.ctxs.find? fun p => p.2.state == 9 && p.2.saved.any fun v => v.key == c.key && v.st.list.isSome with
  | none => d
  | some p =>
    match p.2.saved.find? fun v => v.key == c.key with
    | some v =>
      match v.st.list with
      | some l =>
        let d := d.modCtx p.1 fun x => { x with saved := x.saved.map fun u => if u.key = c.key then { u with st := { u.st with list := none } } else u }
        ((d.listResult p.1 c.key l.outcome).idleCtx p.1).settleRuns p.1
      | none => d
    | none => d

/-- ORDER_LIST_COMPLETE (R160). -/
def execOrderListComplete (c : CoreRef) (s : State) : Host.Outcome State Fault Refusal :=
  onDev (wellFormed (.orderListComplete c)) (fun d =>
    let a := match (d.core c).armed with | some ctx => d.listDone c ctx | none => false
    if a then d.listCompletes c else d.savedListCompletes c) s

/-! ### LAUNCH (R156, R157, R350) -/

def hdReports (h : Nat) : Nat := field h 159 112
def hdDepth (h : Nat) : Nat := field h 111 96
def hdRepeats (h : Nat) : Nat := field h 31 16
def hdCount (h : Nat) : Nat := field h 15 0

/-- The status of a list header that can be read: OK where it passes. -/
def Dev.headerStatus (d : Dev) (h : Nat) : Nat :=
  let arrays := field h 83 80
  let hold := field h 79 64
  if !(onlyFields h [(159, 96), (83, 64), (32, 0)]) || hdCount h == 0 || !([0, 2, 4].contains arrays) ||
      (hdReports h != 0 && (hdDepth h == 0 || hdReports h % 32 != 0 || !(d.mapped (hdReports h) (32 * hdDepth h)))) then stMalformed
  else if (arrays != 0 && arrays != arraysPerCore) || decide (holdSize < hold * 1024) then stState
  else stOK

/-- The check of one list: its header, or the status it fails with. -/
def Dev.headerCheck (d : Dev) (ctx a : Nat) : Nat ⊕ Nat :=
  match d.access (.ctx ctx) false a 32 with
  | some st => .inl st
  | none =>
    if d.poisonIn a 32 then .inl stPoison
    else
      let h := leNat (d.read a 32)
      if d.headerStatus h = stOK then .inr h else .inl (d.headerStatus h)

/-- What becomes of a LAUNCH at its ring's head. -/
inductive Plan where
  /-- It waits: for its cores, for its context, or for lines the companion owns. -/
  | waits (own : List (Nat × Nat))
  /-- It completes with a status; `at_` is the first failing list. -/
  | fails (status : Nat) (at_ : Option CoreRef)
  /-- It starts lists: core, address and header of each. -/
  | go (lists : List (CoreRef × Nat × Nat))

/-- Whether the entries of a launch table name cores of the context, each once, none still running a list of it; nor one without a physical core, which
could run nothing (log 97, R420). -/
def Dev.entriesOk (d : Dev) (ctx : Nat) (es : List Nat) : Bool :=
  let x := d.ctx ctx
  let eps := es.map fun e => field e 63 48
  eps.eraseDups.length == eps.length && eps.all fun e =>
    let c := epCore e
    epMid e == d.midOf ctx && e % 16 == 0 && c.exists && x.cores.contains c.key && d.phys c != 0xFF && !((d.core c).list.isSome && (d.core c).armed == some ctx)

/-- The lists of a table read, or the first that fails. -/
def Dev.readLists (d : Dev) (ctx : Nat) : List Nat → List (CoreRef × Nat × Nat) → Plan
  | [], acc => .go acc.reverse
  | e :: es, acc =>
    match d.headerCheck ctx (field e 47 0) with
    | .inl st => .fails st (some (epCore (field e 63 48)))
    | .inr h => d.readLists ctx es ((epCore (field e 63 48), field e 47 0, h) :: acc)

/-- The plan of a LAUNCH docket. -/
def Dev.launchPlan (d : Dev) (ctx w : Nat) : Plan :=
  let x := d.ctx ctx
  if x.state = 5 ∨ x.saved ≠ [] ∨ (x.saveAsked ∧ (x.gangSize ≤ 1 ∨ x.gangGo)) then .waits []
  else if d.ownedIn (dkArg w) (8 * dkEntries w) then .waits [(dkArg w, 8 * dkEntries w)]
  else match d.fwTable (dkArg w) (dkEntries w) 8 with
    | .inl st => .fails st none
    | .inr es =>
      if d.entriesOk ctx es = false then .fails stState none
      else
        let own := (es.map fun e => (field e 47 0, 32)).filter fun p => d.ownedIn p.1 p.2
        if own ≠ [] ∨ es.any (fun e => d.heldByOther ctx (epCore (field e 63 48))) then .waits own else d.readLists ctx es []

/-- One list begins on its core. A core that runs for this context for the first time since it last was another's is cleared (R507). -/
def Dev.startList (d : Dev) (ctx : Nat) (l : CoreRef × Nat × Nat) : Dev :=
  let h := l.2.2
  d.modCore l.1 fun x =>
    { (if x.armed = some ctx then x else x.bare) with
      armed := some ctx,
      list := some { addr := l.2.1, count := hdCount h, repeats := hdRepeats h, cadence := bit h 32, reports := hdReports h, depth := hdDepth h, ready := !(bit h 32) } }

/-- A LAUNCH just taken does what its plan says. -/
def Dev.launch (d : Dev) (ctx : Nat) (r : DocketRun) (p : Plan) : Dev :=
  match p with
  | .waits _ => d
  | .fails st none => (d.refused st).docketDone ctx r st 0xFFFF 0xFFFF 0
  | .fails st (some c) =>
    let d := (d.refused st).docketDone ctx r st (endpoint (d.midOf ctx) c) 0xFFFF 0
    if st = stPoison then d.fault 0x0203 (some ctx) (d.coreDetail c) else d
  | .go ls =>
    let d := ls.foldl (fun d l => d.startList ctx l) d
    let d := d.modCtx ctx fun x =>
      { x with state := 4, restoredAt := if x.restoredAt = 0 then d.time else x.restoredAt,
               runs := x.runs.map fun q => if q.seq == r.seq then { q with lists := ls.map fun l => { key := l.1.key }, since := d.time } else q }
    d.runOn ctx

/-- Whether a docket is a LAUNCH that its context can take, but for what it waits for. -/
def Dev.launchable (d : Dev) (ctx w : Nat) : Bool :=
  dkKind w == 3 && !(dkMalformed w) && !(d.poisonIn (d.headAt ctx) 64) && dkAccepts 3 (d.ctx ctx).state

/-- The plan of the LAUNCH at a ring's head. -/
def Dev.headPlan (d : Dev) (ctx : Nat) : Option Plan :=
  match d.headDocket ctx with
  | some w => if d.launchable ctx w then some (d.launchPlan ctx w) else none
  | none => none

/-- The LAUNCH at a ring's head is handed off: it stays there while it waits. -/
def Dev.docketLaunch (d : Dev) (ctx : Nat) : Dev :=
  match d.headPlan ctx with
  | some (.waits own) => own.foldl (fun d p => d.recallOwned p.1 p.2) d
  | some p => d.docket ctx (fun k => k == 3) fun _ r d => d.launch ctx r p
  | none => d.docket ctx (fun k => k == 3) fun _ _ d => d

/-- LAUNCH (R350). -/
def execDocketLaunch (ctx : Nat) (s : State) : Host.Outcome State Fault Refusal :=
  onDev (wellFormed (.docketLaunch ctx)) (fun d => d.docketLaunch ctx) s

/-! ### Pre-emption (R359, R360) -/

/-- The cores that the LAUNCH waiting at a context's ring head names. -/
def Dev.headCores (d : Dev) (ctx : Nat) : List CoreRef :=
  match d.headDocket ctx with
  | some w =>
    if d.launchable ctx w && ((d.ctx ctx).state == 3 || (d.ctx ctx).state == 4) then
      match d.fwTable (dkArg w) (dkEntries w) 8 with
      | .inr es => if d.entriesOk ctx es then es.map fun e => epCore (field e 63 48) else []
      | .inl _ => []
    else []
  | none => []

/-- Whether a context is saved and to be restored: pre-empted, or started again after STOP. -/
def Dev.wantsBack (d : Dev) (x : Ctx) : Bool := (x.state == 5 || (x.state == 3 && x.saved != [])) && d.obj 0xD000 9 == 0

/-- The cores a context needs: those of a waiting LAUNCH, or those it was saved from. -/
def Dev.needs (d : Dev) (ctx : Nat) : List CoreRef :=
  let x := d.ctx ctx
  if d.wantsBack x then x.saved.map fun v => CoreRef.ofKey v.key else d.headCores ctx

/-- Whether another context of a priority that satisfies a test needs a core this one holds. -/
def Dev.contended (d : Dev) (ctx : Nat) (f : Nat → Bool) : Bool :=
  let mine := (d.coresOf ctx).filter fun c => d.keepsCore ctx (d.core c)
  d.ctxs.any fun p => p.1 != ctx && f p.2.prio && (d.needs p.1).any fun c => mine.contains c

/-- How long a context has run since its last restore (R226). -/
def Dev.ranFor (d : Dev) (ctx : Nat) : Nat := (d.ctx ctx).ran + (match (d.ctx ctx).runSince with | some t => d.time - t | none => 0)

/-- Whether SCH pre-empts a context: for a higher priority after 1 ms, for an equal one after TIMESLICE, for its
sibling when its cores wait; one that runs nothing for any, but not within 1 ms of its restore (R226). -/
def Dev.preemptible (d : Dev) (ctx : Nat) : Bool :=
  let x := d.ctx ctx
  let p := x.prio
  if x.state = 4 then
    (decide (d.obj 0xD000 3 ≤ d.ranFor ctx) && d.contended ctx fun q => decide (q < p)) ||
      (decide (max (d.obj 0xD000 2) (d.obj 0xD000 3) ≤ d.ranFor ctx) && d.contended ctx fun q => q == p) ||
      (decide (d.obj 0xD000 3 ≤ d.ranFor ctx) && d.siblingTurn ctx && d.contended ctx fun q => q == p)
  else x.state == 3 && decide (x.restoredAt + d.obj 0xD000 3 ≤ d.time) && d.contended ctx fun _ => true

/-- A save of a context is asked for by pre-emption. -/
def Dev.askSave (d : Dev) (ctx : Nat) : Dev :=
  if (d.ctx ctx).saveAsked then d else (if d.siblingTurn ctx then d else d.deferGang ctx).modCtx ctx fun x => { x with saveWanted := true }

/-- PREEMPTION: SCH asks for the save that priorities call for, and a save asked for is made at the boundary. -/
def Dev.preempt (d : Dev) (ctx : Nat) : Dev :=
  if d.schReady then (if d.preemptible ctx then d.askSave ctx else d).trySave ctx else d

/-- PREEMPTION (R360). -/
def execPreemption (ctx : Nat) (s : State) : Host.Outcome State Fault Refusal :=
  onDev (wellFormed (.preemption ctx)) (fun d => d.preempt ctx) s

/-- TIMESLICE_EXPIRY (R359): a context that has run for TIMESLICE gives way to one of equal priority. -/
def execTimesliceExpiry (ctx : Nat) (s : State) : Host.Outcome State Fault Refusal :=
  onDev (wellFormed (.timesliceExpiry ctx)) (fun d =>
    let p := (d.ctx ctx).prio
    if d.schReady && (d.ctx ctx).state == 4 && decide (max (d.obj 0xD000 2) (d.obj 0xD000 3) ≤ d.ranFor ctx) && d.contended ctx (fun q => q == p) then
      (d.askSave ctx).trySave ctx
    else d) s

/-- MIN_QUANTUM_EXPIRY (R359): a context that has run for 1 ms gives way to a higher priority. -/
def execMinQuantumExpiry (ctx : Nat) (s : State) : Host.Outcome State Fault Refusal :=
  onDev (wellFormed (.minQuantumExpiry ctx)) (fun d =>
    let p := (d.ctx ctx).prio
    if d.schReady && (d.ctx ctx).state == 4 && decide (d.obj 0xD000 3 ≤ d.ranFor ctx) && d.contended ctx (fun q => decide (q < p)) then
      (d.askSave ctx).trySave ctx
    else d) s

/-- Whether the evaluation slots a context names stand (R327, R328). -/
def Dev.slotsStand (d : Dev) (x : Ctx) : Bool := x.cores.all fun k => k % 11 != 10 || d.phys (CoreRef.ofKey k) != 0xFF

/-- Whether a context can be put back: its cores are free, and its slots, if it is one for evaluation, stand (R328). -/
def Dev.canRestore (d : Dev) (x : Ctx) (ctx : Nat) : Bool :=
  d.wantsBack x && d.slotsStand x && (x.saved.all fun v => !(d.heldByOther ctx (CoreRef.ofKey v.key)) && d.phys (CoreRef.ofKey v.key) != 0xFF) &&
    !(d.ccBusy (x.saved.map SavedCore.key))

/-- Whether one saved context goes before another: by priority, then by how long it has been saved. -/
def goesBefore (a b : Ctx) : Bool := decide (a.prio < b.prio) || (a.prio == b.prio && decide (a.savedAt < b.savedAt))

/-- RESTORE: of the saved contexts whose cores are free, the one of highest priority saved longest. It waits for the lines of its holds that the companion
owns (R191). -/
def Dev.restore (d : Dev) (ctx : Nat) : Dev :=
  let x := d.ctx ctx
  if d.schReady && !d.safe && d.canRestore x ctx && !(d.ctxs.any fun p => p.1 != ctx && d.canRestore p.2 p.1 && goesBefore p.2 x) then
    (let keys := x.saved.map SavedCore.key
     if d.holdsOwned keys then d.recallHolds keys else d.restoreCtx ctx)
  else d

/-- RESTORE (R359, R360). -/
def execRestore (ctx : Nat) (s : State) : Host.Outcome State Fault Refusal :=
  onDev (wellFormed (.restore ctx)) (fun d => d.restore ctx) s

/-! ### STOP, START, ABORT and DESTROY (R349, R361) -/

/-- STOP: a context saved already is STOPPED at once; another is saved as for pre-emption. -/
def Dev.stopCtx (d : Dev) (ctx : Nat) (r : DocketRun) : Dev :=
  let x := d.ctx ctx
  if x.state = 5 ∨ x.saved ≠ [] then (d.modCtx ctx fun x => { x with state := 6, saveWanted := false }).docketDone ctx r stOK 0xFFFF 0xFFFF 0
  else ((d.deferGang ctx).modCtx ctx fun x => { x with stopWanted := true }).trySave ctx

/-- START: READY, and restored when its cores are free. -/
def Dev.startCtx (d : Dev) (ctx : Nat) (r : DocketRun) : Dev :=
  (d.modCtx ctx fun x => { x with state := 3 }).docketDone ctx r stOK 0xFFFF 0xFFFF 0

/-- ABORT. -/
def Dev.docketAborts (d : Dev) (ctx : Nat) (r : DocketRun) : Dev :=
  ((d.abortCtx ctx none).settleRuns ctx).docketDone ctx r stOK 0xFFFF 0xFFFF 0

/-- STOP (R349). -/
def execDocketStop (ctx : Nat) (s : State) : Host.Outcome State Fault Refusal :=
  onDev (wellFormed (.docketStop ctx)) (fun d => d.docket ctx (fun k => k == 4) fun _ r d => d.stopCtx ctx r) s

/-- START (R349). -/
def execDocketStart (ctx : Nat) (s : State) : Host.Outcome State Fault Refusal :=
  onDev (wellFormed (.docketStart ctx)) (fun d => d.docket ctx (fun k => k == 5) fun _ r d => d.startCtx ctx r) s

/-- ABORT (R361). -/
def execDocketAbort (ctx : Nat) (s : State) : Host.Outcome State Fault Refusal :=
  onDev (wellFormed (.docketAbort ctx)) (fun d => d.docket ctx (fun k => k == 6) fun _ r d => d.docketAborts ctx r) s

/-- A region's range filled with zero; its marks and the companion's copies go (R199, R200, R202). -/
def Dev.zeroRange (d : Dev) (a n : Nat) : Dev :=
  let d := (d.recallShared a n).recallOwned a n
  { d with mem := memZero d.mem a n, poison := d.poison.filter fun l => !(decide (a ≤ l * 64) && decide (l * 64 < a + n)),
           host := { d.host with snoop := d.host.snoop.filter fun p => !(decide (a ≤ p.1 * 64) && decide (p.1 * 64 < a + n))
                                 late := d.host.late.filter fun r => !(decide (a ≤ r.1) && decide (r.1 < a + n)) } }

/-- An enabled region disabled: FROZEN clears and the fill of its range begins (R199). -/
def Dev.disableRegion (d : Dev) (r : Nat) : Dev :=
  let x := d.region r
  if x.enabled then
    { d.zeroRange x.base x.size with regions := tblSet d.regions r { x with enabled := false, attr := x.attr - (if attrFrozen x.attr then 8 else 0), filling := some (x.base, x.size) } }
  else d

/-- What a context's ring keeps when the context is FREE again (R346). -/
def Ctx.freed (x : Ctx) : Ctx :=
  { epoch := x.epoch + 1, sqTail := x.sqTail, taken := x.taken, restart := x.taken, cqHead := x.cqHead, waiting := x.waiting, runs := x.runs, intAt := x.intAt, intDue := x.intDue }

/-- What a list that has not completed completes with as its context is destroyed: the status an order of it left, else ABORTED (R361). -/
def Dev.listLeft (d : Dev) (ctx key : Nat) : Nat × Nat :=
  let x := d.core (CoreRef.ofKey key)
  let st := if x.armed = some ctx then some x else ((d.ctx ctx).saved.find? fun v => v.key == key).map SavedCore.st
  match st.bind CoreSt.list with
  | some l => match l.ended with | some e => (e.2.1, e.2.2) | none => (stAborted, 0xFFFF)
  | none => (stAborted, 0xFFFF)

/-- The LAUNCHes of a context complete with what their lists have left (R352). -/
def Dev.endLaunches (d : Dev) (ctx : Nat) : Dev :=
  ((d.ctx ctx).runs.filter fun r => r.kind == 3).foldl (fun d r =>
    d.launchEnds ctx { r with lists := r.lists.map fun (l : LaunchList) => { l with result := some (l.result.getD (d.listLeft ctx l.key)) } }) d

/-- The other members of a gang hear that a context ends here otherwise than by its abort (R300). -/
def Dev.tellEnd (d : Dev) (ctx : Nat) : Dev :=
  if 2 ≤ (d.ctx ctx).state ∧ (d.ctx ctx).state ≠ 9 ∧ (d.ctx ctx).state ≠ 10 then
    (d.farMembers ctx).foldl (fun d g => d.send (.gangNotice (d.gangDevice ctx g) ctx 0 [])) d
  else d

/-- A context wiped (R202, R227, R361): its key slot destroyed, its regions filled with zero, its barriers and tables freed, its sessions
closed, its counters cleared; its number is FREE. -/
def Dev.destroyCtx (d : Dev) (ctx : Nat) : Dev :=
  let d := (((d.tellEnd ctx).abortTugs ctx).endCollectives ctx stAborted).abortSnaps ctx
  let d := d.endLaunches ctx
  let d := (tblKeys (d.regions.filter fun p => p.2.enabled && p.2.owner == ctx)).foldl Dev.disableRegion d
  let d := (d.clearTables ctx).closeSessions fun s => s.ctx == some ctx
  let d := (d.coresOf ctx).foldl (fun d c => d.modCore c CoreSt.bare) d
  let d := [0x7100 + ctx, 0x7300 + ctx, 0x7400 + ctx, 0xA100 + ctx].foldl Dev.clearIdx d
  let d := (d.setObj (0xD100 + ctx) 0x0A 0).setObj (0xD100 + ctx) 0x0B 0
  { d with sec := { d.sec with slots := tblErase d.sec.slots ctx } }.modCtx ctx Ctx.freed

/-- DESTROY: it waits at the ring's head until the lists of an aborted context have completed; a context that is RUNNING refuses it (R349). -/
def Dev.docketDestroy (d : Dev) (ctx : Nat) : Dev :=
  if ((d.coresOf ctx).any fun c => (d.core c).list.isSome) && (d.ctx ctx).state == 9 then d
  else d.docket ctx (fun k => k == 7) fun _ r d => (d.destroyCtx ctx).docketDone ctx r stOK 0xFFFF 0xFFFF 0

/-- DESTROY (R361). -/
def execDocketDestroy (ctx : Nat) (s : State) : Host.Outcome State Fault Refusal :=
  onDev (wellFormed (.docketDestroy ctx)) (fun d => (d.docketDestroy ctx).audit d) s

/-- The collective that ended with MALFORMED on another member ends so here (R298). -/
def Dev.collTold (d : Dev) (ctx : Nat) (coll : Option (Nat × Nat)) : Dev :=
  match coll with | some (grp, seq) => d.collDisagrees ctx grp seq | none => d

/-- GANG_ABORT (R361): another member's abort of a context ends it here too. -/
def execGangAbort (ctx rank : Nat) (coll : Option (Nat × Nat)) (s : State) : Host.Outcome State Fault Refusal :=
  onDev (wellFormed (.gangAbort ctx rank coll)) (fun d =>
    if rank ≠ d.rank ∧ rank ∈ (d.ctx ctx).members then ((d.collTold ctx coll).abortCtx ctx none).settleRuns ctx else d) s

/-! ### Pilot dispatch (R363) -/

/-- Pilot dispatch starts. -/
def Dev.pilotOn (d : Dev) : Dev := if d.obj 0xD000 4 = 1 then d else (d.setObj 0xD000 4 1).bump 0xD000 5 1

/-- DECISION_BUDGET_EXPIRY (R363): SCH's timer expires on a decision. -/
def execDecisionBudgetExpiry (s : State) : Host.Outcome State Fault Refusal := onDev (wellFormed .decisionBudgetExpiry) (fun d => d.pilotOn) s

/-- SCH_READY (R363). -/
def execSchReady (s : State) : Host.Outcome State Fault Refusal :=
  onDev (wellFormed .schReady) (fun d => if d.restarting 2 then d else d.setObj 0xD000 4 0) s

/-- Whether pilot dispatch may start the docket at a ring's head. -/
def Dev.pilotable (d : Dev) (ctx : Nat) : Bool :=
  let x := d.ctx ctx
  x.pilotable && (x.state == 3 || x.state == 4) &&
    match d.headDocket ctx with
    | some w => dkKind w == 0 || (dkKind w == 3 && match d.headPlan ctx with | some (.waits _) => false | _ => true)
    | none => false

/-- The place of a context in the round robin after the last one taken. -/
def Dev.turnOf (d : Dev) (ctx : Nat) : Nat := (ctx + 63 - d.host.pilotLast) % 64

/-- Whether a context's ring is the one pilot dispatch takes next. -/
def Dev.pilotPick (d : Dev) (ctx : Nat) : Bool :=
  d.pilotable ctx && !(d.ctxs.any fun p => p.1 != ctx && d.pilotable p.1 &&
    (decide (p.2.prio < (d.ctx ctx).prio) || (p.2.prio == (d.ctx ctx).prio && decide (d.turnOf p.1 < d.turnOf ctx))))

/-- Pilot dispatch starts the docket at the head of one ring; a head that the companion owns is recalled, and has no turn yet. -/
def Dev.pilot (d : Dev) (ctx : Nat) : Dev :=
  let d := d.seekHead ctx
  if d.obj 0xD000 4 = 1 ∧ (d.ctx ctx).pilotable ∧ d.headDocket ctx = none then d.headRecalled ctx
  else if d.obj 0xD000 4 = 1 ∧ d.pilotPick ctx then
    let d := { d with host := { d.host with pilotLast := ctx } }
    match d.headDocket ctx, d.headPlan ctx with
    | some w, some p =>
      let d := d.startDocket ctx w fun r d => d.launch ctx r p
      match p with | .go _ => d.bump 0xD000 6 1 | _ => d
    | some w, none => d.startDocket ctx w fun r d => if r.kind = 0 then d.runNop ctx else d
    | none, _ => d
  else d

/-- PILOT_DISPATCH (R363). -/
def execPilotDispatch (ctx : Nat) (s : State) : Host.Outcome State Fault Refusal :=
  onDev (wellFormed (.pilotDispatch ctx)) (fun d => d.pilot ctx) s

end Sys2Proof.Machine
end

