-- ==== Sys2Proof/Machine/HostLoss.lean ====
section
/-! DEFINITION. The driver session (R344, R345), host loss, parking and their end (R364 to R368), and NODE_STATUS (R369). -/

namespace Sys2Proof.Machine

/-! ### Host loss (R364 to R366) -/

/-- HOST_STATE, and whether a driver session exists. -/
def Dev.hostState (d : Dev) : Nat := d.obj 0xD000 9
def Dev.attached (d : Dev) : Bool := d.host.token.isSome

/-- NODE_STATUS for the host: a quarantine or the safe state goes on being told instead. -/
def Dev.hostStatus (d : Dev) (kind : Nat) : Dev :=
  if d.net.statusKind = 3 ∨ d.net.statusKind = 4 ∨ d.net.statusKind = kind then d else d.setStatus kind d.rank

/-- The contexts past FREE. -/
def Dev.sessionCtxs (d : Dev) : List Nat := tblKeys (d.ctxs.filter fun p => p.2.state != 0)

/-- Whether every core of a context waits at a barrier or has no list. -/
def Dev.atBarriers (d : Dev) (ctx : Nat) : Bool :=
  (d.coresOf ctx).all fun c =>
    (d.core c).list.isNone || match (d.core c).wait with | some w => w.tag.op == 0x31 || w.tag.op == 0x32 || w.tag.op == 0x50 | none => false

/-- A context of a lost host comes to rest when it can: it is saved already, or can be saved at its place of rest. -/
def Dev.park (d : Dev) (ctx : Nat) : Dev :=
  let x := d.ctx ctx
  if x.state = 5 ∨ (x.state = 3 ∧ x.saved ≠ []) then d.modCtx ctx fun x => { x with state := 8, saveWanted := false }
  else if x.state = 3 ∨ x.state = 4 then
    if x.stopWanted || x.parkWanted then d.trySave ctx
    else if decide (x.gangSize ≤ 1) && d.atBarriers ctx && d.canSave ctx then d.saveCtx ctx 8
    else d
  else d

/-- When every context has come to rest, HOST_STATE reads 2 and the wait begins. -/
def Dev.hostRest (d : Dev) : Dev :=
  if d.hostState = 1 ∧ (d.ctxs.all fun p => !(p.2.state == 2 || p.2.state == 3 || p.2.state == 4 || p.2.state == 5)) then
    { d with host := { d.host with restAt := some d.time } }.setObj 0xD000 9 2 |>.hostStatus 2
  else d

/-- Host loss. It waits while SCH restarts (R342). Gangs are asked to save at their next gang pre-emption point. -/
def Dev.hostLoss (d : Dev) : Dev :=
  if d.attached = false ∨ d.hostState ≠ 0 then d
  else if d.restarting 2 then { d with host := { d.host with lossDue := true } }
  else
    let d := ({ d with host := { d.host with lossAt := some d.time, lossDue := false } }.setObj 0xD000 9 1).bump 0xD000 0x0D 1
    let d := d.hostStatus 1
    let gangs := tblKeys (d.ctxs.filter fun p => (p.2.state == 3 || p.2.state == 4) && decide (1 < p.2.gangSize))
    let d := gangs.foldl (fun d c => (d.deferGang c).modCtx c fun x => { x with parkWanted := true }) d
    (d.sessionCtxs.foldl Dev.park d).hostRest

/-- HOST_HB_LOSS expires. Supervision is suspended in DEEP and OFF (R501), until READY (R504). -/
def Dev.hbLoss (d : Dev) : Dev := if 3 ≤ d.pwr.offKind ∨ d.obj 0x2000 0x28 ≠ 8 ∨ d.time < d.host.lastBeat + d.obj 0xD000 0x0A * 1000000 then d else d.hostLoss

/-- HOST_HB_LOSS (R364). -/
def execHostHbLoss (s : State) : Host.Outcome State Fault Refusal := onDev (wellFormed .hostHbLoss) (fun d => d.hbLoss) s

/-- CONTEXT_PARK (R366). -/
def execContextPark (ctx : Nat) (s : State) : Host.Outcome State Fault Refusal :=
  onDev (wellFormed (.contextPark ctx)) (fun d => if d.hostState = 1 ∧ d.schReady then (d.park ctx).hostRest else d) s

/-- HOST_DRAIN_LIMIT for one context: a single-module one is saved at its next order boundaries; a gang that has met no gang pre-emption
point is HELD. -/
def Dev.drainCtx (d : Dev) (ctx : Nat) : Dev :=
  let x := d.ctx ctx
  if x.state ≠ 3 ∧ x.state ≠ 4 then d
  else if x.gangSize ≤ 1 then (d.modCtx ctx fun x => { x with parkWanted := true }).trySave ctx
  else if d.atGangPoint ctx then d.trySave ctx
  else (d.runOff ctx).modCtx ctx fun x => { x with state := 7, parkWanted := false, saveWanted := false, stopWanted := false }

def Dev.drainLimit (d : Dev) : Dev :=
  match d.host.lossAt with
  | some t => if d.hostState = 1 ∧ d.schReady ∧ t + d.obj 0xD000 0x0B * 1000000 ≤ d.time then (d.sessionCtxs.foldl Dev.drainCtx d).hostRest else d
  | none => d

/-- HOST_DRAIN_LIMIT (R366). -/
def execHostDrainLimit (s : State) : Host.Outcome State Fault Refusal := onDev (wellFormed .hostDrainLimit) (fun d => d.drainLimit) s

/-! ### The end of host loss (R367, R368) -/

/-- The session ends. -/
def Dev.endSession (d : Dev) : Dev :=
  ({ d with host := { d.host with token := none, lossAt := none, restAt := none, lossDue := false, hostDue := [] } }.setObj 0xD000 0x0F 0).setObj 0xD000 9 0

/-- The contexts of the session are aborted and destroyed, every registered ring gets one WIPED, and the session ends. -/
def Dev.wipeSession (d : Dev) : Dev :=
  let d := d.hostStatus 6
  let cs := d.sessionCtxs
  let d := cs.foldl (fun d c => ((d.abortCtx c none).settleRuns c).destroyCtx c) d
  let rings := (List.range 64).filter fun c => d.ringState c != 0
  let d := rings.foldl (fun d c => d.post c (completionWord c 0 0 d.time stWiped 0xFFFF 0xFFFF 0 false)) d
  d.endSession

def Dev.parkWait (d : Dev) : Dev :=
  match d.host.restAt with
  | some t => if d.hostState = 2 ∧ d.schReady ∧ t + d.obj 0xD000 0x0C * 1000000000 ≤ d.time then d.wipeSession else d
  | none => d

/-- HOST_PARK_WAIT (R368). -/
def execHostParkWait (s : State) : Host.Outcome State Fault Refusal := onDev (wellFormed .hostParkWait) (fun d => d.parkWait.audit d) s

/-- A context as the host comes back: a HELD one runs on, a PARKED one waits to be restored, one that was to be parked is not. -/
def Dev.unpark (d : Dev) (ctx : Nat) : Dev :=
  let x := d.ctx ctx
  if x.state = 7 then
    let runs := (d.coresOf ctx).any fun c => (d.core c).list.isSome
    let d := d.modCtx ctx fun x => { x with state := if runs then 4 else 3 }
    (if runs then d.runOn ctx else d).deliverHeld ctx
  else if x.state = 8 then d.modCtx ctx fun x => { x with state := 5 }
  else if x.parkWanted then
    let d := d.modCtx ctx fun x => { x with parkWanted := false }
    if (d.ctx ctx).saveAsked then d else d.deliverHeld ctx
  else d

/-- The saved contexts, in the order SCH restores them: by priority, and among equals the one saved longest first (R359). -/
def Dev.savedOrder (d : Dev) : List Nat :=
  ((d.ctxs.filter fun p => d.wantsBack p.2).foldl (fun l p => (l.filter fun r => !(goesBefore p.2 r.2)) ++ [p] ++ l.filter fun r => goesBefore p.2 r.2) []).map Prod.fst

/-- The driver attaches again: contexts go on, rings are served, completions that waited are written. -/
def Dev.reattach (d : Dev) : Dev :=
  let d := { d with host := { d.host with lossAt := none, restAt := none, lastBeat := d.time } }.setObj 0xD000 9 0 |>.hostStatus 0
  let d := d.sessionCtxs.foldl Dev.unpark d
  let d := d.savedOrder.foldl (fun d c => if d.schReady && d.canRestore (d.ctx c) c then d.restoreCtx c else d) d
  ((List.range 64).filter fun c => d.ringState c != 0).foldl Dev.flush d

/-! ### ATTACH, DETACH and HEARTBEAT (R344, R345) -/

def Dev.attachRefused (d : Dev) : Dev := d.bump 0xD000 0x0E 1

/-- What a driver asked for after a host loss while SCH restarts waits for it (R342): the contexts go on, or the session is wiped. -/
def Dev.hostAsks (d : Dev) (back : Bool) : Dev :=
  if d.hostState = 0 then d.attachRefused
  else if d.restarting 2 then { d with host := { d.host with hostDue := d.host.hostDue ++ [back] } }
  else if back then d.reattach else d.wipeSession

/-- What waited for SCH is done. -/
def Dev.hostDone (d : Dev) : Dev :=
  let due := d.host.hostDue
  let d := { d with host := { d.host with hostDue := [] } }
  due.foldl Dev.hostAsks (if d.host.lossDue then d.hostLoss else d)

/-- ATTACH. -/
def Dev.attach (d : Dev) (token : Nat) : Dev :=
  match d.host.token with
  | none => { d with host := { d.host with token := some token, lastBeat := d.time } }.setObj 0xD000 0x0F 1 |>.hostStatus 0
  | some t => if d.hostState ≠ 0 ∧ t = token then d.hostAsks true else d.attachRefused

/-- DETACH. -/
def Dev.detach (d : Dev) (token : Nat) : Dev :=
  match d.host.token with
  | none => d.attachRefused
  | some t =>
    if t ≠ token then d.attachRefused
    else if d.hostState ≠ 0 then d.hostAsks false
    else if d.sessionCtxs = [] then d.endSession
    else d.hostLoss

/-- ATTACH (R344). A token has 64 bits. -/
def execAttach (token : Nat) (s : State) : Host.Outcome State Fault Refusal :=
  onDev (wellFormed (.attach token)) (fun d => d.byKcl (.attach token) fun d => d.attach (token % 2 ^ 64)) s

/-- DETACH (R344). -/
def execDetach (token : Nat) (s : State) : Host.Outcome State Fault Refusal :=
  onDev (wellFormed (.detach token)) (fun d => d.byKcl (.detach token) fun d => (d.detach (token % 2 ^ 64)).audit d) s

/-- HOST_HEARTBEAT (R345). -/
def execHostHeartbeat (value : Nat) (s : State) : Host.Outcome State Fault Refusal :=
  onDev (wellFormed (.hostHeartbeat value)) (fun d => d.byKcl (.hostHeartbeat value) fun d => { d with host := { d.host with lastBeat := d.time } }) s

/-- NODE_STATUS_SEND (R369). -/
def execNodeStatusSend (s : State) : Host.Outcome State Fault Refusal :=
  onDev (wellFormed .nodeStatusSend) (fun d =>
    if d.net.statusKind ≠ 0 ∧ d.net.lastStatus + 100000000 ≤ d.time then
      { d with net := { d.net with lastStatus := d.time } }.sendStatus d.net.statusKind d.net.statusSubject d.net.statusSince
    else d) s

end Sys2Proof.Machine
end

