-- ==== Sys2Proof/Machine/Mooring.lean ====
section
/-! DEFINITION. Mooring pairs (R329 to R335) and standbys (R362): heartbeats, the loss of a partner, fencing, takeover, reconciliation, and
what a standby does with outcomes and mirrored data. -/

namespace Sys2Proof.Machine

/-! ### The pair -/

def Dev.partner (d : Dev) : Nat := d.obj 0xA000 1
def Dev.moorMode (d : Dev) : Nat := d.obj 0xA000 2
def Dev.pairState (d : Dev) : Nat := d.obj 0xA000 3

/-- Whether a takeover, and not an abort, answers the loss of a device for a context (R263, R299, R334): a member of its gang, in this basin, that told of
a standby and of MOOR_MODE 2. -/
def Dev.takeoverApplies (d : Dev) (ctx rank : Nat) : Bool := d.inBasin rank && (d.ctx ctx).takeovers.contains rank

/-- HEARTBEAT_TIMER (R332): the harbour die sends its partner a HEARTBEAT every 100 µs. -/
def Dev.heartbeat (d : Dev) : Dev :=
  if d.partner = 0xFFFF ∨ d.moorMode = 0 ∨ 1 < d.pairState ∨ d.safe ∨ d.time < d.net.heartbeatSent + 100000 then d
  else { d with net := { d.net with heartbeatSent := d.time } }.sendTo none d.partner { cls := clCtl, op := 0x40, addr := stepAddr 2 0 0 0 0 }

/-- HEARTBEAT_TIMER (R332). -/
def execHeartbeatTimer (s : State) : Host.Outcome State Fault Refusal := onDev (wellFormed .heartbeatTimer) (fun d => d.heartbeat) s

/-- A HEARTBEAT comes. One from the module that PARTNER_RANK names shows that each names the other: the pair stands (R329). -/
def Dev.onHeartbeat (d : Dev) (src : Nat) : Dev :=
  if src = d.partner ∧ d.moorMode ≠ 0 then
    let d := { d with net := { d.net with heartbeatSeen := d.time } }
    if d.pairState = 0 then d.setObj 0xA000 3 1 else d
  else d

/-! ### Standbys (R331, R362) -/

/-- The first docket marked as a step entry among `n` from `j` on; the place after them where there is none. -/
def Dev.stepFrom (d : Dev) (c : Nat) : Nat → Nat → Nat
  | 0, j => j
  | n + 1, j => if dkStep (d.docketAt c j) then j else d.stepFrom c n ((j + 1) % 2 ^ 32)

/-- The number of dockets on a ring from `j` on. -/
def Dev.ringLeft (d : Dev) (c j : Nat) : Nat := ((d.ctx c).sqTail + 2 ^ 32 - j) % 2 ^ 32

/-- A standby's restart point moves past the step that flipped; the dockets before it are retired. -/
def Dev.retire (d : Dev) (c : Nat) : Dev :=
  let from_ := (d.ctx c).restart
  let cur := d.stepFrom c (d.ringLeft c from_) from_
  let next := if d.ringLeft c cur = 0 then cur else d.stepFrom c (d.ringLeft c cur - 1) ((cur + 1) % 2 ^ 32)
  let gone := (List.range ((next + 2 ^ 32 - from_) % 2 ^ 32)).map fun i => d.docketAt c ((from_ + i) % 2 ^ 32)
  let d := d.modCtx c fun x => { x with taken := next, restart := next, seekStep := false }
  gone.foldl (fun d w => d.post c (completionWord c (dkKind w) (dkTag w) d.time stRetired 0xFFFF 0xFFFF 0 false)) d

/-- An outcome applied by a standby as its member applies it (R331). -/
def Dev.standbyOutcome (d : Dev) (o : OutcomeF) : Dev :=
  let c := o.ctx
  let d := d.modCtx c fun x => { x with lastOutcome := some (o.bar, o.gen, o.outcome, o.mask) }
  if o.outcome = 0 then
    let old := (d.ctx c).restart
    ((d.flip c o.mask).modCtx c fun x => { x with restart := old }).retire c
  else if o.outcome = 1 then d.suppress c false
  else if o.outcome = 2 then d.suppress c true
  else d

/-- Where `n` bytes of a MIRROR packet stand in the standby's bank (R330); none where the packet names no standby of the sender. -/
def Dev.mirrorPlace (d : Dev) (src channel addr n : Nat) : Option (Nat × Nat) :=
  let c := field channel 9 4
  match d.sset c (field channel 3 0) with
  | some x =>
    let off := field addr 39 0
    if (d.ctx c).state = 10 ∧ (d.ctx c).standbyFor = some src ∧ off + n ≤ x.size ∧ field channel 15 10 = 0 ∧ field addr 50 40 = 0 then
      some ((if bit addr 51 then x.bank1 else x.bank0) + off, n)
    else none
  | none => none

/-- The transport I/O tugs write a granule's bytes into the standby's bank; only FROZEN refuses them (R198). -/
def Dev.mirrorWrite (d : Dev) (a : Nat) (data : List Byte) (bad : Bool) : Dev :=
  match d.access .firmware true a data.length with
  | some st => d.refused st
  | none => d.write a data bad

/-! ### Takeover (R332 to R335) -/

/-- The other members of this module's gangs in its basin, the partner left out. -/
def Dev.basinGang (d : Dev) : List Nat :=
  (((d.ctxs.filter fun p => decide (2 ≤ p.2.state) && p.2.state != 9 && decide (1 < p.2.gangSize)).map fun p => p.2.members).flatten.filter
    fun r => r != d.rank && r != d.partner && d.inBasin r).eraseDups

/-- The members of this module's gangs, wherever they stand, but for itself and its partner. -/
def Dev.gangPeers (d : Dev) : List Nat :=
  ((d.ctxs.filter fun p => decide (2 ≤ p.2.state) && p.2.state != 9 && decide (1 < p.2.gangSize)).map fun p => p.2.members).flatten.filter
    fun r => r != d.rank && r != d.partner

/-- Whether this module reaches more than half of them; or exactly half, being the lower of the pair. -/
def Dev.majority (d : Dev) : Bool := decide (d.basinGang.length < 2 * (d.basinGang.filter d.reachable).length)
def Dev.tieWon (d : Dev) : Bool := 2 * (d.basinGang.filter d.reachable).length == d.basinGang.length && decide (d.rank < d.partner)

/-- A module that its partner outlives fences itself: its gangs stop here, and the others are not told to abort (R333, R405). -/
def Dev.fenceSelf (d : Dev) : Dev :=
  if d.pairState = 4 then d
  else
    let d := (d.setObj 0xA000 3 1).fault 0x0605 none 0
    let gangs := tblKeys (d.ctxs.filter fun p => decide (2 ≤ p.2.state) && p.2.state != 9 && decide (1 < p.2.gangSize))
    (gangs.foldl (fun d c => d.modCtx c fun x => { x with heldByHost := true }) d).setObj 0xA000 3 4

/-- A core of a context that a takeover stops: its list is given up without a status. -/
def CoreSt.giveUp (x : CoreSt) : CoreSt :=
  { x with list := none, wait := none, loads := [], bank0 := none, bank1 := none, drains := [], joined := [], acksDue := [], hint := none }

/-- A barrier after a takeover: nothing arrived, nobody waits; one homed on the lost rank begins again at generation 0. -/
def Barrier.restart (b : Barrier) (lost : Nat) : Barrier :=
  { b with gen := if b.home = lost ∧ b.fast = false then 0 else b.gen, arrived := 0, arrivedSet := [], waiters := [], votes := [], nonCommit := false,
           holding := false, held := [], pulling := !b.poisoned, sawHigh := none }

/-- The compute side of a context as a takeover leaves it: descriptors ended without a report, collectives discarded, conveyors empty. -/
def Dev.takeoverClear (d : Dev) (ctx lostGang : Nat) : Dev :=
  let d := (d.coresOf ctx).foldl (fun d c => d.modCore c CoreSt.giveUp) d
  { d with cmp := { d.cmp with
      tugs := d.cmp.tugs.map fun (p : Nat × List TugItem) => (p.1, p.2.filter fun i => i.tag.ctx != ctx),
      groups := d.cmp.groups.map fun (p : Nat × Group) => if p.1 / 256 = ctx then (p.1, { p.2 with flights := [], early := [], next := 0 }) else p,
      convs := d.cmp.convs.map fun (p : Nat × Conveyor) => if p.1 / 4096 = ctx then (p.1, { quay := p.2.quay, ring := p.2.ring, depth := p.2.depth, slot := p.2.slot, cons := p.2.cons, prod := p.2.prod, credits := p.2.depth }) else p,
      bars := d.cmp.bars.map fun (p : Nat × Barrier) => if p.1 / 1024 = ctx then (p.1, p.2.restart lostGang) else p,
      snaps := d.cmp.snaps.filter fun s => s.ctx != ctx || s.tag.isNone, outcomes := d.cmp.outcomes.filter fun o => o.ctx != ctx, mirrored := d.cmp.mirrored.filter fun m => m.outcome.ctx != ctx,
      arrivals := d.cmp.arrivals.filter fun a => a.ctx != ctx, acks := d.cmp.acks.filter fun a => a.ctx != ctx,
      releases := d.cmp.releases.filter fun a => a.ctx != ctx } }

/-- When every member's RECONCILE has come, a context resumes at its restart point, with the LOSS_SCALE of its last flip and its view records written
(R310, R334); dockets that completed once complete again as REPLAYED. -/
def Dev.resume (d : Dev) (ctx : Nat) : Dev :=
  if (d.ctx ctx).awaiting ≠ [] then d
  else
    let d := match (d.ctx ctx).flipScale with | some v => d.setObj (0xA100 + ctx) 9 v | none => d
    (d.modCtx ctx fun x =>
      { x with taken := x.restart, reconciled := [], replayed := x.doneSeqs, doneSeqs := [] }).writeViews ctx

/-- RECONCILE to every other member: the last applied outcome, or, where there was none, a skip of no barrier. -/
def Dev.sendReconcile (d : Dev) (ctx : Nat) : Dev :=
  let o := (d.ctx ctx).lastOutcome.getD (0, 2 ^ 32 - 1, 1, 0)
  ((d.ctx ctx).members.eraseDups.filter fun r => r != d.rank).foldl (fun d r =>
    d.sendTo (some ctx) r { cls := clCtl, op := 0x40, channel := o.2.2.2, addr := stepAddr 4 0 o.2.2.1 o.1 o.2.1 }) d

/-- Whether an outcome is a flip that another member applied and this one missed (R334). -/
def Ctx.missed (x : Ctx) (o : OutcomeF) : Bool :=
  o.outcome == 0 && o.mask != 0 && match x.lastOutcome with
    | some l => l.1 == o.bar && l.2.1 != o.gen && genDone l.2.1 o.gen
    | none => true

/-- Whether an outcome, or a later one of its barrier, has been applied. -/
def Ctx.hasApplied (x : Ctx) (o : OutcomeF) : Bool :=
  match x.lastOutcome with | some l => l.1 == o.bar && (l.2.1 == o.gen || genDone o.gen l.2.1) | none => false

/-- A missed flip is applied (R334). -/
def Dev.applyMissed (d : Dev) (o : OutcomeF) : Dev :=
  if (d.ctx o.ctx).missed o then (if (d.ctx o.ctx).asMid.isSome then d.standbyOutcome o else d.applyOutcome o).writeViews o.ctx else d

/-- A RECONCILE from a device: it counts once for each rank that the device runs. -/
def Dev.onReconcile (d : Dev) (src : Nat) (o : OutcomeF) : Dev :=
  if src ∉ (d.ctx o.ctx).members then d
  else
    let d := d.applyMissed o
    let waits := (d.ctx o.ctx).awaiting.contains src
    let d := d.modCtx o.ctx fun x => { x with awaiting := x.awaiting.erase src, reconciled := if waits then x.reconciled else x.reconciled ++ [src] }
    if waits then d.resume o.ctx else d

/-- The lines the companion owns of those it reads: the loader positions of a flip (R309), and the dockets that a standby retires (R331). -/
def Dev.mirrorOwned (d : Dev) (m : MirrorDue) : List (Nat × Nat) :=
  let o := m.outcome
  let x := d.ctx o.ctx
  let flips := match m with | .standby _ => o.outcome == 0 | _ => x.missed o
  let rings := match m with | .standby _ => true | _ => x.asMid.isSome
  if flips then
    (((d.maskSets o.ctx o.mask).map fun (p : Nat × StateSet) => ((p.2.working, 8) : Nat × Nat)) ++
      (if rings then (List.range (min (d.ringLeft o.ctx x.restart) (d.sqDepth o.ctx))).map fun i => (d.sqBase o.ctx + 64 * ((x.restart + i) % 2 ^ 32 % d.sqDepth o.ctx), 64)
       else [])).filter fun (r : Nat × Nat) => d.ownedIn r.1 r.2
  else []

/-- One of them takes effect. -/
def Dev.mirrorDo (d : Dev) (m : MirrorDue) : Dev :=
  match m with
  | .standby o => if (d.ctx o.ctx).state = 10 ∧ (d.ctx o.ctx).hasApplied o = false then d.standbyOutcome o else d
  | .reconcile src o => d.onReconcile src o
  | .pair o => d.applyMissed o

/-- They take effect in the order in which they came, each when the companion has returned the lines it reads (R191). -/
def Dev.mirrorSome : Nat → Dev → Dev
  | 0, d => d
  | fuel + 1, d =>
    match d.cmp.mirrored with
    | [] => d
    | m :: ms =>
      if d.mirrorOwned m = [] then Dev.mirrorSome fuel ({ d with cmp := { d.cmp with mirrored := ms } }.mirrorDo m)
      else (d.mirrorOwned m).foldl (fun d r => d.recallOwned r.1 r.2) d

def Dev.mirrorGo (d : Dev) : Dev := Dev.mirrorSome d.cmp.mirrored.length d

def Dev.mirrorLater (d : Dev) (m : MirrorDue) : Dev := { d with cmp := { d.cmp with mirrored := d.cmp.mirrored ++ [m] } }.mirrorGo

/-- A context goes back to its restart point: issue stops, what is under way is discarded, and reconciliation begins. LAUNCH dockets before the restart
point are done with; later ones start again. `lostGang` is the rank whose barriers restart. -/
def Dev.backCtx (d : Dev) (ctx lostGang : Nat) (members : List Nat) : Dev :=
  let x := d.ctx ctx
  let old := x.runs.filter fun r => r.kind == 3 && decide ((r.seq + 2 ^ 32 - x.restart) % 2 ^ 32 ≥ 2 ^ 31)
  let d := old.foldl (fun d r => d.docketDone ctx r stOK 0xFFFF 0xFFFF 0) ((d.takeoverClear ctx lostGang).runOff ctx)
  let d := d.modCtx ctx fun x =>
    { x with members := members, runs := x.runs.filter fun r => r.kind != 3,
             state := if x.state = 3 ∨ x.state = 4 ∨ x.state = 5 then 3 else x.state, savedTugs := [], doneCommits := [],
             saved := x.saved.map fun v => { v with st := v.st.giveUp }, moored := x.moored.filter fun e => e.1 != lostGang,
             saveWanted := false, awaiting := x.reconciled.foldl List.erase (members.filter fun r => r != d.rank) }
  (d.sendReconcile ctx).resume ctx

/-- What a takeover does to one context of the gang on this module: the lost rank is mapped to the taker (R334, R335). -/
def Dev.takeoverCtx (d : Dev) (lost taker ctx : Nat) : Dev :=
  let lostGang := d.gangOf ctx lost
  let members := (d.ctx ctx).members.map fun r => if r = lost then taker else r
  ((d.setObj (0x7100 + ctx) 4 1).modCtx ctx fun x => { x with remap := (lost, taker, lostGang) :: x.remap, takeovers := x.takeovers.filter fun r => r != lost && r != taker }).backCtx ctx lostGang members

/-- A context rewound on this member after a CORE_FAULT somewhere in its gang (R419): the steps of R334 with no rank remapped. -/
def Dev.rewindCtx (d : Dev) (ctx : Nat) : Dev := d.backCtx ctx 0xFFFF (d.ctx ctx).members

/-- This module rewinds one of its contexts and tells the other members, by a notice: the spec gives a rewind no packet (log 96). -/
def Dev.rewind (d : Dev) (ctx : Nat) : Dev :=
  (((d.ctx ctx).members.eraseDups.filter fun r => r != d.rank).foldl (fun d r => d.send (.gangNotice r ctx 10 [])) d).rewindCtx ctx

/-- The contexts a takeover is for: their gang names the lost rank as a member that is taken over (R329, R334), or they are its standbys. -/
def Dev.takenOver (d : Dev) (lost : Nat) : List Nat :=
  tblKeys (d.ctxs.filter fun p => decide (3 ≤ p.2.state) && p.2.state != 9 && p.2.state != 10 && p.2.members.contains lost &&
    (p.2.takeovers.contains lost || p.2.standbyFor == some lost))

/-- A takeover applied on this module: the device's sessions and those of these contexts to the lost rank close without ending any order (R335). A gang
in which that member is not moored loses the rank as R263 and R299 say. -/
def Dev.takeover (d : Dev) (lost taker : Nat) : Dev :=
  let cs := d.takenOver lost
  let d := d.closeSessions fun s => s.peer == lost && (match s.ctx with | none => true | some c => cs.contains c)
  cs.foldl (fun d c => d.takeoverCtx lost taker c) d

/-- The standbys of the lost partner run in its place from now on; they begin at the first step entry they hold. One whose cores another context holds waits off
them, its holds empty, to be restored as a saved context is (R335, log 97); its view records are written then. -/
def Dev.wakeStandby (d : Dev) (lost ctx : Nat) : Dev :=
  let x := d.ctx ctx
  let took := match x.via with | some n => (d.ctx n).takeovers | none => []
  let saved := if x.cores.any fun k => d.heldByOther ctx (CoreRef.ofKey k) then
      x.cores.map fun k => ({ key := k, st := { armed := some ctx }, hold := [], poison := [] } : SavedCore) else []
  (d.modCtx ctx fun x => { x with state := 3, asMid := some (lost % 8), taken := x.restart, seekStart := true, takeovers := took, restoredAt := 0, saved := saved, savedAt := d.time }).writeViews ctx

/-- Two ranks of one gang on one module tell each other their last outcome at once. -/
def Dev.reconcilePair (d : Dev) (ctx : Nat) : Dev :=
  match (d.ctx ctx).via with
  | none => d
  | some n =>
    let tell := fun (d : Dev) (a b : Nat) => match (d.ctx a).lastOutcome with
      | some o => d.mirrorLater (.pair { ctx := b, bar := o.1, gen := o.2.1, outcome := o.2.2.1, mask := o.2.2.2 })
      | none => d
    tell (tell d ctx n) n ctx

/-- This module takes its partner's place. -/
def Dev.takeOver (d : Dev) : Dev :=
  let lost := d.partner
  let d := ((d.setObj 0xA000 3 3).bump 0xA000 7 1).fault 0x0604 none (7 * 2 ^ 56 + lost)
  let told := d.basinGang.filter d.reachable ++ [lost]
  let standbys := tblKeys (d.ctxs.filter fun p => p.2.state == 10 && p.2.standbyFor == some lost)
  let others := (((d.ctxs.filter fun p => decide (2 ≤ p.2.state) && decide (1 < p.2.gangSize)).map fun p => p.2.members).flatten.filter fun r => !(d.inBasin r)).eraseDups
  let d := (told ++ others).foldl (fun d r => d.sendTo none r { cls := clCtl, op := 0x40, addr := stepAddr 3 0 0 0 0, data := natLe 8 (lost + d.rank * 2 ^ 16) }) d
  let d := standbys.foldl (fun d c => d.wakeStandby lost c) d
  standbys.foldl Dev.reconcilePair (d.takeover lost d.rank)

/-- The partner is declared lost (R332, R333); `timer` for event (a). -/
def Dev.partnerLost (d : Dev) (timer : Bool) : Dev :=
  if d.pairState ≠ 1 then d
  else if d.moorMode = 2 then (if timer = false ∨ d.majority ∨ d.tieWon then d.takeOver else d.fenceSelf)
  else d.setObj 0xA000 3 2

/-- HEARTBEAT_LOSS (R332): (b) applies while a path to the partner is up. -/
def execHeartbeatLoss (s : State) : Host.Outcome State Fault Refusal :=
  onDev (wellFormed .heartbeatLoss) (fun d =>
    if d.pairState = 1 ∧ d.reachable d.partner ∧ d.net.heartbeatSeen + d.obj 0xA000 4 ≤ d.time then d.partnerLost false else d) s

/-- A TAKEOVER comes: one that names this module as lost fences it (R333). -/
def Dev.onTakeover (d : Dev) (lost taker : Nat) : Dev := if lost = d.rank then d.fenceSelf else d.takeover lost taker

/-- A NODE_STATUS comes (R332, R369): the partner's quarantine or safe state, or another member's timer for the partner, declare it lost. -/
def Dev.onNodeStatus (d : Dev) (src addr : Nat) : Dev :=
  let kind := field addr 51 48
  if src = d.partner ∧ (kind = 3 ∨ kind = 4) then d.partnerLost false
  else if kind = 5 ∧ field addr 47 32 = d.partner ∧ src ∈ d.gangPeers ∧ d.majority then d.partnerLost false
  else d

/-- The contexts here that a gang's number on another module means: its own, and that of a standby that took over (R335). -/
def Dev.ranksHere (d : Dev) (c : Nat) : List Nat := match d.sibling c with | some b => [c, b] | none => [c]

/-- Another member has nothing missing any more for an admission that is under way here too (R357). -/
def Dev.memberReady (d : Dev) (ctx rank : Nat) : Dev :=
  if (d.ctx ctx).admitting.isSome then (d.modCtx ctx fun x => { x with ready := (x.ready.filter fun r => r != rank) ++ [rank] }).admitGo ctx else d

/-- A step of a gang that another member takes: a rewind (R419), one of an admission (R357), or one of a gang pre-emption point (R225). -/
def Dev.gangTold (d : Dev) (ctx rank step : Nat) : Dev :=
  if step = 10 then (d.ranksHere ctx).foldl Dev.rewindCtx d else if step = 13 then d.memberReady ctx rank else d.gangHeard ctx rank step

/-- What another module says of a context, by the device session (R225, R302, R316, R329, R331, R357, R419). -/
def Dev.memberDigest (f : Fuses) (d : Dev) (ctx rank : Nat) (n : Notice) : Dev :=
  match n with
  | .digest v fpr =>
    if (d.ctx ctx).state = 1 ∨ (d.ctx ctx).state = 2 then
      (Dev.meetMember f (d.modCtx ctx fun x => { x with
        digests := (x.digests.filter fun e => e.1 != rank) ++ [(rank, v, fpr)], ready := x.ready.filter fun r => r != rank,
        admitting := x.admitting.map fun a => { a with said := false } }) ctx rank).admitGo ctx
    else d
  | .standby t => if rank = d.obj 0xA000 1 then d.admitStandby rank ctx t else d
  | .standbyAt n =>
    if rank = d.obj 0xA000 1 then
      (d.modCtx ctx fun x => { x with admitting := x.admitting.map fun a => if a.wantStandby then { a with gotStandby := some n } else a }).admitGo ctx
    else d
  | .gang step => if 2 ≤ (d.ctx ctx).state ∧ rank ∈ (d.ctx ctx).members ∧ rank ≠ d.rank then d.gangTold ctx rank step else d
  | .moored p n takes =>
    if 2 ≤ (d.ctx ctx).state ∧ rank ∈ (d.ctx ctx).members ∧ rank ≠ d.rank then
      let g := d.gangOf ctx rank
      let d := d.modCtx ctx fun x => { x with moored := (x.moored.filter fun e => e.1 != g) ++ [(g, p, n)], takeovers := if takes then insertNat rank x.takeovers else x.takeovers }
      if p = d.rank then d else Dev.openSession f d none p
    else d
  | .train vs =>
    match d.ctxs.find? fun p => p.2.state == 10 && p.2.standbyFor == some rank && p.2.via == some ctx with
    | some p => d.setTrain p.1 vs
    | none => d

/-- MEMBER_DIGEST (R357), and the other notices that come by the device session. -/
def execMemberDigest (ctx rank : Nat) (n : Notice) (s : State) : Host.Outcome State Fault Refusal :=
  onDevF (wellFormed (.memberDigest ctx rank n)) (fun f d => (Dev.memberDigest f d ctx rank n).audit d) s

/-- MIRROR_SYNC (R330): the mirrored sets of a context move toward sync, and a COMMIT that waited may send its vote. -/
def execMirrorSync (ctx : Nat) (s : State) : Host.Outcome State Fault Refusal :=
  onDev (wellFormed (.mirrorSync ctx)) (fun d => if d.safe ∨ d.pwr.offKind ≠ 0 then d else (d.mirrorStep ctx).retry) s

end Sys2Proof.Machine
end

