-- ==== Sys2Proof/Machine/Gezal.lean ====
section
/-! DEFINITION. Received Gezal packets (R245 to R257): the checks of a frame, acceptance in PSN order, what each DATA operation of R247
does, acknowledgements, and packets in transit. -/

namespace Sys2Proof.Machine

/-! ### Frames (R242, R244, R248, R251) -/

/-- The DATA operations of R247. -/
def knownDataOp (op : Nat) : Bool := [0x01, 0x02, 0x03, 0x04, 0x10, 0x11, 0x20, 0x21, 0x22, 0x23, 0x30, 0x40, 0x41, 0x60].contains op

def Dev.rxFrame (d : Dev) (port : Nat) : Dev := d.bump (0x3010 + port) 0x10 1
def Dev.discardFrame (d : Dev) (port : Nat) : Dev := d.bump (0x3010 + port) 0x11 1

/-- Whether a frame and its Gezal header are in order (R242, R248). -/
def Dev.headerFine (d : Dev) (p : Packet) : Bool :=
  p.frameOk && p.ver == 1 && decide (p.typ < 6) && (p.typ != 0 || knownDataOp p.op) && p.reserved == 0 && decide (p.payload.length ≤ d.payloadMax)

/-- A packet of a reserved type, or DATA of an operation that R247 does not list, for this module (R248): discarded whichever row brings it. -/
def Dev.stray (d : Dev) (p : Packet) : Dev :=
  if p.dst ≠ d.rank ∨ d.pwr.offKind ≠ 0 then d
  else if 6 ≤ p.typ ∨ (p.typ = 0 ∧ knownDataOp p.op = false) then (d.rxFrame p.port).discardFrame p.port
  else d

/-- Whether a packet bears an epoch whose keys the receiver has (R251): the session's current one, or the one before it. -/
def Session.epochOk (s : Session) (p : Packet) : Bool := p.epoch == s.epoch % 4 || (s.epoch != 0 && p.epoch == (s.epoch - 1) % 4)

/-- Whether the tag of a packet is the one that the key of its epoch and its sender's direction gives over its header and its payload, which is told as that key opens
it (R251). -/
def Session.opens (s : Session) (p : Packet) : Bool :=
  p.tag == (gcm (s.rxKey p) (natBe 4 p.session ++ natBe 8 p.txn) (headerBytes p) p.payload).2

/-- Whether a session takes packets of a type: OPEN, or, at its initiator, waiting for the first ACK (R441). -/
def Session.takes (s : Session) (p : Packet) : Bool := s.state == 1 || (s.state == 0 && s.initiator && s.stage == hsConfirm && p.typ == 1)

/-- Whether the transport buffer has room for a packet: one of this module's, or one in transit (R27, R255). One that finds none is neither taken nor dropped, it
stays where it is until there is room: DESIGN CHOICE (log 98), since the windows keep it from coming. -/
def Dev.takesIn (d : Dev) (p : Packet) : Bool := p.typ == 1 || p.typ == 2 || d.hasRoom (p.cls == clCtl) p.payload.length

/-- A DATA, ACK or NACK packet for this module passes its checks, and `f` says what follows in its session. -/
def Dev.gezalIn (d : Dev) (p : Packet) (f : Nat → Session → Dev → Dev) : Dev :=
  if p.dst ≠ d.rank ∨ d.pwr.offKind ≠ 0 ∨ d.takesIn p = false then d
  else
    let d := d.rxFrame p.port
    if d.headerFine p = false ∨ d.carries p = false ∨ (d.safe ∧ p.typ = 0) then d.discardFrame p.port
    else match d.session p.session with
      | none => d.discardFrame p.port
      | some s =>
        if s.takes p = false then d.discardFrame p.port
        else if p.enc = false ∨ s.peer ≠ p.src ∨ s.epochOk p = false ∨ s.opens p = false then d.bump 0x3100 0x0B 1
        else f p.session s d

/-! ### Acceptance (R252 to R254) -/

/-- The held packets that follow a PSN without a gap: they, the others, and the PSN after them. -/
def takeRun : Nat → Nat → List Packet → List Packet × List Packet × Nat
  | 0, next, held => ([], held, next)
  | fuel + 1, next, held =>
    match held.find? fun q => q.psn == next with
    | none => ([], held, next)
    | some q =>
      let x := takeRun fuel ((next + 1) % 2 ^ 32) (held.filter fun q => q.psn != next)
      (q :: x.1, x.2.1, x.2.2)

/-- A packet offered to a class: the class after it, and whether it lay beyond the reorder window. -/
def RxClass.accept (r : RxClass) (p : Packet) (window time : Nat) : RxClass × Bool :=
  let off := psnAfter p.psn r.next
  let r := { r with ce := r.ce || p.ce, ackSince := some (r.ackSince.getD time) }
  if off = 0 then
    let x := takeRun r.held.length ((r.next + 1) % 2 ^ 32) r.held
    ({ r with next := x.2.2, held := x.2.1, promised := r.promised - (x.1.length + 1), stalled := r.stalled ++ p :: x.1, fresh := r.fresh + 1, gapSince := if x.2.1 = [] then none else some time }, false)
  else if 2 ^ 31 ≤ off ∨ (r.held.any fun q => q.psn == p.psn) then (r, false)
  else if off < window then ({ r with held := r.held ++ [p], fresh := r.fresh + 1, gapSince := some (r.gapSince.getD time) }, false)
  else (r, true)

/-! ### Who is meant -/


/-- The gang rank of a sender by its endpoint's MID. -/
def Dev.senderRank (d : Dev) (c src ep : Nat) : Nat :=
  match (d.ctx c).remap.find? fun p => p.2.1 == src && p.1 % 8 == epMid ep && src % 8 != epMid ep with
  | some p => p.2.2
  | none => d.gangOf c src

/-- The context here whose barrier store a barrier is homed in. -/
def Dev.homeCtx (d : Dev) (c n : Nat) : Nat :=
  ((d.ranksHere c).find? fun t => match d.bar t n with | some b => b.home == (d.ctx t).gangRank | none => false).getD c

/-- The context here whose cores bear a MID. -/
def Dev.midCtx (d : Dev) (c mid : Nat) : Nat := ((d.ranksHere c).find? fun t => d.midOf t == mid).getD c

/-- Whether a basin address names this module, or the module one of its contexts stands for. -/
def Dev.addressHere (d : Dev) (a : Nat) : Bool := a / 2 ^ 48 == d.mid || d.ctxs.any fun p => p.2.asMid == some (a / 2 ^ 48)

/-! ### Memory operations (R247, R256): none of them where it stalls -/

/-- A WRITE that is refused, or that follows a refused one of its message: nothing is written, and the last one's DONE tells the status and the
bytes written before (R134). -/
def Dev.refuseWrite (d : Dev) (key : Nat) (s : Session) (p : Packet) (st : Nat) : Dev :=
  if p.last then
    (d.setSession key { s with badWrite := 0, wrote := 0 }).sendData key { cls := clResp, op := 0x04, addr := p.psn, refusal := st, before := s.wrote }
  else d.setSession key { s with badWrite := st }

/-- Whether a packet for the basin address of a rank that a takeover put on this module finds that rank saved: its hold windows show the other rank's bytes, so
the packet waits in the transport buffer (R335). -/
def Dev.rankSaved (d : Dev) (s : Session) (a : Nat) : Bool :=
  match s.ctx with
  | some c => (d.sibling c).isSome && (d.ctx (d.midCtx c (a / 2 ^ 48))).saved != [] && (match (d.place (a % 2 ^ 48)).1 with | .hold _ => true | _ => false)
  | none => false

/-- WRITE: written where the module allows it, and a last one answered (R247, R256). A packet that carries part of a run is judged by the whole run, of which no
byte is written where one is refused (R134). -/
def Dev.applyWrite (d : Dev) (key : Nat) (s : Session) (p : Packet) : Option Dev :=
  let a := p.addr % 2 ^ 48
  let n := p.payload.length
  if s.badWrite ≠ 0 then some (d.refuseWrite key s p s.badWrite)
  else if d.rankSaved s p.addr then none
  else
    match (if d.addressHere p.addr then d.access .peer true (a - p.runBefore) (p.runBefore + n + p.runAfter) else some stAddress) with
    | some st => some ((d.refused st).refuseWrite key s p st)
    | none =>
      if d.pinned a n then none
      else if d.ownedIn a n then none
      else
        let d := (d.write a p.payload p.poison).setSession key { s with wrote := if p.last then 0 else s.wrote + n }
        some (if p.last then d.sendData key { cls := clResp, op := 0x04, addr := p.psn } else d)

/-- Packet `i` of the answer to a READ of `n` bytes. -/
def Dev.respond (d : Dev) (key : Nat) (p : Packet) (a n m i : Nat) : Dev :=
  d.sendData key { cls := clResp, op := 0x03, channel := p.channel, addr := p.addr + i * m, data := d.read (a + i * m) (min m (n - i * m)),
                   last := i + 1 == ceilDiv n m, poison := d.poisonIn (a + i * m) (min m (n - i * m)) }

/-- READ: the answer's packets, each with the mark of its bytes; a refused one is answered by its status. -/
def Dev.applyRead (d : Dev) (key : Nat) (s : Session) (p : Packet) : Option Dev :=
  if d.rankSaved s p.addr then none else
  let a := p.addr % 2 ^ 48
  let n := leNat (slice p.payload 0 3)
  let m := d.payloadMax
  match (if d.addressHere p.addr && n != 0 then d.access .peer false a n else some stAddress) with
  | some st =>
    if d.canSend key clResp = false then none
    else some ((d.refused st).sendData key { cls := clResp, op := 0x03, channel := p.channel, addr := p.addr, last := true, refusal := st })
  | none =>
    if d.ownedIn a n ∨ d.canSend key clResp = false then none
    else
      some ((List.range (ceilDiv n m)).foldl (fun d i => d.respond key p a n m i) d)

/-- The tug item that satisfies a test: cluster, tug, place. -/
def Dev.findTug (d : Dev) (f : TugItem → Bool) : Option (Nat × Nat × Nat × TugItem) :=
  d.cmp.tugs.findSome? fun p => (p.2.find? f).map fun i => (p.1 / 4, p.1 % 4, p.2.findIdx f, i)

/-- The tug item whose READ a request is: of its source, or of its chained descriptor. -/
def Dev.readTug (d : Dev) (key : Nat) (r : ReadReq) : Option (Nat × Nat × Nat × TugItem) :=
  d.findTug fun i => i.remote == (if r.desc then 3 else 2) && i.sess == key && i.txn == r.id

/-- A READ of a descriptor was refused (R134): the descriptor ends with its status, and the READs after it are given up; a chain whose next descriptor it was
ends with it (R129). -/
def Dev.readRefused (d : Dev) (key : Nat) (s : Session) (r : ReadReq) (st : Nat) : Dev :=
  let open_ := (s.reads.filter fun q => q.id == r.id).length
  let d := d.setSession key { s with reads := s.reads.filter fun q => q.id != r.id }
  match d.readTug key r with
  | some (cl, t, pos, i) => if r.desc then d.tugUnread cl t pos i st else d.tugFails cl t pos i ((i.sent - open_) * tgLen i.desc) st
  | none => d

/-- The bytes of a chained descriptor have come (R129). -/
def Dev.descRead (d : Dev) (key : Nat) (s : Session) (r : ReadReq) (p : Packet) : Dev :=
  let d := d.setSession key { s with reads := s.reads.filter fun q => q.tag != r.tag }
  match d.readTug key r with
  | some (cl, t, pos, i) => d.tugTake cl t pos i (slice p.payload 0 64) p.poison
  | none => d

/-- The bytes of a READ at their place; the last one of the last READ completes the descriptor at `w`. -/
def Dev.readData (d : Dev) (key : Nat) (s : Session) (r : ReadReq) (p : Packet) (w : Nat × Nat × Nat × TugItem) : Dev :=
  let n := p.payload.length
  let i := { w.2.2.2 with poison := w.2.2.2.poison || p.poison }
  let rs := if p.last then s.reads.filter fun q => q.tag != p.channel else s.reads.map fun q => if q.tag = p.channel then { q with got := q.got + n } else q
  let d := d.write (r.dst + (p.addr - r.src)) p.payload p.poison
  let d := (d.setTugQ w.1 w.2.1 (setNth (d.tugQ w.1 w.2.1) w.2.2.1 i)).setSession key { s with reads := rs }
  if p.last ∧ d.tugAllSent i ∧ (rs.all fun q => q.id != r.id) then d.tugRemoteDone w.1 w.2.1 w.2.2.1 i else d

/-- READ_RESP: its bytes are checked at their place when they come (R186, R198), a region may have changed since the READ was sent. Those of a descriptor that
an abort ended are written nowhere. -/
def Dev.applyReadResp (d : Dev) (key : Nat) (s : Session) (p : Packet) : Option Dev :=
  match s.reads.find? fun r => r.tag == p.channel with
  | none => some d
  | some r =>
    let a := r.dst + (p.addr - r.src)
    let n := p.payload.length
    if p.refusal ≠ 0 then some (d.readRefused key s r p.refusal)
    else if r.desc then some (d.descRead key s r p)
    else match d.readTug key r with
    | none => some (if p.last then d.setSession key { s with reads := s.reads.filter fun q => q.tag != p.channel } else d)
    | some w =>
      if d.pinned a n ∨ d.ownedIn a n then none
      else match d.access (.ctx w.2.2.2.tag.ctx) true r.dst r.len with
        | some st => some ((d.refused st).readRefused key s r st)
        | none => some (d.readData key s r p w)

/-- DONE: the descriptor or the snapshot whose last WRITE it names is complete (R256, R324), or ends with the status it tells (R134); the messages sent before
that WRITE stand in their rings. -/
def Dev.applyDone (d : Dev) (key : Nat) (p : Packet) : Dev :=
  let psn := field p.addr 31 0
  let d := match d.session key with
    | some s => if s.flush = some psn then d.setSession key { s with flush := none, unwritten := s.unwritten.filter fun u => decide (psnAfter psn u.1 ≥ 2 ^ 31) } else d
    | none => d
  match d.findTug fun i => i.remote == 1 && i.sess == key && i.txn == psn with
  | some (cl, t, pos, i) =>
    if p.refusal ≠ 0 then d.tugFails cl t pos i (p.before / tgLen i.desc * tgLen i.desc) p.refusal
    else if d.tugAllSent i then d.tugRemoteDone cl t pos i else d
  | none =>
    { d with cmp := { d.cmp with snaps := d.cmp.snaps.map fun s => if s.sess = key ∧ s.txn = some psn then { s with confirmed := true, refused := p.refusal } else s } }

/-! ### Operations of a context -/

/-- The conveyor of a number whose consumer is here, and its context. -/
def Dev.convHere (d : Dev) (c n : Nat) : Option (Nat × Conveyor) :=
  (d.ranksHere c).findSome? fun t => match d.conv t n with | some v => if epMid v.cons = d.midOf t then some (t, v) else none | none => none

/-- CONVEY: the message and its header, in the consumer's ring once the last piece of it is here. -/
def Dev.applyConvey (d : Dev) (c : Nat) (p : Packet) : Option Dev :=
  match d.convHere c p.channel with
  | none => some d
  | some (t, v) =>
    let a := v.slotAt v.visible
    let bs := v.pieces ++ p.payload
    let bad := v.piecesBad || p.poison
    if (d.ctx t).saved ≠ [] then none
    else if bit p.addr 16 then some (d.setConv t p.channel { v with pieces := bs, piecesBad := bad })
    else if d.ownedIn a v.slot ∨ d.pinned a v.slot then none
    else some (d.deliver t p.channel { v with pieces := [], piecesBad := false } v.visible (field p.addr 15 0) (bs.take (v.slot - 8)) bad)

/-- CREDIT: credits back at the producer. -/
def Dev.applyCredit (d : Dev) (c : Nat) (p : Packet) : Dev :=
  match (d.ranksHere c).find? fun t => match d.conv t p.channel with | some v => epMid v.prod == d.midOf t | none => false with
  | none => d
  | some t => match d.conv t p.channel with
    | some v => d.setConv t p.channel { v with credits := v.credits + field p.addr 15 0 }
    | none => d

/-- ARRIVE: an arrival at a barrier homed here, or, with weight 0, what a wait there says (log 96). -/
def Dev.applyArrive (d : Dev) (c : Nat) (p : Packet) : Dev :=
  let ep := field p.addr 31 16
  let t := d.homeCtx c p.channel
  if field p.addr 15 0 = 0 then d.waitHeard t p.channel (field p.addr 35 32) (field p.addr 51 36) ⟨d.senderRank t p.src ep, epCore ep⟩
  else d.countArrival { ctx := t, bar := p.channel, weight := field p.addr 15 0, kind := field p.addr 35 32, who := ⟨d.senderRank t p.src ep, epCore ep⟩ }

/-- ARRIVE_ACK: the generation an arrival of a core here joined. -/
def Dev.applyArriveAck (d : Dev) (c : Nat) (p : Packet) : Dev :=
  let ep := field p.addr 47 32
  d.acknowledge (d.midCtx c (epMid ep)) p.channel (epCore ep) (some (field p.addr 31 0))

/-- Whether a core's wait on a barrier ends with the release of a generation: that of its target or a later one. -/
def releasedBy (t n g : Nat) (x : CoreSt) : Bool :=
  waitsAt x t n && (match x.wait with
    | some w => w.tag.op != 0x50 && (match w.target with | some h => h == g || genDone h g | none => false)
    | none => false)

/-- RELEASE of a generation at one context here: the copy moves on, and the waits it ends end. -/
def Dev.releaseHere (d : Dev) (n g : Nat) (t : Nat) : Dev :=
  match d.bar t n with
  | none => d
  | some b =>
    if b.home = (d.ctx t).gangRank ∨ b.poisoned then d
    else
      let d := if genDone g b.gen then d else d.setBar t n { b with gen := (g + 1) % 2 ^ 32 }
      let d := if b.gangpoint then d.modCtx t fun x => { x with gangHeld := false, gangSaid := false } else d
      (d.coresWhere (releasedBy t n g)).foldl Dev.waitEnds d

/-- POISON_BARRIER at one context here: the copy is poisoned, and arrivals whose acknowledgement it stands for end POISONED. -/
def Dev.poisonHere (d : Dev) (n : Nat) (t : Nat) : Dev :=
  let d := d.poisonBar t n
  (d.coresWhere fun x => x.armed == some t && tblGet [] x.acksDue n != []).foldl (fun d c =>
    (tblGet [] (d.core c).acksDue n).foldl (fun d _ => d.acknowledge t n c none) d) d

/-- COLLECT: a fragment of a rank of the sending device that has not sent it yet (R284, R295). -/
def Dev.collectHere (d : Dev) (p : Packet) (t : Nat) : Dev :=
  match d.group t p.channel with
  | none => d
  | some g =>
    let phase := field p.addr 51 50
    let seq := field p.addr 49 34
    let off := field p.addr 33 0
    let ranks := (List.range g.members.length).filter fun r => d.gangDevice t (nth 0 g.members r) == p.src && nth 0 g.members r != (d.ctx t).gangRank
    let got := ((g.flights.filter fun f => f.seq == seq).map fun f => f.frags).flatten ++ (g.early.filter fun e => e.1 == seq).map Prod.snd
    match ranks.find? fun r => !(got.any fun f => f.phase == phase && f.rank == r && f.offset == off) with
    | none => d
    | some r => (d.collArrives t p.channel seq { phase := phase, rank := r, offset := off, bytes := p.payload, poison := p.poison, shape := p.shape }).collGroup t p.channel false

/-- VOTE: a commit arrival with its mask and flag (R315). -/
def Dev.applyVote (d : Dev) (c : Nat) (p : Packet) : Dev :=
  let ep := leNat (slice p.payload 0 2)
  let n := field p.addr 41 32
  let t := d.homeCtx c n
  d.countArrival { ctx := t, bar := n, weight := 1, kind := 4, who := ⟨d.senderRank t p.src ep, epCore ep⟩, vote := some (p.channel, bit p.addr 47) }

/-- An OUTCOME that has come for a context: kept until it may be applied, once for its generation (R316, R318). -/
def Dev.outcomeHere (d : Dev) (p : Packet) (t : Nat) : Dev :=
  let o : OutcomeF := { ctx := t, bar := field p.addr 41 32, gen := field p.addr 31 0, mask := p.channel, outcome := field p.addr 46 44 }
  if (d.ctx t).hasApplied o || (d.cmp.outcomes.any fun q => q.ctx == t && q.bar == o.bar && q.gen == o.gen) || decide (3 < o.outcome) then d
  else { d with cmp := { d.cmp with outcomes := d.cmp.outcomes ++ [o] } }.outcomeDue false

/-- The mooring partner's copy of an OUTCOME, from the home of the barrier: the standby applies it once (R316, R331). -/
def Dev.partnerOutcome (d : Dev) (p : Packet) : Dev :=
  let c := leNat (slice p.payload 0 8) % 64
  let o : OutcomeF := { ctx := c, bar := field p.addr 41 32, gen := field p.addr 31 0, mask := p.channel, outcome := field p.addr 46 44 }
  if (d.ctx c).state = 10 ∧ p.src ∈ (d.ctx c).members ∧ o.outcome ≤ 3 ∧ (d.ctx c).hasApplied o = false then d.mirrorLater (.standby o) else d

/-- STEP packets by KIND (R315). -/
def stepKind (p : Packet) : Nat := field p.addr 51 48
def Dev.applyStep (d : Dev) (c : Option Nat) (p : Packet) : Dev :=
  match stepKind p, c with
  | 0, some c => d.applyVote c p
  | 1, some c => (d.ranksHere c).foldl (fun d t => d.outcomeHere p t) d
  | 1, none => d.partnerOutcome p
  | 2, none => d.onHeartbeat p.src
  | 3, none => d.onTakeover (leNat (slice p.payload 0 2)) (leNat (slice p.payload 2 2))
  | 4, some c => (d.ranksHere c).foldl (fun d t => d.mirrorLater (.reconcile p.src { ctx := t, bar := field p.addr 41 32, gen := field p.addr 31 0, outcome := field p.addr 46 44, mask := p.channel })) d
  | _, _ => d

/-- What a packet of a context does; none where it must wait. -/
def Dev.applyCtx (d : Dev) (c : Nat) (p : Packet) : Option Dev :=
  if p.op = 0x10 then d.applyConvey c p
  else some (
    if p.op = 0x11 then d.applyCredit c p
    else if p.op = 0x20 then d.applyArrive c p
    else if p.op = 0x21 then d.applyArriveAck c p
    else if p.op = 0x22 then (d.ranksHere c).foldl (fun d t => d.releaseHere p.channel (field p.addr 31 0) t) d
    else if p.op = 0x23 then (d.ranksHere c).foldl (fun d t => d.poisonHere p.channel t) d
    else if p.op = 0x30 then (d.ranksHere c).foldl (fun d t => d.collectHere p t) d
    else if p.op = 0x40 then d.applyStep (some c) p
    else d)

/-- MIRROR: written into the standby's bank, where nothing holds it back or refuses it (R198, R330). -/
def Dev.applyMirror (d : Dev) (p : Packet) : Option Dev :=
  match d.mirrorPlace p.src p.channel p.addr p.payload.length with
  | none => some d
  | some r =>
    if d.pinned r.1 r.2 ∨ d.ownedIn r.1 r.2 then none
    else some (d.mirrorWrite r.1 p.payload p.poison)

/-- A packet of a device session that is no memory operation. -/
def Dev.applyDevice (d : Dev) (p : Packet) : Dev :=
  if p.op = 0x40 then d.applyStep none p
  else if p.op = 0x60 then d.onNodeStatus p.src p.addr
  else d

/-- An accepted packet applied in its session (R252); none where it must wait (R255). -/
def Dev.applyPkt (d : Dev) (key : Nat) (s : Session) (p : Packet) : Option Dev :=
  if p.op = 0x01 then d.applyWrite key s p
  else if p.op = 0x02 then d.applyRead key s p
  else if p.op = 0x03 then d.applyReadResp key s p
  else if p.op = 0x04 then some (d.applyDone key p)
  else match s.ctx with
    | some c => d.applyCtx c p
    | none => if p.op = 0x41 then d.applyMirror p else some (d.applyDevice p)

/-- The local range a packet touches. -/
def Dev.pktRange (d : Dev) (s : Session) (p : Packet) : Nat × Nat :=
  if p.op = 0x01 then (p.addr % 2 ^ 48, p.payload.length)
  else if p.op = 0x02 then (p.addr % 2 ^ 48, leNat (slice p.payload 0 3))
  else if p.op = 0x03 then (match s.reads.find? fun r => r.tag == p.channel with | some r => if r.desc then (0, 0) else (r.dst + (p.addr - r.src), p.payload.length) | none => (0, 0))
  else if p.op = 0x41 then (d.mirrorPlace p.src p.channel p.addr p.payload.length).getD (0, 0)
  else match (match s.ctx with | some c => d.convHere c p.channel | none => none) with
    | some (_, v) => if p.op = 0x10 then (v.slotAt v.visible, v.slot) else (0, 0)
    | none => (0, 0)

/-- Whether a packet that must wait waits on a pinned range. -/
def Dev.pktPinned (d : Dev) (s : Session) (p : Packet) : Bool :=
  let r := d.pktRange s p
  p.op != 0x02 && d.pinned r.1 r.2

/-- What a packet that must wait has begun: RECALLs of the lines it needs, or PIN_STALLS of the pins that hold its write (R115). -/
def Dev.stallPkt (d : Dev) (s : Session) (p : Packet) : Dev :=
  let r := d.pktRange s p
  if (p.op = 0x01 ∨ p.op = 0x02) ∧ d.rankSaved s p.addr then d
  else if d.pktPinned s p then d.pinStall r.1 r.2 else d.recallOwned r.1 r.2

/-- Whether a session class waits on a pinned range is noted. The end of the last such wait opens the window again, which an ACK tells (R255). -/
def Dev.notePin (d : Dev) (key cls : Nat) (b : Bool) : Dev :=
  match d.session key with
  | none => d
  | some s =>
    if (s.rxc cls).pinned = b then d
    else
      let s := { s with rx := tblSet s.rx cls { s.rxc cls with pinned := b } }
      let d := d.setSession key s
      if b ∨ (s.rx.any fun q => q.2.pinned) ∨ s.state ≠ 1 then d else d.sendAck key clReq

/-- The accepted packets of a session class applied in order until one must wait. -/
def Dev.drainRx (key cls : Nat) : Nat → Dev → Dev
  | 0, d => d
  | fuel + 1, d =>
    match d.session key with
    | none => d
    | some s =>
      let r := s.rxc cls
      match r.stalled with
      | [] => d.notePin key cls false
      | p :: rest =>
        match d.applyPkt key { s with rx := tblSet s.rx cls { r with stalled := rest } } p with
        | none => (d.stallPkt s p).notePin key cls (d.pktPinned s p)
        | some d' =>
          match d'.session key with
          | none => d'
          | some s' =>
            let r' := s'.rxc cls
            let s'' := if r'.stalled = r.stalled then { s' with rx := tblSet s'.rx cls { r' with stalled := rest } } else s'
            Dev.drainRx key cls fuel (d'.setSession key s'')

/-- A DATA packet of a session: accepted, applied as far as order allows, acknowledged after 16 (R252 to R254). -/
def Dev.recvData (d : Dev) (key : Nat) (s : Session) (p : Packet) : Dev :=
  let x := (s.rxc p.cls).accept p (d.obj 0x3100 6) d.time
  let d := d.leaveIdle.setSession key { s with rx := tblSet s.rx p.cls x.1 }
  let d := if x.2 then d.bump 0x3100 0x0C 1 else d
  let d := Dev.drainRx key p.cls (x.1.stalled.length + 1) d
  let d := match d.session key with | some s => if 16 ≤ (s.rxc p.cls).fresh then d.sendAck key p.cls else d | none => d
  d.retry

/-- Packets that waited, and what two ranks on this module sent each other, are tried again. -/
def Dev.pumpLoop : Nat → Dev → Dev
  | 0, d => d
  | fuel + 1, d =>
    match d.net.loop with
    | [] => d
    | (c, p) :: rest =>
      let d' := { d with net := { d.net with loop := rest } }
      match d.sibling c with
      | none => Dev.pumpLoop fuel (if (d.ctx c).state = 10 then d'.partnerOutcome p else d')
      | some t =>
        match d'.applyCtx t p with
        | some d'' => Dev.pumpLoop fuel d''
        | none => d

def Dev.pump (d : Dev) : Dev :=
  let work := (d.net.sessions.map fun (p : Nat × Session) => (p.2.rx.filter fun (q : Nat × RxClass) => q.2.stalled != []).map fun (q : Nat × RxClass) => (p.1, q.1, q.2.stalled.length + 1)).flatten
  let d := work.foldl (fun d w => Dev.drainRx w.1 w.2.1 w.2.2 d) d
  (Dev.pumpLoop d.net.loop.length d).openWindows

/-! ### Acknowledgements (R253, R254, R259) -/

/-- Whether an ACK covers a PSN: up to ACK_PSN, or in its bitmap. -/
def ackCovers (ack bitmap psn : Nat) : Bool :=
  decide (psnAfter ack psn < 2 ^ 31) || (decide (psnAfter psn ((ack + 1) % 2 ^ 32) < 32) && bit bitmap (psnAfter psn ((ack + 1) % 2 ^ 32)))

/-- A path's limit lowered to 7/8, never below 1% of line rate, at most once per 10 µs. -/
def Dev.cutRate (d : Dev) (rank path : Nat) : Dev :=
  let x := d.pathSt rank path
  if x.lastCut ≠ 0 ∧ d.time < x.lastCut + 10000 then d.setPath rank path { x with lastCe := d.time }
  else
    let l := (7 * x.limit.1, 8 * x.limit.2)
    d.setPath rank path { x with limit := if l.1 * 100 < l.2 then (1, 100) else l, lastCut := d.time, lastCe := d.time }

/-- An acknowledged packet's path is well, and one sent but once tells its round-trip time, smoothed as RFC 6298 does. -/
def Dev.pathWell (d : Dev) (rank : Nat) (k : TxPkt) : Dev :=
  let x := d.pathSt rank k.path
  let srtt := match k.sentAt, k.pkt.tries, x.srtt with
    | some t, 0, none => some (d.time - t)
    | some t, 0, some r => some ((7 * r + (d.time - t)) / 8)
    | _, _, r => r
  if x.rtoRun = 0 ∧ x.srtt = srtt then d else d.setPath rank k.path { x with rtoRun := 0, srtt := srtt }

/-- What ACK_PSN, a bitmap and CE_ECHO say of a class. -/
def Dev.covered (d : Dev) (key : Nat) (s : Session) (cls ack bitmap : Nat) (window : Option Nat) (ce : Bool) : Dev :=
  let t := s.txc cls
  let gone := t.kept.filter fun k => ackCovers ack bitmap k.pkt.psn
  let d := d.setSession key { s with tx := tblSet s.tx cls { t with kept := t.kept.filter fun k => !(ackCovers ack bitmap k.pkt.psn), window := window.getD t.window } }
  let d := gone.foldl (fun d k => d.pathWell s.peer k) d
  if ce then
    let d := d.bump 0x3100 0x0A 1
    match gone.getLast? with | some k => d.cutRate s.peer k.path | none => d
  else d

/-- A kept packet is to be sent again on the next up path (R254), ahead of new ones. With none up it waits. -/
def Dev.resend (d : Dev) (key cls psn : Nat) : Dev :=
  match d.session key with
  | none => d
  | some s =>
    let t := s.txc cls
    let kept := t.kept.map fun q => if q.pkt.psn = psn ∧ q.again then { q with path := 8, sentAt := none } else q
    (d.setSession key { s with tx := tblSet s.tx cls { t with kept := kept } }).pushClass key cls

/-- ACK: packets freed, the window set; the first one opens a session at its initiator (R253, R441). -/
def Dev.onAck (d : Dev) (key : Nat) (s : Session) (p : Packet) : Dev :=
  let open_ := s.state == 0
  let d := (d.covered key s p.cls p.ackPsn (field p.addr 31 0) (some (field p.addr 47 32)) p.ceEcho).pushClass key p.cls
  let d := if open_ then match d.session key with | some s => (d.sessionOpens key s).admitAll | none => d else d
  d.retry

/-- NACK: the packet it names is sent again at once. -/
def Dev.onNack (d : Dev) (key : Nat) (s : Session) (p : Packet) : Dev :=
  (d.covered key s p.cls p.ackPsn 0 none false).resend key p.cls (field p.addr 31 0)

/-! ### The rows -/

/-- A DATA packet of one operation; one of another kind does nothing here, unless no kind is right for it. -/
def Dev.dataRow (d : Dev) (p : Packet) (op : Nat) : Dev := if p.typ = 0 ∧ p.op = op then d.gezalIn p fun k s d => d.recvData k s p else d.stray p

/-- A STEP packet of one KIND. -/
def Dev.stepRow (d : Dev) (p : Packet) (kind : Nat) : Dev := if stepKind p = kind then d.dataRow p 0x40 else d

/-- GEZAL_WRITE (R247, R256). -/
def execGezalWrite (p : Packet) (s : State) : Host.Outcome State Fault Refusal := onDev (wellFormed (.gezalWrite p)) (fun d => d.dataRow p 0x01) s

/-- GEZAL_READ (R247). -/
def execGezalRead (p : Packet) (s : State) : Host.Outcome State Fault Refusal := onDev (wellFormed (.gezalRead p)) (fun d => d.dataRow p 0x02) s

/-- READ_RESP (R247). -/
def execGezalReadResp (p : Packet) (s : State) : Host.Outcome State Fault Refusal := onDev (wellFormed (.gezalReadResp p)) (fun d => d.dataRow p 0x03) s

/-- DONE (R256). -/
def execGezalDone (p : Packet) (s : State) : Host.Outcome State Fault Refusal := onDev (wellFormed (.gezalDone p)) (fun d => d.dataRow p 0x04) s

/-- GEZAL_CONVEY (R168, R247). -/
def execGezalConvey (p : Packet) (s : State) : Host.Outcome State Fault Refusal := onDev (wellFormed (.gezalConvey p)) (fun d => d.dataRow p 0x10) s

/-- CREDIT (R168, R247). -/
def execGezalCredit (p : Packet) (s : State) : Host.Outcome State Fault Refusal := onDev (wellFormed (.gezalCredit p)) (fun d => d.dataRow p 0x11) s

/-- GEZAL_ARRIVE (R218, R247). -/
def execGezalArrive (p : Packet) (s : State) : Host.Outcome State Fault Refusal := onDev (wellFormed (.gezalArrive p)) (fun d => d.dataRow p 0x20) s

/-- ARRIVE_ACK (R214, R247). -/
def execGezalArriveAck (p : Packet) (s : State) : Host.Outcome State Fault Refusal := onDev (wellFormed (.gezalArriveAck p)) (fun d => d.dataRow p 0x21) s

/-- RELEASE (R218, R247). -/
def execGezalRelease (p : Packet) (s : State) : Host.Outcome State Fault Refusal := onDev (wellFormed (.gezalRelease p)) (fun d => d.dataRow p 0x22) s

/-- POISON_BARRIER (R228, R247). -/
def execGezalPoisonBarrier (p : Packet) (s : State) : Host.Outcome State Fault Refusal :=
  onDev (wellFormed (.gezalPoisonBarrier p)) (fun d => d.dataRow p 0x23) s

/-- GEZAL_COLLECT (R295). -/
def execGezalCollect (p : Packet) (s : State) : Host.Outcome State Fault Refusal := onDev (wellFormed (.gezalCollect p)) (fun d => d.dataRow p 0x30) s

/-- VOTE (R315). -/
def execGezalVote (p : Packet) (s : State) : Host.Outcome State Fault Refusal := onDev (wellFormed (.gezalVote p)) (fun d => d.stepRow p 0) s

/-- OUTCOME (R316, R318): one that comes from the home, or the next of those on hand. -/
def execGezalOutcome (p : Option Packet) (s : State) : Host.Outcome State Fault Refusal :=
  onDev (wellFormed (.gezalOutcome p)) (fun d => match p with | some p => d.stepRow p 1 | none => (d.outcomeDue false).retry) s

/-- STEP_HEARTBEAT (R332). -/
def execGezalHeartbeat (p : Packet) (s : State) : Host.Outcome State Fault Refusal := onDev (wellFormed (.gezalHeartbeat p)) (fun d => d.stepRow p 2) s

/-- TAKEOVER (R334). -/
def execGezalTakeover (p : Packet) (s : State) : Host.Outcome State Fault Refusal := onDev (wellFormed (.gezalTakeover p)) (fun d => d.stepRow p 3) s

/-- RECONCILE (R334). -/
def execGezalReconcile (p : Packet) (s : State) : Host.Outcome State Fault Refusal := onDev (wellFormed (.gezalReconcile p)) (fun d => d.stepRow p 4) s

/-- MIRROR (R330). -/
def execGezalMirror (p : Packet) (s : State) : Host.Outcome State Fault Refusal := onDev (wellFormed (.gezalMirror p)) (fun d => d.dataRow p 0x41) s

/-- NODE_STATUS (R369). -/
def execGezalNodeStatus (p : Packet) (s : State) : Host.Outcome State Fault Refusal := onDev (wellFormed (.gezalNodeStatus p)) (fun d => d.dataRow p 0x60) s

/-- ACK (R253). -/
def execGezalAck (p : Packet) (s : State) : Host.Outcome State Fault Refusal :=
  onDev (wellFormed (.gezalAck p)) (fun d => if p.typ = 1 then d.gezalIn p fun k s d => d.onAck k s p else d.stray p) s

/-- NACK (R254). -/
def execGezalNack (p : Packet) (s : State) : Host.Outcome State Fault Refusal :=
  onDev (wellFormed (.gezalNack p)) (fun d => if p.typ = 2 then d.gezalIn p fun k s d => d.onNack k s p else d.stray p) s

/-! ### Transit (R257) -/

/-- A packet for another rank: forwarded unchanged on the first up direct port to it, in the queue of its class (R258), or discarded. -/
def Dev.transit (d : Dev) (p : Packet) : Dev :=
  if p.dst = d.rank ∨ p.typ = 3 ∨ d.pwr.offKind ≠ 0 ∨ d.takesIn p = false then d
  else
    let d := d.rxFrame p.port
    if p.frameOk = false ∨ d.role p.port p.half ≠ 1 ∨ (d.half p.port p.half).state ≠ 4 then d.discardFrame p.port
    else match (if d.inBasin p.dst && !(d.safe && p.typ == 0) then d.directUnit (p.dst % 8) 0 else none) with
      | some u => (d.emit u p [] none).bump 0x3100 0x0E 1
      | none => d.bump 0x3100 0x0F 1

/-- TRANSIT_FORWARD (R257). -/
def execTransitForward (p : Packet) (s : State) : Host.Outcome State Fault Refusal := onDev (wellFormed (.transitForward p)) (fun d => d.transit p) s

/-! ### Timers of a class -/

/-- GAP_WAIT of a session's peer: that of the basin or of the roadstead (R280). -/
def Dev.gapWait (d : Dev) (rank : Nat) : Nat := if d.inBasin rank then d.obj 0x3100 4 else d.obj 0x3100 5

/-- ACK_TIMER: an ACK 1 µs after a packet was accepted, or after 16 of them. -/
def Dev.ackTimer (d : Dev) (key cls : Nat) : Dev :=
  match d.session key with
  | none => d
  | some s =>
    match (s.rxc cls).ackSince with
    | some t => if s.state = 1 ∧ (t + 1000 ≤ d.time ∨ 16 ≤ (s.rxc cls).fresh) then d.sendAck key cls else d
    | none => d

/-- ACK_TIMER (R253). -/
def execAckTimer (sess cls : Nat) (s : State) : Host.Outcome State Fault Refusal := onDev (wellFormed (.ackTimer sess cls)) (fun d => d.ackTimer sess cls) s

/-- GAP_WAIT_EXPIRY: a NACK for a gap that has lasted. -/
def Dev.gapExpires (d : Dev) (key cls : Nat) : Dev :=
  match d.session key with
  | none => d
  | some s =>
    match (s.rxc cls).gapSince with
    | some t => if s.state = 1 ∧ t + d.gapWait s.peer ≤ d.time then d.sendNack key cls else d
    | none => d

/-- GAP_WAIT_EXPIRY (R254). -/
def execGapWaitExpiry (sess cls : Nat) (s : State) : Host.Outcome State Fault Refusal :=
  onDev (wellFormed (.gapWaitExpiry sess cls)) (fun d => d.gapExpires sess cls) s

end Sys2Proof.Machine
end

