-- ==== Sys2Proof/Machine/Paths.lean ====
section
/-! DEFINITION. Ports and paths over time (R236 to R244, R254, R259 to R265, R271 to R276): discovery, the loss of light, lasers, retrains,
neighbour identity, retransmission, probes, and the loss of every path to a destination. -/

namespace Sys2Proof.Machine

/-! ### Ports -/

/-- The DETAIL of a port (R414), its half coded as in HELLO. -/
def Dev.portDetail (d : Dev) (port half : Nat) : Nat := 4 * 2 ^ 56 + port + (if d.splitPort port then half + 1 else 0) * 2 ^ 8

/-- A bit of a two-bit set put in or taken out. -/
def withBit (v i : Nat) : Nat := if bit v i then v else v + 2 ^ i
def withoutBit (v i : Nat) : Nat := if bit v i then v - 2 ^ i else v

/-- HALVES of a port (R278). -/
def Dev.halves (d : Dev) (port : Nat) : Nat := d.obj (0x3010 + port) 2
def Dev.setHalves (d : Dev) (port v : Nat) : Dev := d.setObj (0x3010 + port) 2 v

/-- A port or half takes a state. In one that carries nothing, what waits there is lost and HALVES no longer shows it (R271, R278). -/
def Dev.toState (d : Dev) (port half st : Nat) : Dev :=
  let d := d.setHalf port half { d.half port half with state := st, since := d.time, lossAt := none, retried := false }
  if [3, 4, 6, 7].contains st then d
  else (d.dropQueue (2 * port + half)).setHalves port (if d.splitPort port then withoutBit (d.halves port) half else 0)

/-- A port or half begins to be identified (R272): what was known of its neighbour is forgotten. -/
def Dev.identify (d : Dev) (port half : Nat) : Dev :=
  d.setHalf port half { state := 3, since := d.time, mac := (d.half port half).mac }

/-- Whether every port and half has reached one of the states in which discovery rests (R275). -/
def Dev.discovered (d : Dev) : Bool :=
  (List.range 20).all fun p => [0, 1].all fun h => [0, 4, 5, 6, 7].contains (d.half p h).state || (h == 1 && !(d.splitPort p))

/-! ### Reachability (R263, R274) -/

/-- The destinations this module has something to send to: peers of its sessions, and its partner while the pair stands. -/
def Dev.destinations (d : Dev) : List Nat :=
  (((d.net.sessions.filter fun (p : Nat × Session) => p.2.state != 2).map fun (p : Nat × Session) => p.2.peer) ++
    (if d.partner != 0xFFFF && d.moorMode != 0 && decide (d.pairState < 2) then [d.partner] else [])).eraseDups

/-- The packets kept for a rank: session, class, PSN and path. -/
def Dev.keptFor (d : Dev) (rank : Nat) : List (Nat × Nat × TxPkt) :=
  ((d.net.sessions.filter fun (p : Nat × Session) => p.2.peer == rank && p.2.state != 2).map fun (p : Nat × Session) =>
    (p.2.tx.map fun (q : Nat × TxClass) => q.2.kept.map fun k => (p.1, q.1, k)).flatten).flatten

/-- A destination's timer starts when its last path goes down, and stops when one comes up. -/
def Dev.watch (d : Dev) (rank : Nat) : Dev :=
  if d.steady.reachable rank then
    match tblFind d.net.lost rank with
    | some _ => { d with net := { d.net with lost := tblErase d.net.lost rank } }
    | none => d
  else match tblFind d.net.lost rank with
    | some _ => d
    | none => { d with net := { d.net with lost := tblSet d.net.lost rank d.time } }

/-- Since when each MID of the basin cannot be reached (R281). `old` is the device before. -/
def Dev.noteReach (d old : Dev) : Dev :=
  (List.range 8).foldl (fun d m =>
    if d.steady.reachable (d.basinNumber * 8 + m) then { d with net := { d.net with lostSince := tblErase d.net.lostSince m } }
    else if old.steady.reachable (old.basinNumber * 8 + m) then { d with net := { d.net with lostSince := tblSet d.net.lostSince m d.time } }
    else d) d

/-- What a change of ports, paths or the plan moves (R249, R263, R274, R275): timers of destinations, packets held for want of a path, NODE_STATUS KIND 5, device sessions,
DISCOVERY_DONE, and the fingerprint where the unit map changes. `old` is the device before. -/
def Dev.netAudit (f : Fuses) (d old : Dev) : Dev :=
  let d := ((d.destinations ++ tblKeys d.net.lost).eraseDups.foldl Dev.watch d).pushAll
  let d := if d.net.statusKind = 5 ∧ d.reachable d.net.statusSubject then d.setStatus 0 d.rank else d
  let d := Dev.openDevices f d
  let d := if d.discovered then d.setObj 0x3000 0x0C 1 else d
  (d.noteReach old).retry.audit old

/-- A row of ports and paths: nothing happens while the module is not in RUN. -/
def Dev.netRow (f : Fuses) (d : Dev) (g : Dev → Dev) : Dev := if d.pwr.offKind ≠ 0 then d else Dev.netAudit f (g d) d

/-! ### Discovery (R271 to R273) -/

/-- A port found foreign (R272), and admitted where the plan accepts it and a HELLO came (R273). -/
def Dev.foreign (d : Dev) (port half : Nat) : Dev :=
  let d := ((d.toState port half 6).bump (0x3010 + port) 0x0E 1).fault 0x0303 none (d.portDetail port half)
  if planAccept d.plan ∧ (d.half port half).helloSeen then d.toState port half 7 else d

/-- LIGHT_DETECT: light on every lane of a DARK port. -/
def execLightDetect (port half : Nat) (s : State) : Host.Outcome State Fault Refusal :=
  onDevF (wellFormed (.lightDetect port half)) (fun f d => Dev.netRow f d fun d =>
    if (d.half port half).state = 1 then d.toState port half 2 else d) s

/-- DARK_TIMEOUT: no light for 500 ms. -/
def execDarkTimeout (port half : Nat) (s : State) : Host.Outcome State Fault Refusal :=
  onDevF (wellFormed (.darkTimeout port half)) (fun f d => Dev.netRow f d fun d =>
    if (d.half port half).state = 1 ∧ (d.half port half).since + 500000000 ≤ d.time then d.toState port half 5 else d) s

/-- The lanes of a port or half lock: the halves it runs on are up, and their lanes are whole. -/
def Dev.locks (d : Dev) (port half : Nat) : Dev :=
  let x := d.portSt port
  let d := if d.splitPort port then (d.setHalves port (withBit (d.halves port) half)).setPort port { x with failed := withoutBit x.failed half }
           else (d.setHalves port 3).setPort port { x with failed := 0, spared := 0, broken := 0 }
  d.identify port half

/-- Whether a DOWN port or half retrains to what it was: at once, or, where a whole port lost lanes, at a later try (R239, R271). -/
def Dev.retrains (d : Dev) (port half : Nat) : Bool := (d.half port half).state == 8 && (d.splitPort port || (d.portSt port).failed == 0 || (d.half port half).retried)

/-- PCS_FEC_LOCK (R271): a LINKING port locks, as does one that is DOWN and retrains. -/
def execPcsFecLock (port half : Nat) (s : State) : Host.Outcome State Fault Refusal :=
  onDevF (wellFormed (.pcsFecLock port half)) (fun f d => Dev.netRow f d fun d =>
    if (d.half port half).state = 2 ∨ d.retrains port half then d.locks port half else d) s

/-- LINKING_TIMEOUT: no lock within 200 ms. -/
def execLinkingTimeout (port half : Nat) (s : State) : Host.Outcome State Fault Refusal :=
  onDevF (wellFormed (.linkingTimeout port half)) (fun f d => Dev.netRow f d fun d =>
    if (d.half port half).state = 2 ∧ (d.half port half).since + 200000000 ≤ d.time then d.toState port half 5 else d) s

/-- The wait for a HELLO ends (R272): a basin port has 300 ms, a roadstead port 100 ms. -/
def Dev.identified (d : Dev) (port half : Nat) : Dev :=
  let h := d.half port half
  if h.state ≠ 3 then d
  else if d.role port half = 1 then
    if d.time < h.since + 300000000 then d else if h.lldpSeen then d.foreign port half else d.toState port half 5
  else if d.time < h.since + 100000000 then d
  else d.toState port half 4

/-- IDENTIFYING_TIMEOUT (R272). -/
def execIdentifyingTimeout (port half : Nat) (s : State) : Host.Outcome State Fault Refusal :=
  onDevF (wellFormed (.identifyingTimeout port half)) (fun f d => Dev.netRow f d fun d => d.identified port half) s

/-- An ABSENT port tries again after 1 s, from DARK. A DOWN one stays DOWN and tries to retrain (R239, R271). -/
def Dev.retryPort (d : Dev) (port half : Nat) : Dev :=
  let h := d.half port half
  if d.time < h.since + 1000000000 then d
  else if h.state = 5 then d.toState port half 1
  else if h.state = 8 then d.setHalf port half { h with since := d.time, retried := true }
  else d

/-- PORT_RETRY (R271). -/
def execPortRetry (port half : Nat) (s : State) : Host.Outcome State Fault Refusal :=
  onDevF (wellFormed (.portRetry port half)) (fun f d => Dev.netRow f d fun d => d.retryPort port half) s

/-! ### Neighbour identity (R264, R265) -/

/-- A HELLO's fields. -/
def helloBasin (p : Packet) : Nat := leNat (slice p.payload 0 8)
def helloRank (p : Packet) : Nat := leNat (slice p.payload 8 2)
def helloMid (p : Packet) : Nat := leNat (slice p.payload 10 1)
def helloPort (p : Packet) : Nat := leNat (slice p.payload 11 1)
def helloHash (p : Packet) : Nat := leNat (slice p.payload 14 8)
def helloOk (p : Packet) : Bool := p.payload.length == 64 && leNat (slice p.payload 54 10) == 0

/-- A HELLO on a port: the neighbour is recorded, and a port being identified decides (R272). -/
def Dev.hello (d : Dev) (p : Packet) : Dev :=
  let h := d.half p.port (d.unit p.port p.half)
  let e := planEntry d.plan p.port
  let half := d.unit p.port p.half
  let h' := { h with peerRank := helloRank p, peerPort := helloPort p, peerHash := some (helloHash p), hashSame := d.planAgrees (helloHash p), helloSeen := true }
  let d := (d.setHalf p.port half h').setBlob (0x3010 + p.port) 6 (slice p.payload 22 32)
  if h.state = 3 then
    if halfRole e half = 1 ∧ helloBasin p = planBasinId d.plan ∧ helloMid p = entryMid e half ∧ helloPort p = entryPort e half then d.toState p.port half 4
    else d.foreign p.port half
  else if h.state = 6 ∧ planAccept d.plan then d.toState p.port half 7
  else d

/-- HELLO (R265). -/
def execGezalHello (p : Packet) (s : State) : Host.Outcome State Fault Refusal :=
  onDevF (wellFormed (.gezalHello p)) (fun f d => Dev.netRow f d fun d =>
    if p.typ ≠ 3 then d
    else
      let d := d.rxFrame p.port
      if d.headerFine p = false ∨ helloOk p = false ∨ [3, 4, 6, 7].contains (d.half p.port p.half).state = false then d.discardFrame p.port
      else d.hello p) s

/-- The payload of a HELLO of a port or half. -/
def Dev.helloBytes (d : Dev) (port half : Nat) : List Byte :=
  natLe 8 (planBasinId d.plan) ++ natLe 2 d.rank ++ natLe 1 d.mid ++ natLe 1 port ++ natLe 1 (if d.splitPort port then half + 1 else 0) ++
    natLe 1 (d.half port half).state ++ natLe 8 d.planHash ++ (sha512 devidCert).take 32 ++ List.replicate 10 0#8

/-- A HELLO is due: every 10 ms in IDENTIFYING, every 1 s when PLANNED or FOREIGN. -/
def Dev.sendHello (d : Dev) (port half : Nat) : Dev :=
  let h := d.half port half
  let gap := if h.state = 3 then 10000000 else 1000000000
  if d.role port half ≠ 1 ∨ [3, 4, 6].contains h.state = false ∨ d.time < h.lastHello + gap then d
  else
    let p : Packet := { port := port, half := half, typ := 3, cls := clCtl, enc := false, src := d.rank, payload := d.helloBytes port half }
    (d.setHalf port half { h with lastHello := d.time }).emit (2 * port + half) p [] none

/-- HELLO_SEND (R265). -/
def execHelloSend (port half : Nat) (s : State) : Host.Outcome State Fault Refusal :=
  onDevF (wellFormed (.helloSend port half)) (fun f d => Dev.netRow f d fun d => d.sendHello port half) s

/-- The bytes of a word of ASCII. -/
def ascii (s : String) : List Byte := s.toList.map fun c => BitVec.ofNat 8 c.toNat

/-- A TLV of IEEE 802.1AB: type in the upper seven bits, length in the lower nine. -/
def tlv (typ : Nat) (v : List Byte) : List Byte := natBe 2 (typ * 512 + v.length) ++ v

/-- The LLDP frame of a port (R264), to the nearest-bridge address. -/
def lldpBytes (port : Nat) : List Byte :=
  plainFrame 0x0180C200000E port 0x88CC <| tlv 1 (4#8 :: portMac 0) ++ tlv 2 (3#8 :: portMac port) ++ tlv 3 (natBe 2 4) ++ tlv 4 (ascii ("KC9 port " ++ toString port)) ++ tlv 5 Config.serial ++ tlv 0 []

/-- LLDP_SEND (R264): every 1 s, on a port that is neither DISABLED nor DARK. -/
def execLldpSend (port half : Nat) (s : State) : Host.Outcome State Fault Refusal :=
  onDev (wellFormed (.lldpSend port half)) (fun d =>
    let h := d.half port half
    if d.pwr.offKind ≠ 0 ∨ h.state ≤ 1 ∨ d.time < h.lastLldp + 1000000000 then d
    else ((d.setHalf port half { h with lastLldp := d.time }).send (.frame port 1 (lldpBytes port))).bump (0x3010 + port) 0x0F 1) s

/-- Whether frames come in on a port or half: it has locked and is neither ABSENT nor DOWN. -/
def Dev.lit (d : Dev) (port half : Nat) : Bool := d.pwr.offKind == 0 && [3, 4, 6, 7].contains (d.half port half).state

/-- LLDP_FRAME (R264): the last one is kept. -/
def execLldpFrame (port half : Nat) (data : List Byte) (s : State) : Host.Outcome State Fault Refusal :=
  onDev (wellFormed (.lldpFrame port half data)) (fun d =>
    if d.lit port half then ((d.rxFrame port).setBlob (0x3010 + port) 7 (data.take 512)).setHalf port half { d.half port half with lldpSeen := true, mac := some (beNat (slice data 6 6)) } else d) s

/-! ### Frames outside Gezal (R244, R276) -/

/-- Whether either half of a port takes frames. -/
def Dev.litPort (d : Dev) (port : Nat) : Bool := d.lit port 0 || d.lit port 1

/-- Whether either half of a port carries traffic (R271). -/
def Dev.carrying (d : Dev) (port : Nat) : Bool := d.pwr.offKind == 0 && [0, 1].any fun h => (d.half port h).state == 4 || (d.half port h).state == 7

/-- The Ethernet frame of an answer: what follows the two addresses is the standard's. -/
def Dev.answerBytes (d : Dev) (port kind : Nat) (data : List Byte) : List Byte := natBe 6 (d.frameTo port 0) ++ portMac port ++ Config.standardBytes kind data

/-- A request for the port's own address is answered where the port carries traffic. Any other frame is discarded, PAUSE and priority flow control
frames among them (R237, R244). -/
def Dev.answer (d : Dev) (port kind : Nat) (mine : Bool) (data : List Byte) : Dev :=
  if d.litPort port then
    let d := d.rxFrame port
    if mine && d.carrying port then (d.send (.frame port kind (d.answerBytes port kind data))).bump (0x3010 + port) 0x0F 1 else d.discardFrame port
  else d

/-- NEIGHBOUR_SOLICITATION (R244). -/
def execNeighbourSolicitation (port : Nat) (mine : Bool) (data : List Byte) (s : State) : Host.Outcome State Fault Refusal :=
  onDev (wellFormed (.neighbourSolicitation port mine data)) (fun d => d.answer port 2 mine data) s

/-- ECHO_REQUEST (R244). -/
def execEchoRequest (port : Nat) (mine : Bool) (data : List Byte) (s : State) : Host.Outcome State Fault Refusal :=
  onDev (wellFormed (.echoRequest port mine data)) (fun d => d.answer port 3 mine data) s

/-- ROUTER_ADVERTISEMENT (R244): the first one's source is a roadstead port's next hop. -/
def execRouterAdvertisement (port mac : Nat) (s : State) : Host.Outcome State Fault Refusal :=
  onDev (wellFormed (.routerAdvertisement port mac)) (fun d =>
    if d.litPort port then
      let d := d.rxFrame port
      if (d.role port 0 ≠ 2 ∧ d.role port 1 ≠ 2) ∨ d.carrying port = false then d.discardFrame port
      else if (d.portSt port).learned = 0 then d.setPort port { d.portSt port with learned := mac % 2 ^ 48 } else d
    else d) s

/-- A delay request of the slave clock on a port (R276), laid out by IEEE 1588: message type 1, version 2, the domain, the clock's and the port's identity, and
the number of the request. -/
def Dev.delayRequest (d : Dev) (port : Nat) : List Byte :=
  [1#8, 2#8] ++ natBe 2 44 ++ natLe 1 (d.obj 0x3000 0x0B) ++ List.replicate 15 0#8 ++ (portMac port).take 3 ++ [0xFF#8, 0xFE#8] ++ (portMac port).drop 3 ++ natBe 2 1 ++
    natBe 2 d.net.ptpSeq ++ [1#8, 0x7F#8] ++ List.replicate 10 0#8

/-- The Ethernet frame of a PTP event message of a roadstead port: UDP on IPv6 or IPv4, as the module's own address is, to the group of IEEE 1588. -/
def Dev.ptpFrame (d : Dev) (port : Nat) (msg : List Byte) : List Byte :=
  let mine := roadAddress (d.roadEntry d.rank) (port - 14)
  let group := if isMapped mine then List.replicate 10 0#8 ++ [0xFF#8, 0xFF#8, 224#8, 0#8, 1#8, 129#8] else [0xFF#8, 0x0E#8] ++ List.replicate 12 0#8 ++ [1#8, 0x81#8]
  let w : Wire := { src := mine, dst := group, udp := 319 }
  let udp := udpOver 319 w msg
  if isMapped mine then plainFrame (d.frameTo port 0) port 0x0800 (ipv4Bytes w udp.length ++ udp) else plainFrame (d.frameTo port 0) port 0x86DD (ipv6Bytes {} w udp.length ++ udp)

/-- The clock of PTP_PORT asks its master for the delay. -/
def Dev.askDelay (d : Dev) (port : Nat) : Dev :=
  ({ d with net := { d.net with ptpSeq := (d.net.ptpSeq + 1) % 2 ^ 16, ptpAsk := some (d.net.ptpSeq, d.time) } }.send
    (.frame port 4 (d.ptpFrame port (d.delayRequest port)))).bump (0x3010 + port) 0x0F 1

/-- Whether the calendar may be set: no more than once per second. -/
def Dev.ptpDue (d : Dev) : Bool := match d.net.lastPtp with | some t => decide (t + 1000000000 ≤ d.time) | none => true

/-- A Sync is complete: what its master's clock read when it left, and this module's timebase when it came. The delay is asked for where the calendar may be set. -/
def Dev.ptpSynced (d : Dev) (port t1 t2 : Nat) : Dev :=
  let e : Dev := { d with net := { d.net with ptpSync := none, ptpTimes := some (t1, t2) } }
  if d.ptpDue then e.askDelay port else e

/-- The delay is known: half of what a Sync took by the two clocks and what the request took. The time obtained sets the calendar (R276, R427). -/
def Dev.ptpDelayKnown (d : Dev) (t1 t2 t3 t4 : Nat) : Dev :=
  let delay : Int := (((t2 : Int) - t1) + ((t4 : Int) - t3)) / 2
  let now : Int := t1 + delay + (d.time - t2 : Nat)
  let e : Dev := { d with net := { d.net with ptpAsk := none } }
  if d.ptpDue then
    (({ e with calendar := (now % 2 ^ 64).toNat, net := { e.net with lastPtp := some d.time } } : Dev).setObj 0xB000 6 2).logEvent 6 0 0xFF 0 0 0 0
  else e

/-- What a message of its master does to the slave clock of a port. -/
def Dev.ptpTakes (d : Dev) (port : Nat) (m : PtpMsg) : Dev :=
  if m.kind = 1 then d.ptpSynced port m.ns d.time
  else if m.kind = 2 then { d with net := { d.net with ptpSync := some (m.seq, d.time) } }
  else if m.kind = 3 then (match d.net.ptpSync with | some (n, t2) => if n = m.seq then d.ptpSynced port m.ns t2 else d | none => d)
  else if m.kind = 4 then
    (match d.net.ptpAsk, d.net.ptpTimes with | some (n, t3), some (t1, t2) => if n = m.seq then d.ptpDelayKnown t1 t2 t3 m.ns else d | _, _ => d)
  else d

/-- PTP_MESSAGE (R276, R427): what the clock of PTP_PORT takes from a message of PTP_DOMAIN; one of another domain it passes over. `hasMaster` tells whether the best
master clock algorithm of IEEE 1588, given this message too, has a master: the spec leaves the algorithm to that standard (log 102). -/
def execPtpMessage (port : Nat) (hasMaster : Bool) (ns : PtpMsg) (s : State) : Host.Outcome State Fault Refusal :=
  onDev (wellFormed (.ptpMessage port hasMaster ns)) (fun d =>
    if d.litPort port = false then d
    else
      let d := d.rxFrame port
      if d.obj 0x3000 0x0A ≠ port ∨ d.carrying port = false then d.discardFrame port
      else if ns.domain ≠ d.obj 0x3000 0x0B then d
      else
        let e : Dev := { d with net := { d.net with ptpMaster := if hasMaster then some port else none } }
        if hasMaster ∧ ns.fits then e.ptpTakes port ns else e) s

/-! ### Loss of light (R239, R261) -/

/-- A lane of a half is lost: a spare laser already put there tells that a laser failed; nothing else at this end tells the cause (R240). -/
def Dev.losesLane (d : Dev) (port half : Nat) : Dev :=
  let x := d.portSt port
  if bit x.spared half then d.setPort port { x with failed := withBit x.failed half }
  else ({ d with fresh := d.fresh + 1 } : Dev).setPort port { x with failed := withBit x.failed half, broken := if Config.fibreBroken d.fresh then withBit x.broken half else x.broken }

/-- LOSS_DETECTION (R261): the port takes no new packets; a failed lane is noted, also of a whole port that is DOWN already (R239). Without one it is light or FEC that fails, and codewords count as corrected or
not: how many the command does not tell. -/
def execLossDetection (port half : Nat) (laneLost : Bool) (s : State) : Host.Outcome State Fault Refusal :=
  onDevF (wellFormed (.lossDetection port half laneLost)) (fun f d => Dev.netRow f d fun d =>
    let u := d.unit port half
    let h := d.half port u
    if h.state = 8 ∧ laneLost ∧ d.splitPort port = false then d.losesLane port half
    else if [3, 4, 6, 7].contains h.state = false then d
    else
      let d := if h.lossAt.isSome then d else d.setHalf port u { h with lossAt := some d.time }
      if laneLost then d.losesLane port half
      else (d.bumpFree (0x3010 + port) 0x0A).bumpFree (0x3010 + port) 0x0B) s

/-- Every packet kept that went by a port or half is sent again on another path. -/
def Dev.resendFrom (d : Dev) (unit : Nat) : Dev :=
  let ks := (d.net.sessions.map fun (p : Nat × Session) => p.2.peer).eraseDups.map fun r =>
    (d.keptFor r).filter fun k => k.2.2.path != 8 && 2 * k.2.2.pkt.port + k.2.2.pkt.half == unit
  ks.flatten.foldl (fun d k => d.resend k.1 k.2.1 k.2.2.pkt.psn) d

/-- A port or half is declared down (R261): its paths with it. -/
def Dev.portGoesDown (d : Dev) (port u : Nat) : Dev :=
  let lanes := (d.portSt port).failed
  let d := d.toState port u 8
  let d := (d.bump (0x3010 + port) 0x0C 1).setPort port { d.portSt port with draining := none }
  let d := if lanes = 0 then d else d.fault 0x0301 none (d.portDetail port u)
  d.resendFrom (2 * port + u)

/-- PORT_DOWN (R261): the loss has lasted 10 µs. -/
def execPortDown (port half : Nat) (s : State) : Host.Outcome State Fault Refusal :=
  onDevF (wellFormed (.portDown port half)) (fun f d => Dev.netRow f d fun d =>
    let u := d.unit port half
    match (d.half port u).lossAt with
    | some t => if t + 10000 ≤ d.time then d.portGoesDown port u else d
    | none => d) s

/-- LINK_GLITCH (R261): the loss cleared within 10 µs. -/
def execLinkGlitch (port half : Nat) (s : State) : Host.Outcome State Fault Refusal :=
  onDevF (wellFormed (.linkGlitch port half)) (fun f d => Dev.netRow f d fun d =>
    let u := d.unit port half
    match (d.half port u).lossAt with
    | some t =>
      if d.time < t + 10000 then
        ((d.setHalf port u { d.half port u with lossAt := none }).setPort port { d.portSt port with failed := withoutBit (d.portSt port).failed half, broken := withoutBit (d.portSt port).broken half }).bump (0x3010 + port) 0x0D 1
      else d
    | none => d) s

/-- HALF_RETRAIN (R239): a whole port that lost a lane comes up on its good half, or on one that a later try finds good. -/
def execHalfRetrain (port half : Nat) (s : State) : Host.Outcome State Fault Refusal :=
  onDevF (wellFormed (.halfRetrain port half)) (fun f d => Dev.netRow f d fun d =>
    let bad := (d.portSt port).failed
    if (d.half port 0).state = 8 ∧ d.splitPort port = false ∧ ((bad ≠ 0 ∧ bit bad half = false) ∨ (d.half port 0).retried) then
      ((d.setPort port { d.portSt port with failed := withoutBit bad half }).setHalves port (2 ^ half)).identify port 0
    else d) s

/-! ### Lasers and planned retrains (R240, R279) -/

/-- The half a laser of an engine serves: its LASER_MAP entry. -/
def Dev.laserMap (d : Dev) (engine laser : Nat) : Nat := d.objAt (0x3040 + engine) 1 laser
/-- An unused spare laser of an engine. -/
def Dev.spareLaser (d : Dev) (engine : Nat) : Option Nat := [10, 11].find? fun l => d.laserMap engine l == 0xFF

/-- Whether a laser feeds a half of a port. -/
def Dev.halfFed (d : Dev) (port half : Nat) : Bool := (List.range 12).any fun l => d.laserMap (port / 5) l == 2 * (port % 5) + half

/-- A laser fails: it is marked, and a spare, if one is left, takes the half it fed. -/
def Dev.laserFails (d : Dev) (engine laser : Nat) : Dev :=
  let fed := d.laserMap engine laser
  if fed = 0xFE then d
  else
    let d := d.setObjAt (0x3040 + engine) 1 laser 0xFE
    let left := d.obj (0x3040 + engine) 2
    if fed = 0xFF then (d.setObj (0x3040 + engine) 2 (left - 1)).logWear 3 0x0302 (5 * 2 ^ 56 + engine + laser * 2 ^ 8)
    else
      let port := 5 * engine + fed / 2
      let x := d.portSt port
      let d := match d.spareLaser engine with
        | some sp =>
          ((((d.setPort port { x with spared := withBit x.spared (fed % 2), broken := withoutBit x.broken (fed % 2) }).setObjAt (0x3040 + engine) 1 sp fed).setObj (0x3040 + engine) 2 (left - 1)).bumpAt 0xB000 8 2 1).logWear 3 0x0302 (5 * 2 ^ 56 + engine + laser * 2 ^ 8)
        | none => d.setPort port { x with failed := withBit x.failed (fed % 2) }
      d.fault 0x0302 none (5 * 2 ^ 56 + engine + laser * 2 ^ 8)

/-- LASER_FAILED (R240). -/
def execLaserFailed (engine laser : Nat) (s : State) : Host.Outcome State Fault Refusal :=
  onDevF (wellFormed (.laserFailed engine laser)) (fun f d => Dev.netRow f d fun d => d.laserFails engine laser) s

/-- A planned retrain of a port that runs on one half, has light for both and lost its lanes by lasers alone: first no new packets, then, with all acknowledged or
after 1 ms, both halves; what is still unacknowledged goes by other paths. -/
def Dev.plannedRetrain (d : Dev) (port : Nat) : Dev :=
  let x := d.portSt port
  match x.draining with
  | none =>
    if d.splitPort port = false ∧ ((d.half port 0).state = 4 ∨ (d.half port 0).state = 7) ∧ d.halves port ≠ 3 ∧ x.broken = 0 ∧ d.halfFed port 0 ∧ d.halfFed port 1 then d.setPort port { x with draining := some d.time } else d
  | some t =>
    let waits := d.net.sessions.any fun (p : Nat × Session) => p.2.state != 2 && p.2.tx.any fun (q : Nat × TxClass) => q.2.kept.any fun k => k.path != 8 && k.pkt.port == port
    if waits ∧ d.time < t + 1000000 then d
    else (((d.resendFrom (2 * port)).dropQueue (2 * port)).setPort port { x with draining := none, failed := 0, spared := 0, broken := 0 }).setHalves port 3

/-- PLANNED_RETRAIN (R240). -/
def execPlannedRetrain (port : Nat) (s : State) : Host.Outcome State Fault Refusal :=
  onDevF (wellFormed (.plannedRetrain port)) (fun f d => Dev.netRow f d fun d => d.plannedRetrain port) s

/-! ### Retransmission and probes (R254, R259, R262) -/

/-- A path is declared down by retransmission: its packets go by others. -/
def Dev.pathFails (d : Dev) (rank path : Nat) : Dev :=
  let x := d.pathSt rank path
  let d := (d.setPath rank path { x with down := true, rtoRun := 0, lastProbe := d.time, probes := x.probes.map fun (q : Probe) => ({ q with back := false, rto := 0 } : Probe) }).bump 0x3100 8 1
  ((d.keptFor rank).filter fun k => k.2.2.path == path).foldl (fun d k => d.resend k.1 k.2.1 k.2.2.pkt.psn) d

/-- Whether the RTO of a packet that was sent has passed. -/
def TxPkt.overdue (k : TxPkt) (time : Nat) : Bool := k.path != 8 && match k.sentAt with | some t => decide (t + k.rto ≤ time) | none => false

/-- RTO_EXPIRY: a packet not acknowledged in time is sent again; the sixteenth in a row on a path brings it down. -/
def Dev.rtoExpires (d : Dev) (key cls psn : Nat) : Dev :=
  match d.session key with
  | none => d
  | some s =>
    match (s.txc cls).kept.find? fun k => k.pkt.psn == psn with
    | none => d
    | some k =>
      if s.state = 2 ∨ k.overdue d.time = false ∨ d.reachable s.peer = false then d
      else
        let x := d.pathSt s.peer k.path
        if 16 ≤ x.rtoRun + 1 ∧ x.down = false then d.pathFails s.peer k.path
        else (d.setPath s.peer k.path { x with rtoRun := x.rtoRun + 1 }).resend key cls psn

/-- RTO_EXPIRY (R254). -/
def execRtoExpiry (sess cls psn : Nat) (s : State) : Host.Outcome State Fault Refusal :=
  onDevF (wellFormed (.rtoExpiry sess cls psn)) (fun f d => Dev.netRow f d fun d => d.rtoExpires sess cls psn) s

/-- PROBE_TIMER: a PROBE every 1 ms on a path declared down. The latest 64 are kept, so that a late answer is known for one. -/
def Dev.probe (d : Dev) (rank path : Nat) : Dev :=
  let x := d.pathSt rank path
  if x.down = false ∨ d.time < x.lastProbe + 1000000 then d
  else
    let txn := (8 * d.time + path) % 2 ^ 64
    let d := d.setPath rank path { x with lastProbe := d.time, probes := (x.probes ++ [(⟨txn, d.time, d.rto rank path, false⟩ : Probe)]).drop (x.probes.length - 63) }
    match (d.setPath rank path { x with down := false }).outUnit rank path 0 with
    | some u => d.emit u { typ := 5, cls := clCtl, enc := false, src := d.rank, dst := rank, txn := txn, path := path } (d.roadPair rank) none
    | none => d

/-- PROBE_TIMER (R262). -/
def execProbeTimer (rank path : Nat) (s : State) : Host.Outcome State Fault Refusal :=
  onDevF (wellFormed (.probeTimer rank path)) (fun f d => Dev.netRow f d fun d => d.probe rank path) s

/-- Whether three PROBEs sent one after another were answered, each within its RTO. -/
def threeBack (qs : List Probe) : Bool := decide (3 ≤ qs.foldl (fun n q => if 3 ≤ n then n else if q.back then n + 1 else 0) 0)

/-- An answer to a PROBE counts when it comes within the RTO. -/
def Probe.answered (q : Probe) (txn time : Nat) : Probe := if q.txn = txn ∧ time ≤ q.at_ + q.rto then { q with back := true } else q

/-- A PROBE comes: an answer to one of ours counts, and the third in a row brings the path up; any other is answered. -/
def Dev.probed (d : Dev) (p : Packet) : Dev :=
  match (List.range 8).find? fun i => (d.pathSt p.src i).probes.any fun q => q.txn == p.txn with
  | some i =>
    let x := d.pathSt p.src i
    let qs := x.probes.map fun q => q.answered p.txn d.time
    if x.down ∧ threeBack qs then d.setPath p.src i { x with down := false, rtoRun := 0, probes := qs }
    else d.setPath p.src i { x with probes := qs }
  | none =>
    d.emit (2 * p.port + p.half) { typ := 5, cls := clCtl, enc := false, src := d.rank, dst := p.src, txn := p.txn, path := p.path } (d.roadPair p.src) none

/-- PROBE (R262). -/
def execGezalProbe (p : Packet) (s : State) : Host.Outcome State Fault Refusal :=
  onDevF (wellFormed (.gezalProbe p)) (fun f d => Dev.netRow f d fun d =>
    if p.typ ≠ 5 ∨ p.dst ≠ d.rank then d
    else
      let d := d.rxFrame p.port
      if d.headerFine p = false ∨ d.carries p = false then d.discardFrame p.port else d.probed p) s

/-- RATE_RAISE_TIMER (R259): for every 20 µs without CE_ECHO a path's limit rises by 2% of line rate. -/
def execRateRaiseTimer (rank path : Nat) (s : State) : Host.Outcome State Fault Refusal :=
  onDev (wellFormed (.rateRaiseTimer rank path)) (fun d =>
    let x := d.pathSt rank path
    if d.time < x.lastCe + 20000 ∨ x.limit.2 ≤ x.limit.1 then d
    else
      let l := (50 * x.limit.1 + x.limit.2, 50 * x.limit.2)
      d.setPath rank path { x with limit := if l.2 ≤ l.1 then (1, 1) else l, lastCe := d.time }) s

/-! ### The loss of every path (R168, R229, R263, R299) -/

/-- The descriptors to or from a rank end with PATH_LOST, but for those of contexts that a takeover answers for (R334, R335). -/
def Dev.tugsLost (rank : Nat) : Nat → Dev → Dev
  | 0, d => d
  | fuel + 1, d =>
    let names := fun (i : TugItem) =>
      let own := d.midOf i.tag.ctx
      let far := fun (n : Nat) => decide (n < 8) && n != own && d.rankOfMid i.tag.ctx n == rank
      far (tgDstDev i.desc) || (!(tgFill i.desc) && far (tgSrcDev i.desc))
    match d.findTug (fun i => names i && !(d.takeoverApplies i.tag.ctx rank)) with
    | some (cl, t, pos, i) => Dev.tugsLost rank fuel (d.tugFinish cl t pos i 0 stPathLost)
    | none => d

/-- The snapshots whose WRITEs went to a rank end with PATH_LOST, but for a SNAPSHOT of a context that a takeover answers for. -/
def Dev.snapsLost (rank : Nat) (keys : List Nat) : Nat → Dev → Dev
  | 0, d => d
  | fuel + 1, d =>
    let lost := fun (s : Snap) => s.sent != 0 && keys.contains s.sess && !(s.tag.isSome && d.takeoverApplies s.ctx rank)
    match d.cmp.snaps.find? lost with
    | some s => Dev.snapsLost rank keys fuel (d.snapEnd (d.cmp.snaps.findIdx lost) s 0 stPathLost)
    | none => d

/-- Whether a core's waiting order needs a rank: a PUT or GET of a conveyor that joins it, a wait at a barrier homed there. -/
def Dev.waitsFor (d : Dev) (ctx rank : Nat) (x : CoreSt) : Option Bool :=
  match x.wait with
  | none => none
  | some w =>
    let n := field w.word 31 16
    if w.tag.ctx ≠ ctx then none
    else if waitsAt x ctx n then
      match d.bar ctx n with
      | some b => if d.gangDevice ctx b.home = rank then some true else none
      | none => none
    else if w.tag.op = 0x21 ∨ w.tag.op = 0x22 then
      match d.conv ctx n with
      | some v => if d.rankOfMid ctx (epMid v.prod) = rank ∨ d.rankOfMid ctx (epMid v.cons) = rank then some false else none
      | none => none
    else none

/-- A waiting conveyor order ends with PATH_LOST. -/
def Dev.orderLost (d : Dev) (c : CoreRef) : Dev :=
  match (d.core c).wait with
  | some w => (d.modCore c fun x => { x with wait := none }).complete w.tag stPathLost 0 0 true
  | none => d

/-- The collectives of groups that name a rank end with PATH_LOST. -/
def Dev.collectivesLost (d : Dev) (ctx rank : Nat) : Dev :=
  let hit := (d.cmp.groups.filter fun (p : Nat × Group) => p.1 / 256 == ctx && p.2.members.any fun m => d.gangDevice ctx m == rank)
  let d := hit.foldl (fun d p => d.setGroup ctx (p.1 % 256) { p.2 with flights := [] }) d
  hit.foldl (fun d p => p.2.flights.foldl (fun d f => (d.bump (0x7100 + ctx) 0x08 1).complete f.tag stPathLost 0 0 true) d) d

/-- A context that had a session to a rank it has lost. -/
def Dev.ctxLost (d : Dev) (rank ctx : Nat) : Dev :=
  let d := (d.coresWhere fun x => d.waitsFor ctx rank x == some true).foldl (fun d c => d.endWait c stPathLost true) d
  let d := (d.coresWhere fun x => d.waitsFor ctx rank x == some false).foldl Dev.orderLost d
  (d.collectivesLost ctx rank).abortCtx ctx none

/-- PATH_LOST_TIMER: a destination has had no path for 10 ms. An admission under way ends by R250. -/
def Dev.pathLost (d : Dev) (rank : Nat) : Dev :=
  let ctxs := ((d.net.sessions.filter fun (p : Nat × Session) => p.2.peer == rank && p.2.state != 2).filterMap fun (p : Nat × Session) => p.2.ctx).eraseDups
  let keys := tblKeys (d.net.sessions.filter fun (p : Nat × Session) => p.2.peer == rank)
  let aborts := ctxs.filter fun c => (d.ctx c).state != 2 && !(d.takeoverApplies c rank)
  let d := (d.closeSessions fun s => s.peer == rank).bump 0x3100 9 1
  let d := { d with net := { d.net with lost := tblErase d.net.lost rank } }
  let d := if d.net.statusKind = 0 then d.setStatus 5 rank else d.sendStatus 5 rank d.time
  let d := Dev.tugsLost rank ((d.cmp.tugs.map fun (p : Nat × List TugItem) => p.2.length).sum) d
  let d := Dev.snapsLost rank keys d.cmp.snaps.length d
  let d := aborts.foldl (fun d c => d.ctxLost rank c) d
  let d := d.fault 0x0304 none (7 * 2 ^ 56 + rank)
  if rank = d.partner then d.partnerLost true else d

/-- PATH_LOST_TIMER (R263). -/
def execPathLostTimer (rank : Nat) (s : State) : Host.Outcome State Fault Refusal :=
  onDevF (wellFormed (.pathLostTimer rank)) (fun f d => Dev.netRow f d fun d =>
    match tblFind d.net.lost rank with
    | some t => if t + 10000000 ≤ d.time then d.pathLost rank else d
    | none => d) s

end Sys2Proof.Machine
end

