-- ==== Sys2Proof/Machine/Services.lean ====
section
/-! DEFINITION. The chandlery (R375 to R377): the service queue and its four services. -/

namespace Sys2Proof.Machine

/-! ### Requests (R376) -/

def svDst (w : Nat) : Nat := field w 511 460
def svSrc (w : Nat) : Nat := field w 459 408
def svLen (w : Nat) : Nat := field w 407 376
def svStride (w : Nat) : Nat := field w 375 352
def svSet (w : Nat) : Nat := field w 135 128
def svTag (w : Nat) : Nat := field w 127 64
def svCtx (w : Nat) : Nat := field w 15 8
def svCode (w : Nat) : Nat := field w 7 0
def svReserved (w : Nat) : Bool := field w 351 136 == 0 && field w 63 16 == 0

/-- Whether the request at the head of the queue may start: the queue follows the rules of R347 and R353, an I/O tug has USE 1, a chandlery
core runs (R342, R375), and its slot may be read (R186, log 94). -/
def Dev.svcReady (d : Dev) : Bool :=
  !(d.safe || d.pwr.offKind != 0 || d.host.svcOver || decide (64 < d.host.svcWaiting.length) || d.svcHead == d.host.svcTail || d.svcTugs.isEmpty ||
      ([11, 12, 13, 14].all d.restarting) || (d.access .firmware false (d.svcBase + 64 * (d.svcHead % d.svcDepth)) 64).isSome)

/-- That request, where the companion does not own its line (R191). -/
def Dev.svcRequest (d : Dev) : Option Nat :=
  let a := d.svcBase + 64 * (d.svcHead % d.svcDepth)
  if d.svcReady && !(d.ownedIn a 64) then some (leNat (d.read a 64)) else none

/-- That line recalled where the companion owns it. -/
def Dev.svcRecalled (d : Dev) : Dev := if d.svcReady then d.recallOwned (d.svcBase + 64 * (d.svcHead % d.svcDepth)) 64 else d

/-- The chandlery core that serves a request: any that runs. -/
def Dev.svcCore (d : Dev) : Nat × Dev :=
  let ks := [11, 12, 13, 14].filter fun k => !(d.restarting k)
  (nth 11 ks (Config.freeCount d.fresh % ks.length), { d with fresh := d.fresh + 1 })

/-- A basin range where it is a local one. -/
def Dev.localRange (d : Dev) (ctx a n : Nat) : List (Nat × Nat) := if a / 2 ^ 48 = d.midOf ctx then [(a % 2 ^ 48, n)] else []

/-- The local range a request reads. -/
def Dev.svcReads (d : Dev) (w : Nat) : List (Nat × Nat) := d.localRange (svCtx w) (svSrc w) (if svCode w = 4 then 64 else svLen w)

/-- A request of one service is taken and served; it waits while the companion owns a line it touches (R191), and while a range it writes is pinned
(R98). `run` answers the status, or none where the completion comes later. -/
def Dev.serve (d : Dev) (sel : Nat → Bool) (writes : Nat → Dev → List (Nat × Nat)) (run : Nat → Dev → Dev × Option Nat) : Dev :=
  match d.svcRequest with
  | none => d.svcRecalled
  | some w =>
    let ws := writes w d
    let all := d.svcReads w ++ ws
    if sel (svCode w) = false then d
    else if all.any fun r => d.ownedIn r.1 r.2 then all.foldl (fun d r => d.recallOwned r.1 r.2) d
    else if ws.any fun r => d.pinned r.1 r.2 then ws.foldl (fun d r => d.pinStall r.1 r.2) d
    else
      let d := d.leaveIdle.setObj 0xC000 5 ((d.svcHead + 1) % 2 ^ 32)
      let x := if svReserved w && decide (svCtx w < 64) then run w d else (d, some stMalformed)
      match x.2 with
      | some st => (x.1.refused st).svcDone (svCtx w) (svCode w) (svTag w) st
      | none => x.1

/-! ### The data of a request -/

/-- The bytes of SRC with the marks of their lines, by offset and length: local ones checked as a descriptor of the context (R198), others as the far
end returns them. -/
def Dev.svcSource (d : Dev) (ctx src n : Nat) (ext : External) : Nat ⊕ (List Byte × (Nat → Nat → Bool) × Dev) :=
  let dev := src / 2 ^ 48
  let a := src % 2 ^ 48
  if dev = d.midOf ctx then
    match d.access (.ctx ctx) false a n with
    | some st => .inl st
    | none => .inr (d.read a n, fun o k => d.poisonIn (a + o) k, d)
  else if basinDev dev = false ∨ 2 ^ 48 < a + n ∨ ext.accepted = false then .inl stAddress
  else
    let bs := (ext.bytes ++ List.replicate n 0#8).take n
    let bad := fun o k => companionMark ext (a + o) k
    if dev = 15 then .inr (bs, bad, d.devReads ctx a n)
    else if (d.tugSession ctx dev).isSome then .inr (bs, bad, d) else .inl stAddress

/-- Bytes put at DST: here, in companion memory, or by WRITEs to another module. -/
def Dev.svcPut (d : Dev) (ctx dst : Nat) (bs : List Byte) (bad : Nat → Nat → Bool) (accepted : Bool) : Dev × Nat :=
  let dev := dst / 2 ^ 48
  let a := dst % 2 ^ 48
  if dev = d.midOf ctx then
    match d.access (.ctx ctx) true a bs.length with
    | some st => (d, st)
    | none => (d.writeMarked a bs bad, stOK)
  else if basinDev dev = false ∨ 2 ^ 48 < a + bs.length ∨ accepted = false then (d, stAddress)
  else if dev = 15 then (d.devWrites ctx a bs bad, stOK)
  else match d.tugSession ctx dev with
    | none => (d, stAddress)
    | some key =>
      let m := d.payloadMax
      ((List.range (ceilDiv bs.length m)).foldl (fun d i =>
        d.sendData key { cls := clReq, op := 0x01, addr := dev * 2 ^ 48 + a + i * m, data := slice bs (i * m) (min m (bs.length - i * m)),
                         last := (i + 1) * m ≥ bs.length, poison := bad (i * m) (min m (bs.length - i * m)) }) d, stOK)

/-! ### INGEST_COPY, INGEST_JPEG, CHECKPOINT, SUBMIT -/

/-- INGEST_COPY. A local copy moves poison with its lines; one to another module runs until its DONE comes. -/
def Dev.ingestCopy (ext : External) (w : Nat) (d : Dev) : Dev × Option Nat :=
  let ctx := svCtx w
  let own := d.midOf ctx
  let s := svSrc w % 2 ^ 48
  let t := svDst w % 2 ^ 48
  if svSrc w / 2 ^ 48 = own ∧ svDst w / 2 ^ 48 = own then
    match d.access (.ctx ctx) false s (svLen w) with
    | some st => (d, some st)
    | none => match d.access (.ctx ctx) true t (svLen w) with
      | some st => (d, some st)
      | none => ((d.copyRun s t (svLen w)).1.ioTug d.svcTugs (svLen w), some stOK)
  else if svSrc w / 2 ^ 48 = own ∧ svDst w / 2 ^ 48 ≠ 15 then
    let k := d.svcCore
    ({ k.2 with cmp := { k.2.cmp with snaps := k.2.cmp.snaps ++
        [{ ctx := ctx, set_ := 255, bank := s, dst := svDst w, abandon := false, bar := 0xFFFF, tag := none, svc := some (svTag w, k.1), len := some (svLen w) }] } }, none)
  else match d.svcSource ctx (svSrc w) (svLen w) ext with
    | .inl st => (d, some st)
    | .inr (bs, bad, d') =>
      let x := d'.svcPut ctx (svDst w) bs bad ext.accepted
      (if x.2 = stOK then x.1.ioTug d.svcTugs (svLen w) else d, some x.2)

/-- Where an INGEST_COPY writes on this module. -/
def Dev.copyWrites (w : Nat) (d : Dev) : List (Nat × Nat) := if svCode w = 2 then d.localRange (svCtx w) (svDst w) (svLen w) else []

/-- INGEST_COPY (R377), and any code that names no service. -/
def execSvcIngestCopy (ext : External) (s : State) : Host.Outcome State Fault Refusal :=
  onDev (wellFormed (.svcIngestCopy ext)) (fun d =>
    d.serve (fun c => c == 2 || c == 0 || decide (4 < c)) Dev.copyWrites fun w d => if svCode w = 2 then Dev.ingestCopy ext w d else (d, some stUnsupported)) s

/-- A sample as it is stored: sample − 128 as INT8. -/
def lessHalf (b : Byte) : Byte := b - 128#8

/-- The rows of the planes with their addresses, in file order: one plane for each component, at the size that the frame header gives. -/
def jpegRows (h : JpegHead) (j : JpegFacts) (dst stride : Nat) : List (Nat × List Byte) :=
  (List.range h.comps).flatMap fun p => (List.range h.height).map fun r =>
    (dst + (p * h.height + r) * stride, (List.range h.width).map fun i => lessHalf (nth 0#8 (nth [] j.planes p) (r * h.width + i)))

/-- The frame header of the stream at SRC (R377). -/
def Dev.jpegHead (j : JpegFacts) (w : Nat) (d : Dev) : Option JpegHead :=
  match d.svcSource (svCtx w) (svSrc w) (svLen w) j.far with
  | .inr (bs, _, _) => Machine.jpegHead bs
  | .inl _ => none

/-- Rows put one after another, up to the first refused one. -/
def Dev.putRows (ctx : Nat) (bad accepted : Bool) : List (Nat × List Byte) → Dev → Dev × Nat
  | [], d => (d, stOK)
  | r :: rs, d =>
    let x := d.svcPut ctx r.1 r.2 (fun _ _ => bad) accepted
    if x.2 = stOK then Dev.putRows ctx bad accepted rs x.1 else (d, x.2)

/-- INGEST_JPEG: the headers of the stream say whether the service accepts it. One damaged in its headers leaves nothing, one damaged behind them some of the rows:
which is not fixed. -/
def Dev.ingestJpeg (j : JpegFacts) (w : Nat) (d : Dev) : Dev × Option Nat :=
  if svStride w % 8 ≠ 0 then (d, some stMalformed)
  else match d.svcSource (svCtx w) (svSrc w) (svLen w) j.far with
    | .inl st => (d, some st)
    | .inr (bs, bad, d) =>
      match Machine.jpegHead bs with
      | none => (d, some stCorrupt)
      | some h =>
      if h.supported = false then (d, some stUnsupported)
      else
        let rows := jpegRows h j (svDst w) (svStride w)
        let some_ := if j.intact then rows else rows.take (Config.freeCount d.fresh % (rows.length + 1))
        let d := if j.intact then d else { d with fresh := d.fresh + 1 }
        let x := Dev.putRows (svCtx w) (bad 0 (svLen w)) j.far.accepted some_ d
        let d := x.1.ioTug d.svcTugs (svLen w + (some_.map fun r => r.2.length).sum)
        if x.2 ≠ stOK then (d, some x.2)
        else if j.intact then (d.bump 0xC000 6 (h.width * h.height), some stOK)
        else (d, some stCorrupt)

/-- Where the rows of an INGEST_JPEG stand on this module. -/
def Dev.jpegWrites (j : JpegFacts) (w : Nat) (d : Dev) : List (Nat × Nat) :=
  match d.jpegHead j w with
  | some h => if h.supported then ((jpegRows h j (svDst w) (svStride w)).map fun r => d.localRange (svCtx w) r.1 r.2.length).flatten else []
  | none => []

/-- INGEST_JPEG (R377). -/
def execSvcIngestJpeg (j : JpegFacts) (s : State) : Host.Outcome State Fault Refusal :=
  onDev (wellFormed (.svcIngestJpeg j)) (fun d => d.serve (fun c => c == 1) (Dev.jpegWrites j) (Dev.ingestJpeg j)) s

/-- CHECKPOINT: a snapshot of SET under HOLD. -/
def Dev.checkpoint (w : Nat) (d : Dev) : Dev × Option Nat :=
  match (if svSet w ≤ 15 then d.sset (svCtx w) (svSet w) else none) with
  | none => (d, some stMalformed)
  | some x =>
    let k := d.svcCore
    ({ k.2 with cmp := { k.2.cmp with snaps := k.2.cmp.snaps ++
        [{ ctx := svCtx w, set_ := svSet w, bank := x.snapBank, dst := svDst w, abandon := false, bar := 0xFFFF, tag := none, svc := some (svTag w, k.1) }] } }, none)

/-- CHECKPOINT (R377). It waits while a snapshot of the set is in flight (R324). -/
def execSvcCheckpoint (s : State) : Host.Outcome State Fault Refusal :=
  onDev (wellFormed .svcCheckpoint) (fun d =>
    match d.svcRequest with
    | some w => if d.snapBusy (svCtx w) (svSet w) then d else d.serve (fun c => c == 3) (fun _ _ => []) Dev.checkpoint
    | none => d.svcRecalled) s

/-- The slot a SUBMIT writes its docket to. -/
def Dev.submitAt (d : Dev) (c : Nat) : Nat := d.sqBase c + 64 * ((d.ctx c).sqTail % d.sqDepth c)
def Dev.submitWrites (w : Nat) (d : Dev) : List (Nat × Nat) := if d.ringState (svCtx w) = 0 then [] else [(d.submitAt (svCtx w), 64)]

/-- What the far end returns for the docket of a SUBMIT whose SRC is not on this module: the command tells nothing of it, so its bytes are a free value (log 102). -/
def Dev.farDocket (d : Dev) : External := { bytes := Config.freeBytes d.fresh }

/-- The draw is used up where SRC is not on this module. -/
def Dev.farDrawn (d : Dev) (w : Nat) : Dev := if svSrc w / 2 ^ 48 = d.midOf (svCtx w) then d else { d with fresh := d.fresh + 1 }

/-- SUBMIT: the docket at SRC, on this module or as the far end returns it, on the ring of CONTEXT, and its doorbell. -/
def Dev.submit (w : Nat) (d : Dev) : Dev × Option Nat :=
  let c := svCtx w
  match d.svcSource c (svSrc w) 64 d.farDocket with
  | .inl st => (d, some st)
  | .inr (bs, bad, e) =>
    let d := e.farDrawn w
    if d.ringState c = 0 then (d, some stOK)
    else match d.access .firmware true (d.submitAt c) 64 with
      | some st => (d, some st)
      | none => (((d.write (d.submitAt c) bs (bad 0 64)).ioTug d.svcTugs 64).newTail c (((d.ctx c).sqTail + 1) % 2 ^ 32), some stOK)

/-- SUBMIT (R377). -/
def execSvcSubmit (s : State) : Host.Outcome State Fault Refusal :=
  onDev (wellFormed .svcSubmit) (fun d => d.serve (fun c => c == 4) Dev.submitWrites Dev.submit) s

/-! ### The service page (R343, R376) -/

/-- A write of the service page: the queue's tail, or the head of its completions. An overrun queue takes nothing until it is set up again. -/
def Dev.servicePage (d : Dev) (isHead : Bool) (v : Nat) : Dev :=
  let d := d.leaveIdle
  if 2 ^ 32 ≤ v then d.send (.kclReply stAddress [] false)
  else if d.svcDepth = 0 ∨ d.svcCqDepth = 0 then d
  else if isHead then { d with host := { d.host with svcCqHead := v } }.svcFlush
  else if d.host.svcOver then d
  else if d.svcDepth < (v + 2 ^ 32 - d.svcHead) % 2 ^ 32 then
    ({ d with host := { d.host with svcOver := true, svcTail := d.svcHead } }.svcDone 0 0 0 stOverrun).fault 0x0601 none 0
  else { d with host := { d.host with svcTail := v } }

end Sys2Proof.Machine
end

