-- ==== Sys2Proof/Machine/Kcl.lean ====
section
/-! DEFINITION. KCL (R189 to R195, R343, R444): the companion's reads, writes and atomics, the snoop filter's recording of its lines, the
control pages, the link's lanes and its training. -/

namespace Sys2Proof.Machine

/-! ### Replies and the snoop filter (R191) -/

def Dev.refuse (d : Dev) (st : Nat) : Dev := (d.refused st).send (.kclReply st [] false)
def Dev.reply (d : Dev) (bs : List Byte) (bad : Bool) : Dev := d.send (.kclReply stOK bs bad)

/-- A line recorded as the companion's, and whether it was. A full filter first recalls one of its lines, whichever: one the companion may modify
comes back by its WRITEBACK, for which the request waits. -/
def Dev.record (d : Dev) (line : Nat) (how : Snoop) : Dev × Bool :=
  let put := fun (d : Dev) => { d with host := { d.host with snoop := tblSet d.host.snoop line how } }
  if (tblFind d.host.snoop line).isSome ∨ d.host.snoop.length < d.obj 0x8000 6 then (put d, true)
  else if d.host.snoop.any fun (p : Nat × Snoop) => p.2 == .recalled then (d, false)
  else
    let d' := { d with fresh := d.fresh + 1 }.bump 0x8000 7 1
    match d.host.snoop[Config.freeCount d.fresh % max 1 d.host.snoop.length]? with
    | some (l, .shared) => (put ({ d' with host := { d'.host with snoop := tblErase d'.host.snoop l } }.send (.recall l)), true)
    | some (l, _) => ({ d' with host := { d'.host with snoop := tblSet d'.host.snoop l .recalled } }.send (.recall l), false)
    | none => (put d, true)

/-! ### Reads -/

/-- A read of a line for the companion's cache, and whether it is done. A line it owns already stays its own. -/
def Dev.readLine (d : Dev) (a : Nat) (own : Bool) : Dev × Bool :=
  if a % 64 ≠ 0 then (d.refuse stAddress, true)
  else match d.access .companion own a 64 with
    | some st => (d.refuse st, true)
    | none =>
      let line := d.canon a / 64
      let how := match tblFind d.host.snoop line with | some .owned => Snoop.owned | some .recalled => .recalled | _ => if own then .owned else .shared
      let x := d.record line how
      if x.2 then (x.1.reply (d.read a 64) (d.poisonIn a 64), true) else x

/-- A read of 1 to 64 bytes within one line, not recorded. -/
def Dev.readUncached (d : Dev) (a n : Nat) : Dev :=
  if n = 0 ∨ 64 < a % 64 + n then d.refuse stAddress
  else match d.access .companion false a n with
    | some st => d.refuse st
    | none => d.reply (d.read a n) (d.poisonIn a n)

/-! ### Writes -/

/-- Bytes written where a mask has a bit; all of them at once when it has every one. -/
def Dev.writeMask (d : Dev) (a : Nat) (bs : List Byte) (mask : Nat) (bad : Bool) : Dev :=
  let all := (List.range bs.length).all fun i => bit mask i
  if all then d.write a bs bad
  else (List.range bs.length).foldl (fun d i => if bit mask i then d.write (a + i) [nth 0#8 bs i] bad else d) d

/-- A write of the control pages (R343). -/
def Dev.controlWrite (d : Dev) (off v : Nat) : Dev :=
  if off < 0x40000 then
    let c := off / 0x1000
    if off % 0x1000 = 0 then d.newTail c v else if off % 0x1000 = 8 then d.newHead c v else d.refuse stAddress
  else if off = 0x40000 then d.attach v
  else if off = 0x40008 then { d with host := { d.host with lastBeat := d.time } }
  else if off = 0x40010 then (d.detach v).audit d
  else if off = 0x50000 then d.servicePage false v
  else if off = 0x50008 then d.servicePage true v
  else d.refuse stAddress

/-- A posted write within one line; none while it stalls on a pinned range (R98, R193). -/
def Dev.kclWrite (d : Dev) (a : Nat) (bs : List Byte) (mask : Nat) (bad : Bool) : Option Dev :=
  let n := bs.length
  if n = 0 ∨ 64 < a % 64 + n then some (d.refuse stAddress)
  else if (d.place a).1 = .control then
    some (if n = 8 ∧ a % 8 = 0 ∧ mask % 256 = 255 then d.controlWrite (a - 0x060000000000) (leNat bs) else d.refuse stAddress)
  else match d.access .companion true a n with
    | some st => some (d.refuse st)
    | none => if d.pinned a n then none else some (d.writeMask a bs mask bad)

/-- The return of a modified line ends the companion's ownership; what waited for it goes on. A line the companion may no longer write is not written: its
access is refused as any other (R198). -/
def Dev.writeback (d : Dev) (a : Nat) (bs : List Byte) (bad : Bool) : Option Dev :=
  let line := d.canon a / 64
  if a % 64 ≠ 0 ∨ bs.length ≠ 64 ∨ tblFind d.host.snoop line = none ∨ tblFind d.host.snoop line = some .shared then some (d.refuse stAddress)
  else if d.pinned a 64 then none
  else
    let st := d.access .companion true a 64
    let d := { d with host := { d.host with snoop := tblErase d.host.snoop line } }
    let d := (match st with | some st => d.refuse st | none => d.write a bs bad).lateRecords
    some ((((List.range 64).filter fun c => (d.ctx c).waiting != []).foldl Dev.flush d.svcFlush).pump.outcomeDue true).mirrorGo.retry

/-! ### Atomics (R195) -/

/-- An atomic on 4 or 8 aligned bytes: the old value is returned, and `f` of it written. -/
def Dev.atomic (d : Dev) (a size : Nat) (f : Nat → Nat) : Option Dev :=
  if (size ≠ 4 ∧ size ≠ 8) ∨ a % size ≠ 0 then some (d.refuse stAddress)
  else match d.access .companion true a size with
    | some st => some (d.refuse st)
    | none =>
      if d.pinned a size then none
      else
        let old := leNat (d.read a size)
        some ((d.write a (natLe size (f old % 2 ^ (8 * size))) (d.poisonIn a size)).reply (natLe size old) (d.poisonIn a size))

/-! ### Requests in order (R193) -/

/-- A write of `n` bytes that is done, or stalls on pins (R98). -/
def Dev.orStall (d : Dev) (a n : Nat) (r : Option Dev) : Dev × Bool := match r with | some d' => (d', true) | none => (d.pinStall a n, false)

/-- What a KCL request does, and whether it is done: one that is not waits, and every later one behind it. -/
def Dev.kclDo (d : Dev) (i : Instr) : Dev × Bool :=
  match i with
  | .kclReadUncached a n => (d.readUncached a n, true)
  | .kclReadShared a => if d.safe then (d.refuse stAddress, true) else d.readLine a false
  | .kclReadOwn a => if d.safe then (d.refuse stAddress, true) else d.readLine a true
  | .kclWrite a bs m bad => if d.safe then (d.refuse stAddress, true) else d.orStall a bs.length (d.kclWrite a bs m bad)
  | .kclWriteback a bs bad => if d.safe then (d.refuse stAddress, true) else d.orStall a 64 (d.writeback a bs bad)
  | .kclFetchAdd a n v => if d.safe then (d.refuse stAddress, true) else d.orStall a n (d.atomic a n fun o => o + v)
  | .kclSwap a n v => if d.safe then (d.refuse stAddress, true) else d.orStall a n (d.atomic a n fun _ => v)
  | .kclCas a n c v => if d.safe then (d.refuse stAddress, true) else d.orStall a n (d.atomic a n fun o => if o = c % 2 ^ (8 * n) then v else o)
  | .attach v => (d.unlessSafe fun d => d.attach (v % 2 ^ 64), true)
  | .detach v => (d.unlessSafe fun e => (e.detach (v % 2 ^ 64)).audit d, true)
  | .hostHeartbeat _ => (d.unlessSafe fun d => { d with host := { d.host with lastBeat := d.time } }, true)
  | .submissionTail c v => (d.unlessSafe fun d => d.newTail c v, true)
  | .completionHead c v => (d.unlessSafe fun d => d.newHead c v, true)
  | .serviceTail h v => (d.unlessSafe fun d => d.servicePage h v, true)
  | _ => (d, true)

/-- A request that waited is tried again: the rest of those that wait, where it is done. -/
def Dev.again (d : Dev) (i : Instr) (rest : List Instr) : Option Dev × Dev :=
  let x := { d with host := { d.host with held := [] } }.kclDo i
  (if x.2 then some { x.1 with host := { x.1.host with held := rest } } else none, { x.1 with host := { x.1.host with held := d.host.held } })

/-- Requests that waited, in the order in which they came; a WRITEBACK that answers a RECALL goes before one that still waits (R190, R191). -/
def Dev.replayGo : Nat → Dev → Dev
  | 0, d => d
  | fuel + 1, d =>
    match d.host.held with
    | [] => d
    | i :: is =>
      match d.again i is with
      | (some d', _) => Dev.replayGo fuel d'
      | (none, d') =>
        let k := is.findIdx d'.answersRecall
        match is[k]? with
        | none => d'
        | some w => match d'.again w (i :: dropNth is k) with | (some d'', _) => Dev.replayGo fuel d'' | (none, d'') => d''

def Dev.replayHeld (d : Dev) : Dev := if d.host.retraining then d else Dev.replayGo d.host.held.length d

/-- A request of the companion, and those that waited for the WRITEBACK it was. -/
def Dev.kclRequest (d : Dev) (i : Instr) : Dev :=
  d.byLink i fun d =>
    let x := d.kclDo i
    if x.2 = false then { x.1 with host := { x.1.host with held := x.1.host.held ++ [i] } } else if d.answersRecall i then x.1.replayHeld else x.1

/-- READ_SHARED (R190). -/
def execKclReadShared (addr : Nat) (s : State) : Host.Outcome State Fault Refusal :=
  onDev (wellFormed (.kclReadShared addr)) (fun d => d.kclRequest (.kclReadShared addr)) s

/-- READ_OWN (R190): it needs leave to write too. -/
def execKclReadOwn (addr : Nat) (s : State) : Host.Outcome State Fault Refusal :=
  onDev (wellFormed (.kclReadOwn addr)) (fun d => d.kclRequest (.kclReadOwn addr)) s

/-- READ_UNCACHED (R190, R407). -/
def execKclReadUncached (addr len : Nat) (s : State) : Host.Outcome State Fault Refusal :=
  onDev (wellFormed (.kclReadUncached addr len)) (fun d => d.kclRequest (.kclReadUncached addr len)) s

/-- WRITE (R190, R193). -/
def execKclWrite (addr : Nat) (data : List Byte) (mask : Nat) (poison : Bool) (s : State) : Host.Outcome State Fault Refusal :=
  onDev (wellFormed (.kclWrite addr data mask poison)) (fun d => d.kclRequest (.kclWrite addr data mask poison)) s

/-- FETCH_ADD (R195). -/
def execKclFetchAdd (addr size operand : Nat) (s : State) : Host.Outcome State Fault Refusal :=
  onDev (wellFormed (.kclFetchAdd addr size operand)) (fun d => d.kclRequest (.kclFetchAdd addr size operand)) s

/-- SWAP (R195). -/
def execKclSwap (addr size operand : Nat) (s : State) : Host.Outcome State Fault Refusal :=
  onDev (wellFormed (.kclSwap addr size operand)) (fun d => d.kclRequest (.kclSwap addr size operand)) s

/-- CAS (R195). -/
def execKclCas (addr size compare swap : Nat) (s : State) : Host.Outcome State Fault Refusal :=
  onDev (wellFormed (.kclCas addr size compare swap)) (fun d => d.kclRequest (.kclCas addr size compare swap)) s

/-- SERVICE_TAIL (R376). -/
def execServiceTail (isHead : Bool) (value : Nat) (s : State) : Host.Outcome State Fault Refusal :=
  onDev (wellFormed (.serviceTail isHead value)) (fun d => d.kclRequest (.serviceTail isHead value)) s

/-! ### The link (R189, R364, R444) -/

/-- The lanes in use after lanes failed in turn: the half, then the quarter, that holds no failed lane. -/
def lanesInUse : List Nat → List Nat
  | [] => List.range 32
  | [a] => (List.range 32).filter fun l => l / 16 != a / 16
  | [a, b] => (List.range 32).filter fun l => l / 16 != a / 16 && l / 8 != b / 8
  | _ => []

/-- The link goes down: host loss, and the connections of the companion close (R364, R464). -/
def Dev.linkDown (d : Dev) : Dev :=
  let d := { d with host := { d.host with linkUp := false, retraining := false, linkKey := none }, sec := { d.sec with conns := d.sec.conns.filter fun c => !c.kcl } }
  let d := d.replayHeld.setObj 0x8000 9 0
  d.hostLoss

/-- A lane fails: the link retrains to the lanes that are left, or goes down, and the companion's connections close (R464). A lane out of use changes nothing. -/
def Dev.laneFails (d : Dev) (lane : Nat) : Dev :=
  let lost := d.host.lanesLost ++ [lane]
  if d.host.linkUp = false ∨ (lanesInUse d.host.lanesLost).contains lane = false ∨ 3 ≤ d.pwr.offKind then d
  else
    let d := { d with host := { d.host with lanesLost := lost }, sec := { d.sec with conns := d.sec.conns.filter fun c => !c.kcl } }
    if lanesInUse lost = [] then d.linkDown
    else ({ d with host := { d.host with retraining := true } }.setObj 0x8000 9 (lanesInUse lost).length).fault 0x0305 none 0

/-- FLIT_CRC_FAILURE (R189): retried at link level; nothing above the link sees it. -/
def execFlitCrcFailure (s : State) : Host.Outcome State Fault Refusal :=
  onDev (wellFormed .flitCrcFailure) (fun d => if d.host.linkUp ∧ d.pwr.offKind < 3 then d.bump 0x8000 0x0A 1 else d) s

/-- The link is up on the lanes left to it, under new keys; requests held through a retrain complete. -/
def Dev.linkTrained (d : Dev) : Dev :=
  let n := (lanesInUse d.host.lanesLost).length
  if n = 0 ∨ 3 ≤ d.pwr.offKind ∨ (d.host.linkUp ∧ d.host.retraining = false) then d
  else ({ d with host := { d.host with linkUp := true, retraining := false } }.newLinkKey.setObj 0x8000 9 n).replayHeld

end Sys2Proof.Machine
end

