-- ==== Sys2Proof/Machine/Firmware.lean ====
section
/-! DEFINITION. The firmware cores: watchdogs, restarts and what waits for them (R340 to R342), activation of staged images and their
reversion (R371 to R374), and the emergency level that defers it (R391). -/

namespace Sys2Proof.Machine

/-! ### The emergency level (R391) -/

/-- A temperature in degrees Celsius in the units of a sensor (R402). -/
def celsius (t : Int) : Int := 8 * t

/-- Whether some junction sensor, or some stack, reads a temperature or more. -/
def Dev.junctionAt (d : Dev) (t : Int) : Bool := d.pwr.temps.any fun p => decide (t ≤ p.2)
def Dev.stackAt (d : Dev) (t : Int) : Bool := d.pwr.stackTemps.any fun p => decide (t ≤ p.2)

/-- Whether a temperature holds E1: a junction sensor or a stack at 95 °C or more. -/
def Dev.hot (d : Dev) : Bool := d.junctionAt (celsius 95) || d.stackAt (celsius 95)

/-- EMERGENCY_LEVEL. -/
def Dev.emergency (d : Dev) : Nat :=
  if d.junctionAt (celsius 115) || d.stackAt (celsius 105) then 3
  else if d.pwr.e2 then 2
  else if d.pwr.throttleLow || d.hot then 1
  else 0

/-! ### Restarts (R341, R342) -/

/-- A chandlery core that restarts ends its requests with RESTARTED; SCH's restart starts pilot dispatch (R363). -/
def Dev.restartLoses (d : Dev) (k : Nat) : Dev :=
  if 11 ≤ k then
    let on := fun (s : Snap) => match s.svc with | some v => v.2 == k | none => false
    let gone := d.cmp.snaps.filter on
    gone.foldl (fun d s => d.svcSnapDone s stRestarted) { d with cmp := { d.cmp with snaps := d.cmp.snaps.filter fun s => !(on s) } }
  else if k = 2 then d.pilotOn
  else d

/-- A firmware core restarts: RESTARTS counts it. -/
def Dev.coreRestarts (d : Dev) (k : Nat) : Dev :=
  let d := d.setFw k { d.fwCore k with restarting := true, since := d.time }
  ((d.bump (0x5100 + k) 3 1).setObj (0x5100 + k) 4 d.time).restartLoses k

/-- The DETAIL of a record that names a firmware core (R414). -/
def fwDetail (k : Nat) : Nat := 6 * 2 ^ 56 + k

/-- SEC derives the alias key again, at a start and when its image changes: its certificate is made anew (R431, R432). -/
def Dev.newAlias (d : Dev) : Dev :=
  { d with
    sec := { d.sec with aliasDraw := d.fresh, aliasImages := d.images, aliasSecurity := d.securityVersion, aliasFloor := none,
                        aliasFrom := if d.obj 0xB000 6 = 0 then none else some d.calendar },
    fresh := d.fresh + 1 }

/-- A new image is replaced by the core's previous one (R373). -/
def Dev.fwReverts (d : Dev) (k : Nat) : Dev :=
  let x := d.fwCore k
  let d := d.setFw k { x with version := x.previous, image := x.oldImage, activation := 4, activatedAt := none, expiries := 0, since := d.time }
  (if k = 0 then d.newAlias else d).fault 0x0502 none (fwDetail k)

/-- Whether firmware runs at all: not in SLEEP or below, and not before a start has come so far. -/
def Dev.fwRuns (d : Dev) : Bool := d.pwr.offKind == 0

/-- The watchdog of a core expires. Within 10 s of an activation, the third expiry brings the previous image back. -/
def Dev.watchdog (d : Dev) (k : Nat) : Dev :=
  if d.fwRuns = false ∨ d.restarting k then d
  else
    let d := (d.coreRestarts k).fault 0x0501 none (fwDetail k)
    let x := d.fwCore k
    match x.activatedAt with
    | some t =>
      if d.time ≤ t + 10000000000 then
        let d := d.setFw k { x with expiries := x.expiries + 1 }
        if 3 ≤ x.expiries + 1 then d.fwReverts k else d
      else d
    | none => d

/-- WATCHDOG_EXPIRY (R341). -/
def execWatchdogExpiry (k : Nat) (s : State) : Host.Outcome State Fault Refusal :=
  onDev (wellFormed (.watchdogExpiry k)) (fun d => (d.watchdog k).audit d) s

/-- A new image that is not running within 250 ms, or whose watchdog expired three times within 10 s, is replaced. -/
def Dev.revertDue (d : Dev) (k : Nat) : Dev :=
  let x := d.fwCore k
  if d.fwRuns ∧ x.activation = 2 ∧ x.restarting ∧ x.since + 250000000 ≤ d.time then d.fwReverts k else d

/-- ACTIVATION_REVERT (R373). -/
def execActivationRevert (k : Nat) (s : State) : Host.Outcome State Fault Refusal :=
  onDev (wellFormed (.activationRevert k)) (fun d => (d.revertDue k).audit d) s

/-! ### Activation (R372) -/

/-- Whether a PENDING core may activate at the emergency level. -/
def Dev.mayActivate (d : Dev) (k : Nat) : Bool :=
  let x := d.fwCore k
  x.activation == 1 && !x.heldBack && !x.restarting && (d.emergency == 0 || (d.emergency == 1 && k != 1))

/-- The next PENDING core in ascending order restarts into its staged image when no other activation is under way. -/
def Dev.activateNext (d : Dev) : Dev :=
  if d.fwRuns = false ∨ ((List.range 15).any fun k => (d.fwCore k).restarting && ((d.fwCore k).activation == 2 || (d.fwCore k).activation == 4)) then d
  else match (List.range 15).find? d.mayActivate with
    | some k =>
      let x := d.fwCore k
      let d := d.setFw k { x with previous := x.version, oldImage := x.image, version := d.obj 0x5000 1, image := tblGet {} d.sec.staged k, activation := 2, activatedAt := none, expiries := 0 }
      (if k = 0 then d.newAlias else d).coreRestarts k
    | none => d

/-- PENDING cores wait for a hold of E0 once the level is E2 or above. -/
def Dev.deferFw (d : Dev) : Dev :=
  if d.emergency < 2 then d else { d with fw := d.fw.map fun (p : Nat × FwCore) => if p.2.activation = 1 then (p.1, { p.2 with heldBack := true }) else p }

/-- What a change of the emergency level moves: when E0 begins, and which activations wait or go on. -/
def Dev.levelMoved (d old : Dev) : Dev :=
  let d := if d.emergency = 0 ∧ old.emergency ≠ 0 then { d with pwr := { d.pwr with e0Since := d.time } } else d
  d.deferFw.activateNext

/-- E0 has held for 1 s: deferred activations proceed. -/
def Dev.e0Held (d : Dev) : Dev :=
  if d.emergency = 0 ∧ d.pwr.e0Since + 1000000000 ≤ d.time ∧ d.fwRuns then
    { d with fw := d.fw.map fun (p : Nat × FwCore) => (p.1, { p.2 with heldBack := false }) }.activateNext
  else d

/-- E0_HOLD_EXPIRY (R372). -/
def execE0HoldExpiry (s : State) : Host.Outcome State Fault Refusal :=
  onDev (wellFormed .e0HoldExpiry) (fun d => d.e0Held.audit d) s

end Sys2Proof.Machine
end

