-- ==== Sys2Proof/Machine/Reset.lean ====
section
/-! DEFINITION. Resets, starts and the loss of power (R24, R434, R453 to R455, R487, R490 to R497, R504): what a wipe leaves, how a start
runs, and where it waits. -/

namespace Sys2Proof.Machine

/-! ### Emergency ceilings (R390 to R392) -/

/-- The operating-point and duty ceilings that THROTTLE_N and E2 impose. -/
def Dev.opLimit (d : Dev) : Nat := if d.pwr.e2 then 7 else if d.pwr.throttleLow then d.obj 0x2000 0x0E else 0
def Dev.dutyLimit (d : Dev) : Nat :=
  min (if d.pwr.e2 then 4 else 16) (if d.pwr.throttleLow then d.obj 0x2000 0x0F else 16)

/-- An operating point in force: OP_NOW and OP_CEILING take it, and OP_CHANGES counts a change. -/
def Dev.setOp (d : Dev) (op : Nat) : Dev :=
  let d' := (d.setObj 0x2000 0x08 op).setObj 0x2000 0x09 op
  if d.obj 0x2000 0x08 = op then d' else d'.bump 0x2000 0x13 1

/-- The more restrictive of the ceilings in force and those imposed (R392). -/
def Dev.impose (d : Dev) : Dev :=
  (d.setOp (max (d.obj 0x2000 0x08) d.opLimit)).setObj 0x2000 0x0B (min (d.obj 0x2000 0x0B) d.dutyLimit)

/-- E2 begins, or its conditions last on (R391): OP7 and at most 4/16, CLAMP_E2 once. `die` names a die whose current or droop is the condition. -/
def Dev.enterE2 (d : Dev) (die : Option Nat) : Dev :=
  let gone := if d.junctionAt (celsius 105) then none else some d.time
  if d.pwr.e2 then { d with pwr := { d.pwr with e2Gone := gone } }
  else
    let d := { d with pwr := { d.pwr with e2 := true, e2Gone := gone } }.impose
    let d := match die with | some q => d.bump (0x2010 + q) 0x09 1 | none => d
    d.fault 0x0403 none 0

/-! ### What a wipe leaves (R454) -/

/-- Whether a value of the dictionary survives every reset: lifetime counters (R426), CLASS_CONFIRM (R378), OP_TOP and the trims (R388, R402), lasers
(R279), NEAR_SIZE (R204), dies erased (R205), CALENDAR_SOURCE and EVENT_COUNT (R427, R424). -/
def survives (k : Nat) : Bool :=
  let idx := k / 65536
  let sub := k / 256 % 256
  lifeKey k || (idx == 0x2000 && (sub == 0x02 || sub == 0x0A)) || (decide (0x2010 ≤ idx) && decide (idx < 0x2014) && [4, 6, 7].contains sub) ||
    (decide (0x3040 ≤ idx) && decide (idx < 0x3044)) || (idx == 0x8000 && sub == 0x02) || (decide (0x8300 ≤ idx) && decide (idx < 0x8320) && (sub == 3 || sub == 4)) ||
    (idx == 0xB000 && (sub == 0x06 || sub == 0x0A))

/-- The device with everything a wipe takes gone. Its pins, sensors, wear, logbook, images, berth plan and disabled units stay. -/
def Dev.wiped (d : Dev) : Dev :=
  { objs := d.objs.filter fun p => survives p.1,
    blobs := d.blobs.filter fun p => p.1 == objKey 0x3000 1 0,
    cmp := { phys := d.cmp.phys.map fun (p : Nat × PhysCore) => (p.1, { p.2 with checks := [], lent := false, hold := [], marks := [], tested := none }), bound := d.cmp.bound },
    net := { nextId := d.net.nextId },
    host := { lanesLost := d.host.lanesLost, linkUp := false, linkKey := none },
    pwr := { resetLow := d.pwr.resetLow, wakeLow := d.pwr.wakeLow, throttleLow := d.pwr.throttleLow, thermTrip := d.pwr.thermTrip,
             strapClass := d.pwr.strapClass, strapMid := d.pwr.strapMid, rails := d.pwr.rails, coldDue := d.pwr.coldDue, refclk := d.pwr.refclk, temps := d.pwr.temps, stackTemps := d.pwr.stackTemps,
             e0Since := d.time, governedAt := d.time, lifeRest := d.pwr.lifeRest, trimAt := d.pwr.trimAt, tripDetail := d.pwr.tripDetail, tripSensor := d.pwr.tripSensor, onNs := d.pwr.onNs,
             pageA := d.pwr.pageA, pageB := d.pwr.pageB, laserNs := d.pwr.laserNs, pageHour := d.pwr.pageHour, peak := d.pwr.peak, trough := d.pwr.trough, rising := d.pwr.rising },
    sec := { deviceKey := none, nonceDraw := d.sec.nonceDraw, staged := d.sec.staged, aliasDraw := d.sec.aliasDraw, aliasImages := d.sec.aliasImages,
             aliasSecurity := d.sec.aliasSecurity, aliasFrom := d.sec.aliasFrom, aliasFloor := d.sec.aliasFloor },
    fw := d.fw.map fun (p : Nat × FwCore) => (p.1, { version := p.2.version, previous := p.2.previous, image := p.2.image, oldImage := p.2.oldImage }),
    events := d.events, wear := d.wear, time := d.time, calendar := d.calendar, fresh := d.fresh, out := d.out }

/-! ### Verification of the images (R434) -/

/-- Whether an image is accepted: its signature verifies under the certified firmware key, its stepping list names STEPPING, and its security version is at least the
floor. -/
def Dev.imageOk (f : Fuses) (d : Dev) (x : ImageFacts) : Bool :=
  x.signed && d.certCurrent Config.firmwareFrom Config.firmwareTo && x.stepping && decide (f.floor ≤ x.security)

/-- The image of a core is verified: its previous one is started where that is accepted; where it is not, the core stays stopped and start-up ends in safe state. With no
accepted SEC image nothing further starts. -/
def Dev.verifyImage (f : Fuses) (d : Dev) (k : Nat) : Dev :=
  let x := d.fwCore k
  let d := d.noteUnchecked 1
  if Dev.imageOk f d x.image then d
  else if Dev.imageOk f d x.oldImage then (d.setFw k { x with version := x.previous, image := x.oldImage }).fault 0x0502 none (fwDetail k)
  else if k = 0 then { d with pwr := { d.pwr with offKind := 9, due := none } }.setObj 0x2000 0x28 2
  else (d.setFw k { x with restarting := true, stopped := true }).fault 0x0407 none (fwDetail k)

/-- SEC verifies every other image, in ascending core number. -/
def Dev.verifyImages (f : Fuses) (d : Dev) : Dev := (List.range 14).foldl (fun d k => Dev.verifyImage f d (k + 1)) d

/-! ### Rails (R492, R493) -/

/-- The next rail group comes into regulation. -/
def Dev.railOn (d : Dev) : Dev := { d with pwr := { d.pwr with rails := d.pwr.rails + 1 } }.send (.power (2 * (d.pwr.rails + 1) + 1))

/-- Rail groups are removed, in the reverse order, until `n` are left. -/
def Dev.railsDown (d : Dev) (n : Nat) : Dev :=
  { d with pwr := { d.pwr with rails := min n d.pwr.rails }, out := d.out ++ (List.range (d.pwr.rails - n)).map fun i => Out.power (2 * (d.pwr.rails - i)) }

/-- The sequencer begins to bring the rails up: power good comes no later than 350 ms from here. -/
def Dev.railsUp (d : Dev) : Dev := { d with pwr := { d.pwr with offKind := 10, startAt := d.time, edge := none } }.within 1 (d.time + 350000000)

/-! ### Starts (R494 to R497) -/

/-- The hottest reading of a die's junction sensors (R394). -/
def Dev.dieTemp (d : Dev) (die : Nat) : Int :=
  ((List.range (if die = 4 then 4 else 16)).map fun i => tblGet 200 d.pwr.temps (16 * die + i)).foldl max (tblGet 200 d.pwr.temps (16 * die))

/-- TEMP_MAX and HBM_TEMP_MAX take at least the present readings (R402, R403), and a stack at 95 °C refreshes twice as often (R394). -/
def Dev.noteTemps (d : Dev) : Dev :=
  let top := fun (d : Dev) (idx sub : Nat) (t : Int) => if signed 16 (d.obj idx sub) < t then d.setObj idx sub (low 16 t) else d
  let d := (List.range 5).foldl (fun d q => top d (0x2010 + q) 2 (d.dieTemp q)) d
  d.pwr.stackTemps.foldl (fun d p => top (if celsius 95 ≤ p.2 then d.setObj (0x2020 + p.1) 2 1 else d) (0x2020 + p.1) 3 p.2) d

/-- TEMP_MAX and HBM_TEMP_MAX begin again with the present readings, whatever they are (R402, R403). -/
def Dev.firstTemps (d : Dev) : Dev :=
  let d := (List.range 5).foldl (fun d q => d.setObj (0x2010 + q) 2 (low 16 (d.dieTemp q))) d
  d.pwr.stackTemps.foldl (fun d p => d.setObj (0x2020 + p.1) 3 (low 16 p.2)) d

/-- AUTH_NONCE is drawn anew (R447). -/
def Dev.newNonce (d : Dev) : Dev := { d with sec := { d.sec with nonceDraw := d.fresh, nonceAt := d.time }, fresh := d.fresh + 1 }

/-- A half at a start: it is in the state its plan entry gives it from this moment on, DISABLED on a BLANK module (R271, R448). -/
def Dev.portStarts (d : Dev) (f : Fuses) (port half : Nat) : Dev :=
  let h := d.half port half
  d.setHalf port half { h with state := if f.lcState = 0 then 0 else h.state, since := d.time }

/-- A device memory key is drawn at a start that has none (R431). -/
def Dev.newMemoryKey (d : Dev) : Dev :=
  if d.sec.deviceKey.isSome then d else { d with sec := { d.sec with deviceKey := some d.fresh }, fresh := d.fresh + 1 }

/-- The bound of a step of a start in ns (R494), by LAST_RESET; a function reset has that of READY alone (R496). -/
def stepBound (how k : Nat) : Nat := 1000000 * if how = 3 then 1500 else nth 2600 [0, 0, 250, 400, 450, 1200, 1250, 1500] k

/-- PWR runs, and with it the sensors and the ceilings; what the always-on domain kept of a trip is recorded (R395). NEAR_SIZE in force is the one written (R204). -/
def Dev.powerStarts (d : Dev) : Dev :=
  let how : Nat := d.obj 0x2000 0x27
  let d := if how = 3 then d.newNonce else d
  let d := if how = 4 then d else d.setObj 0x8000 3 (d.obj 0x8000 2)
  let d : Dev := match d.pwr.tripDetail with
    | some t => { d with pwr := { d.pwr with tripDetail := none } }.logEvent 0 0x0404 0xFF t 3 4 4
    | none => d
  let d := if (how = 0 ∨ how = 5) ∧ d.pwr.strapClass = 3 then d.fault 0x0405 none 0 else d
  let d := d.firstTemps.noteTemps
  if d.junctionAt (celsius 105) then d.enterE2 none else d.impose

/-- KCL is trained under new keys, on the lanes left to it (R189, R444). -/
def Dev.linkStarts (d : Dev) : Dev :=
  let n := (lanesInUse d.host.lanesLost).length
  let d := { d with host := { d.host with linkUp := n != 0 } }.setObj 0x8000 9 n
  if n = 0 then d else d.newLinkKey

/-- HBM is filled with zero from here on (R453). -/
def Dev.beginFill (d : Dev) : Dev :=
  { d with sec := { d.sec with wiping := true, fillSince := d.time }, cmp := { d.cmp with filled := [] } }

/-- Every granule of HBM is filled: WIPE_ACTIVE becomes FALSE. -/
def Dev.fillDone (d : Dev) : Dev := { d with sec := { d.sec with wiping := false }, cmp := { d.cmp with filled := [] } }

/-- The lasers are lit, and discovery begins (R275). -/
def Dev.portsStart (f : Fuses) (d : Dev) : Dev :=
  let d := if d.pwr.rails < 6 then d.railOn else d
  (List.range 40).foldl (fun d i => d.portStarts f (i / 2) (i % 2)) { d with pwr := { d.pwr with offKind := 0 } }

/-- READY: START_TIME, the event, and host-loss supervision; KCL requests that were held are served in order (R495, R504). -/
def Dev.readied (d : Dev) : Dev :=
  let d := (d.setObj 0x3000 0x0C 1).setObj 0x2000 0x29 ((d.time + d.pwr.waited - d.pwr.startAt) / 1000000)
  ({ d with host := { d.host with lastBeat := d.time } }.logEvent 7 0 0xFF 0 0 0 0).replayHeld

/-- What happens in a step of a start (R494). With keys kept through DEEP nothing is filled (R455). -/
def Dev.stepWork (f : Fuses) (d : Dev) (k : Nat) : Dev :=
  if k = 2 then (Dev.verifyImage f d 0).newNonce.newAlias
  else if k = 3 then (let e := Dev.verifyImages f d; if e.images = d.images then e else e.newAlias)
  else if k = 4 then d.powerStarts
  else if k = 5 then d.linkStarts
  else if k = 6 then (if d.sec.deviceKey.isSome then d else d.newMemoryKey.beginFill)
  else if k = 7 then Dev.portsStart f d
  else d.readied

/-- A start comes to a step; the next follows within its bound, unless this was READY or no SEC image is accepted. -/
def Dev.atStep (f : Fuses) (d : Dev) (k : Nat) : Dev :=
  let d := Dev.stepWork f ({ d with pwr := { d.pwr with offKind := if 7 ≤ k then 0 else 1 } }.setObj 0x2000 0x28 k) k
  if k = 8 ∨ d.pwr.offKind = 9 then d else d.within 1 (d.pwr.startAt + stepBound (d.obj 0x2000 0x27) (k + 1))

/-- The next step of a start. READY waits till discovery is done. -/
def Dev.nextStep (f : Fuses) (d : Dev) : Dev :=
  if d.obj 0x2000 0x28 = 7 ∧ d.discovered = false then { d with pwr := { d.pwr with due := some (1, d.time) } } else Dev.atStep f d (d.obj 0x2000 0x28 + 1)

/-- A start leaves its wait at step 2, with the reference clock there and RESET_N high. A cold reset ends here: the timebase counts from zero (R24, log 106). -/
def Dev.started (f : Fuses) (d : Dev) : Dev :=
  let p := { d.pwr with waited := d.time - d.pwr.startAt, startAt := d.time }
  Dev.atStep f (if d.pwr.coldDue then { d with time := 0, pwr := { p with startAt := 0, coldDue := false, e0Since := 0, governedAt := 0 } } else { d with pwr := p }) 2

/-- A start from power good, or a reset with power: it waits at step 2 for the reference clock and for RESET_N to rise. A function reset begins at step 4. The optics rails go
down at a warm reset. -/
def Dev.start (f : Fuses) (d : Dev) (how : Nat) : Dev :=
  let d := { d with pwr := { d.pwr with startAt := d.time, waited := 0 } }.setObj 0x2000 0x27 how
  if how = 3 then Dev.atStep f d 4
  else
    let d := d.railsDown 5
    if d.pwr.refclk = false ∨ d.pwr.resetLow then { d with pwr := { d.pwr with offKind := 8 } }.setObj 0x2000 0x28 2 else Dev.started f d

/-- The next rail group is in regulation; with group 5 it is power good, and a start runs from step 1. -/
def Dev.nextRail (f : Fuses) (d : Dev) : Dev :=
  let e := d.railOn
  if 5 ≤ e.pwr.rails then Dev.start f e (e.obj 0x2000 0x27) else e.within 1 (e.pwr.startAt + 350000000)

/-- A start that waits at step 2 goes on when nothing holds it. -/
def Dev.startOn (f : Fuses) (d : Dev) : Dev := if d.pwr.offKind = 8 ∧ d.pwr.refclk ∧ d.pwr.resetLow = false then Dev.started f d else d

/-- A reset: the other members of its gangs hear that their contexts end here (R300), the counter page is written, everything is wiped, and the module starts again: a function reset from step 4, another from step 2. -/
def Dev.reset (f : Fuses) (d : Dev) (how : Nat) : Dev := Dev.start f ((tblKeys d.ctxs).foldl Dev.tellEnd d).writePage.wiped how

/-- A cold start (R24, R487, R492): the straps are read, and the rails come up. `how` is its LAST_RESET. -/
def Dev.coldStart (d : Dev) (cls mid how : Nat) : Dev :=
  let d := d.wiped
  ({ d with time := 0, pwr := { d.pwr with strapClass := cls, strapMid := mid, coldDue := true } }.setObj 0x2000 0x27 how).railsUp

/-- Power is lost without warning (R395, R424, R493): every memory goes, the logbook keeps the counter page as last written, and the rails go down in reverse order, group 1
only with input power. -/
def Dev.powerLost (d : Dev) (kind : Nat) : Dev :=
  let d := d.readPage.wiped
  { d with pwr := { d.pwr with offKind := kind } }.railsDown (if kind = 7 then 0 else 1)

end Sys2Proof.Machine
end

