-- ==== Sys2Proof/Machine/Power.lean ====
section
/-! DEFINITION. Power and heat (R378 to R395, R426): the cap and the governor, the fast limiter, THROTTLE_N and the emergency levels, droop, trims,
temperatures and the trip. Powers are in mW. -/

namespace Sys2Proof.Machine

/-- What happens only while the module runs, with what a change of the emergency level moves (R372). -/
def Dev.powerRow (d : Dev) (g : Dev → Dev) : Dev := if d.pwr.offKind = 0 then ((g d).levelMoved d).audit d else d

/-! ### Class and cap (R378 to R380) -/

/-- CLASS_ACTIVE: the strapped class once the Board has confirmed it, else class A. -/
def Dev.classActive (d : Dev) : Nat := if d.obj 0x2000 0x02 = d.pwr.strapClass ∧ d.pwr.strapClass ≠ 3 then d.pwr.strapClass else 0

/-- CLASS_LIMIT in W (R29). -/
def Dev.classLimit (d : Dev) : Nat := if d.classActive = 2 then 2000 else if d.classActive = 1 then 1600 else 1000

/-- POWER_CAP in W: CLASS_LIMIT until it is written. -/
def Dev.powerCap (d : Dev) : Nat := if d.pwr.capWritten then d.obj 0x2000 0x05 else d.classLimit

/-! ### The governor (R382) -/

/-- The ceiling that E1 temperature holds: one point slower in each period while a sensor is hot, one point faster in each after (R391). -/
def Dev.warmNext (d : Dev) : Nat := if d.hot then min 7 (max d.pwr.warm (d.obj 0x2000 0x09) + 1) else d.pwr.warm - 1

/-- The point the governor falls to when the cap is exceeded: the fastest whose estimate fits. -/
def slowTo (cap : Nat) (estimates : List Nat) : Nat := ((List.range 8).find? fun i => match estimates[i]? with | some e => decide (e ≤ cap) | none => false).getD 7

/-- Whether the phase that a HINT announces begins within 200 µs, and the HINT has not ended (R382, R389). -/
def HintRec.due (h : HintRec) (time : Nat) : Bool := decide (time ≤ h.at_ + h.lead) && decide (h.at_ + h.lead ≤ time + 200000)

/-- The hinted increase due within 200 µs (R389): each core whose HINT is due adds its announced duty, (LOAD + 1)/16 of what its arrays take at full issue duty. -/
def Dev.hintedIncrease (d : Dev) (full : Nat) : Nat :=
  ((d.coresWhere fun x => match x.hint with | some h => h.due d.time | none => false).map fun c => match (d.core c).hint with | some h => full * (h.load + 1) / 16 | none => 0).sum

/-- The power a period is forecast with (R382). -/
def Dev.forecast (d : Dev) (g : GovernorInput) : Nat := g.average + d.hintedIncrease g.hinted

/-- The ceilings of R382 before the emergency ones: point and duty, from those in force. -/
def Dev.govern (d : Dev) (g : GovernorInput) (run : Nat) : Nat × Nat :=
  let op := d.obj 0x2000 0x08
  let duty := d.obj 0x2000 0x0B
  let cap := d.powerCap * 1000
  let p := d.forecast g
  if cap < p then (if op < 7 then (slowTo cap g.estimates, duty) else (op, 1))
  else
    let duty := if op < 7 then 16 else duty
    if cap ≤ 20 * (cap - p) then
      if op = 7 ∧ duty < 16 then (op, duty + 1)
      else if duty = 16 ∧ 10 ≤ run then (op - 1, duty)
      else (op, duty)
    else (op, duty)

/-- The energy of a period in pJ added to ENERGY in J and ENERGY_LIFE in kJ, with what is left of each. -/
def Dev.addEnergy (d : Dev) (average : Nat) : Dev :=
  let e := average * (d.time - d.pwr.governedAt)
  let a := d.pwr.energyRest + e
  let b := d.pwr.lifeRest + e
  ({ d with pwr := { d.pwr with energyRest := a % 10 ^ 12, lifeRest := b % 10 ^ 15 } }.bump 0x2000 0x07 (a / 10 ^ 12)).bump 0xB000 0x02 (b / 10 ^ 15)

/-- One governor period. It runs every 100 µs unless PWR restarts; while THROTTLE_N is low it raises no ceiling (R390). -/
def Dev.governor (d : Dev) (g : GovernorInput) : Dev :=
  if d.restarting 1 ∨ d.time < d.pwr.governedAt + 100000 then d
  else
    let cap := d.powerCap * 1000
    let run := if d.forecast g ≤ cap ∧ cap ≤ 20 * (cap - d.forecast g) then d.pwr.headroomRun + 1 else 0
    let next := d.govern g run
    let warm := d.warmNext
    let hold := d.pwr.throttleLow
    let op := max (max (max next.1 (d.obj 0x2000 0x0A)) (max d.opLimit warm)) (if hold then d.obj 0x2000 0x08 else 0)
    let duty := min (min next.2 d.dutyLimit) (if hold then d.obj 0x2000 0x0B else 16)
    let d := (d.addEnergy g.average).setObj 0x2000 0x06 (g.average / 1000)
    let d := (d.setOp op).setObj 0x2000 0x0B duty
    let d := if duty < 16 then d.bump 0x2000 0x12 1 else d
    let ten := (g.average :: d.pwr.averages).take 10
    let overAt : Option Nat := if op = 7 ∧ duty = 1 ∧ cap * ten.length < ten.sum then some (d.pwr.overSince.getD d.time) else none
    let d := { d with pwr := { d.pwr with headroomRun := run, warm := warm, governedAt := d.time, overSince := overAt, averages := ten } }
    if g.average < cap then d.setObj 0x2000 0x0C 0 else d

/-- GOVERNOR_PERIOD (R382). -/
def execGovernorPeriod (g : GovernorInput) (s : State) : Host.Outcome State Fault Refusal :=
  onDev (wellFormed (.governorPeriod g)) (fun d => d.powerRow fun d => d.governor g) s

/-- A sample of the fast limiter above 1.1 × POWER_CAP halves the duty ceiling, down to 1/16 (R384). -/
def Dev.limit (d : Dev) (sample : Nat) : Dev :=
  let duty := d.obj 0x2000 0x0B
  if 11 * (d.powerCap * 1000) < 10 * sample ∧ 1 < duty then (d.setObj 0x2000 0x0B (duty / 2)).bump 0x2000 0x11 1 else d

/-- FAST_LIMITER (R384). -/
def execFastLimiter (sample : Nat) (s : State) : Host.Outcome State Fault Refusal :=
  onDev (wellFormed (.fastLimiter sample)) (fun d => d.powerRow fun d => d.limit sample) s

/-- The cap is unattainable once the 1 ms average stood above it for 100 ms at OP7 and 1/16 (R385). -/
def Dev.unattainable (d : Dev) (average : Nat) : Dev :=
  match d.pwr.overSince with
  | some t =>
    if d.obj 0x2000 0x08 = 7 ∧ d.obj 0x2000 0x0B = 1 ∧ d.powerCap * 1000 < average ∧ t + 100000000 ≤ d.time ∧ d.obj 0x2000 0x0C = 0 then
      (d.setObj 0x2000 0x0C 1).fault 0x0401 none 0
    else d
  | none => d

/-- CAP_UNATTAINABLE (R385). -/
def execCapUnattainable (average : Nat) (s : State) : Host.Outcome State Fault Refusal :=
  onDev (wellFormed (.capUnattainable average)) (fun d => d.powerRow fun d => d.unattainable average) s

/-! ### THROTTLE_N (R390), E2 (R391), droop (R393) -/

/-- THROTTLE_N goes low: its ceilings are imposed and the event counted. -/
def Dev.throttle (d : Dev) : Dev :=
  if d.pwr.throttleLow then d
  else
    let d := { d with pwr := { d.pwr with throttleLow := true } }
    if d.powered then (d.impose.bump 0x2000 0x10 1).levelMoved d else d

/-- THROTTLE_N_LOW (R390). -/
def execThrottleNLow (s : State) : Host.Outcome State Fault Refusal :=
  onDev (wellFormed .throttleNLow) (fun d => d.throttle.audit d) s

/-- THROTTLE_N goes high: the next governor period sets the ceilings afresh. -/
def Dev.unthrottle (d : Dev) : Dev := ({ d with pwr := { d.pwr with throttleLow := false } }.levelMoved d)

/-- THROTTLE_N_HIGH (R390). -/
def execThrottleNHigh (s : State) : Host.Outcome State Fault Refusal :=
  onDev (wellFormed .throttleNHigh) (fun d => d.unthrottle.audit d) s

/-- CURRENT_LIMIT (R391): a regulator reaches its current limit. -/
def execCurrentLimit (die : Nat) (s : State) : Host.Outcome State Fault Refusal :=
  onDev (wellFormed (.currentLimit die)) (fun d => d.powerRow fun d => d.enterE2 (some die)) s

/-- E2 ends when its conditions have been absent for 1 ms. -/
def Dev.leaveE2 (d : Dev) : Dev :=
  match d.pwr.e2Gone with
  | some t => if d.pwr.e2 ∧ d.junctionAt (celsius 105) = false ∧ t + 1000000 ≤ d.time then { d with pwr := { d.pwr with e2 := false, e2Gone := none } } else d
  | none => d

/-- E2_END (R391). -/
def execE2End (s : State) : Host.Outcome State Fault Refusal :=
  onDev (wellFormed .e2End) (fun d => d.powerRow fun d => d.leaveE2) s

/-- A droop stretch of a die; more than 1,000 within 1 ms are a condition of E2. -/
def Dev.stretch (d : Dev) (die : Nat) : Dev :=
  let ts := ((tblGet [] d.pwr.droops die).filter fun t => decide (d.time < t + 1000000)) ++ [d.time]
  let d := { d with pwr := { d.pwr with droops := tblSet d.pwr.droops die ts } }.bump (0x2010 + die) 0x08 1
  if 1000 < ts.length then d.enterE2 (some die) else d

/-- DROOP_STRETCH (R393). -/
def execDroopStretch (die : Nat) (s : State) : Host.Outcome State Fault Refusal :=
  onDev (wellFormed (.droopStretch die)) (fun d => d.powerRow fun d => d.stretch die) s

/-! ### Ageing trims (R388) -/

/-- Twenty-four power-on hours in ns. -/
def trimGap : Nat := 24 * 3600 * 1000000000

/-- Whether a die's last trim or withdrawal is at least 24 power-on hours ago. -/
def Dev.trimFree (d : Dev) (die : Nat) : Bool := match tblFind d.pwr.trimAt die with | some t => decide (t + trimGap ≤ d.pwr.onNs) | none => true

/-- A trim request granted: 5 mV more, or, past 60 mV, the fastest permitted operating point withdrawn. -/
def Dev.trim (d : Dev) (die : Nat) : Dev :=
  let d := { d with pwr := { d.pwr with trimAt := tblSet d.pwr.trimAt die d.pwr.onNs } }
  let v := d.obj (0x2010 + die) 0x04
  if 60 < v + 5 then
    let top := min 7 (d.obj 0x2000 0x0A + 1)
    (((d.setObj 0x2000 0x0A top).setOp (max (d.obj 0x2000 0x08) top)).logWear 5 0x0406 0).fault 0x0406 none 0
  else
    (((d.setObj (0x2010 + die) 0x04 (v + 5)).setObj (0x2010 + die) 0x06 (d.obj (0x2010 + die) 0x06 + 1)).setObj (0x2010 + die) 0x07
      (d.pwr.onNs / 3600000000000)).logWear 4 0 die

/-- A die's monitors request a trim; a request within 24 power-on hours of the last waits. -/
def Dev.askTrim (d : Dev) (die : Nat) : Dev :=
  if d.trimFree die then d.trim die else { d with pwr := { d.pwr with trimWaiting := insertNat die d.pwr.trimWaiting } }

/-- TRIM_REQUEST (R388). -/
def execTrimRequest (die : Nat) (s : State) : Host.Outcome State Fault Refusal :=
  onDev (wellFormed (.trimRequest die)) (fun d => d.powerRow fun d => d.askTrim die) s

/-- The interval since a die's last trim ends: its waiting request is granted. -/
def Dev.trimWaits (d : Dev) (die : Nat) : Dev :=
  if die ∈ d.pwr.trimWaiting ∧ d.trimFree die then
    { d with pwr := { d.pwr with trimWaiting := d.pwr.trimWaiting.filter fun q => q != die } }.trim die
  else d

/-- TRIM_INTERVAL_END (R388). -/
def execTrimIntervalEnd (die : Nat) (s : State) : Host.Outcome State Fault Refusal :=
  onDev (wellFormed (.trimIntervalEnd die)) (fun d => d.powerRow fun d => d.trimWaits die) s

/-! ### Temperatures and the trip (R394, R395, R426) -/

/-- The hottest JUNCTION_TEMP of the module. -/
def Dev.hottest (d : Dev) : Int := ((List.range 5).map d.dieTemp).foldl max (d.dieTemp 0)

/-- The count of thermal cycles follows the hottest junction: a rise of 40 °C above its trough, then a fall of 40 °C below its peak. -/
def Dev.cycle (d : Dev) : Dev :=
  let h := d.hottest
  if d.pwr.rising then
    let low := min d.pwr.trough h
    if low + celsius 40 ≤ h then { d with pwr := { d.pwr with rising := false, trough := low, peak := h } } else { d with pwr := { d.pwr with trough := low } }
  else
    let top := max d.pwr.peak h
    if h + celsius 40 ≤ top then { d with pwr := { d.pwr with rising := true, peak := top, trough := h } }.bump 0xB000 0x03 1
    else { d with pwr := { d.pwr with peak := top } }

/-- The DETAIL of a sensor (R414): a stack, or none for a junction sensor. -/
def sensorDetail (stack : Bool) (sensor : Nat) : Nat := if stack then 3 * 2 ^ 56 + 0xFF00 + sensor else 0

/-- A sensor reads a temperature: the largest reading is kept, and a stack's refresh doubles at 95 °C and returns below 90 °C. -/
def Dev.reads (d : Dev) (stack : Bool) (sensor : Nat) (temp : Int) : Dev :=
  if stack then
    let d := { d with pwr := { d.pwr with stackTemps := tblSet d.pwr.stackTemps sensor temp } }.noteTemps
    if celsius 95 ≤ temp then d.setObj (0x2020 + sensor) 2 1 else if temp < celsius 90 then d.setObj (0x2020 + sensor) 2 0 else d
  else ({ d with pwr := { d.pwr with temps := tblSet d.pwr.temps sensor temp } }.noteTemps).cycle

/-- Whether a reading is at its sensor's trip threshold. -/
def tripsAt (stack : Bool) (temp : Int) : Bool := decide ((if stack then celsius 105 else celsius 115) ≤ temp)

/-- The trip: THERMTRIP_N is latched, the cause kept in the always-on domain, and everything else loses its power. -/
def Dev.trip (d : Dev) (detail : Nat) (sensor : Bool × Nat) : Dev :=
  let d := d.powerLost 5
  { d with pwr := { d.pwr with thermTrip := true, tripDetail := some detail, tripSensor := some sensor } }

/-- A reading and what its thresholds bring: the warning at 95 °C as it is crossed, E2 at 105 °C of a junction, the trip. -/
def Dev.newTemp (d : Dev) (stack : Bool) (sensor : Nat) (temp : Int) : Dev :=
  let old := tblGet 200 (if stack then d.pwr.stackTemps else d.pwr.temps) sensor
  let was := d.junctionAt (celsius 105)
  let e := d.reads stack sensor temp
  let e := if old < celsius 95 ∧ celsius 95 ≤ temp then e.fault 0x0402 none (sensorDetail stack sensor) else e
  if tripsAt stack temp then e.trip (sensorDetail stack sensor) (stack, sensor)
  else
    let e := if stack = false ∧ celsius 105 ≤ temp then e.enterE2 none
             else if e.pwr.e2 ∧ was ∧ e.junctionAt (celsius 105) = false then { e with pwr := { e.pwr with e2Gone := some e.time } }
             else e
    (e.levelMoved d).audit d

/-- A reading reaches a module: in DEEP and OFF, after a trip and without power no sensor reports. -/
def Dev.sensor (d : Dev) (stack : Bool) (sensor : Nat) (temp : Int) : Dev := if d.powered then d.newTemp stack sensor temp else d

/-- TEMP_THRESHOLD (R394). -/
def execTempThreshold (stack : Bool) (sensor : Nat) (temp : Int) (s : State) : Host.Outcome State Fault Refusal :=
  onDev (wellFormed (.tempThreshold stack sensor temp)) (fun d => d.sensor stack sensor temp) s

/-- THERMAL_TRIP (R395): a reading at a trip threshold; a lower one is no trip. -/
def execThermalTrip (stack : Bool) (sensor : Nat) (temp : Int) (s : State) : Host.Outcome State Fault Refusal :=
  onDev (wellFormed (.thermalTrip stack sensor temp)) (fun d => if tripsAt stack temp then d.sensor stack sensor temp else d) s

/-! ### The counter page (R424, R426) -/

/-- Whether a laser is lit: one that feeds a half that is not DISABLED. -/
def Dev.laserLit (d : Dev) (i : Nat) : Bool :=
  let half := d.laserMap (i / 12) (i % 12)
  let port := 5 * (i / 12) + half / 2
  d.pwr.offKind == 0 && decide (half < 10) && (d.half port (d.unit port (half % 2))).state != 0

/-- A nanosecond of a laser's lit time; each whole hour counts in LASER_HOURS (R426). -/
def Dev.laserRuns (d : Dev) (i : Nat) : Dev :=
  let t := tblGet 0 d.pwr.laserNs i + 1
  if t < 3600000000000 then { d with pwr := { d.pwr with laserNs := tblSet d.pwr.laserNs i t } }
  else ({ d with pwr := { d.pwr with laserNs := tblErase d.pwr.laserNs i } } : Dev).bumpAt 0xB000 0x09 i 1

/-- The lasers that are lit run for a nanosecond. -/
def Dev.lasersRun (d : Dev) : Dev := ((List.range 48).filter d.laserLit).foldl Dev.laserRuns d

/-- Each power-on hour the counter page is written. -/
def Dev.pageHourEnds (d : Dev) : Dev :=
  if d.powered ∧ (d.pwr.pageHour + 1) * 3600000000000 ≤ d.pwr.onNs then ({ d with pwr := { d.pwr with pageHour := d.pwr.pageHour + 1 } } : Dev).writePage
  else d

/-- COUNTER_PAGE_WRITE (R424). -/
def execCounterPageWrite (s : State) : Host.Outcome State Fault Refusal :=
  onDev (wellFormed .counterPageWrite) (fun d => d.pageHourEnds) s

end Sys2Proof.Machine
end

