-- ==== Sys2Proof/Machine/Spares.lean ====
section
/-! DEFINITION. Failing rows, arrays and cores and what replaces them (R75 to R79, R328, R416 to R420), errors in memory (R175, R181 to
R184), the causes of faults (R413), and the end of a firmware core's restart (R341, R342). -/

namespace Sys2Proof.Machine

/-! ### Physical cores -/

/-- Whether a physical core stands behind a logical one, or is lent to the evaluation slot. -/
def Dev.inUseCore (d : Dev) (cl p : Nat) : Bool := (List.range 10).any fun k => tblGet k d.cmp.bound (CoreRef.mk cl k).key == p
def Dev.lentCore (d : Dev) (cl p : Nat) : Bool := d.evalSlot cl == 10 && d.obj (0xA600 + cl) 2 == p

/-- Whether a spare works: not disabled and with every array. -/
def Dev.working (d : Dev) (cl p : Nat) : Bool := !(d.physCore cl p).disabled && (d.physCore cl p).arraysOff == 0

/-- The lowest-numbered working spare of a cluster that is not lent, and a lent one (R417). -/
def Dev.freeSpare (d : Dev) (cl : Nat) : Option Nat := (List.range 12).find? fun p => d.working cl p && !(d.inUseCore cl p) && !(d.lentCore cl p)
def Dev.lentSpare (d : Dev) (cl : Nat) : Option Nat := (List.range 12).find? fun p => d.working cl p && !(d.inUseCore cl p) && d.lentCore cl p

/-- The failed rows of an array among its 256, and the spare row assigned to a row (R75, R85). -/
def PhysCore.failedRows (x : PhysCore) (array : Nat) : List Nat := (x.failed.filter fun k => k / 512 == array && decide (k % 512 < 256))
def PhysCore.spareFor (x : PhysCore) (array row : Nat) : Option Nat := (List.range 4).find? fun s => (x.spares array).getD s 0xFFFF == row

/-- The map of a core's 16 spare rows with one entry set. -/
def PhysCore.setSpare (x : PhysCore) (array s v : Nat) : PhysCore :=
  { x with rowsMap := ((List.range 16).map fun i => x.rowsMap.getD i 0xFFFF).set (4 * array + s) v }

/-- Whether any array of a core has a spare row in use: its skew trim is 1 then (R76). -/
def PhysCore.trimmed (x : PhysCore) : Bool := x.rowsMap.any fun v => decide (v < 256)

/-- A failed row of an array: an unused spare row takes its place, else the array is disabled. Answers the core, and whether a spare was found. -/
def PhysCore.replaceRow (x : PhysCore) (array row : Nat) : PhysCore × Bool :=
  match (List.range 4).find? fun s => (x.spares array).getD s 0xFFFF == 0xFFFF with
  | some s => (x.setSpare array s row, true)
  | none => ({ x with arraysOff := if bit x.arraysOff array then x.arraysOff else x.arraysOff + 2 ^ array }, false)

/-- A row that has failed (R75): marked; a spare row that fails is not used again, and the row it stood for needs another. -/
def PhysCore.failRow (x : PhysCore) (array row : Nat) : PhysCore × Bool :=
  let x := { x with failed := insertNat (array * 512 + row) x.failed }
  if row < 256 then x.replaceRow array row
  else
    let old := (x.spares array).getD (row - 256) 0xFFFF
    let x := x.setSpare array (row - 256) 0xFFFE
    if old < 256 then x.replaceRow array old else (x, true)

/-! ### Replays after a failed check (R77, R416) -/

/-- The open tiles of a core that hold products are replayed on their grids: each counts in SPARE_REPLAYS. A replay that must read a poisoned line
consumes it (R421). -/
def Dev.rowReplay (d : Dev) (c : CoreRef) : Dev :=
  [false, true].foldl (fun d b =>
    match (d.core c).bank b, (d.core c).armed with
    | some t, some ctx =>
      if t.tally.isEmpty then d
      else if d.tallyPoisoned c t then d.consumePoison ⟨c, ctx, 0, 0, 0, 0, (d.core c).stamp⟩
      else d.bump (d.coreIdx 0x1200 c) 0x0C 1
    | _, _ => d) d

/-- The DETAIL of a row of a physical core (R414); a spare bound to no logical number is coded 15. -/
def physDetail (mid cl k p array row : Nat) : Nat := 2 * 2 ^ 56 + endpoint mid ⟨cl, k⟩ + p * 2 ^ 16 + array * 2 ^ 24 + row * 2 ^ 32

/-- A row of a physical core has failed (R75 to R78): ROW_SPARED, or ARRAY_DISABLED where no working spare row is left. -/
def Dev.rowFails (d : Dev) (cl k p array row : Nat) : Dev :=
  let old := ((d.physCore cl p).spares array).getD (row - 256) 0xFFFF
  let r := (d.physCore cl p).failRow array row
  let d := d.setPhysCore cl p r.1
  let det := physDetail d.mid cl k p array row
  if r.2 then
    if row < 256 ∨ old < 256 then ((d.bumpAt 0xB000 8 0 1).logWear 3 0x0102 det).fault 0x0102 none det else d
  else (d.logWear 3 0x0103 det).fault 0x0103 none det

/-- A core stopped until it is mended, or going on again. -/
def Dev.halt (d : Dev) (c : CoreRef) (on : Bool) : Dev := d.modCore c fun x => { x with stopped := on }

/-- The row of a logical core that failed gets its spare row, and its tiles are replayed; a core whose array is disabled waits for a spare core. -/
def Dev.mendRow (d : Dev) (c : CoreRef) (array row : Nat) : Dev :=
  let c := d.realCore c
  let p := d.phys c
  let d := d.rowFails c.cl c.k p array row
  if (d.physCore c.cl p).arraysOff ≠ 0 then d.halt c true else ((d.halt c false).rowReplay c).retryCore c

/-- A failed check of a row (R416): the first is taken as transient and the open tiles replayed; a second within 1 s means the row has failed.
With no open tile nothing is replayed, nor for a spare row that stands for no row, which gave no tile a product. -/
def Dev.rowCheck (d : Dev) (c : CoreRef) (array row : Nat) : Dev :=
  let c := d.realCore c
  let p := d.phys c
  let key := array * 512 + row
  let x := d.physCore c.cl p
  if p = 0xFF ∨ d.pwr.offKind ≠ 0 ∨ x.failed.contains key ∨ bit x.arraysOff array ∨ d.cmp.heldFaults.contains (c.key, some (array, row)) then d
  else
    let again := match tblFind x.checks key with | some t => decide (d.time ≤ t + 1000000000) | none => false
    if again then
      if d.restarting (3 + c.cl) then { d.halt c true with cmp := { (d.halt c true).cmp with heldFaults := d.cmp.heldFaults ++ [(c.key, some (array, row))] } }
      else d.mendRow c array row
    else
      let d := (d.setPhysCore c.cl p { x with checks := tblSet x.checks key d.time }).fault 0x0101 none (d.rowDetail c array row)
      if 256 ≤ row ∧ 256 ≤ (x.spares array).getD (row - 256) 0xFFFF then d else d.rowReplay c

/-- ROW_CHECK (R416). -/
def execRowCheck (c : CoreRef) (array row : Nat) (s : State) : Host.Outcome State Fault Refusal :=
  onDev (wellFormed (.rowCheck c array row)) (fun d => (d.rowCheck c array row).audit d) s

/-- The logical number bound to a physical core, 15 where there is none. -/
def Dev.logicalOf (d : Dev) (cl p : Nat) : Nat := ((List.range 10).find? fun k => tblGet k d.cmp.bound (CoreRef.mk cl k).key == p).getD 15

/-- The row test of a physical core (R416): at start-up on every core, then every 24 power-on hours on each spare neither in use nor lent. -/
def Dev.rowTest (d : Dev) (cl p : Nat) (rows : List (Nat × Nat)) : Dev :=
  let x := d.physCore cl p
  let spare := !(d.inUseCore cl p) && !(d.lentCore cl p)
  let due := match x.tested with | none => spare || d.ctxs.all fun q => q.2.state == 0 | some t => spare && decide (t + trimGap ≤ d.pwr.onNs)
  if d.pwr.offKind ≠ 0 ∨ due = false then d
  else
    let d := d.setPhysCore cl p { x with tested := some d.pwr.onNs }
    rows.foldl (fun d r =>
      if (d.physCore cl p).failed.contains (r.1 * 512 + r.2) ∨ 4 ≤ r.1 ∨ 260 ≤ r.2 then d
      else
        let d := d.rowFails cl (d.logicalOf cl p) p r.1 r.2
        if (d.physCore cl p).arraysOff ≠ 0 ∧ d.logicalOf cl p ≠ 15 then d.halt ⟨cl, d.logicalOf cl p⟩ true else d) d

/-- ROW_TEST (R416). -/
def execRowTest (cl phys : Nat) (failedRows : List (Nat × Nat)) (s : State) : Host.Outcome State Fault Refusal :=
  onDev (wellFormed (.rowTest cl phys failedRows)) (fun d => (d.rowTest cl phys failedRows).audit d) s

/-! ### Spare cores (R328, R417 to R420) -/

/-- The contexts that stand on an evaluation slot: admitted for it and not saved, though they may have launched nothing, or halted on it. -/
def Dev.slotCtxs (d : Dev) (cl : Nat) : List Nat :=
  let key := (CoreRef.mk cl 10).key
  tblKeys (d.ctxs.filter fun (p : Nat × Ctx) => p.2.cores.contains key &&
    (((p.2.state == 3 || p.2.state == 4) && p.2.saved.isEmpty) || (p.2.state == 11 && (d.core ⟨cl, 10⟩).armed == some p.1)))

/-- A context leaves an evaluation slot that is recalled: saved at its next order boundary, a halted one as it is (R320, R328). -/
def Dev.quitSlot (d : Dev) (c : Nat) : Dev :=
  if (d.ctx c).state = 11 then (if d.canSave c then d.saveCtx c 11 else d) else (d.modCtx c fun x => { x with saveWanted := true }).trySave c

/-- The ring of a context whose slot was recalled hears of it: one completion with PREEMPTED and TAG 0, as OVERRUN and WIPED are told (R352, log 97). -/
def Dev.tellRecall (d : Dev) (cs : List Nat) : Dev := cs.foldl (fun d c => d.post c (completionWord c 0 0 d.time stPreempted 0xFFFF 0xFFFF 0 false)) d

/-- The recall of a lent spare (R328): the evaluation context is pre-empted at its next order boundary, then the slot is taken back. None while that
has not come. -/
def Dev.recall (d : Dev) (cl : Nat) : Dev ⊕ Dev :=
  let d := (d.slotCtxs cl).foldl Dev.quitSlot d
  if d.slotCtxs cl = [] then
    let d := d.tellRecall (tblKeys (d.ctxs.filter fun (p : Nat × Ctx) => p.2.state != 0 && p.2.state != 9 && p.2.cores.contains (CoreRef.mk cl 10).key))
    .inr (((((d.stowHold ⟨cl, 10⟩ (d.obj (0xA600 + cl) 2)).setObj (0xA600 + cl) 1 0xFE).setObj (0xA600 + cl) 2 0xFF).bump (0xA600 + cl) 3 1).send (.interrupt 64))
  else .inl d

/-- A physical core taken out of use. -/
def Dev.disableCore (d : Dev) (cl p : Nat) : Dev := if p = 0xFF then d else d.setPhysCore cl p { d.physCore cl p with disabled := true }

/-- The spare that can take a core's place now: free, or recalled. `.inl` waits for a recall; `.inr none` says that none is left. -/
def Dev.takeSpare (d : Dev) (cl : Nat) : Dev ⊕ (Dev × Option Nat) :=
  match d.freeSpare cl with
  | some p => .inr (d, some p)
  | none =>
    match d.lentSpare cl with
    | none => .inr (d, none)
    | some p => match d.recall cl with
      | .inl d => .inl d
      | .inr d => .inr (d, some p)

/-- A logical number pointed at a spare; the slot's own core is its borrowed spare. The switch is written to the map and the logbook. -/
def Dev.pointAt (d : Dev) (c : CoreRef) (p : Nat) : Dev :=
  let d := if c.k = 10 then d.setObj (0xA600 + c.cl) 2 p else { d with cmp := { d.cmp with bound := tblSet d.cmp.bound c.key p } }
  if p = 0xFF then d else ((d.bumpAt 0xB000 8 1 1).logWear 3 0x0104 (d.coreDetail c))

/-- The saved contexts that hold a list of a core (R360, R420). -/
def Dev.savedOn (d : Dev) (c : CoreRef) : List Nat :=
  tblKeys (d.ctxs.filter fun (p : Nat × Ctx) => p.2.state != 9 && p.2.saved.any fun v => v.key == c.key && v.st.list.isSome)

/-- No working spare is left (R420): the logical core has no physical core, every context with a list on it is aborted, a saved one too, and the module
is quarantined.
An evaluation slot that loses its borrowed core names no slot any more. -/
def Dev.noSpare (d : Dev) (c : CoreRef) : Dev :=
  let d := d.halt c false
  let d := match (d.core c).armed with | some x => if (d.core c).list.isSome then (d.abortCtx x (some c)).settleRuns x else d | none => d
  let d := (d.savedOn c).foldl (fun d x => (d.abortCtx x (some c)).settleRuns x) d
  if c.k = 10 then (d.pointAt c 0xFF).setObj (0xA600 + c.cl) 1 0xFF else (d.pointAt c 0xFF).fault 0x0105 none (d.coreDetail c)

/-- What a context that had a list on a faulty core does (R419): with a mirrored set it rewinds, else POISON_CONSUMED aborts it. -/
def Dev.faultCtx (d : Dev) (ctx : Nat) (c : CoreRef) : Dev :=
  if (d.maskSets ctx 0xFFFF).any fun p => p.2.mirror then d.rewind ctx else (d.fault 0x0203 (some ctx) (d.coreDetail c)).settleRuns ctx

/-- A faulty core is replaced and its contexts rewound or aborted; the state of the core is not trusted, and its window shows the spare's hold. It is no spare for
itself, be it the one that was lent. -/
def Dev.mendCore (d : Dev) (c : CoreRef) : Dev :=
  let p := d.phys c
  let run := match (d.core c).armed with | some x => if (d.core c).list.isSome then some x else none | none => none
  let hold := fun (d : Dev) => { d.halt c true with cmp := { (d.halt c true).cmp with heldFaults := d.cmp.heldFaults ++ [(c.key, none)] } }
  match (d.disableCore c.cl p).takeSpare c.cl with
  | .inl d => hold d
  | .inr (d, some q) =>
    let d := (((d.stowHold c p).showHold c q).pointAt c q).halt c false
    match run with | some x => d.faultCtx x c | none => d
  | .inr (d, none) => d.noSpare c

/-- A core with a disabled array is replaced (R418): stopped, saved, remapped, restored; its open tiles are replayed and it goes on.
A faulty core whose replacement waited for a recall is replaced first. -/
def Dev.switchCore (d : Dev) (c : CoreRef) : Dev :=
  let c := d.realCore c
  let p := d.phys c
  if d.cmp.heldFaults.contains (c.key, none) ∧ d.restarting (3 + c.cl) = false ∧ d.pwr.offKind = 0 ∧ d.safe = false then
    { d with cmp := { d.cmp with heldFaults := d.cmp.heldFaults.filter fun h => h != (c.key, none) } }.mendCore c
  else if p = 0xFF ∨ (d.physCore c.cl p).arraysOff = 0 ∨ d.restarting (3 + c.cl) ∨ d.pwr.offKind ≠ 0 ∨ d.safe then d
  else match d.takeSpare c.cl with
    | .inl d => d
    | .inr (d, some q) => (((((d.disableCore c.cl p).setPhysCore c.cl q { d.physCore c.cl q with hold := [], marks := [] }).pointAt c q).halt c false).rowReplay c).retryCore c
    | .inr (d, none) => (d.disableCore c.cl p).noSpare c

/-- SPARE_CORE_SWITCH (R418). -/
def execSpareCoreSwitch (c : CoreRef) (s : State) : Host.Outcome State Fault Refusal :=
  onDev (wellFormed (.spareCoreSwitch c)) (fun d => (d.switchCore c).audit d) s

/-- CORE_FAULT (R419): recorded; the switch waits while CCn restarts. -/
def Dev.coreFault (d : Dev) (c : CoreRef) : Dev :=
  let c := d.realCore c
  if d.phys c = 0xFF ∨ d.pwr.offKind ≠ 0 ∨ d.safe ∨ d.cmp.heldFaults.contains (c.key, none) then d
  else
    let d := d.fault 0x0104 none (d.coreDetail c)
    if d.restarting (3 + c.cl) then { d.halt c true with cmp := { (d.halt c true).cmp with heldFaults := d.cmp.heldFaults ++ [(c.key, none)] } }
    else d.mendCore c

/-- CORE_FAULT (R419). -/
def execCoreFault (c : CoreRef) (s : State) : Host.Outcome State Fault Refusal :=
  onDev (wellFormed (.coreFault c)) (fun d => (d.coreFault c).audit d) s

/-! ### Errors in memory (R175, R181 to R184) -/

/-- The stack, stack address and channel of a local HBM address (R179, R180). -/
def Dev.stackOf (d : Dev) (a : Nat) : Nat × Nat × Nat :=
  let per := (512 * 2 ^ 30 - d.nearSize) / 8
  let x5 := fun (n i : Nat) => field n (5 * i + 4) (5 * i)
  let x3 := fun (n i : Nat) => field n (3 * i + 2) (3 * i)
  let chan := fun (i : Nat) => field i 4 0 ^^^ field i 9 5
  if a < d.spreadEnd then
    let n := a / 512
    let i := n / 32
    (x5 n 0 ^^^ x5 n 1 ^^^ x5 n 2 ^^^ x5 n 3, i * 512 + a % 512, chan i)
  else
    let die := (a - 0x020000000000) / 0x008000000000
    let n := (a - 0x020000000000 - die * 0x008000000000) / 512
    let i := n / 8
    (8 * die + (x3 n 0 ^^^ x3 n 1 ^^^ x3 n 2), per + i * 512 + a % 512, chan i)

/-- A line marked poisoned where it stands, recorded with its unit. -/
def Dev.poisonLine (d : Dev) (a detail : Nat) : Dev :=
  { d with poison := insertNat (d.canon a / 64) d.poison }.fault 0x0202 none detail

/-- A corrected line of a stack: counted for the stack and, for life, for its channel. -/
def Dev.corrected (d : Dev) (stack chan : Nat) : Dev := (d.bump (0x8300 + stack) 1 1).bumpAt (0xB100 + stack) 1 chan 1

/-- A line corrected by erasing a die: the sixteenth within 1 s places the die in erasure mode (R182). -/
def Dev.byErasure (d : Dev) (stack chan die : Nat) : Dev :=
  let ts := ((tblGet [] d.erasures stack).filter fun e => decide (d.time < e.2 + 1000000000)) ++ [(die, d.time)]
  let d := { d.corrected stack chan with erasures := tblSet d.erasures stack ts }
  if 16 ≤ (ts.filter fun e => e.1 == die).length then
    let det := 3 * 2 ^ 56 + stack + die * 2 ^ 8
    (((d.setObj (0x8300 + stack) 3 die).bumpAt 0xB000 8 3 1).logWear 3 0x0201 det).fault 0x0201 none det
  else d

/-- A line left with the bytes a wrong correction gives it (R181): no write of an agent. -/
def Dev.miscorrect (d : Dev) (a : Nat) (bs : List Byte) : Dev := { d with mem := memWrite d.mem (a / 64 * 64) (bs.take 64) }

/-- A line of a stack decoded with errors in it (R181 to R183). A pattern that passes one die's test by chance leaves wrong bytes, undetected;
with a die in erasure mode only the errors of a second die that fails as a whole may (R183). -/
def Dev.decodeLine (d : Dev) (stack a chan : Nat) (e : LineErrors) : Dev :=
  let erased := d.obj (0x8300 + stack) 3
  let bad := fun (d : Dev) => (d.bump (0x8300 + stack) 2 1).poisonLine a (3 * 2 ^ 56 + stack + 0xFF00)
  if e.count = 0 then d
  else if erased = 0xFF then
    if e.count ≤ 2 then d.corrected stack chan
    else match e.dies.eraseDups, e.missed with
      | [q], _ => d.byErasure stack chan q
      | _, some m => (d.miscorrect a m.2).byErasure stack chan m.1
      | _, none => bad d
  else if e.dies.all fun q => q == erased then d
  else
    let others := e.dies.filter fun q => q != erased
    let second := decide (3 ≤ others.length) && others.eraseDups.length == 1
    if second && e.missed.isSome then d.miscorrect a (e.missed.getD (0, [])).2
    else
    let d := bad d
    if second ∧ d.obj (0x8300 + stack) 4 = 0 then
      (d.setObj (0x8300 + stack) 4 1).fault 0x0204 none (3 * 2 ^ 56 + stack + 0xFF00)
    else d

/-- The patrol scrub reads a line of a stack; the stack's last line ends a pass (R184). -/
def Dev.patrol (d : Dev) (stack a : Nat) (e : LineErrors) : Dev :=
  match (d.place a).1 with
  | .hbm =>
    let at_ := d.stackOf a
    if at_.1 ≠ stack ∨ d.pwr.offKind ≠ 0 ∨ d.unfilled a then d
    else
      let d := d.decodeLine stack a at_.2.2 e
      if at_.2.1 / 64 = 2 ^ 30 - 1 then d.bump (0x8300 + stack) 5 1 else d
  | _ => d

/-- PATROL_SCRUB (R184). -/
def execPatrolScrub (stack addr : Nat) (e : LineErrors) (s : State) : Host.Outcome State Fault Refusal :=
  onDev (wellFormed (.patrolScrub stack addr e)) (fun d => (d.patrol stack addr e).audit d) s

/-- The SRAM scrub reads the line at an offset of the hold of a spare that no window shows (R175, R203). -/
def Dev.spareSram (d : Dev) (cl p o : Nat) (e : LineErrors) : Dev :=
  let x := d.physCore cl p
  if d.pwr.offKind ≠ 0 ∨ holdSize ≤ o ∨ d.inUseCore cl p ∨ d.lentCore cl p then d
  else
    let d := d.bump (0x8320 + cl) 3 e.count
    if e.double then
      ((d.bump (0x8320 + cl) 4 1).setPhysCore cl p { x with marks := insertNat (o / 64) x.marks }).fault 0x0202 none
        (8 * 2 ^ 56 + cl + p * 2 ^ 8 + 0xFF * 2 ^ 16 + o / 64 * 2 ^ 24)
    else d

/-- The SRAM scrub reads a line of a hold or a quay (R175): words with a single-bit error are corrected, a double-bit error poisons the line. -/
def Dev.sram (d : Dev) (a : Nat) (e : LineErrors) : Dev :=
  if d.pwr.offKind ≠ 0 then d
  else match (d.place a).1 with
    | .quay cl =>
      let d := d.bump (0x8320 + cl) 2 e.count
      if e.double then (d.bump (0x8320 + cl) 4 1).poisonLine a (9 * 2 ^ 56 + cl + (a - quayBase cl) / 64 * 2 ^ 8) else d
    | .hold c =>
      let d := d.bump (0x8320 + c.cl) 3 e.count
      if e.double ∧ d.phys c ≠ 0xFF then
        (d.bump (0x8320 + c.cl) 4 1).poisonLine a (8 * 2 ^ 56 + c.cl + d.phys c * 2 ^ 8 + (d.realCore c).k * 2 ^ 16 + (a - holdBase c) / 64 * 2 ^ 24)
      else d
    | _ => d

/-- SRAM_SCRUB (R175): of a line at a local address, or at an offset of the hold of a spare. -/
def execSramScrub (addr : Nat) (e : LineErrors) (s : State) : Host.Outcome State Fault Refusal :=
  onDev (wellFormed (.sramScrub addr e)) (fun d => match e.spare with | some q => d.spareSram q.1 q.2 addr e | none => d.sram addr e) s

/-! ### Whether the cause of a fault is still present (R411, R413) -/

/-- Whether some half of an engine has no laser. -/
def Dev.darkHalf (d : Dev) (engine : Nat) : Bool := (List.range 10).any fun h => !((List.range 12).any fun l => d.laserMap engine l == h)

/-- Whether a fault recorded with a source and DETAIL still has its cause. -/
def Dev.causePresent (d : Dev) (src detail : Nat) : Bool :=
  if src = 0x0105 then d.cmp.bound.any fun p => p.2 == 0xFF
  else if src = 0x0204 then d.obj (0x8300 + detail % 256) 4 == 1
  else if src = 0x0301 then d.halves (detail % 256) != 3
  else if src = 0x0302 then d.darkHalf (detail % 256)
  else if src = 0x0305 then decide (d.obj 0x8000 9 < 32)
  else if src = 0x0401 then d.obj 0x2000 0x0C == 1
  else if src = 0x0402 then d.hot
  else if src = 0x0403 then d.emergency == 2
  else if src = 0x0404 ∨ src = 0x0407 then true
  else if src = 0x0405 then d.obj 0x2000 0x02 != d.pwr.strapClass
  else if src = 0x0601 then (List.range 64).any fun c => d.ringState c == 2
  else if src = 0x0605 then d.pairState == 4
  else false

/-- CAUSE_PRESENT of a class. -/
def Dev.classPresent (d : Dev) (k : Nat) : Bool := (d.fclass k).causes.any fun c => d.causePresent c.1 c.2

/-! ### A restart ends (R341, R342) -/

/-- A handshake message that waited for SEC. -/
def Dev.replaySec (f : Fuses) (d : Dev) (i : Instr) : Dev :=
  match i with
  | .offer p v => d.handshake p hsOffer fun d => Dev.onOffer f d p v
  | .accept p v => d.handshake p hsAccept fun d => Dev.onAccept f d p v
  | .confirm p v => (d.handshake p hsConfirm fun d => Dev.onConfirm f d p v).admitAll
  | .rekey p v => d.handshake p hsRekey fun d => Dev.onRekey f d p v
  | .rekeyAck p v => d.handshake p hsRekeyAck fun d => Dev.onRekeyAck f d p v
  | _ => d

/-- The faults of a cluster that waited for its CCn are dealt with. -/
def Dev.heldFaults (d : Dev) (cl : Nat) : Dev :=
  let mine := d.cmp.heldFaults.filter fun p => p.1 / 11 == cl
  let d := { d with cmp := { d.cmp with heldFaults := d.cmp.heldFaults.filter fun p => p.1 / 11 != cl } }
  mine.foldl (fun d p => match p.2 with | some r => d.mendRow (CoreRef.ofKey p.1) r.1 r.2 | none => d.mendCore (CoreRef.ofKey p.1)) d

/-- What waited for core `k`: handshakes for SEC, host-loss decisions for SCH, saves and failures for CCn. -/
def Dev.restartFrees (f : Fuses) (d : Dev) (k : Nat) : Dev :=
  if k = 0 then
    let w := d.sec.waiting
    w.foldl (Dev.replaySec f) { d with sec := { d.sec with waiting := [] } }
  else if k = 2 then (d.sessionCtxs.foldl Dev.trySave d.hostDone).admitAll
  else if 3 ≤ k ∧ k < 11 then (d.sessionCtxs.foldl Dev.trySave d).heldFaults (k - 3)
  else d

/-- Core `k` runs again; an activation is done, and the next one begins. -/
def Dev.restartEnds (f : Fuses) (d : Dev) (k : Nat) : Dev :=
  let x := d.fwCore k
  if d.fwRuns = false ∨ x.restarting = false ∨ x.stopped then d
  else
    let d := d.setFw k (if x.activation = 2 then { x with restarting := false, activation := 3, activatedAt := some d.time } else { x with restarting := false })
    (Dev.restartFrees f d k).activateNext

/-- FIRMWARE_RESTART_END (R341). -/
def execFirmwareRestartEnd (k : Nat) (s : State) : Host.Outcome State Fault Refusal :=
  onDevF (wellFormed (.firmwareRestartEnd k)) (fun f d => (Dev.restartEnds f d k).audit d) s

end Sys2Proof.Machine
end

