-- ==== Sys2Proof/Machine/Views.lean ====
section
/-! DEFINITION. What a Manifest READ returns (R458, R470): the values of objects that mirror the machine's state, the windows on barriers
(R230) and on the logbook (R425, R429), and the bytes of a value. -/

namespace Sys2Proof.Machine

/-! ### Where an object stands -/

/-- The cluster of an evaluation slot's index, if an index is one (R86). -/
def slotCluster (idx : Nat) : Option Nat :=
  if (idx / 256 = 0x12 ∨ idx / 256 = 0x13 ∨ idx / 256 = 0x14) ∧ 0x50 ≤ idx % 256 ∧ idx % 256 < 0x58 then some (idx % 256 - 0x50) else none

/-- The logical core of an index of cores. -/
def idxCore (idx : Nat) : CoreRef := if idx % 256 < 0x50 then ⟨idx % 256 / 10, idx % 256 % 10⟩ else ⟨idx % 256 - 0x50, 10⟩

/-- The index at which an object's value is kept: a slot that reserves a core shows that core's own objects (R86). -/
def Dev.homeIdx (d : Dev) (idx : Nat) : Nat :=
  match slotCluster idx with
  | some cl => if d.evalSlot cl ≤ 9 then idx / 256 * 256 + 10 * cl + d.evalSlot cl else idx
  | none => idx

/-- A context number that an index of a block of contexts names. -/
def idxCtx (idx base : Nat) : Nat := idx - base

/-! ### Values that mirror state -/

/-- Matrix objects of a core (R85). -/
def Dev.coreValue (d : Dev) (idx sub e : Nat) : Nat :=
  let c := d.realCore (idxCore idx)
  let x := d.physCore c.cl (d.phys c)
  if sub = 1 then d.phys c
  else if sub = 2 then (if x.trimmed then 25 else 24)
  else if sub = 3 then (if x.trimmed then 37 else 36)
  else if sub = 4 then (if x.trimmed then 1 else 0)
  else if sub = 5 then x.rowsMap.getD e 0xFFFF
  else if sub = 6 then (x.failedRows e).length
  else d.objAt (d.homeIdx idx) sub e

/-- Power objects (R378, R379, R391). -/
def Dev.powerValue (d : Dev) (sub e : Nat) : Nat :=
  if sub = 0x01 then d.pwr.strapClass
  else if sub = 0x03 then d.classActive
  else if sub = 0x04 then d.classLimit
  else if sub = 0x05 then d.powerCap
  else if sub = 0x0D then d.emergency
  else d.objAt 0x2000 sub e

/-- Objects of a die (R402): temperature, the calibrated minimum voltage and the set voltage (R387). -/
def Dev.dieValue (d : Dev) (q sub e : Nat) : Nat :=
  if sub = 1 then low 16 (d.dieTemp q)
  else if sub = 3 then Config.vminCal q e
  else if sub = 5 then Config.vminCal q e + d.obj (0x2010 + q) 4 + 50
  else d.objAt (0x2010 + q) sub e

/-- Objects of a port (R278). -/
def Dev.portValue (d : Dev) (p sub e : Nat) : Nat :=
  let split := e = 0 ∨ d.splitPort p
  if sub = 1 then (if split then (d.half p e).state else 0)
  else if sub = 4 then (if split then (d.half p e).peerRank else 0xFFFF)
  else if sub = 5 then (if split then (d.half p e).peerPort else 0xFF)
  else if sub = 8 then Config.macBase + p
  else d.objAt (0x3010 + p) sub e

/-- Objects of a destination MID (R281): a path is down when it is declared down, not while its port observes a loss (R260, R261). -/
def Dev.destValue (d : Dev) (m sub : Nat) : Nat :=
  let rank := d.basinNumber * 8 + m
  if m = d.mid then 0
  else if sub = 1 then ((d.steady.upPaths rank 0).map fun i => 2 ^ i).foldl (· + ·) 0
  else if sub = 2 then (if d.steady.reachable rank then 1 else 0)
  else tblGet 0 d.net.lostSince m

/-- Whether FAULT_N is driven low (R406, R434): FAULT_N_LEVEL 5 keeps it high. -/
def Dev.faultLow (d : Dev) : Bool :=
  d.pwr.offKind == 9 || (d.powered && decide (d.obj 0x4000 1 < 5) && d.faults.any fun (p : Nat × FaultClass) => p.2.isOpen && decide (d.obj 0x4000 1 ≤ p.2.level))

/-- Fault objects of the module (R428). -/
def Dev.faultValue (d : Dev) (sub e : Nat) : Nat :=
  if sub = 2 then (if d.faultLow then 1 else 0)
  else if sub = 3 then d.deviceLevel
  else if sub = 4 then (if d.quarantined then 1 else 0)
  else d.objAt 0x4000 sub e

/-- Objects of a fault class (R428). -/
def Dev.classValue (d : Dev) (k sub : Nat) : Nat :=
  let x := d.fclass k
  if sub = 1 then (if x.isOpen then 1 else 0)
  else if sub = 2 then x.level
  else if sub = 3 then x.source
  else if sub = 4 then x.count
  else if sub = 5 then x.opened
  else if sub = 6 then (if x.acked then 1 else 0)
  else if sub = 7 then (if d.classPresent k then 1 else 0)
  else 0

/-- Security objects that are numbers (R456). -/
def Dev.secValue (f : Fuses) (d : Dev) (sub : Nat) : Nat :=
  if sub = 0x01 then f.lcState
  else if sub = 0x02 then f.left
  else if sub = 0x0B then d.securityVersion
  else if sub = 0x0C then f.floor
  else if sub = 0x0F then d.sec.slots.length
  else if sub = 0x10 then (if d.sec.wiping then 1 else 0)
  else d.obj 0x6000 sub

/-- Objects of a region (R207). -/
def Dev.regionValue (d : Dev) (r sub : Nat) : Nat :=
  let x := d.region r
  if sub = 1 then x.base
  else if sub = 2 then x.size
  else if sub = 3 then x.owner
  else if sub = 4 then x.attr
  else if sub = 5 then (if x.enabled then 1 else 0)
  else (if x.filling.isSome then 1 else 0)

/-- Objects of a state set (R338). -/
def Dev.setValue (d : Dev) (ctx s sub : Nat) : Nat :=
  match d.sset ctx s with
  | none => 0
  | some x =>
    let mine := d.cmp.snaps.filter fun v => v.ctx == ctx && v.set_ == s
    if sub = 1 then (if x.teacher then 1 else 0)
    else if sub = 2 then x.active
    else if sub = 3 then x.step
    else if sub = 4 then x.loader
    else if sub = 5 then d.mirrorState x
    else if sub = 6 then (if mine.any fun v => v.held then 2 else if mine = [] then 0 else 1)
    else d.dirtyBytes ctx s x

/-- Ring objects of a context (R347, R354, R358). -/
def Dev.ringValue (d : Dev) (c sub : Nat) : Nat :=
  let x := d.ctx c
  if sub = 5 then d.sqHead c
  else if sub = 8 then x.state
  else if sub = 9 then x.prio
  else if sub = 0x0A then d.obj (0xD100 + c) sub + (match x.runSince with | some t => d.time - t | none => 0)
  else d.obj (0xD100 + c) sub

/-- The context directory (R479). -/
def Dev.directory (d : Dev) (sub e : Nat) : Nat :=
  if sub = 1 then d.inUse
  else if sub = 2 then (d.ctx e).state
  else if sub = 3 then
    let x := tblGet {} d.cmp.cores e
    if x.list.isSome then x.armed.getD 0xFF else 0xFF
  else ((d.ctxs.filter fun p => p.2.state == 10).map fun p => 2 ^ p.1).foldl (· + ·) 0

/-- The element of an object that holds numbers. -/
def Dev.value (f : Fuses) (d : Dev) (idx sub e : Nat) : Nat :=
  if idx = 0x1000 then
    if sub = 6 then d.bundleVersion / 2 ^ 24 else if sub = 7 then d.mid else if sub = 8 then Config.macBase
    else if sub = 9 then Config.manufactured else if sub = 0x0A then Config.vendorIana else d.obj idx sub
  else if idx / 256 = 0x12 then d.coreValue idx sub e
  else if idx = 0x2000 then d.powerValue sub e
  else if 0x2010 ≤ idx ∧ idx ≤ 0x2014 then d.dieValue (idx - 0x2010) sub e
  else if 0x2020 ≤ idx ∧ idx ≤ 0x203F ∧ sub = 1 then low 16 (tblGet 200 d.pwr.stackTemps (idx - 0x2020))
  else if idx = 0x3000 then (if sub = 2 then d.planHash else if sub = 3 then d.rank else d.objAt idx sub e)
  else if 0x3010 ≤ idx ∧ idx ≤ 0x3023 then d.portValue (idx - 0x3010) sub e
  else if idx = 0x3100 ∧ sub = 1 then (d.net.sessions.filter fun p => p.2.state == 1).length
  else if 0x3120 ≤ idx ∧ idx ≤ 0x3127 then d.destValue (idx - 0x3120) sub
  else if idx = 0x4000 then d.faultValue sub e
  else if 0x4010 ≤ idx ∧ idx ≤ 0x4013 then d.classValue (idx - 0x4010) sub
  else if 0x5100 ≤ idx ∧ idx ≤ 0x510E ∧ sub ≤ 2 then
    (if sub = 1 then (d.fwCore (idx - 0x5100)).version else (d.fwCore (idx - 0x5100)).activation)
  else if idx = 0x6000 then d.secValue f sub
  else if idx = 0x7000 then (if sub = 1 then d.fingerprint else if sub = 4 then d.bundleVersion else d.obj idx sub)
  else if 0x7100 ≤ idx ∧ idx ≤ 0x713F ∧ sub = 5 then (d.ctx (idx - 0x7100)).groupLen
  else if idx = 0x8000 ∧ sub = 4 then d.spreadEnd
  else if 0x8400 ≤ idx ∧ idx ≤ 0x87FF then d.regionValue (idx - 0x8400) sub
  else if idx = 0x9000 ∧ sub = 2 then d.storeUse
  else if 0x9100 ≤ idx ∧ idx ≤ 0x913F ∧ sub ≤ 2 then
    (if sub = 1 then (d.ctx (idx - 0x9100)).barLen else match d.gangPoint (idx - 0x9100) with | some p => p.1 | none => 0xFFFF)
  else if 0xA100 ≤ idx ∧ idx ≤ 0xA13F ∧ 0x12 ≤ sub then
    let x := d.ctx (idx - 0xA100)
    if sub = 0x12 then (if x.evaluation then 1 else 0) else x.standbyFor.getD 0xFFFF
  else if 0xA200 ≤ idx ∧ idx ≤ 0xA5FF then d.setValue ((idx - 0xA200) / 16) ((idx - 0xA200) % 16) sub
  else if 0xA600 ≤ idx ∧ idx ≤ 0xA607 ∧ sub = 2 then d.phys ⟨idx - 0xA600, 10⟩
  else if idx = 0xB000 ∧ sub = 1 then d.pwr.onNs / 3600000000000
  else if idx = 0xB000 ∧ sub = 5 then (if d.obj 0xB000 6 = 0 then 0 else d.calendar)
  else if 0xD100 ≤ idx ∧ idx ≤ 0xD13F then d.ringValue (idx - 0xD100) sub
  else if idx = 0xD200 then d.directory sub e
  else d.objAt (d.homeIdx idx) sub e

/-! ### The barrier view (R230, R235) -/

/-- Whether a barrier's object stands at a home on another module: each module has a copy of a FAST one alone (R230). -/
def Dev.farBarrier (d : Dev) (ctx : Nat) (b : Barrier) : Bool := !b.fast && d.gangDevice ctx b.home != d.rank

/-- The record of an object at a home on another module: what this module knows of it, and free values for what only the home knows. -/
def Dev.farRecord (d : Dev) (ctx n : Nat) (b : Barrier) : Nat :=
  let w := Config.farRecord d.time ctx n
  (if b.poisoned then 2 else 1) + n * 2 ^ 32 + field w 95 48 * 2 ^ 48 + field w 111 96 % b.count * 2 ^ 96 + b.count * 2 ^ 112 + field w 159 128 * 2 ^ 128 +
    field w 163 160 % 6 * 2 ^ 160 + field w 185 164 * 2 ^ 164 + field w 255 192 * 2 ^ 192

/-- The record of barrier `n` of a context. -/
def Dev.barRecord (d : Dev) (ctx n : Nat) : List Byte :=
  match (if n < (d.ctx ctx).barLen then d.bar ctx n else none) with
  | none => natLe 32 (n * 2 ^ 32)
  | some b =>
    if d.farBarrier ctx b then natLe 32 (d.farRecord ctx n b) else
    let who := match b.lastWho with | some g => g.rank % 2 ^ 14 * 2 ^ 172 + g.core.cl * 2 ^ 168 + g.core.k * 2 ^ 164 | none => 0
    let state := if b.poisoned then 2 else if b.fast then 3 else 1
    natLe 32 (state + n * 2 ^ 32 + min b.overshoots 65535 * 2 ^ 48 + min b.timeouts 65535 * 2 ^ 64 + b.waiters.length * 2 ^ 80 + b.arrived * 2 ^ 96 +
      b.count * 2 ^ 112 + b.gen * 2 ^ 128 + b.lastKind * 2 ^ 160 + who + b.lastTime % 2 ^ 64 * 2 ^ 192)

/-- A bitmap of 1,024 bits over the endpoints of the home's basin. -/
def Dev.endpointSet (d : Dev) (ctx home : Nat) (who : List GangCore) : List Byte :=
  let here := who.filter fun g => d.gangDevice ctx g.rank / 8 == d.gangDevice ctx home / 8
  let bits := (here.map fun g => 128 * d.gangMid ctx g.rank + 16 * g.core.cl + g.core.k).eraseDups
  natLe 128 ((bits.map fun i => 2 ^ i).foldl (· + ·) 0)

/-- The windowed views of a context's barriers. -/
def Dev.barWindow (d : Dev) (ctx sub : Nat) : List Byte :=
  let base := d.obj (0x9100 + ctx) 3
  if sub = 4 then ((List.range 64).map fun i => d.barRecord ctx (base + i)).flatten
  else match (if base < (d.ctx ctx).barLen then d.bar ctx base else none) with
    | none => natLe 128 0
    | some b =>
      if d.farBarrier ctx b then natLe 128 ((if sub = 5 then Config.farArrived else Config.farWaiters) d.time ctx base)
      else if sub = 5 then d.endpointSet ctx b.home b.arrivedSet else d.endpointSet ctx b.home (b.waiters.map fun w => w.who)

/-! ### The logbook's windows (R425, R429) -/

/-- The 32 bytes of a record. -/
def LogRec.bytes (r : LogRec) : List Byte :=
  let body := (natLe 32 (r.level * 2 ^ 24 + r.dflt * 2 ^ 27 + r.cls * 2 ^ 30 + r.typ * 2 ^ 32 + r.ctx * 2 ^ 40 + r.source * 2 ^ 48 + r.seq % 2 ^ 32 * 2 ^ 64 +
    r.detail % 2 ^ 64 * 2 ^ 96 + r.powerOn % 2 ^ 32 * 2 ^ 160 + r.calendar % 2 ^ 64 * 2 ^ 192)).drop 2
  natLe 2 (crc16 0xFFFF body) ++ body

/-- Sixty-four records from a record number on; a record not held reads zero. -/
def logWindow (rs : List LogRec) (base : Nat) : List Byte :=
  ((List.range 64).map fun i => match rs.find? fun r => r.seq == base + i with | some r => r.bytes | none => List.replicate 32 0#8).flatten

/-! ### Bytes of a value (R458) -/

/-- The characters of a string. -/
def utf8 (s : String) : List Byte := s.toList.map fun c => BitVec.ofNat 8 c.toNat

/-- The value of a STR or BLOB object. A BLANK module has no identity (R448). -/
def Dev.blobValue (f : Fuses) (d : Dev) (idx sub : Nat) : List Byte :=
  if idx = 0x1000 then (if sub = 1 then utf8 "Valrak Semiconductor" else if sub = 2 then utf8 "Kerricel" else if sub = 3 then utf8 "KC9" else utf8 "VK-KC9-32")
  else if idx = 0x1100 then utf8 "KC9"
  else if idx = 0x3000 then d.plan
  else if 0x3010 ≤ idx ∧ idx ≤ 0x3023 then
    (if sub = 6 then slice ((d.blob idx 6).getD []) 0 32 else ((d.blob idx 7).getD []).take 512)
  else if idx = 0x6000 then
    if sub = 3 then Config.serial.take 256
    else if sub = 4 then (if f.lcState = 0 then [] else devidCert.take 2048)
    else if sub = 5 then (if f.uds then (Dev.aliasCert f d).take 2048 else [])
    else if sub = 6 then f.ownerDigest
    else slice (Config.freeBytes d.sec.nonceDraw) 0 64
  else if idx = 0x7000 then d.unitMap
  else if 0x9100 ≤ idx ∧ idx ≤ 0x913F then d.barWindow (idx - 0x9100) sub
  else if sub = 0x0C then logWindow d.events (d.obj 0xB000 0x0B)
  else logWindow d.wear (d.obj 0xB000 0x0D)

/-- The bytes of one element of a type. -/
def typeSize (t : Nat) : Nat :=
  if t = 1 ∨ t = 2 ∨ t = 6 then 1 else if t = 3 ∨ t = 7 then 2 else if t = 4 ∨ t = 8 ∨ t = 10 then 4 else if t = 5 ∨ t = 9 ∨ t = 11 then 8 else 0

/-- A number as an element of a type: a counter wider than its object stands at the object's largest value. -/
def valueBytes (t v : Nat) : List Byte := natLe (typeSize t) (min v (256 ^ typeSize t - 1))

/-- The value of an object as a READ returns it. -/
def Dev.objBytes (f : Fuses) (d : Dev) (r : ObjRow) (idx sub : Nat) : List Byte :=
  if r.typ = 12 ∨ r.typ = 13 then d.blobValue f idx sub
  else if r.typ = 14 then ((List.range r.elems).map fun e => valueBytes r.elem (d.value f idx sub e)).flatten
  else valueBytes r.typ (d.value f idx sub 0)

end Sys2Proof.Machine
end

