-- ==== Sys2Proof/Machine/Manifest.lean ====
section
/-! DEFINITION. The Manifest (R457 to R476): connections and roles, the order of checks, replies, and the requests READ, WRITE, DESCRIBE and
CLOSE of objects that have no behaviour of their own. -/

namespace Sys2Proof.Machine

/-! ### Reply codes (R469) -/

def rcOK : Nat := 0
def rcBusy : Nat := 1
def rcDenied : Nat := 2
def rcRange : Nat := 3
def rcConflict : Nat := 4
def rcReadOnly : Nat := 5
def rcNoObject : Nat := 6
def rcState : Nat := 7

/-- Which row of the table of operations a request belongs to. -/
inductive ManifestRow where
  | read | write | describe | close | rangeClear | accClear | cadenceSource | snapPeriod | ioTugUse | portUse | retainUse | berthPlan | evalSlot
  | classConfirm | powerCap | ringState | regionEnable | regionDisable | regionFrozen | ackClass | classClear | alertCause | roleProof | lcRequest
  | calendar | vendor | psRun | psSleep | psDeep | psOff | resetFunction | resetWarm | fwStage | discard | activate | raiseFloor
deriving DecidableEq, Repr

/-! ### Connections and roles (R460, R461, R464) -/

/-- Whether a transport carries requests: the I3C target answers with the harbour domain's power, KCL with its link up; neither before step 4
of a start (R495). With a failed SEC image the module still answers identity reads (R434). A message above 4,224 B is not assembled (R461). -/
def Dev.answers (d : Dev) (q : ManifestReq) : Bool :=
  if d.pwr.offKind = 9 then !q.kcl && q.op == 1 && q.index == 0x1000
  else (d.pwr.offKind == 0 || d.pwr.offKind == 2 || (d.pwr.offKind == 1 && decide (4 ≤ d.obj 0x2000 0x28))) && (!q.kcl || (d.host.linkUp && !d.host.retraining)) && decide (q.data.length ≤ 4211)

/-- The connection of a request. -/
def Dev.connOf (d : Dev) (kcl : Bool) (eid : Nat) : Option Conn := d.sec.conns.find? fun c => c.kcl == kcl && c.eid == eid

/-- Whether a ninth endpoint of a transport asks. -/
def Dev.noRoom (d : Dev) (kcl : Bool) (eid : Nat) : Bool :=
  (d.connOf kcl eid).isNone && decide (8 ≤ (d.sec.conns.filter fun c => c.kcl == kcl).length)

/-- The connection opened by its first request. -/
def Dev.openConn (d : Dev) (kcl : Bool) (eid : Nat) : Dev :=
  if (d.connOf kcl eid).isSome then d else { d with sec := { d.sec with conns := d.sec.conns ++ [{ kcl := kcl, eid := eid }] } }

/-- Whether a grant stands: until its end has come (R445). -/
def Dev.granted (d : Dev) (g : Option Nat) : Bool := match g with | some t => decide (d.time < t) | none => false

/-- The roles of a connection as a set: bit 0 Owner, 1 Operator, 2 Board, 3 Vendor. The Owner may write all that the other two may (R460). -/
def Dev.roles (f : Fuses) (d : Dev) (kcl : Bool) (eid : Nat) : Nat :=
  let base := if kcl then 2 else 4
  match d.connOf kcl eid with
  | none => base
  | some c =>
    (if d.granted c.owner then 7 else base) + (if d.granted c.vendor && (f.lcState == 0 || f.lcState == 1 || f.lcState == 3) then 8 else 0)

/-! ### Objects -/

/-- Whether an index is one of the vendor service range (R480). -/
def vendorIdx (idx : Nat) : Bool := decide (0xF000 ≤ idx) && decide (idx ≤ 0xF0FF)

/-- The highest sub-index in use at an index, none where the index does not exist (R457). -/
def topSub (idx : Nat) : Option Nat :=
  let rs := objRows.filter fun r => decide (r.base ≤ idx) && decide (idx < r.base + r.count)
  if rs = [] then none else some (rs.foldl (fun m r => max m r.sub) 0)

/-- The row of an object that exists now: the indices of an empty slot and of an invalid state set do not (R86, R338). -/
def Dev.objRow (d : Dev) (idx sub : Nat) : Option ObjRow :=
  let empty := match slotCluster idx with | some cl => decide (10 < d.evalSlot cl) | none => false
  let noSet := decide (0xA200 ≤ idx) && decide (idx ≤ 0xA5FF) && (d.sset ((idx - 0xA200) / 16) ((idx - 0xA200) % 16)).isNone
  if empty || noSet then none
  else if sub = 0 then (topSub idx).map fun _ => ⟨idx, 1, 0, 2, 0, 1, 0, 0, 0, 0, 255, [0]⟩
  else objFind idx sub

/-- The largest value of an object in bytes (R468). -/
def maxLength (r : ObjRow) (idx sub : Nat) : Nat :=
  if r.typ = 12 then 256
  else if r.typ = 14 then r.elems * typeSize r.elem
  else if r.typ = 13 then
    if idx = 0x3000 then 416 else if idx = 0x7000 then 3456
    else if idx = 0x6000 then (if sub = 8 then 336 else if sub = 9 then 136 else if sub ≤ 5 then 2048 else 64)
    else if 0x3010 ≤ idx ∧ idx ≤ 0x3023 then (if sub = 6 then 32 else 512)
    else if 0x9100 ≤ idx ∧ idx ≤ 0x913F ∧ sub ≠ 4 then 128 else 2048
  else typeSize r.typ

/-- Whether a write's LENGTH is wrong for the type of its object: STR and read-only BLOB objects take any length up to their largest. -/
def badLength (r : ObjRow) (q : ManifestReq) : Bool :=
  let n := maxLength r q.index q.sub
  if r.typ = 12 ∨ (r.typ = 13 ∧ r.access = 0) then decide (n < q.length) else q.length != n

/-- The values a write carries, element by element. -/
def elements (n : Nat) : Nat → List Byte → List Nat
  | 0, _ => []
  | k + 1, bs => leNat (bs.take n) :: elements n k (bs.drop n)

def reqValues (r : ObjRow) (data : List Byte) : List Nat :=
  if r.typ = 14 then elements (typeSize r.elem) r.elems data else [leNat data]

/-- Whether a value lies outside its type or its object's range (R458). -/
def outside (r : ObjRow) (v : Nat) : Bool :=
  let t := if r.typ = 14 then r.elem else r.typ
  if t = 1 then decide (1 < v) else if t = 10 then field v 30 23 == 255 else if t = 13 then false else decide (v < r.lo) || decide (r.hi < v)

/-! ### Serving cores (R472) -/

/-- The µs left of the 250 ms a restart may take (R341), at least 1. -/
def Dev.restartLeft (d : Dev) (k : Nat) : Nat := max 1 (ceilDiv ((d.fwCore k).since + 250000000 - d.time) 1000)

/-- Whether a start has not come to READY: reads of 0x1000, 0x2000 and 0x6000 are answered, and every other request with STATE (R495). -/
def Dev.starting (d : Dev) (q : ManifestReq) : Bool := d.obj 0x2000 0x28 != 8 && d.pwr.offKind != 9 && !(q.op == 1 && [0x1000, 0x2000, 0x6000].contains q.index)

/-- The µs till the reset of a transition under way, while which other writes are answered BUSY (R452). -/
def Dev.transiting (d : Dev) : Option Nat :=
  match d.pwr.due with | some (20, t) => some (max 1 (ceilDiv (t - d.time) 1000)) | _ => none

/-- The RETRY_AFTER of a request whose serving core cannot take it, none where it can. In SLEEP no firmware runs (R498). -/
def Dev.busyFor (d : Dev) (server : Nat) : Option Nat :=
  let dark := d.pwr.offKind = 2
  if server = 1 then (if d.restarting 0 then some (d.restartLeft 0) else if dark then some 250000 else none)
  else if server = 2 then (if d.restarting 1 then some (d.restartLeft 1) else if dark then some 250000 else none)
  else if server = 3 then (if d.restarting 2 then some (d.restartLeft 2) else if dark ∨ d.obj 0xD000 4 = 1 then some 200 else none)
  else if server = 4 then
    if [11, 12, 13, 14].all d.restarting then some ([11, 12, 13, 14].foldl (fun m k => min m (d.restartLeft k)) 250000) else if dark then some 250000 else none
  else none

/-! ### Checks (R469) -/

/-- The 8 bytes of a request's header as a number (R466). -/
def headerOf (q : ManifestReq) : Nat :=
  q.op % 2 ^ 8 + q.tag % 2 ^ 8 * 2 ^ 8 + q.reserved % 2 ^ 8 * 2 ^ 16 + q.index % 2 ^ 16 * 2 ^ 24 + q.sub % 2 ^ 8 * 2 ^ 40 + q.length % 2 ^ 16 * 2 ^ 48

/-- A request as its MCTP message spells it (R466): after the type byte, the enterprise number, the header's 8 bytes and the data. -/
def reqOfBytes (kcl : Bool) (eid : Nat) (bs : List Byte) : ManifestReq :=
  let h := leNat (slice bs 4 8)
  { kcl := kcl, eid := eid, ianaOk := beNat (bs.take 4) == Config.vendorIana, op := field h 7 0, tag := field h 15 8, reserved := field h 23 16,
    index := field h 39 24, sub := field h 47 40, length := field h 63 48, data := bs.drop 12 }

/-- Whether a header or the length of what follows it is wrong. -/
def badHeader (q : ManifestReq) : Bool :=
  q.reserved != 0 || q.op == 0 || decide (4 < q.op) || q.length != q.data.length || (q.op != 2 && q.length != 0)

/-- The context a per-context index belongs to (R59, R115, R235, R306, R337, R338). -/
def ctxOfIdx (idx : Nat) : Option Nat :=
  match [0x7100, 0x7300, 0x7400, 0x9100, 0xA100].find? fun b => decide (b ≤ idx) && decide (idx < b + 64) with
  | some b => some (idx - b)
  | none => if 0xA200 ≤ idx ∧ idx ≤ 0xA5FF then some ((idx - 0xA200) / 16) else none

/-- The per-context index of a context that is neither resident, saved nor parked (R59, R115, R235, R306, R337). The RWS objects of a
CREATED context are answered all the same: R349 and R459 count it as stopped for them (log 66). -/
def Dev.freeCtxIdx (d : Dev) (idx : Nat) (rws : Bool) : Bool :=
  match ctxOfIdx idx with
  | some c => !((d.ctx c).resident || (rws && (d.ctx c).state == 1))
  | none => false

/-- Whether an RWS object may be written now (R459; R204, R277 and R336 ask that no context be resident). -/
def Dev.rwsOpen (d : Dev) (idx : Nat) : Bool :=
  let ctxOk := fun (c : Nat) => [1, 3, 6].contains (d.ctx c).state
  if 0x7300 ≤ idx ∧ idx ≤ 0x733F then ctxOk (idx - 0x7300)
  else if 0xA100 ≤ idx ∧ idx ≤ 0xA13F then ctxOk (idx - 0xA100)
  else (if idx = 0x3000 ∨ idx = 0x8000 ∨ idx = 0xA000 then d.noneResident else d.inUse == 0) && (idx != 0x3000 || !(d.net.sessions.any fun p => p.2.ctx.isNone && p.2.state == 1))

/-- Whether the life-cycle state lets a request through: RETIRED answers identity and logbook reads only (R448). -/
def lcPasses (f : Fuses) (q : ManifestReq) : Bool :=
  f.lcState != 4 || (q.op == 2 && q.index == 0x6000 && q.sub == 9) || (q.op == 1 && (q.index == 0x1000 || q.index == 0xB000 || (decide (0xB100 ≤ q.index) && decide (q.index < 0xB120))))

/-- DENIED by an owning chapter: only the Owner sets or clears a seal, or disables a sealed region (R199). -/
def Dev.ownDenied (f : Fuses) (d : Dev) (q : ManifestReq) (v : Nat) : Bool :=
  let x := d.region (q.index - 0x8400)
  decide (0x8400 ≤ q.index) && decide (q.index ≤ 0x87FF) && !(bit (d.roles f q.kcl q.eid) 0) &&
    ((q.sub == 4 && field v 2 1 != field x.attr 2 1) || (q.sub == 5 && v == 0 && x.enabled && field x.attr 2 1 != 0))

/-- Whether a transition is permitted (R450). -/
def lcPair (from_ to_ : Nat) : Bool :=
  (from_ == 0 && to_ == 1) || (from_ == 1 && (to_ == 2 || to_ == 3 || to_ == 4)) || (from_ == 2 && decide (1 ≤ to_) && decide (to_ ≤ 4)) ||
    (from_ == 3 && (to_ == 1 || to_ == 4))

/-- Whether the roles of the writer may ask for a permitted transition: Owner in OWNED, any but Vendor for taking ownership, else Vendor. -/
def lcRole (from_ to_ roles : Nat) : Bool :=
  if from_ = 2 then bit roles 0 else if from_ = 1 ∧ to_ = 2 then !(bit roles 3) else bit roles 3

/-- DENIED of an LC_REQUEST: a permitted transition that the writer's role may not ask for (R450). -/
def Dev.lcDenied (f : Fuses) (d : Dev) (q : ManifestReq) : Bool :=
  q.index == 0x6000 && q.sub == 8 && lcPair f.lcState (leNat (q.data.take 1)) && !(lcRole f.lcState (leNat (q.data.take 1)) (d.roles f q.kcl q.eid))

/-- The checks of R469 that every object shares, in their order, up to the state rules of the owning chapters: the reply code, RETRY_AFTER and
the object. -/
def Dev.check (f : Fuses) (d : Dev) (q : ManifestReq) : Nat × Nat × ObjRow :=
  let none_ : ObjRow := ⟨q.index, 1, q.sub, 13, 0, 1, 1, 8, 1, 0, 0, []⟩
  let roles := d.roles f q.kcl q.eid
  if badHeader q then (rcRange, 0, none_)
  else if d.starting q then (rcState, 0, none_)
  else if vendorIdx q.index then
    if f.lcState = 2 ∨ f.lcState = 4 then (rcNoObject, 0, none_)
    else if q.op = 2 ∧ q.sub = 0 then (if q.length = 1 then rcReadOnly else rcRange, 0, none_)
    else if bit roles 3 = false then (rcDenied, 0, none_)
    else if q.op ≠ 2 then (rcOK, 0, none_)
    else match d.transiting <|> d.busyFor 1 with
      | some t => (rcBusy, t, none_)
      | none => (if d.safe ∨ d.entering.isSome then rcState else rcOK, 0, none_)
  else match d.objRow q.index q.sub with
    | none => (rcNoObject, 0, none_)
    | some r =>
      if q.op = 2 ∧ badLength r q then (rcRange, 0, r)
      else if (q.op = 1 ∧ r.access = 2) ∨ (q.op = 2 ∧ r.access = 0) then (rcReadOnly, 0, r)
      else if q.op = 2 ∧ (r.writers &&& roles = 0 ∨ Dev.ownDenied f d q (leNat q.data) ∨ Dev.lcDenied f d q) then (rcDenied, 0, r)
      else
        let busy := if q.op = 2 then d.transiting <|> d.busyFor r.server
                    else if q.op = 1 ∧ q.index = 0xC000 ∧ (q.sub = 6 ∨ q.sub = 7) then d.busyFor 4 else none
        match busy with
        | some t => (rcBusy, t, r)
        | none =>
          let shut := !(lcPasses f q) || (q.op == 2 && d.entering.isSome) || (q.op == 2 && d.safe && !(decide (0x4010 ≤ q.index) && decide (q.index ≤ 0x4013) && (q.sub == 8 || q.sub == 9))) ||
            (q.op != 3 && d.freeCtxIdx q.index (r.access == 3)) || (q.op == 2 && r.access == 3 && !(d.rwsOpen q.index))
          (if shut then rcState else rcOK, 0, r)

/-! ### Replies (R467) -/

/-- What a request leads to: the reply code, the holder named with CONFLICT, the device after it, and the data of the reply. -/
structure Answer where
  code : Nat
  holder : Nat := 0
  dev : Dev
  data : List Byte := []
deriving DecidableEq, Repr

/-- A reply sent: OP, TAG, INDEX and SUB as in the request. -/
def Dev.sendReply (d : Dev) (q : ManifestReq) (code holder retry : Nat) (data : List Byte) : Dev :=
  d.send (.manifest q.kcl q.eid (headerOf q % 2 ^ 16 + code * 2 ^ 16 + headerOf q / 2 ^ 24 % 2 ^ 24 * 2 ^ 24 + data.length * 2 ^ 48 + retry * 2 ^ 64 + holder * 2 ^ 96) data)

/-- An answer sent, with its code; none is sent yet for one that comes later. -/
def Answer.given (a : Answer) (q : ManifestReq) : Dev × Nat :=
  if a.code = 256 then (a.dev, 256) else (a.dev.sendReply q a.code (if a.code = rcConflict then a.holder else 0) 0 a.data, a.code)

/-- The request of a command. -/
def reqOf : Instr → Option ManifestReq
  | .fwStage q _ | .discardStaged q | .fwActivate q | .raiseFloor q | .manifestRead q | .manifestWrite q | .manifestDescribe q | .manifestClose q => some q
  | .rangeClear q | .accClear q | .cadenceSource q | .snapPeriod q | .ioTugUse q | .portUse q | .retainUse q | .berthPlan q | .evalSlot q => some q
  | .classConfirm q | .powerCap q | .ringState q | .regionEnable q | .regionDisable q | .regionFrozen q | .ackClass q | .classClear q | .alertCause q => some q
  | .roleProof q _ | .lcRequest q _ | .calendar q | .vendorServiceWrite q | .pstateRequestRun q | .pstateRequestSleep q | .pstateRequestDeep q => some q
  | .pstateRequestOff q | .resetRequestFunction q | .resetRequestWarm q => some q
  | _ => none

/-- Whether an earlier request of the same connection still waits for its reply: requests of a connection are handled in order (R471). -/
def Dev.behindSlow (d : Dev) (q : ManifestReq) : Bool :=
  d.sec.slow.any fun i => match reqOf i with | some p => p.kcl == q.kcl && p.eid == q.eid | none => false

/-- A command that waits behind one of its connection. -/
def Dev.slowly (d : Dev) (i : Instr) : Dev := { d with sec := { d.sec with slow := d.sec.slow ++ [i] } }

/-- A command that carries a Manifest request. -/
def onReq (i : Instr) (q : ManifestReq) (f : Fuses → Dev → Dev) (s : State) : Host.Outcome State Fault Refusal :=
  onDevF (wellFormed i) (fun fu d => if d.behindSlow q then d.slowly i else f fu d) s

/-- A request handled: dropped where nothing answers it, refused by the common checks, or given to `run`. Answers the device and the reply
code, 256 where there is no reply. -/
def Dev.manifest (f : Fuses) (d : Dev) (q : ManifestReq) (run : ObjRow → Dev → Answer) : Dev × Nat :=
  if q.ianaOk = false ∨ d.answers q = false then (d, 256)
  else if d.noRoom q.kcl q.eid then (d.sendReply q rcBusy 0 1000000 [], rcBusy)
  else
    let d := d.openConn q.kcl q.eid
    let c := d.check f q
    if c.1 ≠ rcOK then (d.sendReply q c.1 0 c.2.1 [], c.1)
    else
      (run c.2.2 d).given q

/-- A refusal with no effect. -/
def Dev.no (d : Dev) (code : Nat) (holder : Nat := 0) : Answer := { code := code, holder := holder, dev := d }

/-- A request granted. -/
def Dev.yes (d : Dev) : Answer := { code := rcOK, dev := d }

/-- A request granted later: its command waits, and is handled again when what it waits for has come (R200, R470). -/
def Dev.later (d : Dev) (i : Instr) : Answer := { code := 256, dev := d.slowly i }

/-! ### Which row a request is -/

/-- The row of a write of an object that has behaviour of its own. -/
def Dev.writeRow (d : Dev) (q : ManifestReq) : ManifestRow :=
  let i := q.index
  let v := leNat q.data
  let one := q.data.length = 1
  if 0x7300 ≤ i ∧ i ≤ 0x733F ∧ q.sub = 7 then .rangeClear
  else if 0x7400 ≤ i ∧ i ≤ 0x743F ∧ q.sub = 7 then .accClear
  else if i = 0xD300 ∧ q.sub = 1 then .cadenceSource
  else if i = 0xA000 ∧ q.sub = 8 then .snapPeriod
  else if 0x8210 ≤ i ∧ i ≤ 0x8217 ∧ q.sub = 1 then .ioTugUse
  else if 0x3010 ≤ i ∧ i ≤ 0x3023 ∧ q.sub = 3 then .portUse
  else if 0x8320 ≤ i ∧ i ≤ 0x8327 ∧ q.sub = 1 then .retainUse
  else if i = 0x3000 ∧ q.sub = 1 then .berthPlan
  else if 0xA600 ≤ i ∧ i ≤ 0xA607 ∧ q.sub = 1 then .evalSlot
  else if i = 0x2000 ∧ q.sub = 2 then .classConfirm
  else if i = 0x2000 ∧ q.sub = 5 then .powerCap
  else if 0xD100 ≤ i ∧ i ≤ 0xD13F ∧ q.sub = 7 then .ringState
  else if 0x8400 ≤ i ∧ i ≤ 0x87FF ∧ q.sub = 5 ∧ one ∧ v = 1 then .regionEnable
  else if 0x8400 ≤ i ∧ i ≤ 0x87FF ∧ q.sub = 5 ∧ one ∧ v = 0 then .regionDisable
  else if 0x8400 ≤ i ∧ i ≤ 0x87FF ∧ q.sub = 4 ∧ one ∧ attrFrozen v ∧ (d.region (i - 0x8400)).enabled then .regionFrozen
  else if 0x4010 ≤ i ∧ i ≤ 0x4013 ∧ q.sub = 8 then .ackClass
  else if 0x4010 ≤ i ∧ i ≤ 0x4013 ∧ q.sub = 9 then .classClear
  else if i = 0x6000 ∧ q.sub = 9 then .roleProof
  else if i = 0x6000 ∧ q.sub = 8 then .lcRequest
  else if i = 0x6000 ∧ q.sub = 0x0D then .raiseFloor
  else if i = 0xB000 ∧ q.sub = 5 then .calendar
  else if vendorIdx i then .vendor
  else if i = 0x2000 ∧ q.sub = 0x21 ∧ one ∧ v = 0 then .psRun
  else if i = 0x2000 ∧ q.sub = 0x21 ∧ one ∧ v = 2 then .psSleep
  else if i = 0x2000 ∧ q.sub = 0x21 ∧ one ∧ v = 3 then .psDeep
  else if i = 0x2000 ∧ q.sub = 0x21 ∧ one ∧ v = 4 then .psOff
  else if i = 0x2000 ∧ q.sub = 0x26 ∧ one ∧ v = 1 then .resetFunction
  else if i = 0x2000 ∧ q.sub = 0x26 ∧ one ∧ v = 2 then .resetWarm
  else if i = 0x5000 ∧ q.sub = 4 ∧ one ∧ v = 1 then .fwStage
  else if i = 0x5000 ∧ q.sub = 4 ∧ one ∧ v = 2 then .discard
  else if i = 0x5000 ∧ q.sub = 6 then .activate
  else .write

/-- The row of a request: unknown operations go with READ. -/
def Dev.rowOf (d : Dev) (q : ManifestReq) : ManifestRow :=
  if q.op = 2 then d.writeRow q
  else if q.op = 3 then .describe
  else if q.op = 4 then .close
  else if q.op = 1 ∧ q.index = 0x4000 ∧ q.sub = 6 ∧ q.kcl = false then .alertCause
  else .read

/-- A request of a row: what belongs to another row is none of this one's. -/
def Dev.onRow (f : Fuses) (d : Dev) (q : ManifestReq) (row : ManifestRow) (run : ObjRow → Dev → Answer) : Dev × Nat :=
  if d.rowOf q = row then d.manifest f q run else (d, 256)

/-- A row whose whole effect is its answer, with what it changes of the module's make-up. -/
def Dev.rowDone (f : Fuses) (d : Dev) (q : ManifestReq) (row : ManifestRow) (run : ObjRow → Dev → Answer) : Dev := (Dev.onRow f d q row run).1.audit d

/-! ### READ (R470) -/

/-- The bytes of a readable object. Vendor service objects return free bytes (R481). -/
def Dev.readObj (f : Fuses) (d : Dev) (q : ManifestReq) (r : ObjRow) : Answer :=
  if q.sub = 0 then { code := rcOK, dev := d, data := natLe 1 (if vendorIdx q.index then Config.vendorTop q.index else (topSub q.index).getD 0) }
  else if vendorIdx q.index then { code := rcOK, dev := d.draw.2, data := d.draw.1.take 4096 }
  else { code := rcOK, dev := d, data := d.objBytes f r q.index q.sub }

/-- MANIFEST_READ (R470). -/
def execManifestRead (q : ManifestReq) (s : State) : Host.Outcome State Fault Refusal :=
  onReq (.manifestRead q) q (fun f d => (Dev.onRow f d q .read fun r d => d.readObj f q r).1) s

/-- ALERT_CAUSE (R405, R428): a read by the Board releases ALERT_N. -/
def execAlertCause (q : ManifestReq) (s : State) : Host.Outcome State Fault Refusal :=
  onReq (.alertCause q) q (fun f d =>
    (Dev.onRow f d q .alertCause fun r d => { d.readObj f q r with dev := { d with pwr := { d.pwr with alertLow := false } } }).1) s

/-! ### DESCRIBE (R468) -/

/-- The record of an object. -/
def describeRecord (r : ObjRow) (idx sub : Nat) : Nat :=
  r.typ + r.elem * 2 ^ 8 + r.access * 2 ^ 12 + r.elems * 2 ^ 16 + (if r.access = 0 then 0 else r.server) * 2 ^ 32 + r.writers * 2 ^ 40 + maxLength r idx sub * 2 ^ 48

/-- The record of a vendor service object: its type, access and size are free (R481); SEC serves its writes, and the Vendor role alone makes them (R460, R472). -/
def vendorRecord (w : Nat) : Nat :=
  let typ := 1 + field w 7 0 % 14
  typ + (if typ = 14 then 1 + field w 11 8 % 11 else 0) * 2 ^ 8 + field w 13 12 * 2 ^ 12 + (if typ = 14 then field w 31 16 else 1) * 2 ^ 16 +
    (if field w 13 12 = 0 then 0 else 2 ^ 32 + 8 * 2 ^ 40) + field w 63 48 * 2 ^ 48

/-- DESCRIBE. -/
def Dev.describeObj (d : Dev) (q : ManifestReq) (r : ObjRow) : Answer :=
  if vendorIdx q.index ∧ q.sub ≠ 0 then { code := rcOK, dev := d.draw.2, data := natLe 8 (vendorRecord (leNat (slice d.draw.1 0 8))) }
  else if vendorIdx q.index then { code := rcOK, dev := d, data := natLe 8 (2 + 2 ^ 16 + 2 ^ 48) }
  else { code := rcOK, dev := d, data := natLe 8 (describeRecord r q.index q.sub) }

/-- DESCRIBE (R468). -/
def execManifestDescribe (q : ManifestReq) (s : State) : Host.Outcome State Fault Refusal :=
  onReq (.manifestDescribe q) q (fun f d => (Dev.onRow f d q .describe fun r d => d.describeObj q r).1) s

/-! ### CLOSE (R464) -/

/-- A connection ends, and its grants with it. -/
def Dev.closeConn (f : Fuses) (d : Dev) (q : ManifestReq) : Dev :=
  let code := if badHeader q then rcRange else if lcPasses f q && !(d.starting q) then rcOK else rcState
  if q.op ≠ 4 ∨ q.ianaOk = false ∨ d.answers q = false then d
  else if d.noRoom q.kcl q.eid then d.sendReply q rcBusy 0 1000000 []
  else
    let d := if code = rcOK then { d with sec := { d.sec with conns := d.sec.conns.filter fun c => !(c.kcl == q.kcl && c.eid == q.eid) } } else d.openConn q.kcl q.eid
    d.sendReply q code 0 0 []

/-- CLOSE (R464). It names no object. -/
def execManifestClose (q : ManifestReq) (s : State) : Host.Outcome State Fault Refusal :=
  onReq (.manifestClose q) q (fun f d => Dev.closeConn f d q) s

/-! ### WRITE of an object without behaviour of its own -/

/-- Whether a loss scale's bound is a power of two from 2^-24 to 2^64, and MIN ≤ INIT ≤ MAX holds with it (R321). -/
def Dev.scaleOk (d : Dev) (idx sub v : Nat) : Bool :=
  v % 2 ^ 23 == 0 && decide (103 * 2 ^ 23 ≤ v) && decide (v ≤ 191 * 2 ^ 23) &&
    (if sub = 0x0B then decide (d.obj idx 0x0C ≤ v) && decide (v ≤ d.obj idx 0x0D) else if sub = 0x0C then decide (v ≤ d.obj idx 0x0B) else decide (d.obj idx 0x0B ≤ v))

/-- Whether a ring at a base may stand there: in an enabled region of the device that is not FROZEN (R346). -/
def Dev.ringFits (d : Dev) (base n : Nat) : Bool := base % 4096 == 0 && d.inRegion base (max n 1) fun r => r.owner == 0xFF && !(attrFrozen r.attr)
def depthOk (n : Nat) : Bool := (List.range 13).any fun i => n == 16 * 2 ^ i

/-- The objects of a ring: sub 1 and 2 its submission side, 3 and 4 its completion side; whether a value may be written. -/
def Dev.ringValueOk (d : Dev) (idx sub v : Nat) : Bool :=
  let size := if sub ≤ 2 then 64 else 32
  if sub % 2 = 1 then d.ringFits v (size * d.obj idx (sub + 1)) else depthOk v && (d.obj idx (sub - 1) == 0 || d.ringFits (d.obj idx (sub - 1)) (size * v))

/-- Whether the queue of services stands still: empty, with no request running (R377). -/
def Dev.svcStill (d : Dev) : Bool := d.svcHead == d.host.svcTail && !(d.cmp.snaps.any fun s => s.svc.isSome)

/-- STATE by an owning chapter (R172, R199, R326, R346, R377). -/
def Dev.ownState (d : Dev) (idx sub : Nat) : Bool :=
  if idx = 0xD300 then d.obj 0xD300 1 != 0
  else if idx = 0xA000 ∧ 9 ≤ sub then d.obj 0xA000 8 != 0
  else if 0xD100 ≤ idx ∧ idx ≤ 0xD13F then (d.ctx (idx - 0xD100)).state != 0 || d.ringState (idx - 0xD100) != 0
  else if idx = 0xC000 then !(d.svcStill)
  else if 0x8400 ≤ idx ∧ idx ≤ 0x87FF then (d.region (idx - 0x8400)).enabled && sub != 5
  else false

/-- Whether a record number is held. -/
def held (rs : List LogRec) (n : Nat) : Bool := rs.any fun r => r.seq == n

/-- OUT_OF_RANGE by an owning chapter. -/
def Dev.ownRange (d : Dev) (idx sub v : Nat) : Bool :=
  if idx = 0x8000 ∧ sub = 2 then v % 2 ^ 34 != 0 || decide (2 ^ 39 < v)
  else if idx = 0x3000 then
    if sub = 7 then !([1024, 2048, 4096].contains v)
    else if sub = 9 then v == 0 || (decide (4094 < v) && v != 0xFFFF)
    else if sub = 0x0A then decide (v < 14) || (decide (19 < v) && v != 0xFF)
    else false
  else if idx = 0xA000 then
    if sub = 1 then v != 0xFFFF && v / 8 != d.basinNumber else if sub = 9 then decide (63 < v) && v != 0xFF else false
  else if 0xA100 ≤ idx ∧ idx ≤ 0xA13F then decide (0x0B ≤ sub) && decide (sub ≤ 0x0D) && !(d.scaleOk idx sub v)
  else if (0xD100 ≤ idx ∧ idx ≤ 0xD13F) ∨ idx = 0xC000 then !(d.ringValueOk idx sub v)
  else if 0x8400 ≤ idx ∧ idx ≤ 0x87FF then
    if sub = 3 then decide (63 < v) && v != 0xFF else if sub = 4 then field v 7 4 != 0 else false
  else if idx = 0xB000 then (if sub = 0x0B then !(held d.events v) else !(held d.wear v))
  else if idx = 0x2000 ∧ sub = 0x21 then true
  else false

/-- A region with one of its fields written. FROZEN is cleared by ENABLE FALSE alone (R197). -/
def Region.put (x : Region) (sub v : Nat) : Region :=
  if sub = 1 then { x with base := v } else if sub = 2 then { x with size := v } else if sub = 3 then { x with owner := v }
  else { x with attr := if attrFrozen x.attr ∧ attrFrozen v = false then v + 8 else v }

/-- What a write does: the value stored, and what hangs on it. -/
def Dev.put (f : Fuses) (d : Dev) (idx sub : Nat) (vs : List Nat) : Dev :=
  let v := vs.headD 0
  let plain := (vs.zipIdx).foldl (fun d (p : Nat × Nat) => d.setObjAt (d.homeIdx idx) sub p.2 p.1) d
  if 0x8400 ≤ idx ∧ idx ≤ 0x87FF then { d with regions := tblSet d.regions (idx - 0x8400) ((d.region (idx - 0x8400)).put sub v) }
  else if idx = 0xC000 then
    { plain with host := { plain.host with svcOver := false, svcTail := 0, svcCqHead := 0, svcCqTail := 0 } }.setObj 0xC000 5 0
  else if idx = 0xA000 ∧ sub ≤ 2 then Dev.netAudit f (plain.setObj 0xA000 3 0) d
  else if idx = 0x3000 ∧ (sub = 0x0A ∨ sub = 0x0B) then { plain with net := { plain.net with ptpMaster := none, ptpSync := none, ptpTimes := none, ptpAsk := none } }
  else if idx = 0x2000 ∧ (sub = 0x0E ∨ sub = 0x0F) ∧ d.pwr.throttleLow then plain.impose
  else plain

/-- WRITE of such an object. -/
def Dev.writeObj (f : Fuses) (d : Dev) (q : ManifestReq) (r : ObjRow) : Answer :=
  let vs := reqValues r q.data
  let v := vs.headD 0
  if d.ownDenied f q v then d.no rcDenied
  else if d.ownState q.index q.sub then d.no rcState
  else if vs.any (outside r) ∨ d.ownRange q.index q.sub v then d.no rcRange
  else ((d.put f q.index q.sub vs).tellStandby q.index).yes

/-- MANIFEST_WRITE (R469). -/
def execManifestWrite (q : ManifestReq) (s : State) : Host.Outcome State Fault Refusal :=
  onReq (.manifestWrite q) q (fun f d => Dev.rowDone f d q .write fun r d => d.writeObj f q r) s

end Sys2Proof.Machine
end

