-- ==== Sys2Proof/Machine/Special.lean ====
section
/-! DEFINITION. Manifest writes with behaviour of their own: counters cleared, the cadence and snapshot timers, shared resources (R474 to R476), the
berth plan, evaluation slots, class and cap, rings, regions, fault classes, the calendar, firmware, and the roles (R445 to R447). -/

namespace Sys2Proof.Machine

/-- The value a scalar write carries. -/
def reqValue (q : ManifestReq) : Nat := leNat q.data

/-! ### Counters (R57, R115) -/

/-- The sub-indices 1 to 6 of a context's counters back to 0. -/
def Dev.clearSix (d : Dev) (idx : Nat) : Dev := [1, 2, 3, 4, 5, 6].foldl (fun d i => d.setObj idx i 0) d

/-- RANGE_CLEAR (R57). -/
def execRangeClear (q : ManifestReq) (s : State) : Host.Outcome State Fault Refusal :=
  onReq (.rangeClear q) q (fun f d => Dev.rowDone f d q .rangeClear fun r d =>
    if outside r (reqValue q) then d.no rcRange else (d.clearSix q.index).yes) s

/-- ACC_CLEAR (R115). -/
def execAccClear (q : ManifestReq) (s : State) : Host.Outcome State Fault Refusal :=
  onReq (.accClear q) q (fun f d => Dev.rowDone f d q .accClear fun r d =>
    if outside r (reqValue q) then d.no rcRange else (d.clearSix q.index).yes) s

/-! ### The cadence timer and SYNC_IO (R170, R326) -/

/-- The first tick of the cadence timer after now: START + k × PERIOD, or one period on where START is 0. -/
def firstTick (time start period : Nat) : Nat :=
  if start = 0 then time + period else if time < start then start else start + ((time - start) / period + 1) * period

/-- CADENCE_SOURCE written with another value: what it selects is taken, and 0 alone releases whatever was held (R170, R474). -/
def Dev.setCadence (d : Dev) (v : Nat) : Dev :=
  let timer : Option Nat := if v = 1 then some (firstTick d.time (d.obj 0xD300 3) (d.obj 0xD300 2)) else if v = 0 ∧ d.cadenceHolds 1 then none else d.cmp.timer
  { d with cmp := { d.cmp with timer := timer, cadence := if v = 0 then 0 else d.cmp.cadence ||| v ||| d.obj 0xD300 1 } }.setObj 0xD300 1 v

def Dev.writeCadence (d : Dev) (r : ObjRow) (v : Nat) : Answer :=
  if outside r v then d.no rcRange
  else if v = d.obj 0xD300 1 then d.yes
  else if v = 1 ∧ d.obj 0xA000 8 ≠ 0 then d.no rcConflict (holderFeature 0xA000 8)
  else match (if v = 2 ∧ d.cadenceHolds 2 = false then d.syncHolder else none) with
    | some h => d.no rcConflict h
    | none => (d.setCadence v).yes

/-- CADENCE_SOURCE (R170, R476). -/
def execCadenceSource (q : ManifestReq) (s : State) : Host.Outcome State Fault Refusal :=
  onReq (.cadenceSource q) q (fun f d => Dev.rowDone f d q .cadenceSource fun r d => d.writeCadence r (reqValue q)) s

/-- SNAP_PERIOD written with another value: the timer starts from this write, or is released. -/
def Dev.setSnapPeriod (d : Dev) (v : Nat) : Dev :=
  { d with cmp := { d.cmp with timer := if v = 0 then none else some (d.time + v) } }.setObj 0xA000 8 v

def Dev.writeSnapPeriod (d : Dev) (v : Nat) : Answer :=
  if v ≠ 0 ∧ (v < 1000000 ∨ 100000000000 < v) then d.no rcRange
  else if v = d.obj 0xA000 8 then d.yes
  else if v ≠ 0 ∧ d.cadenceHolds 1 then d.no rcConflict (holderFeature 0xD300 1)
  else (d.setSnapPeriod v).yes

/-- SNAP_PERIOD (R326). -/
def execSnapPeriod (q : ManifestReq) (s : State) : Host.Outcome State Fault Refusal :=
  onReq (.snapPeriod q) q (fun f d => Dev.rowDone f d q .snapPeriod fun _ d => d.writeSnapPeriod (reqValue q)) s

/-! ### Tugs, ports and retention parts (R135, R177, R270) -/

/-- Whether work is under way that an I/O tug of a USE carries: services, snapshots, transport. Which tug carries it is not fixed. -/
def Dev.ioWork (d : Dev) (use : Nat) : Bool :=
  if use = 1 then d.cmp.snaps.any fun s => s.svc.isSome
  else if use = 2 then d.cmp.snaps != []
  else if use = 3 then d.cmp.snaps != [] || d.net.sessions.any fun p => p.2.tx.any fun t => t.2.kept != []
  else false

/-- Whether an I/O tug is busy: free among those that may carry the work under way. -/
def Dev.ioBusy (d : Dev) (use : Nat) : Bool × Dev :=
  if d.ioWork use then (Config.freeCount d.fresh % 2 == 1, { d with fresh := d.fresh + 1 }) else (false, d)

def Dev.writeIoUse (d : Dev) (r : ObjRow) (idx v : Nat) : Answer :=
  let cur := d.obj idx 1
  let b := d.ioBusy cur
  let last := cur = 3 ∧ ((List.range 8).filter fun t => d.obj (0x8210 + t) 1 == 3).length = 1
  if v ≠ cur ∧ (b.1 ∨ last) then b.2.no rcState
  else if outside r v then d.no rcRange
  else if v = cur then d.yes
  else if cur ≠ 0 ∧ v ≠ 0 then d.no rcConflict (holderFeature idx 1)
  else (b.2.setObj idx 1 v).yes

/-- USE of an I/O tug (R135). -/
def execIoTugUse (q : ManifestReq) (s : State) : Host.Outcome State Fault Refusal :=
  onReq (.ioTugUse q) q (fun f d => Dev.rowDone f d q .ioTugUse fun r d => d.writeIoUse r q.index (reqValue q)) s

def Dev.writePortUse (f : Fuses) (d : Dev) (r : ObjRow) (idx v : Nat) : Answer :=
  let cur := d.obj idx 3
  if outside r v then d.no rcRange
  else if v = cur then d.yes
  else if cur ≠ 0 ∧ v ≠ 0 then d.no rcConflict (holderFeature idx 3)
  else (Dev.netAudit f (d.setObj idx 3 v) d).yes

/-- USE of a port (R270). -/
def execPortUse (q : ManifestReq) (s : State) : Host.Outcome State Fault Refusal :=
  onReq (.portUse q) q (fun f d => (Dev.onRow f d q .portUse fun r d => Dev.writePortUse f d r q.index (reqValue q)).1) s

/-- Whether a resident context has a conveyor ring in the retention part of a cluster's quay (R169, R177). -/
def Dev.ringIn (d : Dev) (cl : Nat) : Bool := d.cmp.convs.any fun p => (d.ctx (p.1 / 4096)).live && p.2.quay && epMid p.2.cons == d.midOf (p.1 / 4096) && (epCore p.2.cons).cl == cl

def Dev.writeRetain (d : Dev) (r : ObjRow) (cl v : Nat) : Answer :=
  let idx := 0x8320 + cl
  let cur := d.obj idx 1
  if v = 0 ∧ d.ringIn cl then d.no rcState
  else if outside r v then d.no rcRange
  else if v = cur then d.yes
  else if cur ≠ 0 ∧ v ≠ 0 then d.no rcConflict (holderFeature idx 1)
  else (d.setObj idx 1 v).yes

/-- RETAIN_USE (R177). -/
def execRetainUse (q : ManifestReq) (s : State) : Host.Outcome State Fault Refusal :=
  onReq (.retainUse q) q (fun f d => Dev.rowDone f d q .retainUse fun r d => d.writeRetain r (q.index - 0x8320) (reqValue q)) s

/-! ### The berth plan (R266 to R269) -/

/-- Whether a MID or a port of an entry is in its range, 0xFF meaning none. -/
def midFine (m : Nat) : Bool := decide (m ≤ 7) || m == 0xFF
def portFine (p : Nat) : Bool := decide (p ≤ 19) || p == 0xFF

/-- Whether a half of a basin port names the peer it expects: a whole port a MID and a port, a roadstead half of a split port neither (R267). -/
def peerNamed (e half : Nat) : Bool := (decide (entryMid e half ≤ 7) && decide (entryPort e half ≤ 19)) || (entrySplit e && entryMid e half == 0xFF)

/-- Whether a port entry holds only what R267 and R269 allow. -/
def entryFine (e : Nat) : Bool :=
  field e 127 48 == 0 && field e 15 9 == 0 && decide (entryRole e ≤ 2) && midFine (entryMid e 0) && midFine (entryMid e 1) && portFine (entryPort e 0) && portFine (entryPort e 1) &&
    (entryRole e != 1 || (peerNamed e 0 && (!(entrySplit e) || peerNamed e 1)))

/-- What a basin port claims of its peers: MID, port, and the halves of it. -/
def entryClaims (e : Nat) : List (Nat × Nat × Nat) :=
  if entryRole e ≠ 1 then []
  else ((if entrySplit e then [(entryMid e 0, entryPort e 0, 1), (entryMid e 1, entryPort e 1, 2)] else [(entryMid e 0, entryPort e 0, 3)]) : List (Nat × Nat × Nat)).filter
    fun c => c.1 != 0xFF && c.2.1 != 0xFF
def claimsMeet (a b : Nat × Nat × Nat) : Bool := a.1 == b.1 && a.2.1 == b.2.1 && (a.2.2 &&& b.2.2) != 0

/-- Whether a path byte of the route entry for MID `n` is allowed on module `m`. -/
def routeFine (plan : List Byte) (m n b : Nat) : Bool :=
  if b / 64 = 0 then b == 0
  else if b / 64 = 1 then decide (b % 64 < 20) && entryRole (planEntry plan (b % 32)) == 1
  else if b / 64 = 2 then decide (b % 64 < 8) && b % 8 != m && b % 8 != n
  else false

/-- Whether a plan holds only what R266, R267 and R269 allow. -/
def planFine (plan : List Byte) (m : Nat) : Bool :=
  field (leNat (slice plan 0 32)) 255 128 == 0 && field (leNat (slice plan 0 32)) 95 81 == 0 && field (leNat (slice plan 0 32)) 79 75 == 0 &&
    ((List.range 20).all fun p => entryFine (planEntry plan p)) &&
    ((List.range 8).all fun n => (List.range 8).all fun i => routeFine plan m n (planRoute plan n i)) &&
    pairwiseFree claimsMeet ((List.range 20).map fun p => entryClaims (planEntry plan p)).flatten

/-- Whether a port that is PLANNED carries an open context session: some path to the session's peer leaves by it, be a loss under observation there or
a planned retrain under way. -/
def Dev.carriesSession (d : Dev) (port : Nat) : Bool :=
  d.net.sessions.any fun p => p.2.ctx.isSome && p.2.state == 1 && (List.range 8).any fun i => match d.steady.pathUnit p.2.peer i (d.portUse port) with | some u => u / 2 == port | none => false

/-- The ports whose entry a plan changes. -/
def Dev.planChanges (d : Dev) (plan : List Byte) : List Nat := (List.range 20).filter fun p => planEntry d.plan p != planEntry plan p

/-- A port whose entry changed is discovered again, and what waits there is lost; a BLANK module's stays DISABLED (R448). -/
def Dev.rediscover (f : Fuses) (d : Dev) (p : Nat) : Dev :=
  let e := planEntry d.plan p
  let st := fun (h : Nat) => if f.lcState = 0 ∨ entryRole e = 0 ∨ (h = 1 ∧ entrySplit e = false) then 0 else 1
  ((((d.dropQueue (2 * p)).dropQueue (2 * p + 1)).setHalf p 0 { state := st 0, since := d.time }).setHalf p 1 { state := st 1, since := d.time }).setHalves p 0

/-- A new plan: the plans that neighbours told of are compared with it (R272), and where it accepts them, FOREIGN neighbours that sent a HELLO are
ADMITTED (R273). -/
def Dev.setPlan (d : Dev) (plan : List Byte) : Dev :=
  let d := d.setBlob 0x3000 1 plan
  { d with net := { d.net with halves := d.net.halves.map fun (p : Nat × PortHalf) =>
    (p.1, { p.2 with state := if p.2.state = 6 ∧ p.2.helloSeen ∧ planAccept plan then 7 else p.2.state, hashSame := match p.2.peerHash with | some h => d.planAgrees h | none => p.2.hashSame }) } }

def Dev.writePlan (f : Fuses) (d : Dev) (plan : List Byte) : Answer :=
  let moved := d.planChanges plan
  let basin := planBasinId d.plan ≠ planBasinId plan ∨ planBasin d.plan ≠ planBasin plan
  if (basin ∧ d.noneResident = false) ∨ moved.any (fun p => d.portUse p != 0 || d.carriesSession p) then d.no rcState
  else if planFine plan d.mid = false then d.no rcRange
  else (Dev.netAudit f (moved.foldl (Dev.rediscover f) (d.setPlan plan)) d).yes

/-- BERTH_PLAN (R269). -/
def execBerthPlan (q : ManifestReq) (s : State) : Host.Outcome State Fault Refusal :=
  onReq (.berthPlan q) q (fun f d => (Dev.onRow f d q .berthPlan fun _ d => Dev.writePlan f d q.data).1) s

/-! ### Evaluation slots (R327, R339) -/

/-- An evaluation context resident on the slot of a cluster. -/
def Dev.slotBusy (d : Dev) (cl : Nat) : Bool :=
  decide (d.evalSlot cl ≤ 10) && d.ctxs.any fun p => p.2.state != 0 && p.2.state != 1 && p.2.evaluation && p.2.cores.contains (11 * cl + 10)

/-- A resident context, not an evaluation context, that uses a core. -/
def Dev.coreUser (d : Dev) (cl k : Nat) : Option Nat :=
  (d.ctxs.find? fun p => decide (2 ≤ p.2.state) && !p.2.evaluation && p.2.cores.contains (11 * cl + k)).map Prod.fst

/-- A spare lent to a slot: its counters start from zero (R86). -/
def Dev.lend (d : Dev) (cl p : Nat) : Dev :=
  ((([0x1250, 0x1350, 0x1450].foldl (fun d i => d.clearIdx (i + cl)) d).setObj (0xA600 + cl) 1 10).setObj (0xA600 + cl) 2 p).showHold ⟨cl, 10⟩ p

/-- A slot's window closed: a borrowed spare keeps its hold. -/
def Dev.leaveSlot (d : Dev) (cl : Nat) : Dev := if d.evalSlot cl = 10 then d.stowHold ⟨cl, 10⟩ (d.obj (0xA600 + cl) 2) else d

/-- A write of EVAL_SLOT. A slot that is filled is released by 0xFF alone (R474, R476): another core is refused with CONFLICT till then (log 73). -/
def Dev.writeSlot (d : Dev) (cl v : Nat) : Answer :=
  let cur := d.evalSlot cl
  if v = cur ∧ v ≠ 0xFE then d.yes
  else if d.slotBusy cl then d.no rcState
  else if v ≤ 10 ∧ cur ≤ 10 then d.no rcConflict (d.slotHolder cl)
  else if v = 10 then (match d.freeSpare cl with | some p => (d.lend cl p).yes | none => d.no rcState)
  else if v = 0xFF then ((d.leaveSlot cl |>.setObj (0xA600 + cl) 1 0xFF).setObj (0xA600 + cl) 2 0xFF).yes
  else if 10 < v then d.no rcRange
  else match d.coreUser cl v with
    | some c => d.no rcConflict (holderCtx c)
    | none => ((d.leaveSlot cl |>.setObj (0xA600 + cl) 1 v).setObj (0xA600 + cl) 2 0xFF).yes

/-- EVAL_SLOT (R327). -/
def execEvalSlot (q : ManifestReq) (s : State) : Host.Outcome State Fault Refusal :=
  onReq (.evalSlot q) q (fun f d => Dev.rowDone f d q .evalSlot fun _ d => d.writeSlot (q.index - 0xA600) (reqValue q)) s

/-! ### Class and cap (R378, R379) -/

/-- CLASS_CONFIRM: any other value than the strapped class is refused and recorded. -/
def Dev.writeClass (d : Dev) (v : Nat) : Answer :=
  if v = d.pwr.strapClass ∧ v ≠ 3 then (d.setObj 0x2000 2 v).yes else { code := rcState, dev := d.fault 0x0405 none 0 }

/-- CLASS_CONFIRM (R378). -/
def execClassConfirm (q : ManifestReq) (s : State) : Host.Outcome State Fault Refusal :=
  onReq (.classConfirm q) q (fun f d => Dev.rowDone f d q .classConfirm fun _ d => d.writeClass (reqValue q)) s

def Dev.writeCap (d : Dev) (v : Nat) : Answer :=
  if v < 450 ∨ d.classLimit < v then d.no rcRange else ({ d with pwr := { d.pwr with capWritten := true } }.setObj 0x2000 5 v).yes

/-- POWER_CAP (R379). -/
def execPowerCap (q : ManifestReq) (s : State) : Host.Outcome State Fault Refusal :=
  onReq (.powerCap q) q (fun f d => Dev.rowDone f d q .powerCap fun _ d => d.writeCap (reqValue q)) s

/-! ### Rings (R346) -/

/-- A ring registered with both indices at 0. -/
def Dev.register (d : Dev) (c : Nat) : Dev :=
  ((d.modCtx c fun x => { x with sqTail := 0, taken := 0, restart := 0, cqHead := 0, waiting := [], doneSeqs := [], replayed := [] }).setObj (0xD100 + c) 6 0).setRing c 1

def Dev.writeRing (d : Dev) (r : ObjRow) (c v : Nat) : Answer :=
  let free := (d.ctx c).state = 0
  let st := d.ringState c
  if outside r v then d.no rcRange
  else if v = 1 then
    if st = 0 then
      if free ∧ d.sqBase c ≠ 0 ∧ d.sqDepth c ≠ 0 ∧ d.cqBase c ≠ 0 ∧ d.cqDepth c ≠ 0 then (d.register c).yes else d.no rcState
    else if st = 1 then d.yes
    else if st = 2 then ((d.modCtx c fun x => { x with sqTail := d.sqHead c }).setRing c 1).yes
    else d.no rcState
  else if st = 0 then d.yes
  else if free ∧ st ≤ 2 then ((d.modCtx c fun x => { x with waiting := [], intDue := false }).setRing c 0).yes
  else d.no rcState

/-- RING_STATE (R346). -/
def execRingState (q : ManifestReq) (s : State) : Host.Outcome State Fault Refusal :=
  onReq (.ringState q) q (fun f d => Dev.rowDone f d q .ringState fun r d => d.writeRing r (q.index - 0xD100) (reqValue q)) s

/-! ### Regions (R199, R200) -/

/-- Whether two ranges share an address. -/
def spansMeet (a n b m : Nat) : Bool := decide (a < b + m) && decide (b < a + n)

/-- Whether a range lies wholly in one part of HBM, in units of 2 MiB (R197). -/
def Dev.onePart (d : Dev) (a n : Nat) : Bool :=
  a % 2097152 == 0 && n % 2097152 == 0 && match d.place a with | (.hbm, e) => decide (a + n ≤ e) | _ => false

/-- Whether the companion owns lines of a region, which it can still give back. -/
def Dev.linesOut (d : Dev) (x : Region) : Bool := d.host.linkUp && !d.safe && d.ownedIn x.base x.size

/-- The lines of a region that the companion caches recalled before it is sealed against it. -/
def Dev.sealRecall (d : Dev) (x : Region) : Dev := if attrSealCompanion x.attr then (d.recallShared x.base x.size).recallOwned x.base x.size else d

/-- Whether a region's range is still being filled where another range meets it. -/
def fillsOver (x : Region) (p : Nat × Region) : Bool :=
  match p.2.filling with | some g => spansMeet x.base x.size g.1 g.2 | none => false

/-- ENABLE TRUE (R199, R200). A context in any state but FREE is accepted as owner: DEDUCED, log 66. A region to be sealed against the companion waits until the lines that the companion owns have come back. -/
def Dev.enableRegion (d : Dev) (q : ManifestReq) : Answer :=
  let r := q.index - 0x8400
  let x := d.region r
  if x.enabled then d.yes
  else if x.filling.isSome ∨ d.regions.any (fillsOver x) then d.no rcState
  else if x.owner ≠ 0xFF ∧ (d.ctx x.owner).state = 0 then d.no rcState
  else if d.onePart x.base x.size = false then d.no rcRange
  else match d.regions.find? fun p => p.2.enabled && spansMeet x.base x.size p.2.base p.2.size with
    | some p => d.no rcConflict (holderRegion p.1)
    | none =>
      if attrSealCompanion x.attr && d.linesOut x then (d.sealRecall x).later (.regionEnable q)
      else ({ d.sealRecall x with regions := tblSet d.regions r { x with enabled := true } }).yes

/-- ENABLE TRUE (R199). -/
def execRegionEnable (q : ManifestReq) (s : State) : Host.Outcome State Fault Refusal :=
  onReq (.regionEnable q) q (fun f d => Dev.rowDone f d q .regionEnable fun _ d => d.enableRegion q) s

/-- ENABLE FALSE (R199): only the Owner disables a sealed region. -/
def Dev.switchOff (f : Fuses) (d : Dev) (q : ManifestReq) : Answer :=
  let r := q.index - 0x8400
  let x := d.region r
  if x.enabled = false then d.yes
  else if Dev.ownDenied f d q 0 then d.no rcDenied
  else (d.disableRegion r).yes

/-- ENABLE FALSE (R199). -/
def execRegionDisable (q : ManifestReq) (s : State) : Host.Outcome State Fault Refusal :=
  onReq (.regionDisable q) q (fun f d => Dev.rowDone f d q .regionDisable fun _ d => Dev.switchOff f d q) s

/-- REGION_FILL_DONE (R199): the range has been written with zero. -/
def execRegionFillDone (r : Nat) (s : State) : Host.Outcome State Fault Refusal :=
  onDev (wellFormed (.regionFillDone r)) (fun d =>
    if (d.region r).filling.isSome ∧ d.powered then { d with regions := tblSet d.regions r { d.region r with filling := none } } else d) s

/-- A region frozen: its ATTR stored, and the mirrored teacher sets in it begin to be copied (R323). -/
def Dev.frozen (d : Dev) (r : Nat) (x : Region) (v : Nat) : Dev :=
  { d with
    regions := tblSet d.regions r { x with attr := v }
    cmp := { d.cmp with sets := d.cmp.sets.map fun (p : Nat × StateSet) =>
      if p.2.mirror ∧ p.2.teacher ∧ x.base ≤ p.2.bank0 ∧ p.2.bank0 < x.base + x.size then (p.1, p.2.wholeDirty) else p } }

/-- ATTR with FROZEN on an enabled region: nothing but FROZEN may change. It waits until the lines that the companion owns have come back, so that a frozen
region is modified by nobody (R198, R200). -/
def Dev.freeze (f : Fuses) (d : Dev) (q : ManifestReq) : Answer :=
  let r := q.index - 0x8400
  let x := d.region r
  let v := reqValue q
  if d.ownDenied f q v then d.no rcDenied
  else if v ≠ x.attr ∧ v ≠ x.attr + 8 then d.no rcState
  else if attrFrozen x.attr then d.yes
  else if d.linesOut x then (d.recallOwned x.base x.size).later (.regionFrozen q)
  else (d.frozen r x v).yes

/-- FROZEN set on an enabled region (R199). -/
def execRegionFrozen (q : ManifestReq) (s : State) : Host.Outcome State Fault Refusal :=
  onReq (.regionFrozen q) q (fun f d => Dev.rowDone f d q .regionFrozen fun _ d => Dev.freeze f d q) s

/-! ### Fault classes (R410, R411) -/

/-- ACK of a class. -/
def Dev.ack (d : Dev) (k : Nat) : Dev := ({ d with faults := tblSet d.faults k { d.fclass k with acked := true } }).logEvent 1 0 0xFF k 0 0 0

/-- ACK (R410). -/
def execAckClass (q : ManifestReq) (s : State) : Host.Outcome State Fault Refusal :=
  onReq (.ackClass q) q (fun f d => Dev.rowDone f d q .ackClass fun r d =>
    if outside r (reqValue q) then d.no rcRange else (d.ack (q.index - 0x4010)).yes) s

/-- Quarantine ends: contexts it stopped go on, and a lost host is told of again (R369). -/
def Dev.endQuarantine (d : Dev) : Dev :=
  let d := { d with ctxs := d.ctxs.map fun (p : Nat × Ctx) => (p.1, { p.2 with heldByHost := false }) }
  (d.setStatus (if d.hostState = 1 ∨ d.hostState = 2 then d.hostState else 0) d.rank).pushAll.retry

/-- CLEAR in safe state, refused whatever its cause; one refused while the cause is present counts as elsewhere (R411). -/
def Dev.clearSafe (d : Dev) (k v : Nat) : Answer := { code := rcState, dev := if v = 1 ∧ d.classPresent k then d.bump 0x4000 9 1 else d }

/-- CLEAR of a class whose causes are gone. -/
def Dev.clearClass (d : Dev) (k : Nat) : Answer :=
  if d.classPresent k then { code := rcState, dev := d.bump 0x4000 9 1 }
  else
    let was := d.quarantined
    let d := if (d.fclass k).isOpen then d.logEvent 2 0 0xFF k 0 0 0 else d
    let d := { d with faults := tblSet d.faults k { d.fclass k with isOpen := false, level := 0, acked := false, causes := [] } }
    (if was ∧ d.quarantined = false then d.endQuarantine else d).yes

/-- CLEAR (R411). -/
def execClassClear (q : ManifestReq) (s : State) : Host.Outcome State Fault Refusal :=
  onReq (.classClear q) q (fun f d => Dev.rowDone f d q .classClear fun r d =>
    if d.safe then d.clearSafe (q.index - 0x4010) (reqValue q) else if outside r (reqValue q) then d.no rcRange else d.clearClass (q.index - 0x4010)) s

/-! ### The calendar (R427) -/

/-- Whether PTP_PORT has a master (R276): the port is the one now named, and carries traffic. -/
def Dev.hasMaster (d : Dev) : Bool := d.net.ptpMaster == some (d.obj 0x3000 0x0A) && d.carrying (d.obj 0x3000 0x0A)

def Dev.writeCalendar (d : Dev) (v : Nat) : Answer :=
  if d.hasMaster then d.no rcState
  else (({ d with calendar := v }.setObj 0xB000 6 1).logEvent 6 0 0xFF 0 0 0 0).yes

/-- CALENDAR (R427). -/
def execCalendar (q : ManifestReq) (s : State) : Host.Outcome State Fault Refusal :=
  onReq (.calendar q) q (fun f d => Dev.rowDone f d q .calendar fun _ d => d.writeCalendar (reqValue q)) s

/-! ### Firmware bundles (R371, R372, R435) -/

/-- STAGE_STATUS after SEC's checks of a bundle: the signatures under the certified firmware key, the security version of the bundle and of each image, the steppings. A source outside the device's regions holds no bundle that could verify. -/
def Dev.stageStatus (f : Fuses) (d : Dev) (b : BundleFacts) : Nat :=
  if b.signaturesOk = false ∨ d.certCurrent Config.firmwareFrom Config.firmwareTo = false ∨ d.inRegion (d.obj 0x5000 2) (d.obj 0x5000 3) (fun r => r.owner == 0xFF) = false then 3
  else if b.security < f.floor ∨ ((List.range 15).any fun k => decide (nth b.security b.images k < f.floor)) then 4
  else if b.steppingOk = false then 5
  else if b.flashOk = false then 6
  else 2

def Dev.stage (f : Fuses) (d : Dev) (b : BundleFacts) : Dev :=
  let st := Dev.stageStatus f d b
  let v := 2 * (b.version % 2 ^ 32 / 2)
  let facts := fun k : Nat => ({ security := nth b.security b.images k, bundle := b.security } : ImageFacts)
  let d := (d.noteUnchecked 1).setObj 0x5000 5 st
  if st = 2 then { d with sec := { d.sec with staged := (List.range 15).map fun k => (k, facts k) } }.setObj 0x5000 1 v
  else if st = 6 then d.setObj 0x5000 1 0
  else d

/-- STAGE_COMMAND 1 (R371). -/
def execFwStage (q : ManifestReq) (b : BundleFacts) (s : State) : Host.Outcome State Fault Refusal :=
  onReq (.fwStage q b) q (fun f d => Dev.rowDone f d q .fwStage fun _ d =>
    if d.obj 0x5000 5 = 1 then d.no rcState else (Dev.stage f d b).yes) s

/-- The staged bundle discarded; cores that waited for it wait no longer. -/
def Dev.unstage (d : Dev) : Dev :=
  { d with fw := d.fw.map fun (p : Nat × FwCore) => if p.2.activation = 1 then (p.1, { p.2 with activation := 0, heldBack := false }) else p }.setObj 0x5000 5 0 |>.setObj 0x5000 1 0

/-- STAGE_COMMAND 2 (R371). -/
def execDiscardStaged (q : ManifestReq) (s : State) : Host.Outcome State Fault Refusal :=
  onReq (.discardStaged q) q (fun f d => Dev.rowDone f d q .discard fun _ d =>
    if d.obj 0x5000 5 = 1 then d.no rcState else d.unstage.yes) s

/-- The named cores whose staged image differs from the running one become PENDING, and the first of them activates. -/
def Dev.activate (d : Dev) (mask : Nat) : Dev :=
  if d.obj 0x5000 5 ≠ 2 then d
  else
    let named := (List.range 15).filter fun k => bit mask k && (d.fwCore k).version != d.obj 0x5000 1
    (named.foldl (fun d k => d.setFw k { d.fwCore k with activation := 1, heldBack := false }) d).deferFw.activateNext

/-- ACTIVATE (R372). -/
def execFwActivate (q : ManifestReq) (s : State) : Host.Outcome State Fault Refusal :=
  onReq (.fwActivate q) q (fun f d => Dev.rowDone f d q .activate fun r d =>
    if outside r (reqValue q) then d.no rcRange else (d.activate (reqValue q)).yes) s

/-- RAISE_FLOOR: whether a value may become the floor (R435). -/
def Dev.floorOk (f : Fuses) (d : Dev) (v : Nat) : Bool := d.bundleVersion % 2 == 0 && decide (f.floor < v) && decide (v ≤ d.secValue f 0x0B)

/-- A measured value changed that no audit sees (R438). -/
def Dev.measured (d : Dev) : Dev := d.setObj 0x6000 0x11 ((d.obj 0x6000 0x11 + 1) % 2 ^ 32)

/-- The floor rises: measured, and the alias certificate keeps the one of its issue (R432, R435). -/
def Dev.floorRaised (f : Fuses) (d : Dev) : Dev := { d.measured with sec := { d.measured.sec with aliasFloor := some (d.sec.aliasFloor.getD f.floor) } }

/-- RAISE_FLOOR (R435): the floor is burned into fuses and never falls. -/
def execRaiseFloor (q : ManifestReq) (s : State) : Host.Outcome State Fault Refusal :=
  onFuses (wellFormed (.raiseFloor q)) (fun f d =>
    if d.behindSlow q then (f, d.sendReply q rcBusy 0 0 []) else
    let r := Dev.onRow f d q .raiseFloor fun r d =>
      if Dev.floorOk f d (reqValue q) = false then d.no rcState else if outside r (reqValue q) then d.no rcRange else (Dev.floorRaised f d).yes
    (if r.2 = rcOK then { f with floor := reqValue q } else f, r.1)) s

/-! ### Roles (R445 to R447) -/

/-- A connection's grant of a role for ROLE_GRANT. -/
def Dev.grant (d : Dev) (kcl : Bool) (eid role : Nat) : Dev :=
  let t := some (d.time + d.obj 0x6000 0x0A * 1000000000)
  { d with sec := { d.sec with conns := d.sec.conns.map fun (c : Conn) =>
    if c.kcl = kcl ∧ c.eid = eid then (if role = 1 then { c with owner := t } else { c with vendor := t }) else c } }

/-- ROLE_PROOF: `verified` says whether its signature verifies under the key of its role, over the AUTH_NONCE in force. The service key's certificate is held
against the calendar (R433). -/
def Dev.prove (f : Fuses) (d : Dev) (q : ManifestReq) (verified : Bool) : Answer :=
  let role := leNat (q.data.take 1)
  if (role ≠ 1 ∧ role ≠ 3) ∨ leNat (slice q.data 1 3) ≠ 0 then d.no rcRange
  else if (role = 3 ∧ (f.lcState = 2 ∨ f.lcState = 4)) ∨ (role = 1 ∧ f.lcState ≠ 2) then d.no rcDenied
  else
    let d := if role = 3 then d.noteUnchecked 1 else d
    if verified = false ∨ (role = 3 ∧ d.certCurrent Config.serviceFrom Config.serviceTo = false) then d.no rcDenied else (d.grant q.kcl q.eid role).yes

/-- AUTH_NONCE is replaced after every write of ROLE_PROOF or LC_REQUEST, accepted or refused, BUSY among the refusals (R447, R469). -/
def nonceUsed (r : Dev × Nat) : Dev := if r.2 = 256 then r.1 else r.1.newNonce

/-- ROLE_PROOF (R445). -/
def execRoleProof (q : ManifestReq) (verified : Bool) (s : State) : Host.Outcome State Fault Refusal :=
  onReq (.roleProof q verified) q (fun f d => nonceUsed (Dev.onRow f d q .roleProof fun _ d => Dev.prove f d q verified)) s

/-- Grants that have ended are taken back. -/
def Dev.expire (d : Dev) (kcl : Bool) (eid : Nat) : Dev :=
  { d with sec := { d.sec with conns := d.sec.conns.map fun (c : Conn) =>
    if c.kcl = kcl ∧ c.eid = eid then { c with owner := c.owner.filter fun t => decide (d.time < t), vendor := c.vendor.filter fun t => decide (d.time < t) } else c } }

/-- ROLE_GRANT_EXPIRY (R445). -/
def execRoleGrantExpiry (kcl : Bool) (eid : Nat) (s : State) : Host.Outcome State Fault Refusal :=
  onDev (wellFormed (.roleGrantExpiry kcl eid)) (fun d => d.expire kcl eid) s

/-- AUTH_NONCE_REFRESH (R447): it is replaced after 60 s. -/
def execAuthNonceRefresh (s : State) : Host.Outcome State Fault Refusal :=
  onDev (wellFormed .authNonceRefresh) (fun d => if d.powered ∧ d.sec.nonceAt + 60000000000 ≤ d.time then d.newNonce else d) s

end Sys2Proof.Machine
end

