-- ==== Sys2Proof/Machine/Life.lean ====
section
/-! DEFINITION. The life cycle (R448 to R453), requested resets (R481, R496), the power states (R498 to R504), start-up's events and the loss
of input power (R486, R490, R493 to R497). -/

namespace Sys2Proof.Machine

/-! ### Life-cycle transitions (R449 to R452) -/

/-- Whether the Valrak service key signs a transition (R450). -/
def lcService (from_ to_ : Nat) : Bool := from_ == 0 || from_ == 3 || (from_ == 1 && to_ != 2)

/-- The checks of an LC_REQUEST of 336 bytes that come before its signature (R449 to R451, R469). -/
def Dev.lcBefore (f : Fuses) (d : Dev) (q : ManifestReq) : Nat :=
  let to_ := leNat (q.data.take 1)
  if leNat (slice q.data 1 3) ≠ 0 ∨ leNat (slice q.data 201 3) ≠ 0 ∨ (to_ ≠ 2 ∧ leNat (slice q.data 68 133) ≠ 0) then rcRange
  else if lcPair f.lcState to_ = false then rcState
  else if lcRole f.lcState to_ (d.roles f q.kcl q.eid) = false then rcDenied
  else if f.left = 0 ∨ (f.left = 1 ∧ to_ ≠ 4) then rcState
  else if d.inUse ≠ 0 ∨ d.obj 0x5000 5 = 1 then rcState
  else if slice q.data 4 64 ≠ slice (Config.freeBytes d.sec.nonceDraw) 0 64 then rcDenied
  else rcOK

/-- The reply. `verified` says whether its signature verifies under the key R450 names; the service key's certificate is held against the calendar (R433). -/
def Dev.lcReply (f : Fuses) (d : Dev) (q : ManifestReq) (verified : Bool) : Nat :=
  if Dev.lcBefore f d q ≠ rcOK then Dev.lcBefore f d q
  else if verified = false ∨ (lcService f.lcState (leNat (q.data.take 1)) ∧ d.certCurrent Config.serviceFrom Config.serviceTo = false) then rcDenied
  else rcOK

/-- A service key's certificate whose time is not checked is counted, once the request comes to its signature (R433). -/
def Dev.lcNoted (f : Fuses) (d : Dev) (q : ManifestReq) : Dev :=
  if Dev.lcBefore f d q = rcOK ∧ lcService f.lcState (leNat (q.data.take 1)) then d.noteUnchecked 1 else d

/-- The fuses a transition burns: a position, the state, the owner, and UDS made or destroyed. -/
def Fuses.transition (f : Fuses) (q : ManifestReq) : Fuses :=
  let to_ := leNat (q.data.take 1)
  let key := if to_ = 2 then slice q.data 68 133 else []
  { f with lcState := to_, left := f.left - 1, ownerKey := key, digest := if to_ = 2 then sha512 key else [],
           uds := if f.lcState = 0 then true else if to_ = 4 then false else f.uds }

/-- A reset that was asked for comes no later than 10 ms after the reply (R452, R481, R496); one already due stands. -/
def Dev.resetLater (d : Dev) (kind : Nat) : Dev := if d.pwr.due.isSome then d else d.within kind (d.time + 10000000)

/-- A transition: the fuses burn and the reply is sent, and a warm reset with the default berth plan is due. Till then other writes are answered BUSY. -/
def Dev.lifeCycle (f : Fuses) (d : Dev) (q : ManifestReq) (verified : Bool) : Fuses × Dev :=
  let r := Dev.onRow f d q .lcRequest fun _ d => let c := Dev.lcReply f d q verified; if c = rcOK then (Dev.lcNoted f d q).yes else (Dev.lcNoted f d q).no c
  if r.2 = rcOK then
    (f.transition q, { r.1 with pwr := { r.1.pwr with due := none } }.resetLater 20)
  else (f, nonceUsed r)

/-- LC_REQUEST (R452). -/
def execLcRequest (q : ManifestReq) (verified : Bool) (s : State) : Host.Outcome State Fault Refusal :=
  onFuses (wellFormed (.lcRequest q verified)) (fun f d => if d.behindSlow q then (f, nonceUsed (d.sendReply q rcBusy 0 0 [], rcBusy)) else Dev.lifeCycle f d q verified) s

/-! ### Requested resets (R481, R496) -/

/-- A reply of OK and then what follows it. -/
def thenAct (r : Dev × Nat) (g : Dev → Dev) : Dev := if r.2 = rcOK then g r.1 else r.1

/-- VENDOR_SERVICE_WRITE (R481): what the access does inside the module is gone with the reset. -/
def execVendorServiceWrite (q : ManifestReq) (s : State) : Host.Outcome State Fault Refusal :=
  onReq (.vendorServiceWrite q) q (fun f d => thenAct (Dev.onRow f d q .vendor fun _ d => d.yes) fun d => d.resetLater 18) s

/-- RESET_REQUEST 1 (R496). -/
def execResetRequestFunction (q : ManifestReq) (s : State) : Host.Outcome State Fault Refusal :=
  onReq (.resetRequestFunction q) q (fun f d => thenAct (Dev.onRow f d q .resetFunction fun _ d => d.yes) fun d => d.resetLater 19) s

/-- RESET_REQUEST 2 (R496). -/
def execResetRequestWarm (q : ManifestReq) (s : State) : Host.Outcome State Fault Refusal :=
  onReq (.resetRequestWarm q) q (fun f d => thenAct (Dev.onRow f d q .resetWarm fun _ d => d.yes) fun d => d.resetLater 18) s

/-! ### Entering a power state (R500, R501) -/

/-- Entry to a power state begins (R501): isolation comes no later than 20 ms after the reply. -/
def Dev.enterState (d : Dev) (k : Nat) : Dev := { d with pwr := { d.pwr with edge := none } }.within k (d.time + 20000000)

/-- The conditions of R500: `states` are the context states allowed past FREE, `retain` whether conveyor rings may stay in retention parts. -/
def Dev.entryClear (d : Dev) (states : List Nat) (retain : Bool) : Bool :=
  (d.ctxs.all fun p => p.2.state == 0 || (states.contains p.2.state && decide (p.2.gangSize ≤ 1))) && (d.pairState == 0 || d.pairState == 2) &&
    d.obj 0xD300 1 == 0 && d.obj 0xA000 8 == 0 && (retain || (List.range 8).all fun c => d.obj (0x8320 + c) 1 != 2) && d.obj 0x5000 5 != 1 &&
    (d.regions.all fun p => p.2.filling.isNone) && !d.sec.wiping && !(d.cmp.snaps.any fun s => s.svc.isSome) && !d.pwr.wakeLow &&
    d.pwr.due.isNone

/-- Every session closes and every port that is not DISABLED goes dark. -/
def Dev.darken (d : Dev) : Dev :=
  let d := d.closeSessions fun _ => true
  let d := (List.range 40).foldl (fun d i => if (d.half (i / 2) (i % 2)).state = 0 then d else d.setHalf (i / 2) (i % 2) { state := 1, since := d.time }) d
  let d := (List.range 20).foldl (fun d p => d.setHalves p 0) d
  { d with net := { d.net with paths := [], lost := [], ports := d.net.ports.map fun (p : Nat × PortSt) => (p.1, { failed := p.2.failed }) } }

/-- SLEEP: the lasers go off, the ports are dark, and HBM refreshes itself. -/
def Dev.sleep (d : Dev) : Dev :=
  let e := (d.darken.setObj 0x3000 0x0C 0).setObj 0x2000 0x20 2
  ({ e with pwr := { e.pwr with offKind := 2, sleptAt := e.time, idleSince := none, due := none, edge := none } }.railsDown 5).noteReach d

/-- PSTATE_REQUEST 2. A module already in SLEEP stays there. -/
def Dev.requestSleep (d : Dev) : Answer :=
  if d.pwr.offKind = 2 then d.yes else if d.entryClear [1, 3, 6] true then d.yes else d.no rcState

/-- PSTATE_REQUEST_SLEEP (R500, R501). -/
def execPstateRequestSleep (q : ManifestReq) (s : State) : Host.Outcome State Fault Refusal :=
  onReq (.pstateRequestSleep q) q (fun f d =>
    thenAct (Dev.onRow f d q .psSleep fun _ d => d.requestSleep) fun d => if d.pwr.offKind = 2 then d else d.enterState 2) s

/-- Whether a byte of memory is kept through DEEP: HBM where it is chosen, and the retention part of a quay whose RETAIN_USE is 1. -/
def Dev.keptInDeep (d : Dev) (a : Nat) : Bool :=
  match (d.place a).1 with
  | .hbm => d.obj 0x2000 0x22 == 1
  | .quay cl => d.obj (0x8320 + cl) 1 == 1 && decide (quayBase cl + 0x02A00000 ≤ a)
  | _ => false

/-- The values kept through DEEP with HBM: the ring objects, and what is saved and restored with a context, its hold of SYNC_IO with a fast barrier. -/
def ringOrCtxKey (k : Nat) : Bool :=
  let idx := k / 65536
  [0xD100, 0x7100, 0x7300, 0x7400, 0xA100].any (fun b => decide (b ≤ idx) && decide (idx < b + 64)) || k == objKey 0xD000 0x0F 0 || k == objKey 0x9000 7 0

/-- DEEP (R501, R504). Sealed by isolation: nothing but the always-on domain, retained SRAM and retained HBM has power. -/
def Dev.deepSleep (d : Dev) : Dev :=
  let keep := d.obj 0x2000 0x22 = 1
  let w := d.writePage.wiped
  let kept := fun (k : Nat) => survives k || [objKey 0x2000 0x22 0, objKey 0x2000 0x23 0, objKey 0x8000 3 0].contains k || (decide keep && ringOrCtxKey k)
  let w := { w with objs := d.objs.filter fun p => kept p.1
                    mem := d.mem.filter fun c => d.keptInDeep c.1
                    poison := d.poison.filter fun l => d.keptInDeep (64 * l)
                    pwr := { w.pwr with offKind := 3, sleptAt := d.time, pageA := d.writePage.pwr.pageA, pageB := d.writePage.pwr.pageB } }.railsDown 1
  if keep then
    { w with regions := d.regions, ctxs := d.ctxs, host := { w.host with token := d.host.token }, sec := { w.sec with slots := d.sec.slots, deviceKey := d.sec.deviceKey },
             cmp := { w.cmp with convs := d.cmp.convs, bars := d.cmp.bars, groups := d.cmp.groups, sets := d.cmp.sets } }
  else w

/-- PSTATE_REQUEST 3. -/
def Dev.requestDeep (d : Dev) : Answer :=
  if d.entryClear (if d.obj 0x2000 0x22 = 1 then [6] else []) false then d.yes else d.no rcState

/-- PSTATE_REQUEST_DEEP (R500, R501). -/
def execPstateRequestDeep (q : ManifestReq) (s : State) : Host.Outcome State Fault Refusal :=
  onReq (.pstateRequestDeep q) q (fun f d => thenAct (Dev.onRow f d q .psDeep fun _ d => d.requestDeep) fun d => d.enterState 3) s

/-- OFF (R501): an orderly power-down is recorded. -/
def Dev.switchedOff (d : Dev) : Dev :=
  let w := (d.writePage.logEvent 8 0 0xFF 0 0 0 0).wiped
  { w with pwr := { w.pwr with offKind := 4, sleptAt := d.time } }.railsDown 1

/-- PSTATE_REQUEST 4. -/
def Dev.requestOff (d : Dev) : Answer := if d.entryClear [] false then d.yes else d.no rcState

/-- PSTATE_REQUEST_OFF (R500, R501). -/
def execPstateRequestOff (q : ManifestReq) (s : State) : Host.Outcome State Fault Refusal :=
  onReq (.pstateRequestOff q) q (fun f d => thenAct (Dev.onRow f d q .psOff fun _ d => d.requestOff) fun d => d.enterState 4) s

/-- PSTATE_REQUEST_RUN (R502): it wakes the module from SLEEP. -/
def execPstateRequestRun (q : ManifestReq) (s : State) : Host.Outcome State Fault Refusal :=
  onReq (.pstateRequestRun q) q (fun f d =>
    thenAct (Dev.onRow f d q .psRun fun _ d => d.yes) fun d => if d.pwr.offKind = 2 then d.wakeSleep 5 else d) s

/-! ### Wakes (R502, R504) -/

/-- A wake from DEEP runs a start from its first step. -/
def Dev.wakeDeep (d : Dev) (cause : Nat) : Dev :=
  let d := ((d.setObj 0x2000 0x22 0).setObj 0x2000 0x23 0).setObj 0x2000 0x24 cause
  (d.setObj 0x2000 0x27 4).railsUp

/-- A wake from OFF is a cold start. -/
def Dev.wakeOff (d : Dev) (cls mid : Nat) : Dev := (d.coldStart cls mid 0).setObj 0x2000 0x24 1

/-- A wake from the state the module is in. During an entry a wake beacon is latched, and the wake timer stays latched till it is honoured; WAKE_N is a level, seen after
isolation (R502, R503). -/
def Dev.wake (d : Dev) (cause : Nat) : Dev :=
  if d.entering.isSome then (if cause = 3 then d.latchEdge 3 else if cause = 2 then { d with pwr := { d.pwr with edge := some 2 } } else d)
  else if d.pwr.offKind = 2 then d.wakeSleep cause else if d.pwr.offKind = 3 then d.wakeDeep cause else d

/-- Isolation (R501): the state is entered, and a wake that is present, or was kept, is honoured from it (R503). A beacon does not wake OFF. -/
def Dev.isolated (d : Dev) (k : Nat) : Dev :=
  let low := d.pwr.wakeLow
  let edge := d.pwr.edge
  let d := if k = 2 then d.sleep else if k = 3 then d.deepSleep else d.switchedOff
  if low then (if k = 4 then d.wakeOff d.pwr.strapClass d.pwr.strapMid else d.wake 1)
  else match edge with | some c => d.wake c | none => d

/-- What the module does of its own when its time has come: the isolation of a power state, a requested reset, a rail group, or a step of a start. -/
def Dev.ownTime (f : Fuses) (d : Dev) : Dev :=
  match d.pwr.due with
  | none => d
  | some (k, t) =>
    let e := { d with pwr := { d.pwr with due := none } }
    if d.time < t then d
    else if k = 1 then (if d.pwr.offKind = 10 then Dev.nextRail f e else Dev.nextStep f e)
    else if k ≤ 4 then e.isolated k
    else if k = 20 then Dev.reset f { e with blobs := e.blobs.filter fun p => p.1 != objKey 0x3000 1 0 } 2
    else Dev.reset f e (k - 16)

/-- WAKE_N (R502): the pin reads low until time next passes. -/
def execWakeN (s : State) : Host.Outcome State Fault Refusal :=
  onDev (wellFormed .wakeN) (fun d =>
    let d := { d with pwr := { d.pwr with wakeLow := true } }
    if d.pwr.offKind = 4 then d.wakeOff d.pwr.strapClass d.pwr.strapMid else d.wake 1) s

/-- WAKE_TIMER (R502): WAKE_AFTER has elapsed since isolation. -/
def execWakeTimer (s : State) : Host.Outcome State Fault Refusal :=
  onDev (wellFormed .wakeTimer) (fun d =>
    let t := d.obj 0x2000 0x23
    if t ≠ 0 ∧ d.pwr.sleptAt + t ≤ d.time then d.wake 2 else d) s

/-- KCL_WAKE_BEACON (R502). -/
def execKclWakeBeacon (s : State) : Host.Outcome State Fault Refusal :=
  onDev (wellFormed .kclWakeBeacon) (fun d => d.wake 3) s

/-! ### IDLE (R499) -/

/-- Whether nothing is in progress that keeps the module out of IDLE. -/
def Dev.resting (d : Dev) : Bool :=
  (d.ctxs.all fun p => p.2.state != 4) && (d.cmp.tugs.all fun p => p.2.isEmpty) && (d.cmp.groups.all fun p => p.2.flights.isEmpty) && d.cmp.snaps.isEmpty &&
    d.host.svcTail == d.svcHead &&
    (d.cmp.sets.all fun p => d.mirrorState p.2 == 0 || d.mirrorState p.2 == 3 || (p.2.dirty.isEmpty && d.mirrorKept (p.1 / 16) (p.1 % 16) == 0))

/-- Since when nothing was in progress. -/
def Dev.noteIdle (d : Dev) : Dev :=
  if d.pwr.offKind = 0 ∧ d.obj 0x2000 0x28 = 8 ∧ d.obj 0x2000 0x20 = 0 ∧ d.resting then { d with pwr := { d.pwr with idleSince := some (d.pwr.idleSince.getD d.time) } }
  else { d with pwr := { d.pwr with idleSince := none } }

/-- IDLE_ENTRY (R499). -/
def execIdleEntry (s : State) : Host.Outcome State Fault Refusal :=
  onDev (wellFormed .idleEntry) (fun d =>
    let d := d.noteIdle
    match d.pwr.idleSince with
    | some t => if t + d.obj 0x2000 0x25 * 1000 ≤ d.time then { d with pwr := { d.pwr with idleSince := none } }.setObj 0x2000 0x20 1 else d
    | none => d) s

/-! ### RESET_N, the reference clock, the fill (R453, R490, R496, R497) -/

/-- RESET_N falls: a warm reset, held while it stays low; it ends an entry to a power state and a start (R497). In DEEP and OFF it is ignored, and before power good nothing
is there to reset. -/
def Dev.resetFalls (f : Fuses) (d : Dev) : Dev :=
  if d.pwr.resetLow then d
  else
    let d := { d with pwr := { d.pwr with resetLow := true } }
    if [0, 1, 2, 8, 9].contains d.pwr.offKind then Dev.reset f d 1 else d

/-- RESET_N (R496). -/
def execResetN (s : State) : Host.Outcome State Fault Refusal := onDevF (wellFormed .resetN) (fun f d => Dev.resetFalls f d) s

/-- RESET_N_HIGH (R496, R497). -/
def execResetNHigh (s : State) : Host.Outcome State Fault Refusal :=
  onDevF (wellFormed .resetNHigh) (fun f d => Dev.startOn f { d with pwr := { d.pwr with resetLow := false } }) s

/-- REFCLK_PRESENT (R490). -/
def execRefclkPresent (s : State) : Host.Outcome State Fault Refusal :=
  onDevF (wellFormed .refclkPresent) (fun f d => Dev.startOn f { d with pwr := { d.pwr with refclk := true } }) s

/-- WIPE_FILL_DONE (R453). -/
def execWipeFillDone (s : State) : Host.Outcome State Fault Refusal :=
  onDev (wellFormed .wipeFillDone) (fun d => if d.pwr.offKind = 0 then d.fillDone else d) s

/-! ### Input power (R427, R487, R491, R493, R496) -/

/-- BROWN_OUT (R493): VIN below 36 V. -/
def execBrownOut (s : State) : Host.Outcome State Fault Refusal :=
  onDev (wellFormed .brownOut) (fun d => if d.pwr.offKind = 5 ∨ d.pwr.offKind = 6 ∨ d.pwr.offKind = 7 then d else d.powerLost 6) s

/-- Input power is gone: the calendar, CLASS_CONFIRM and the latch of THERMTRIP_N with it (R378, R395, R427). -/
def Dev.cut (d : Dev) : Dev :=
  let d := { d.powerLost 7 with calendar := 0 }
  ({ d with pwr := { d.pwr with thermTrip := false } }.setObj 0xB000 6 0).setObj 0x2000 2 0xFF

/-- INPUT_POWER_REMOVED. Whether the board's reference clock runs when power comes back is free. -/
def execInputPowerRemoved (s : State) : Host.Outcome State Fault Refusal :=
  onDev (wellFormed .inputPowerRemoved) (fun d =>
    if d.pwr.offKind = 7 then d
    else
      let d := d.cut
      { d with fresh := d.fresh + 1, pwr := { d.pwr with refclk := Config.freeCount d.fresh % 2 == 0 } }) s

/-- VIN passes 38 V, or the module wakes from OFF. Where input power stood, it was removed before. -/
def Dev.powerUp (d : Dev) (cls mid : Nat) : Dev :=
  if d.pwr.offKind = 4 then d.wakeOff cls mid
  else if d.pwr.offKind = 6 then d.coldStart cls mid 5
  else (if d.pwr.offKind = 7 then d else d.cut).coldStart cls mid 0

/-- COLD_START (R494). -/
def execColdStart (strapClass strapMid : Nat) (s : State) : Host.Outcome State Fault Refusal :=
  onDev (wellFormed (.coldStart strapClass strapMid)) (fun d => d.powerUp strapClass strapMid) s

end Sys2Proof.Machine
end

