-- ==== Sys2Proof/Machine/Messages.lean ====
section
/-! DEFINITION. The other MCTP messages: control (R461), PLDM for Platform Monitoring and Control (R465), and SPDM (R432, R436 to R438).
The layouts are those of the standards the spec names; what the spec leaves open of them is `Config.standardBytes`. -/

namespace Sys2Proof.Machine

/-- A byte from a number. -/
def byteOf (n : Nat) : Byte := BitVec.ofNat 8 n

/-- A number's field of a message, and one of its bytes. -/
def msgByte (m : MctpMsg) (i : Nat) : Nat := leNat (slice m.data i 1)
def msgNum (m : MctpMsg) (i n : Nat) : Nat := leNat (slice m.data i n)

/-- Whether a message is a request: the top bit of its first byte (DSP0236, DSP0240). -/
def msgAsks (m : MctpMsg) : Bool := bit (msgByte m 0) 7

/-- Whether the MCTP endpoint of a transport answers: I3C with the harbour domain's power, KCL with its link up and its module at READY. -/
def Dev.mctpUp (d : Dev) (kcl : Bool) : Bool :=
  if kcl then decide (d.pwr.offKind < 3) && d.host.linkUp && !d.host.retraining else d.powered || d.pwr.offKind == 9

/-- Whether a message is taken: assembled messages have at most 4,224 B (R461, R462). -/
def Dev.mctpTakes (d : Dev) (m : MctpMsg) : Bool := d.mctpUp m.kcl && decide (m.data.length < 4224)

/-! ### MCTP control messages (R461) -/

/-- A control request of one command with at least `n` bytes of data, and its answer: completion code and data. -/
def Dev.control (d : Dev) (m : MctpMsg) (cmd n : Nat) (f : Dev → Nat × List Byte × Dev) : Dev :=
  if d.mctpTakes m = false ∨ m.data.length < 2 ∨ msgAsks m = false ∨ msgByte m 1 ≠ cmd then d
  else
    let a := if m.data.length < 2 + n then (3, [], d) else f d
    a.2.2.send (.mctp m.kcl m.eid ([byteOf (msgByte m 0 % 32), byteOf cmd, byteOf a.1] ++ a.2.1))

/-- The endpoint ID of a transport. -/
def Dev.ownEid (d : Dev) (kcl : Bool) : Nat := if kcl then d.sec.eidKcl else d.sec.eidI3c

/-- The endpoint ID set by the bus owner; the connections of the transport close where it changes (R464). -/
def Dev.setEid (d : Dev) (kcl : Bool) (eid : Nat) : Dev :=
  if eid = d.ownEid kcl then d
  else
    let conns := d.sec.conns.filter fun c => c.kcl != kcl
    { d with sec := if kcl then { d.sec with eidKcl := eid, conns := conns } else { d.sec with eidI3c := eid, conns := conns } }

/-- Set Endpoint ID: operations set and force, with an ID a bus owner may give. -/
def Dev.eidRequest (d : Dev) (m : MctpMsg) : Nat × List Byte × Dev :=
  let eid := msgByte m 3
  if msgByte m 2 ≤ 1 ∧ 8 ≤ eid ∧ eid ≤ 0xFE then (0, [byteOf 0, byteOf eid, byteOf 0], d.setEid m.kcl eid) else (2, [], d)

/-- SET_ENDPOINT_ID (R461, R464). -/
def execSetEndpointId (m : MctpMsg) (s : State) : Host.Outcome State Fault Refusal :=
  onDev (wellFormed (.setEndpointId m)) (fun d => d.control m 1 2 fun d => d.eidRequest m) s

/-- GET_ENDPOINT_ID (R461): a simple endpoint with a dynamic ID. -/
def execGetEndpointId (m : MctpMsg) (s : State) : Host.Outcome State Fault Refusal :=
  onDev (wellFormed (.getEndpointId m)) (fun d => d.control m 2 0 fun d => (0, [byteOf (d.ownEid m.kcl), byteOf 0, byteOf 0], d)) s

/-- The versions of a message type: MCTP 1.3 for the base and control, the rest as their standards have them. -/
def versionReply (t : Nat) : Nat × List Byte :=
  if t = 0xFF ∨ t = 0 then (0, [byteOf 1, byteOf 0xF1, byteOf 0xF3] ++ slice (Config.standardBytes 4 [byteOf t]) 0 2)
  else if t = 1 ∨ t = 5 ∨ t = 0x7F then (0, byteOf 1 :: slice (Config.standardBytes 4 [byteOf t]) 0 4)
  else (0x80, [])

/-- GET_MCTP_VERSION_SUPPORT (R461). -/
def execGetMctpVersionSupport (m : MctpMsg) (s : State) : Host.Outcome State Fault Refusal :=
  onDev (wellFormed (.getMctpVersionSupport m)) (fun d => d.control m 4 1 fun d => ((versionReply (msgByte m 2)).1, (versionReply (msgByte m 2)).2, d)) s

/-- GET_MESSAGE_TYPE_SUPPORT (R461): PLDM, SPDM and vendor-defined by IANA number, beside control. -/
def execGetMessageTypeSupport (m : MctpMsg) (s : State) : Host.Outcome State Fault Refusal :=
  onDev (wellFormed (.getMessageTypeSupport m)) (fun d => d.control m 5 0 fun d => (0, [byteOf 3, byteOf 1, byteOf 5, byteOf 0x7F], d)) s

/-- GET_VENDOR_DEFINED_MESSAGE_SUPPORT (R461): one set, named by VENDOR_IANA. -/
def execGetVendorDefinedMessageSupport (m : MctpMsg) (s : State) : Host.Outcome State Fault Refusal :=
  onDev (wellFormed (.getVendorDefinedMessageSupport m)) (fun d => d.control m 6 1 fun d =>
    if msgByte m 2 = 0 then (0, [byteOf 0xFF, byteOf 1] ++ (natLe 4 Config.vendorIana).reverse ++ slice (Config.standardBytes 6 []) 0 2, d) else (2, [], d)) s

/-! ### PLDM (R465) -/

/-- A PLDM request of one type and command with at least `n` bytes of data, and its answer: completion code and data. -/
def Dev.pldm (d : Dev) (m : MctpMsg) (typ cmd n : Nat) (f : Dev → Nat × List Byte) : Dev :=
  if (d.mctpTakes m && (d.pwr.offKind == 0 || d.pwr.offKind == 2)) = false ∨ m.data.length < 3 ∨ msgAsks m = false ∨ msgByte m 1 % 64 ≠ typ ∨ msgByte m 2 ≠ cmd then d
  else
    let a := if m.data.length < 3 + n then (3, []) else f d
    d.send (.pldm m.kcl m.eid ([byteOf (msgByte m 0 % 32), byteOf (msgByte m 1), byteOf cmd, byteOf a.1] ++ a.2))

/-- GETTID (R465): the terminus ID is not fixed by the spec. -/
def execGettid (m : MctpMsg) (s : State) : Host.Outcome State Fault Refusal :=
  onDev (wellFormed (.gettid m)) (fun d => d.pldm m 0 2 0 fun _ => (0, slice (Config.standardBytes 0x102 []) 0 1)) s

/-- GETPLDMTYPES (R465): types 0 and 2. -/
def execGetpldmtypes (m : MctpMsg) (s : State) : Host.Outcome State Fault Refusal :=
  onDev (wellFormed (.getpldmtypes m)) (fun d => d.pldm m 0 4 0 fun _ => (0, natLe 8 5)) s

/-- GETPLDMVERSION (R465): the version of a supported type, in one part. -/
def execGetpldmversion (m : MctpMsg) (s : State) : Host.Outcome State Fault Refusal :=
  onDev (wellFormed (.getpldmversion m)) (fun d => d.pldm m 0 3 6 fun _ =>
    if msgByte m 8 = 0 ∨ msgByte m 8 = 2 then (0, natLe 4 0 ++ [byteOf 5] ++ slice (Config.standardBytes 0x103 [byteOf (msgByte m 8)]) 0 8) else (0x83, [])) s

/-- GETPLDMCOMMANDS (R465): the commands of a supported type, as bits. -/
def execGetpldmcommands (m : MctpMsg) (s : State) : Host.Outcome State Fault Refusal :=
  onDev (wellFormed (.getpldmcommands m)) (fun d => d.pldm m 0 5 5 fun _ =>
    if msgByte m 3 = 0 then (0, natLe 32 0x3C) else if msgByte m 3 = 2 then (0, natLe 32 (2 ^ 0x11 + 2 ^ 0x51)) else (0x83, [])) s

/-- The numeric sensors of R465: ID, base unit of DSP0248 (7 watts, 2 degrees Celsius), code of the reading's size, and resolution as an IEEE 754 binary32. -/
def pldmSensors : List (Nat × Nat × Nat × Nat) :=
  [(1, 7, 4, 0x3F800000)] ++ ((List.range 5).map fun i => (2 + i, 2, 3, 0x3E000000)) ++ (List.range 32).map fun i => (0x20 + i, 2, 3, 0x3E000000)

/-- A numeric sensor's record as DSP0248 lays it out (PRESUMED: log 107): the sensor's ID, unit, size and resolution; what the spec does not give of it is free. -/
def sensorRecord (handle : Nat) (x : Nat × Nat × Nat × Nat) : List Byte :=
  let free := fun (i n : Nat) => slice (Config.standardBytes 0x251 (natLe 4 (handle + 65536 * i))) 0 n
  let body := free 1 2 ++ natLe 2 x.1 ++ free 2 8 ++ [byteOf x.2.1] ++ free 3 10 ++ [byteOf 1, byteOf x.2.2.1] ++ natLe 4 x.2.2.2 ++
    Config.standardBytes 0x252 (natLe 4 handle)
  natLe 4 handle ++ [byteOf 1, byteOf 2] ++ free 4 2 ++ natLe 2 body.length ++ body

/-- The record of a handle, 0 for the first, and the handle of the next, 0 after the last. Handles count from 1 in the order of R465 (log 107). -/
def sensorPdr (handle : Nat) : Option (List Byte × Nat) :=
  let h := max 1 handle
  pldmSensors[h - 1]?.map fun x => (sensorRecord h x, if h < pldmSensors.length then h + 1 else 0)

/-- GetPDR: a record, or a part of it from an offset that the transfer handle names; the check byte of a record in several parts is the standard's. -/
def pdrReply (m : MctpMsg) : Nat × List Byte :=
  match sensorPdr (msgNum m 3 4) with
  | none => (0x82, [])
  | some (bs, next) =>
    let first := msgByte m 11 = 1
    let off := if first then 0 else msgNum m 7 4
    let n := min (min (msgNum m 12 2) 4096) (bs.length - off)
    let last := decide (bs.length ≤ off + n)
    (0, natLe 4 next ++ natLe 4 (if last then 0 else off + n) ++ [byteOf (if first then (if last then 5 else 0) else if last then 4 else 1)] ++ natLe 2 n ++
      slice bs off n ++ if !first && last then slice (Config.standardBytes 0x253 bs) 0 1 else [])

/-- GETPDR (R465). -/
def execGetpdr (m : MctpMsg) (s : State) : Host.Outcome State Fault Refusal :=
  onDev (wellFormed (.getpdr m)) (fun d => d.pldm m 2 0x51 13 fun _ => pdrReply m) s

/-- A sensor's size code and reading. -/
def Dev.sensorReading (f : Fuses) (d : Dev) (id : Nat) : Option (Nat × List Byte) :=
  if id = 1 then some (4, natLe 4 (d.value f 0x2000 6 0))
  else if 2 ≤ id ∧ id ≤ 6 then some (3, natLe 2 (d.value f (0x2010 + (id - 2)) 1 0))
  else if 0x20 ≤ id ∧ id ≤ 0x3F then some (3, natLe 2 (d.value f (0x2020 + (id - 0x20)) 1 0))
  else none

/-- GETSENSORREADING (R465): enabled sensors without events; their state bytes are left to the standard. -/
def execGetsensorreading (m : MctpMsg) (s : State) : Host.Outcome State Fault Refusal :=
  onDevF (wellFormed (.getsensorreading m)) (fun f d => d.pldm m 2 0x11 3 fun d =>
    match Dev.sensorReading f d (msgNum m 3 2) with
    | some v => (0, [byteOf v.1, byteOf 0, byteOf 0] ++ slice (Config.standardBytes 0x211 (slice m.data 3 2)) 0 3 ++ v.2)
    | none => (0x80, [])) s

/-! ### SPDM (R436) -/

/-- The requester of a message. -/
def msgFrom (m : MctpMsg) : Nat := (if m.kcl then 256 else 0) + m.eid % 256

/-- The request codes of SPDM that have a row of their own. -/
def spdmCodes : List Nat := [0x81, 0x82, 0x83, 0xE0, 0xE1, 0xE3]

/-- An answer of the responder: its code, the bytes after it, and how far the connection has come then. -/
def spdmError (code data : Nat) : Nat × List Byte := (0x7F, [byteOf code, byteOf data])

/-- Whether the module attests at all: it has UDS (R448). -/
def attests (f : Fuses) : Bool := f.uds && f.lcState != 0 && f.lcState != 4

/-- An SPDM request: counted, Busy while SEC does not run, of version 1.3, and in its turn. `need` is how far the connection must have come,
`next` how far it is after; `f` gives the answer's code and bytes. -/
def Dev.spdm (d : Dev) (m : MctpMsg) (need next : Nat) (f : Dev → (Nat × List Byte) × Dev) : Dev :=
  let v := if need = 0 then 0x10 else 0x13
  let d := d.bump 0x6000 0x14 1
  let reply := fun (d : Dev) (a : Nat × List Byte) => d.send (.spdm m.kcl m.eid ([byteOf v, byteOf a.1] ++ a.2))
  if d.restarting 0 ∨ d.pwr.offKind = 2 then reply d (spdmError 3 0)
  else if need ≠ 0 ∧ msgByte m 0 ≠ 0x13 then reply d (spdmError 0x41 0)
  else if tblGet 0 d.sec.spdm (msgFrom m) < need then reply d (spdmError 4 0)
  else
    let a := f d
    if a.1.1 = 0x7F then reply a.2 a.1
    else reply { a.2 with sec := { a.2.sec with spdm := tblSet a.2.sec.spdm (msgFrom m) (if need = 0 then 1 else max next (tblGet 0 a.2.sec.spdm (msgFrom m))) } } a.1

/-- A row's request: another code is none of its own, and with a failed SEC image only GET_VERSION is answered (R434). -/
def Dev.spdmRow (d : Dev) (m : MctpMsg) (code need next : Nat) (f : Dev → (Nat × List Byte) × Dev) : Dev :=
  if d.mctpTakes m = false ∨ m.data.length < 4 ∨ msgByte m 1 ≠ code ∨ (d.pwr.offKind = 9 ∧ code ≠ 0x84) then d else d.spdm m need next f

/-- GET_VERSION: version 1.3, and the connection begins anew. A request the module does not support has no row of its own and is refused here. -/
def Dev.spdmVersion (d : Dev) (m : MctpMsg) : Dev :=
  let code := msgByte m 1
  if code = 0x84 then d.spdmRow m 0x84 0 1 fun d => ((0x04, [byteOf 0, byteOf 0, byteOf 0, byteOf 1] ++ natLe 2 0x1300), d)
  else if code < 0x80 ∨ spdmCodes.contains code then d
  else d.spdmRow m code 0 0 fun d => (spdmError 7 code, d)

/-- GET_VERSION (R436). -/
def execSpdmGetVersion (m : MctpMsg) (s : State) : Host.Outcome State Fault Refusal :=
  onDev (wellFormed (.spdmGetVersion m)) (fun d => d.spdmVersion m) s

/-- GET_CAPABILITIES (R436): CERT_CAP, CHAL_CAP, MEAS_CAP with signatures. -/
def execSpdmGetCapabilities (m : MctpMsg) (s : State) : Host.Outcome State Fault Refusal :=
  onDev (wellFormed (.spdmGetCapabilities m)) (fun d => d.spdmRow m 0xE1 1 2 fun d =>
    let open_ := slice (Config.standardBytes 0x361 []) 0 9
    ((0x61, [byteOf 0, byteOf 0, byteOf 0] ++ open_.take 1 ++ natLe 2 0 ++ natLe 4 0x16 ++ open_.drop 1), d)) s

/-- NEGOTIATE_ALGORITHMS (R436): P-521, SHA-512 and the DMTF measurement specification, where the requester offers them. -/
def Dev.spdmAlgorithms (d : Dev) (m : MctpMsg) : (Nat × List Byte) × Dev :=
  if bit (msgNum m 8 4) 8 = false ∨ bit (msgNum m 12 4) 2 = false ∨ bit (msgByte m 6) 0 = false then (spdmError 1 0, d)
  else ((0x63, natLe 2 0 ++ natLe 2 36 ++ [byteOf 1, byteOf 0] ++ natLe 4 8 ++ natLe 4 0x100 ++ natLe 4 4 ++ List.replicate 16 0#8), d)

/-- NEGOTIATE_ALGORITHMS (R436). -/
def execSpdmNegotiateAlgorithms (m : MctpMsg) (s : State) : Host.Outcome State Fault Refusal :=
  onDev (wellFormed (.spdmNegotiateAlgorithms m)) (fun d => d.spdmRow m 0xE3 2 3 fun d => d.spdmAlgorithms m) s

/-- The chain of slot 0 in order from the root, as SPDM frames it: length, the root's digest, the certificates (R432). -/
def Dev.certChain (f : Fuses) (d : Dev) : List Byte :=
  let body := sha512 Config.rootCert ++ Config.rootCert ++ Config.caCert ++ devidCert ++ Dev.aliasCert f d
  natLe 2 (body.length + 4) ++ natLe 2 0 ++ body

/-- GET_DIGESTS (R436). -/
def execSpdmGetDigests (m : MctpMsg) (s : State) : Host.Outcome State Fault Refusal :=
  onDevF (wellFormed (.spdmGetDigests m)) (fun f d => d.spdmRow m 0x81 3 3 fun d =>
    if attests f then ((0x01, [byteOf 1, byteOf 1] ++ sha512 (Dev.certChain f d)), d) else (spdmError 7 0x81, d)) s

/-- GET_CERTIFICATE: a portion of the chain, no longer than fits in one message of 4,224 B. -/
def Dev.spdmCertificate (f : Fuses) (d : Dev) (m : MctpMsg) : (Nat × List Byte) × Dev :=
  let chain := Dev.certChain f d
  let at_ := msgNum m 4 2
  if attests f = false then (spdmError 7 0x82, d)
  else if msgByte m 2 ≠ 0 ∨ chain.length ≤ at_ then (spdmError 1 0, d)
  else
    let n := min (min (msgNum m 6 2) 4215) (chain.length - at_)
    ((0x02, [byteOf 0, byteOf 0] ++ natLe 2 n ++ natLe 2 (chain.length - at_ - n) ++ slice chain at_ n), d)

/-- GET_CERTIFICATE (R436). -/
def execSpdmGetCertificate (m : MctpMsg) (s : State) : Host.Outcome State Fault Refusal :=
  onDevF (wellFormed (.spdmGetCertificate m)) (fun f d => d.spdmRow m 0x82 3 3 fun d => Dev.spdmCertificate f d m) s

/-! ### Measurements (R437, R438) -/

/-- The type byte of a measurement and its value: digests for 1 to 16, raw bit streams (bit 7) for the rest. -/
def Dev.measurement (f : Fuses) (d : Dev) (i : Nat) : Nat × List Byte :=
  if i = 1 then (0, imageMeasure 1 0)
  else if i ≤ 16 then (1, imageMeasure i (d.fwCore (i - 2)).version)
  else if i = 17 then (0x86, natLe 4 d.bundleVersion ++ natLe 2 (d.secValue f 0x0B) ++ natLe 2 f.floor)
  else if i = 18 then (0x82, natLe 1 f.lcState ++ natLe 1 f.left ++ f.ownerDigest ++ Config.serial)
  else if i = 19 then (0x82, natLe 8 d.fingerprint ++ sha512 d.unitMap)
  else if i = 20 then
    (0x83, natLe 1 (d.obj 0x8000 5) ++
      (d.measuredRegions.map fun p => natLe 8 p.2.base ++ natLe 8 p.2.size ++ natLe 1 p.2.owner ++ natLe 1 p.2.attr).flatten)
  else if i = 21 then (0x83, natLe 8 d.planHash)
  else (0x84, natLe 4 (d.obj 0x6000 0x11))

/-- A measurement block: index, DMTF specification, size, value type, value size, value. -/
def Dev.measBlock (f : Fuses) (d : Dev) (i : Nat) : List Byte :=
  let v := Dev.measurement f d i
  [byteOf i, byteOf 1] ++ natLe 2 (v.2.length + 3) ++ [byteOf v.1] ++ natLe 2 v.2.length ++ v.2

/-- All measurement blocks, taken at once. -/
def Dev.measBlocks (f : Fuses) (d : Dev) (is : List Nat) : List Byte := (is.map (Dev.measBlock f d)).flatten

/-- The 22 indices. -/
def measIndices : List Nat := (List.range 22).map (· + 1)

/-- A signature by the alias key (R436) over what SPDM 1.3 has it sign, of which the spec gives nothing: free bytes. -/
def Dev.sign (f : Fuses) (d : Dev) : List Byte × Dev := (ecdsa (Dev.aliasKey f d) (slice d.draw.1 0 64), d.draw.2)

/-- A fresh nonce of 32 bytes. -/
def Dev.nonce (d : Dev) : List Byte × Dev := (slice d.draw.1 0 32, d.draw.2)

/-- CHALLENGE: the chain's digest, a nonce, the summary that was asked for, and the alias key's signature. Which measurements count as the
trusted computing base is open. -/
def Dev.spdmChallenge (f : Fuses) (d : Dev) (m : MctpMsg) : (Nat × List Byte) × Dev :=
  if attests f = false then (spdmError 7 0x83, d)
  else if msgByte m 2 ≠ 0 ∨ m.data.length < 44 ∨ [0, 1, 0xFF].contains (msgByte m 3) = false then (spdmError 1 0, d)
  else
    let n := d.nonce
    let summary := if msgByte m 3 = 0 then [] else if msgByte m 3 = 0xFF then sha512 (Dev.measBlocks f d measIndices) else slice (Config.standardBytes 0x383 (Dev.measBlocks f d measIndices)) 0 64
    let g := Dev.sign f n.2
    ((0x03, [byteOf 0, byteOf 1] ++ sha512 (Dev.certChain f d) ++ n.1 ++ summary ++ natLe 2 0 ++ slice m.data 36 8 ++ g.1), g.2)

/-- CHALLENGE (R436). -/
def execSpdmChallenge (m : MctpMsg) (s : State) : Host.Outcome State Fault Refusal :=
  onDevF (wellFormed (.spdmChallenge m)) (fun f d => d.spdmRow m 0x83 3 3 fun d => Dev.spdmChallenge f d m) s

/-- GET_MEASUREMENTS: their number, one of them, or all, every value of one moment; signed where the request asks for it. -/
def Dev.spdmMeasurements (f : Fuses) (d : Dev) (m : MctpMsg) : (Nat × List Byte) × Dev :=
  let op := msgByte m 3
  let signed_ := bit (msgByte m 2) 0
  let len := if signed_ then 45 else 12
  if attests f = false then (spdmError 7 0xE0, d)
  else if (22 < op ∧ op ≠ 0xFF) ∨ m.data.length < len ∨ (signed_ ∧ msgByte m 36 % 16 ≠ 0) then (spdmError 1 0, d)
  else
    let is := if op = 0 then [] else if op = 0xFF then measIndices else [op]
    let record := Dev.measBlocks f d is
    let n := d.nonce
    let g := if signed_ then Dev.sign f n.2 else ([], n.2)
    ((0x60, [byteOf (if op = 0 then 22 else 0), byteOf 0, byteOf is.length] ++ natLe 3 record.length ++ record ++ n.1 ++ natLe 2 0 ++
      slice m.data (len - 8) 8 ++ g.1), g.2)

/-- GET_MEASUREMENTS (R437, R438). -/
def execSpdmGetMeasurements (m : MctpMsg) (s : State) : Host.Outcome State Fault Refusal :=
  onDevF (wellFormed (.spdmGetMeasurements m)) (fun f d => d.spdmRow m 0xE0 3 3 fun d => Dev.spdmMeasurements f d m) s

/-! ### Time passes (R24) -/

/-- What a nanosecond brings without a command: the clocks advance, what the module does of its own at a time comes, WAKE_N is let go, interrupts held back go out (R354), waiting completions
and packets move, ports send what they may (R258), and admissions, dockets and orders that waited are tried again. -/
def Dev.idle (f : Fuses) (d : Dev) : Dev :=
  let d := Dev.ownTime f d.tick.lasersRun
  let d := { d with pwr := { d.pwr with wakeLow := false } }
  if d.pwr.offKind ≠ 0 then d
  else
    let due := tblKeys (d.ctxs.filter fun p => p.2.intDue || !p.2.waiting.isEmpty)
    let d := due.foldl Dev.flush d
    let d := d.svcFlush.pump.replayHeld.admitAll.pushAll.portsSend
    ((tblKeys d.ctxs).foldl Dev.settleRuns d).retry.noteIdle

end Sys2Proof.Machine
end

