-- ==== Sys2Proof/Machine/Later.lean ====
section
/-! DEFINITION. Manifest requests that are answered later (R200, R470, R471), and the KCL commands that may end their wait. -/

namespace Sys2Proof.Machine

/-- A command that carries a Manifest request, run again. FLOOR and LC_REQUEST never wait: they are answered BUSY instead (log 101). -/
def manifestAgain (i : Instr) (s : State) : Host.Outcome State Fault Refusal :=
  match i with
  | .fwStage q b => execFwStage q b s
  | .discardStaged q => execDiscardStaged q s
  | .fwActivate q => execFwActivate q s
  | .manifestRead q => execManifestRead q s
  | .manifestWrite q => execManifestWrite q s
  | .manifestDescribe q => execManifestDescribe q s
  | .manifestClose q => execManifestClose q s
  | .rangeClear q => execRangeClear q s
  | .accClear q => execAccClear q s
  | .cadenceSource q => execCadenceSource q s
  | .snapPeriod q => execSnapPeriod q s
  | .ioTugUse q => execIoTugUse q s
  | .portUse q => execPortUse q s
  | .retainUse q => execRetainUse q s
  | .berthPlan q => execBerthPlan q s
  | .evalSlot q => execEvalSlot q s
  | .classConfirm q => execClassConfirm q s
  | .powerCap q => execPowerCap q s
  | .ringState q => execRingState q s
  | .regionEnable q => execRegionEnable q s
  | .regionDisable q => execRegionDisable q s
  | .regionFrozen q => execRegionFrozen q s
  | .ackClass q => execAckClass q s
  | .classClear q => execClassClear q s
  | .alertCause q => execAlertCause q s
  | .roleProof q v => execRoleProof q v s
  | .calendar q => execCalendar q s
  | .vendorServiceWrite q => execVendorServiceWrite q s
  | .pstateRequestRun q => execPstateRequestRun q s
  | .pstateRequestSleep q => execPstateRequestSleep q s
  | .pstateRequestDeep q => execPstateRequestDeep q s
  | .pstateRequestOff q => execPstateRequestOff q s
  | .resetRequestFunction q => execResetRequestFunction q s
  | .resetRequestWarm q => execResetRequestWarm q s
  | _ => .next s

/-- Whether a waiting command still has to wait: a change of a region for the lines that the companion owns (R200). -/
def Dev.stillSlow (d : Dev) (i : Instr) : Bool :=
  match i with
  | .regionEnable q | .regionFrozen q => d.linesOut (d.region (q.index - 0x8400))
  | _ => false

/-- Whether two commands come by one connection. -/
def sameConn (i j : Instr) : Bool := match reqOf i, reqOf j with | some p, some q => p.kcl == q.kcl && p.eid == q.eid | _, _ => false

/-- The place of the first waiting command that may be handled: the first of its connection, and no longer held up. -/
def Dev.slowReady (d : Dev) : Option Nat :=
  (List.range d.sec.slow.length).find? fun k =>
    match d.sec.slow[k]? with
    | some i => !(d.stillSlow i) && !((d.sec.slow.take k).any (sameConn i))
    | none => false

/-- Whether a command ends its connection. -/
def closes (i : Instr) : Bool := match i with | .manifestClose _ => true | _ => false

/-- Waiting commands are handled, in the order in which they came, as far as they may be; a reset leaves none. -/
def State.againGo : Nat → State → State
  | 0, s => s
  | fuel + 1, s =>
    match s.dev.slowReady with
    | none => s
    | some k =>
      match s.dev.sec.slow[k]? with
      | none => s
      | some i =>
        let rest := dropNth s.dev.sec.slow k
        match manifestAgain i { s with dev := { s.dev with sec := { s.dev.sec with slow := [] } } } with
        | .next t => State.againGo fuel { t with dev := { t.dev with sec := { t.dev.sec with slow := if closes i || !t.dev.sec.conns.isEmpty then rest ++ t.dev.sec.slow else [] } } }
        | _ => s

/-- The same after those whose connection has closed are gone (R464). -/
def State.again (s : State) : State :=
  let open_ := s.dev.sec.slow.filter fun i => match reqOf i with | some q => (s.dev.connOf q.kcl q.eid).isSome | none => false
  State.againGo open_.length { s with dev := { s.dev with sec := { s.dev.sec with slow := open_ } } }

/-- A command of KCL, and the Manifest requests whose wait it ends. -/
def onKcl (ok : Bool) (f : Dev → Dev) (s : State) : Host.Outcome State Fault Refusal :=
  match onDev ok f s with
  | .next t => .next t.again
  | o => o

/-- WRITEBACK (R190). -/
def execKclWriteback (addr : Nat) (data : List Byte) (poison : Bool) (s : State) : Host.Outcome State Fault Refusal :=
  onKcl (wellFormed (.kclWriteback addr data poison)) (fun d => d.kclRequest (.kclWriteback addr data poison)) s

/-- KCL_LANE_FAILURE (R189). -/
def execKclLaneFailure (lane : Nat) (s : State) : Host.Outcome State Fault Refusal :=
  onKcl (wellFormed (.kclLaneFailure lane)) (fun d => d.laneFails lane) s

/-- KCL_TAG_FAILURES (R444): the link goes down. -/
def execKclTagFailures (s : State) : Host.Outcome State Fault Refusal :=
  onKcl (wellFormed .kclTagFailures) (fun d => if d.host.linkUp ∧ d.pwr.offKind < 3 then d.linkDown else d) s

/-- KCL_TRAINING (R189, R444). -/
def execKclTraining (s : State) : Host.Outcome State Fault Refusal := onKcl (wellFormed .kclTraining) Dev.linkTrained s

end Sys2Proof.Machine
end

