-- ==== Sys2Proof/Machine/Dispatch.lean ====
section
/-! DEFINITION. One arm for each command: a direct call of its meaning, or its rejection by name. -/

namespace Sys2Proof.Machine

def exec (i : Instr) (s : State) : Host.Outcome State Fault Refusal :=
  match i with
  | .wload c => Sys2Proof.Machine.execWload c s
  | .pass c => Sys2Proof.Machine.execPass c s
  | .pairpass c => Sys2Proof.Machine.execPairpass c s
  | .tileReplay c => Sys2Proof.Machine.execTileReplay c s
  | .accWaitExpiry c => Sys2Proof.Machine.execAccWaitExpiry c s
  | .drain c => Sys2Proof.Machine.execDrain c s
  | .drainRead c => Sys2Proof.Machine.execDrainRead c s
  | .vec c => Sys2Proof.Machine.execVec c s
  | .vreduce c => Sys2Proof.Machine.execVreduce c s
  | .tug c => Sys2Proof.Machine.execTug c s
  | .tugDescriptorComplete cl tug pos ext => Sys2Proof.Machine.execTugDescriptorComplete cl tug pos ext s
  | .conveyPut c => Sys2Proof.Machine.execConveyPut c s
  | .conveyGetTake c => Sys2Proof.Machine.execConveyGetTake c s
  | .conveyGetRelease c => Sys2Proof.Machine.execConveyGetRelease c s
  | .conveyGetCopy c => Sys2Proof.Machine.execConveyGetCopy c s
  | .conveyMessageVisible ctx conv => Sys2Proof.Machine.execConveyMessageVisible ctx conv s
  | .creditReturn ctx conv => Sys2Proof.Machine.execCreditReturn ctx conv s
  | .arrive c => Sys2Proof.Machine.execArrive c s
  | .wait c => Sys2Proof.Machine.execWait c s
  | .arriveWait c => Sys2Proof.Machine.execArriveWait c s
  | .hint c => Sys2Proof.Machine.execHint c s
  | .hintEnd c => Sys2Proof.Machine.execHintEnd c s
  | .commit c => Sys2Proof.Machine.execCommit c s
  | .snapshot c => Sys2Proof.Machine.execSnapshot c s
  | .snapshotComplete job ext => Sys2Proof.Machine.execSnapshotComplete job ext s
  | .collAllReduce c => Sys2Proof.Machine.execCollAllReduce c s
  | .collReduce c => Sys2Proof.Machine.execCollReduce c s
  | .collBroadcast c => Sys2Proof.Machine.execCollBroadcast c s
  | .collAllGather c => Sys2Proof.Machine.execCollAllGather c s
  | .collReduceScatter c => Sys2Proof.Machine.execCollReduceScatter c s
  | .collAllToAll c => Sys2Proof.Machine.execCollAllToAll c s
  | .collectiveComplete ctx group => Sys2Proof.Machine.execCollectiveComplete ctx group s
  | .fence c => Sys2Proof.Machine.execFence c s
  | .orderListComplete c => Sys2Proof.Machine.execOrderListComplete c s
  | .arrivalCounted job => Sys2Proof.Machine.execArrivalCounted job s
  | .arrivalAck job => Sys2Proof.Machine.execArrivalAck job s
  | .releaseVisible job => Sys2Proof.Machine.execReleaseVisible job s
  | .waitTimeout c => Sys2Proof.Machine.execWaitTimeout c s
  | .commitTimeout c => Sys2Proof.Machine.execCommitTimeout c s
  | .gezalWrite p => Sys2Proof.Machine.execGezalWrite p s
  | .gezalRead p => Sys2Proof.Machine.execGezalRead p s
  | .gezalReadResp p => Sys2Proof.Machine.execGezalReadResp p s
  | .gezalDone p => Sys2Proof.Machine.execGezalDone p s
  | .gezalConvey p => Sys2Proof.Machine.execGezalConvey p s
  | .gezalCredit p => Sys2Proof.Machine.execGezalCredit p s
  | .gezalArrive p => Sys2Proof.Machine.execGezalArrive p s
  | .gezalArriveAck p => Sys2Proof.Machine.execGezalArriveAck p s
  | .gezalRelease p => Sys2Proof.Machine.execGezalRelease p s
  | .gezalPoisonBarrier p => Sys2Proof.Machine.execGezalPoisonBarrier p s
  | .gezalCollect p => Sys2Proof.Machine.execGezalCollect p s
  | .gezalVote p => Sys2Proof.Machine.execGezalVote p s
  | .gezalOutcome p => Sys2Proof.Machine.execGezalOutcome p s
  | .gezalHeartbeat p => Sys2Proof.Machine.execGezalHeartbeat p s
  | .gezalTakeover p => Sys2Proof.Machine.execGezalTakeover p s
  | .gezalReconcile p => Sys2Proof.Machine.execGezalReconcile p s
  | .gezalMirror p => Sys2Proof.Machine.execGezalMirror p s
  | .gezalNodeStatus p => Sys2Proof.Machine.execGezalNodeStatus p s
  | .gezalAck p => Sys2Proof.Machine.execGezalAck p s
  | .gezalNack p => Sys2Proof.Machine.execGezalNack p s
  | .gezalHello p => Sys2Proof.Machine.execGezalHello p s
  | .gezalProbe p => Sys2Proof.Machine.execGezalProbe p s
  | .offer p v => Sys2Proof.Machine.execOffer p v s
  | .accept p v => Sys2Proof.Machine.execAccept p v s
  | .confirm p v => Sys2Proof.Machine.execConfirm p v s
  | .rekey p v => Sys2Proof.Machine.execRekey p v s
  | .rekeyAck p v => Sys2Proof.Machine.execRekeyAck p v s
  | .refuse p => Sys2Proof.Machine.execRefuse p s
  | .transitForward p => Sys2Proof.Machine.execTransitForward p s
  | .lldpFrame port half data => Sys2Proof.Machine.execLldpFrame port half data s
  | .lldpSend port half => Sys2Proof.Machine.execLldpSend port half s
  | .helloSend port half => Sys2Proof.Machine.execHelloSend port half s
  | .neighbourSolicitation port mine data => Sys2Proof.Machine.execNeighbourSolicitation port mine data s
  | .echoRequest port mine data => Sys2Proof.Machine.execEchoRequest port mine data s
  | .routerAdvertisement port mac => Sys2Proof.Machine.execRouterAdvertisement port mac s
  | .ptpMessage port hasMaster ns => Sys2Proof.Machine.execPtpMessage port hasMaster ns s
  | .ackTimer sess cls => Sys2Proof.Machine.execAckTimer sess cls s
  | .gapWaitExpiry sess cls => Sys2Proof.Machine.execGapWaitExpiry sess cls s
  | .rtoExpiry sess cls psn => Sys2Proof.Machine.execRtoExpiry sess cls psn s
  | .probeTimer rank path => Sys2Proof.Machine.execProbeTimer rank path s
  | .rateRaiseTimer rank path => Sys2Proof.Machine.execRateRaiseTimer rank path s
  | .lossDetection port half laneLost => Sys2Proof.Machine.execLossDetection port half laneLost s
  | .portDown port half => Sys2Proof.Machine.execPortDown port half s
  | .linkGlitch port half => Sys2Proof.Machine.execLinkGlitch port half s
  | .halfRetrain port half => Sys2Proof.Machine.execHalfRetrain port half s
  | .laserFailed engine laser => Sys2Proof.Machine.execLaserFailed engine laser s
  | .plannedRetrain port => Sys2Proof.Machine.execPlannedRetrain port s
  | .portRetry port half => Sys2Proof.Machine.execPortRetry port half s
  | .lightDetect port half => Sys2Proof.Machine.execLightDetect port half s
  | .darkTimeout port half => Sys2Proof.Machine.execDarkTimeout port half s
  | .pcsFecLock port half => Sys2Proof.Machine.execPcsFecLock port half s
  | .linkingTimeout port half => Sys2Proof.Machine.execLinkingTimeout port half s
  | .identifyingTimeout port half => Sys2Proof.Machine.execIdentifyingTimeout port half s
  | .pathLostTimer rank => Sys2Proof.Machine.execPathLostTimer rank s
  | .sessionOpenTimeout ctx => Sys2Proof.Machine.execSessionOpenTimeout ctx s
  | .handshakeResend sess => Sys2Proof.Machine.execHandshakeResend sess s
  | .rekeyTimer sess => Sys2Proof.Machine.execRekeyTimer sess s
  | .mirrorSync ctx => Sys2Proof.Machine.execMirrorSync ctx s
  | .kclReadShared addr => Sys2Proof.Machine.execKclReadShared addr s
  | .kclReadOwn addr => Sys2Proof.Machine.execKclReadOwn addr s
  | .kclReadUncached addr len => Sys2Proof.Machine.execKclReadUncached addr len s
  | .kclWrite addr data mask poison => Sys2Proof.Machine.execKclWrite addr data mask poison s
  | .kclWriteback addr data poison => Sys2Proof.Machine.execKclWriteback addr data poison s
  | .kclFetchAdd addr size operand => Sys2Proof.Machine.execKclFetchAdd addr size operand s
  | .kclSwap addr size operand => Sys2Proof.Machine.execKclSwap addr size operand s
  | .kclCas addr size compare swap => Sys2Proof.Machine.execKclCas addr size compare swap s
  | .kclLaneFailure lane => Sys2Proof.Machine.execKclLaneFailure lane s
  | .submissionTail ctx value => Sys2Proof.Machine.execSubmissionTail ctx value s
  | .completionHead ctx value => Sys2Proof.Machine.execCompletionHead ctx value s
  | .attach token => Sys2Proof.Machine.execAttach token s
  | .hostHeartbeat value => Sys2Proof.Machine.execHostHeartbeat value s
  | .detach token => Sys2Proof.Machine.execDetach token s
  | .serviceTail isHead value => Sys2Proof.Machine.execServiceTail isHead value s
  | .docketNop ctx => Sys2Proof.Machine.execDocketNop ctx s
  | .docketCreate ctx => Sys2Proof.Machine.execDocketCreate ctx s
  | .docketAdmit ctx => Sys2Proof.Machine.execDocketAdmit ctx s
  | .docketLaunch ctx => Sys2Proof.Machine.execDocketLaunch ctx s
  | .docketStop ctx => Sys2Proof.Machine.execDocketStop ctx s
  | .docketStart ctx => Sys2Proof.Machine.execDocketStart ctx s
  | .docketAbort ctx => Sys2Proof.Machine.execDocketAbort ctx s
  | .docketDestroy ctx => Sys2Proof.Machine.execDocketDestroy ctx s
  | .preemption ctx => Sys2Proof.Machine.execPreemption ctx s
  | .restore ctx => Sys2Proof.Machine.execRestore ctx s
  | .timesliceExpiry ctx => Sys2Proof.Machine.execTimesliceExpiry ctx s
  | .pilotDispatch ctx => Sys2Proof.Machine.execPilotDispatch ctx s
  | .contextPark ctx => Sys2Proof.Machine.execContextPark ctx s
  | .watchdogExpiry k => Sys2Proof.Machine.execWatchdogExpiry k s
  | .activationRevert k => Sys2Proof.Machine.execActivationRevert k s
  | .fwStage q b => Sys2Proof.Machine.execFwStage q b s
  | .discardStaged q => Sys2Proof.Machine.execDiscardStaged q s
  | .fwActivate q => Sys2Proof.Machine.execFwActivate q s
  | .raiseFloor q => Sys2Proof.Machine.execRaiseFloor q s
  | .svcIngestJpeg j => Sys2Proof.Machine.execSvcIngestJpeg j s
  | .svcIngestCopy ext => Sys2Proof.Machine.execSvcIngestCopy ext s
  | .manifestRead q => Sys2Proof.Machine.execManifestRead q s
  | .manifestWrite q => Sys2Proof.Machine.execManifestWrite q s
  | .manifestDescribe q => Sys2Proof.Machine.execManifestDescribe q s
  | .manifestClose q => Sys2Proof.Machine.execManifestClose q s
  | .setEndpointId m => Sys2Proof.Machine.execSetEndpointId m s
  | .getEndpointId m => Sys2Proof.Machine.execGetEndpointId m s
  | .getMctpVersionSupport m => Sys2Proof.Machine.execGetMctpVersionSupport m s
  | .getMessageTypeSupport m => Sys2Proof.Machine.execGetMessageTypeSupport m s
  | .getVendorDefinedMessageSupport m => Sys2Proof.Machine.execGetVendorDefinedMessageSupport m s
  | .gettid m => Sys2Proof.Machine.execGettid m s
  | .getpldmtypes m => Sys2Proof.Machine.execGetpldmtypes m s
  | .getpldmversion m => Sys2Proof.Machine.execGetpldmversion m s
  | .getpldmcommands m => Sys2Proof.Machine.execGetpldmcommands m s
  | .getpdr m => Sys2Proof.Machine.execGetpdr m s
  | .getsensorreading m => Sys2Proof.Machine.execGetsensorreading m s
  | .spdmGetVersion m => Sys2Proof.Machine.execSpdmGetVersion m s
  | .spdmGetCapabilities m => Sys2Proof.Machine.execSpdmGetCapabilities m s
  | .spdmNegotiateAlgorithms m => Sys2Proof.Machine.execSpdmNegotiateAlgorithms m s
  | .spdmGetDigests m => Sys2Proof.Machine.execSpdmGetDigests m s
  | .spdmGetCertificate m => Sys2Proof.Machine.execSpdmGetCertificate m s
  | .spdmChallenge m => Sys2Proof.Machine.execSpdmChallenge m s
  | .spdmGetMeasurements m => Sys2Proof.Machine.execSpdmGetMeasurements m s
  | .rangeClear q => Sys2Proof.Machine.execRangeClear q s
  | .accClear q => Sys2Proof.Machine.execAccClear q s
  | .cadenceSource q => Sys2Proof.Machine.execCadenceSource q s
  | .snapPeriod q => Sys2Proof.Machine.execSnapPeriod q s
  | .ioTugUse q => Sys2Proof.Machine.execIoTugUse q s
  | .portUse q => Sys2Proof.Machine.execPortUse q s
  | .retainUse q => Sys2Proof.Machine.execRetainUse q s
  | .berthPlan q => Sys2Proof.Machine.execBerthPlan q s
  | .evalSlot q => Sys2Proof.Machine.execEvalSlot q s
  | .classConfirm q => Sys2Proof.Machine.execClassConfirm q s
  | .powerCap q => Sys2Proof.Machine.execPowerCap q s
  | .ringState q => Sys2Proof.Machine.execRingState q s
  | .regionEnable q => Sys2Proof.Machine.execRegionEnable q s
  | .regionDisable q => Sys2Proof.Machine.execRegionDisable q s
  | .regionFillDone r => Sys2Proof.Machine.execRegionFillDone r s
  | .regionFrozen q => Sys2Proof.Machine.execRegionFrozen q s
  | .ackClass q => Sys2Proof.Machine.execAckClass q s
  | .classClear q => Sys2Proof.Machine.execClassClear q s
  | .alertCause q => Sys2Proof.Machine.execAlertCause q s
  | .roleProof q verified => Sys2Proof.Machine.execRoleProof q verified s
  | .lcRequest q verified => Sys2Proof.Machine.execLcRequest q verified s
  | .calendar q => Sys2Proof.Machine.execCalendar q s
  | .vendorServiceWrite q => Sys2Proof.Machine.execVendorServiceWrite q s
  | .pstateRequestRun q => Sys2Proof.Machine.execPstateRequestRun q s
  | .pstateRequestSleep q => Sys2Proof.Machine.execPstateRequestSleep q s
  | .pstateRequestDeep q => Sys2Proof.Machine.execPstateRequestDeep q s
  | .pstateRequestOff q => Sys2Proof.Machine.execPstateRequestOff q s
  | .resetRequestFunction q => Sys2Proof.Machine.execResetRequestFunction q s
  | .resetRequestWarm q => Sys2Proof.Machine.execResetRequestWarm q s
  | .governorPeriod g => Sys2Proof.Machine.execGovernorPeriod g s
  | .fastLimiter sample => Sys2Proof.Machine.execFastLimiter sample s
  | .capUnattainable average => Sys2Proof.Machine.execCapUnattainable average s
  | .tempThreshold stack sensor temp => Sys2Proof.Machine.execTempThreshold stack sensor temp s
  | .thermalTrip stack sensor temp => Sys2Proof.Machine.execThermalTrip stack sensor temp s
  | .droopStretch die => Sys2Proof.Machine.execDroopStretch die s
  | .trimRequest die => Sys2Proof.Machine.execTrimRequest die s
  | .tideRequest c => Sys2Proof.Machine.execTideRequest c s
  | .tideWave die => Sys2Proof.Machine.execTideWave die s
  | .powerGate c => Sys2Proof.Machine.execPowerGate c s
  | .selfGate c => Sys2Proof.Machine.execSelfGate c s
  | .rowCheck c array row => Sys2Proof.Machine.execRowCheck c array row s
  | .rowTest cl phys failedRows => Sys2Proof.Machine.execRowTest cl phys failedRows s
  | .spareCoreSwitch c => Sys2Proof.Machine.execSpareCoreSwitch c s
  | .coreFault c => Sys2Proof.Machine.execCoreFault c s
  | .patrolScrub stack addr e => Sys2Proof.Machine.execPatrolScrub stack addr e s
  | .sramScrub addr e => Sys2Proof.Machine.execSramScrub addr e s
  | .coldStart strapClass strapMid => Sys2Proof.Machine.execColdStart strapClass strapMid s
  | .wloadComplete c => Sys2Proof.Machine.execWloadComplete c s
  | .firmwareRestartEnd k => Sys2Proof.Machine.execFirmwareRestartEnd k s
  | .minQuantumExpiry ctx => Sys2Proof.Machine.execMinQuantumExpiry ctx s
  | .roleGrantExpiry kcl eid => Sys2Proof.Machine.execRoleGrantExpiry kcl eid s
  | .currentLimit die => Sys2Proof.Machine.execCurrentLimit die s
  | .trimIntervalEnd die => Sys2Proof.Machine.execTrimIntervalEnd die s
  | .gangAbort ctx rank coll => Sys2Proof.Machine.execGangAbort ctx rank coll s
  | .memberDigest ctx rank n => Sys2Proof.Machine.execMemberDigest ctx rank n s
  | .gangFprChanged ctx rank => Sys2Proof.Machine.execGangFprChanged ctx rank s
  | .fastLineHigh => Sys2Proof.Machine.execFastLineHigh s
  | .fastLineRepull => Sys2Proof.Machine.execFastLineRepull s
  | .cadenceTick => Sys2Proof.Machine.execCadenceTick s
  | .syncIoRisingEdge => Sys2Proof.Machine.execSyncIoRisingEdge s
  | .snapTick => Sys2Proof.Machine.execSnapTick s
  | .heartbeatTimer => Sys2Proof.Machine.execHeartbeatTimer s
  | .heartbeatLoss => Sys2Proof.Machine.execHeartbeatLoss s
  | .flitCrcFailure => Sys2Proof.Machine.execFlitCrcFailure s
  | .kclTagFailures => Sys2Proof.Machine.execKclTagFailures s
  | .kclTraining => Sys2Proof.Machine.execKclTraining s
  | .decisionBudgetExpiry => Sys2Proof.Machine.execDecisionBudgetExpiry s
  | .hostHbLoss => Sys2Proof.Machine.execHostHbLoss s
  | .hostDrainLimit => Sys2Proof.Machine.execHostDrainLimit s
  | .hostParkWait => Sys2Proof.Machine.execHostParkWait s
  | .svcCheckpoint => Sys2Proof.Machine.execSvcCheckpoint s
  | .svcSubmit => Sys2Proof.Machine.execSvcSubmit s
  | .throttleNLow => Sys2Proof.Machine.execThrottleNLow s
  | .throttleNHigh => Sys2Proof.Machine.execThrottleNHigh s
  | .e2End => Sys2Proof.Machine.execE2End s
  | .counterPageWrite => Sys2Proof.Machine.execCounterPageWrite s
  | .authNonceRefresh => Sys2Proof.Machine.execAuthNonceRefresh s
  | .resetN => Sys2Proof.Machine.execResetN s
  | .wipeFillDone => Sys2Proof.Machine.execWipeFillDone s
  | .brownOut => Sys2Proof.Machine.execBrownOut s
  | .wakeN => Sys2Proof.Machine.execWakeN s
  | .wakeTimer => Sys2Proof.Machine.execWakeTimer s
  | .kclWakeBeacon => Sys2Proof.Machine.execKclWakeBeacon s
  | .idleEntry => Sys2Proof.Machine.execIdleEntry s
  | .schReady => Sys2Proof.Machine.execSchReady s
  | .refclkPresent => Sys2Proof.Machine.execRefclkPresent s
  | .resetNHigh => Sys2Proof.Machine.execResetNHigh s
  | .nodeStatusSend => Sys2Proof.Machine.execNodeStatusSend s
  | .e0HoldExpiry => Sys2Proof.Machine.execE0HoldExpiry s
  | .inputPowerRemoved => Sys2Proof.Machine.execInputPowerRemoved s

end Sys2Proof.Machine
end

