-- ==== Sys2Proof/Machine/Step.lean ====
section
/-! DEFINITION. One step: the command at the front of the queue, or a nanosecond of the timebase when none waits. -/

namespace Sys2Proof.Machine

/-- One step takes the front of the queue and runs it with the rest waiting; on an empty queue time passes. -/
def step (s : State) : Host.Outcome State Fault Refusal :=
  match s.pending with
  | [] => .next { s with dev := Dev.idle s.fuses s.dev }
  | i :: rest => exec i { s with pending := rest }

/-- The command a word spells put in front of the queue: no word spells one. -/
def State.withFetchWord (s : State) (nbits w : Nat) : State :=
  match decodeTableWord nbits w with
  | some i => { s with pending := i :: s.pending }
  | none => s

end Sys2Proof.Machine
end

