-- ==== Sys2Proof/Machine/Encryption.lean ====
section
/-! DEFINITION. The encryption of KCL (R444) and of HBM (R201, R202): the key of a line, and what the HBM interface and dies carry of it. Everything inside the module works on
plaintext, which is what memory holds in the model. -/

namespace Sys2Proof.Machine

/-- KCL's keys, 32 bytes for each direction, from the ephemeral keys of its last training; none once they are destroyed (R431, R444). -/
def Dev.kclKeys (d : Dev) : Option (List Byte) :=
  d.host.linkKey.map fun n => hkdf [] (ecdh (privateKey (slice (Config.freeBytes n) 0 66)) ([4#8] ++ slice (Config.freeBytes (n + 1)) 0 132)) (natBe 3 0x6B636C)

/-- What the module sends of its own at a training: its ephemeral public key, signed with the alias key, that the companion may check it (R444). -/
def Dev.kclOffer (f : Fuses) (d : Dev) : Option (List Byte × List Byte) :=
  d.host.linkKey.map fun n =>
    let key := publicKey (privateKey (slice (Config.freeBytes n) 0 66))
    (key, ecdsa (Dev.aliasKey f d) key)

/-- What a flit carries of a payload: ciphertext and tag under the key of its direction, with the direction bit and the flit's counter as nonce. The counters are
`HostSide.flitsIn` and `Dev.flitsOut`; a flit sent again after a CRC or tag failure keeps its own. -/
def Dev.kclFlit (d : Dev) (back : Bool) (counter : Nat) (payload : List Byte) : Option (List Byte × List Byte) :=
  d.kclKeys.map fun k => gcm (slice k (if back then 32 else 0) 32) (natBe 12 ((if back then 2 ^ 64 else 0) + counter)) [] payload

/-- The device key and the key of a context's slot, each a draw of its own (R201, R431); none once it is destroyed (R202). -/
def Sec.deviceXts (s : Sec) : Option (List Byte) := s.deviceKey.map fun n => slice (Config.memoryKey (2 * n)) 0 64
def Sec.slotXts (s : Sec) (ctx : Nat) : Option (List Byte) := (tblFind s.slots ctx).map fun n => slice (Config.memoryKey (2 * n + 1)) 0 64

/-- The key of an HBM address: that of the slot of the context that owns its region, else the device key. -/
def Dev.hbmKey (d : Dev) (a : Nat) : Option (List Byte) :=
  match d.regionAt a with
  | some r => if r.owner = 0xFF then d.sec.deviceXts else d.sec.slotXts r.owner
  | none => d.sec.deviceXts

/-- What the HBM interface carries of the line that holds an address: its 64 bytes enciphered with the line's local address bits [47:6] as the
tweak (R201); none where its key is destroyed. -/
def Dev.hbmCipher (d : Dev) (a : Nat) : Option (List Byte) :=
  (d.hbmKey a).map fun k => xtsLine k (field a 47 6) (d.read (a / 64 * 64) 64)

end Sys2Proof.Machine
end

