-- ==== Sys2Proof/Safety.lean ====
section
/-! DEFINITION. The terms in which the statements speak: invariants, and when a command has its own effect. -/

namespace Sys2Proof.Machine

/-! ### Invariants -/

/-- Memory is in its canonical form. -/
def State.MemOk (s : State) : Prop := memWf s.dev.mem = true

/-- The fuses make sense (R448, R435, R445): a life-cycle state of R448, positions within their numbers, an owner's key only in OWNED, and no
unique device secret in RETIRED. -/
def Fuses.Sound (f : Fuses) : Prop :=
  f.lcState ≤ 4 ∧ f.left ≤ 128 ∧ f.floor ≤ 255 ∧ (f.lcState ≠ 2 → f.ownerKey = [] ∧ f.digest = []) ∧ (f.lcState = 4 → f.uds = false)

/-- What may become of the fuses in one step (R435, R450, R452): nothing, a higher rollback floor alone, or one permitted transition that
burns one position and leaves the floor. -/
def Fuses.Step (f g : Fuses) : Prop :=
  g = f ∨ (f.floor < g.floor ∧ g = { f with floor := g.floor }) ∨
    (lcPair f.lcState g.lcState = true ∧ 0 < f.left ∧ g.left = f.left - 1 ∧ g.floor = f.floor)

/-! ### Orders -/

/-- The state with another device. -/
def State.withDev (s : State) (d : Dev) : State := { s with dev := d }

/-- Core `c` may run, waits for nothing, and finds order `w` at the place of its list (R156, R158). -/
structure OrderAt (s : State) (c : CoreRef) (w : Waiting) : Prop where
  core : c.exists = true
  run : s.dev.mayRun c = true
  free : (s.dev.core c).wait = none
  going : s.dev.stopping c = false
  order : s.dev.fetch c = .order w

/-- The device after an order that has issued whole: it has begun (R158), and nothing waits at its sequencer. -/
def Dev.issued (d : Dev) (t : OrderTag) : Dev := (d.begin t).modCore t.core fun x => { x with wait := none }

/-- The device after an order that has begun and now waits as `w`. -/
def Dev.holding (d : Dev) (t : OrderTag) (w : Waiting) : Dev := (d.begin t).modCore t.core fun x => { x with wait := some w }

/-! ### Manifest requests -/

/-- The device once a request's connection stands (R464). -/
def State.opened (s : State) (q : ManifestReq) : Dev := s.dev.openConn q.kcl q.eid

/-- A request belongs to a row, its transport answers, its connection finds room, and the checks of R469 that every object shares end with
code `code`, RETRY_AFTER `wait` and object `r`. -/
structure Checked (s : State) (q : ManifestReq) (row : ManifestRow) (code wait : Nat) (r : ObjRow) : Prop where
  row : s.dev.rowOf q = row
  iana : q.ianaOk = true
  answers : s.dev.answers q = true
  room : s.dev.noRoom q.kcl q.eid = false
  first : s.dev.behindSlow q = false
  checks : Dev.check s.fuses (s.opened q) q = (code, wait, r)

/-- A request passes every shared check. -/
abbrev Passes (s : State) (q : ManifestReq) (row : ManifestRow) (r : ObjRow) : Prop := ∃ wait, Checked s q row rcOK wait r

/-- A device after it has answered OK (R467). -/
def Dev.replied (d : Dev) (q : ManifestReq) (data : List Byte := []) : Dev := d.sendReply q rcOK 0 0 data

/-- A device after it has refused with a code. -/
def Dev.refuses (d : Dev) (q : ManifestReq) (code : Nat) (wait : Nat := 0) : Dev := d.sendReply q code 0 wait []

/-! ### Other messages -/

/-- An MCTP control request of one command with at least `n` bytes of data, where the endpoint answers (R461). -/
structure ControlAsked (d : Dev) (m : MctpMsg) (cmd n : Nat) : Prop where
  up : d.mctpTakes m = true
  asks : msgAsks m = true
  cmd : msgByte m 1 = cmd
  long : 2 + n ≤ m.data.length

/-- What a control request is answered with. -/
def Dev.controlReply (d : Dev) (m : MctpMsg) (cmd code : Nat) (data : List Byte) : Dev :=
  d.send (.mctp m.kcl m.eid ([byteOf (msgByte m 0 % 32), byteOf cmd, byteOf code] ++ data))

/-- A PLDM request of one type and command with at least `n` bytes of data, where the endpoint answers (R465). -/
structure PldmAsked (d : Dev) (m : MctpMsg) (typ cmd n : Nat) : Prop where
  up : d.mctpTakes m = true
  runs : d.pwr.offKind = 0 ∨ d.pwr.offKind = 2
  asks : msgAsks m = true
  typ : msgByte m 1 % 64 = typ
  cmd : msgByte m 2 = cmd
  long : 3 + n ≤ m.data.length

/-- What a PLDM request is answered with. -/
def Dev.pldmReply (d : Dev) (m : MctpMsg) (cmd code : Nat) (data : List Byte) : Dev :=
  d.send (.pldm m.kcl m.eid ([byteOf (msgByte m 0 % 32), byteOf (msgByte m 1), byteOf cmd, byteOf code] ++ data))

/-- An SPDM request in its turn, of version 1.3, where SEC runs (R436). -/
structure SpdmAsked (d : Dev) (m : MctpMsg) (code need : Nat) : Prop where
  up : d.mctpTakes m = true
  long : 4 ≤ m.data.length
  code : msgByte m 1 = code
  runs : d.pwr.offKind = 0
  sec : d.restarting 0 = false
  version : msgByte m 0 = 0x13
  turn : need ≤ tblGet 0 (d.bump 0x6000 0x14 1).sec.spdm (msgFrom m)

/-- An SPDM answer, with how far the connection has come after it. -/
def Dev.spdmReply (d : Dev) (m : MctpMsg) (next code : Nat) (data : List Byte) : Dev :=
  ({ d with sec := { d.sec with spdm := tblSet d.sec.spdm (msgFrom m) (max next (tblGet 0 d.sec.spdm (msgFrom m))) } } : Dev).send
    (.spdm m.kcl m.eid ([byteOf 0x13, byteOf code] ++ data))

/-! ### The companion -/

/-- The companion's requests are served at once (R189, R193): the link is up, the module at READY and awake, no request waits, and the module is
not in safe state (R407). -/
structure LinkServes (d : Dev) : Prop where
  up : d.host.linkUp = true
  ready : d.obj 0x2000 0x28 = 8
  awake : d.pwr.offKind = 0
  trained : d.host.retraining = false
  first : d.host.held = []
  sound : d.safe = false

/-- The service request at the head of the queue may start, is well-formed, and touches no line the companion owns (R376). -/
structure ServiceAt (d : Dev) (w : Nat) : Prop where
  head : d.svcRequest = some w
  reserved : svReserved w = true
  ctx : svCtx w < 64
  free : ((d.svcReads w).any fun r => d.ownedIn r.1 r.2) = false

/-- Nothing holds back what the request writes here: no line the companion owns, no pins (R98, R191). -/
def Dev.writesFree (d : Dev) (ws : List (Nat × Nat)) : Prop := (ws.any fun r => d.ownedIn r.1 r.2) = false ∧ (ws.any fun r => d.pinned r.1 r.2) = false

/-- The device once the request at the head of the service queue is taken. -/
def Dev.serviceTaken (d : Dev) : Dev := d.leaveIdle.setObj 0xC000 5 ((d.svcHead + 1) % 2 ^ 32)

/-! ### Dockets -/

/-- The device once the docket at a ring's head is taken (R347, R353). -/
def Dev.docketTaken (d : Dev) (c w : Nat) : Dev := d.leaveIdle.modCtx c fun x => x.takeHead w

/-- SCH may start docket `w` of one kind at a ring's head, and its context takes it (R347, R349, R363). -/
structure DocketAt (d : Dev) (c w kind : Nat) : Prop where
  exists_ : c < 64
  head : d.headDocket c = some w
  named : dkKind w = kind
  sch : d.schReady = true
  sought : (d.ctx c).seekStart = false
  clean : (d.docketTaken c w).poisonIn (d.headAt c) 64 = false
  formed : dkMalformed w = false
  accepted : dkAccepts kind ((d.docketTaken c w).ctx c).state = true

/-! ### Gezal packets -/

/-- A packet for this module passes the checks of a frame and finds its session, `x` (R242, R248, R251, R271): its port has counted it. -/
structure PacketFor (d : Dev) (p : Packet) (x : Session) : Prop where
  here : p.dst = d.rank
  runs : d.pwr.offKind = 0
  room : d.takesIn p = true
  header : (d.rxFrame p.port).headerFine p = true
  carried : (d.rxFrame p.port).carries p = true
  sound : p.typ = 0 → (d.rxFrame p.port).safe = false
  session : (d.rxFrame p.port).session p.session = some x
  taken : x.takes p = true
  sealed : p.enc = true
  tag : x.opens p = true
  peer : x.peer = p.src
  epoch : x.epochOk p = true

/-- A class of a session once the packet that came next in it is accepted; `left` is what of it still waits to be applied (R252, R253). -/
def RxClass.took (r : RxClass) (p : Packet) (time : Nat) (left : List Packet) : RxClass :=
  { r with ce := r.ce || p.ce, ackSince := some (r.ackSince.getD time), next := (r.next + 1) % 2 ^ 32, held := [], promised := r.promised - 1, stalled := left,
           fresh := r.fresh + 1, gapSince := none }

/-- The session with that class. -/
def Session.took (x : Session) (p : Packet) (time : Nat) (left : List Packet) : Session :=
  { x with rx := tblSet x.rx p.cls ((x.rxc p.cls).took p time left) }

/-- A DATA packet of session `x` comes next in its class, in which nothing is held or waits: `d` is the device that has accepted it, and `y` the session as it is
applied (R252). -/
structure DataNext (s : State) (p : Packet) (x : Session) (d : Dev) (y : Session) : Prop where
  port : p.port < 20
  half : p.half < 2
  data : p.typ = 0
  comes : PacketFor s.dev p x
  next : psnAfter p.psn (x.rxc p.cls).next = 0
  held : (x.rxc p.cls).held = []
  waits : (x.rxc p.cls).stalled = []
  device : d = (s.dev.rxFrame p.port).leaveIdle.setSession p.session (x.took p s.dev.time [p])
  session : y = x.took p s.dev.time []

/-- What follows once a packet has been applied: it waits no longer, its class is acknowledged after 16 packets, and what waits elsewhere is tried again (R253, R255). -/
def Dev.dataDone (d : Dev) (p : Packet) : Dev :=
  let d := match d.session p.session with
    | none => d
    | some z =>
      let z := if (z.rxc p.cls).stalled = [p] then { z with rx := tblSet z.rx p.cls { z.rxc p.cls with stalled := [] } } else z
      Dev.drainRx p.session p.cls 1 (d.setSession p.session z)
  (match d.session p.session with | some z => if 16 ≤ (z.rxc p.cls).fresh then d.sendAck p.session p.cls else d | none => d).retry

/-- A SESSION packet of one handshake message for this module passes the checks of its frame, and with it the message is whole: the device is `e`
then (R248, R439). -/
structure HandshakeFor (d : Dev) (p : Packet) (msg : Nat) (e : Dev) : Prop where
  port : p.port < 20
  half : p.half < 2
  typ : p.typ = 4
  named : hsMsg p = msg
  here : p.dst = d.rank
  frame : (d.bump (0x3010 + p.port) 0x10 1).handshakeFrame p = true
  whole : (d.bump (0x3010 + p.port) 0x10 1).notePart p = (e, true)

/-! ### Numbers -/

/-- How far two finite values lie apart: the magnitude of their exact difference, as m × 2^e. -/
def Val.apart (a b : Val) : Nat × Int := match a.sub b with | .fin _ m e => (m, e) | _ => (0, 0)

/-- `y` lies no farther from `x` than `z` does. -/
def Val.noFarther (x y z : Val) : Prop := magLe (x.apart y).1 (x.apart y).2 (x.apart z).1 (x.apart z).2 = true

/-- A row of a tile fed with pass after pass, each an activation row and its columns of weights. -/
def TileRow.feedAll (isInt : Bool) (r : TileRow) (ps : List (List Val × List (List Val))) : TileRow :=
  ps.foldl (fun r p => r.feed isInt p.1 p.2) r

/-- A row that no overflow has stopped or saturated (R94, R100). -/
def TileRow.whole (r : TileRow) : Bool := !r.abandoned && !r.accSat

/-- The exact products of a column as signed counts of 2^e0, all exponents being at least e0. -/
def exactSum (e0 : Int) (ps : List (Bool × Nat × Int)) : Int := (ps.map fun p => smant p.1 (p.2.1 * pow2 (p.2.2 - e0))).sum

/-- The same products as R88 cuts them to the grid 2^g. -/
def gridSum (g : Int) (ps : List (Bool × Nat × Int)) : Int :=
  (ps.map fun p => match gridProduct g (.fin p.1 p.2.1 p.2.2) with | .fin a => a | _ => 0).sum

/-- How many of the products are not multiples of 2^g. -/
def offGrid (g : Int) (ps : List (Bool × Nat × Int)) : Nat :=
  (ps.filter fun p => decide (p.2.2 < g) && p.2.1 % pow2 (g - p.2.2) != 0).length

end Sys2Proof.Machine
end

