-- ==== Sys2Proof/Certificates/Slice0/Obligations.lean ====
section
/-! DEFINITION. The statements for the provers. -/

open Sys2Proof Sys2Proof.Machine

/-- When commands wait, a step takes the front one and is exactly exec of it on the state whose queue is the rest. The queue is the model's own (log entry 1). (00_scope) -/
def Obligations.StepRunsFront : Prop :=
  ∀ (s : State) (i : Instr) (rest : List Instr), s.pending = i :: rest → step s = exec i { s with pending := rest }

/-- When a core may run and its next order is a well-formed WLOAD, PASS (plain, RING, FOLLOW or ACCRETE), PAIRPASS or DRAIN whose operands stand open, the order completes its turn: a WLOAD puts the named arrays' bytes into the shadow sets (the pair form also W_H into the active sets) and is under way until WLOAD_COMPLETE; a PASS or PAIRPASS issues its rows into the current bank, an accreting PASS takes the rows of its window from its ring and counts the window; a DRAIN flips the bank and queues its reading. (R69, R70, R73, R81, R102, R140, R141, R142, R143, R158) -/
def Obligations.ArithmeticOrdersIssue : Prop :=
  (∀ s c w, OrderAt s c w → isOp 0x01 w.word = true → wlOk w.word = true →
    s.dev.gate w.tag ((wlArrays w.word).map (fun a => (wlBase w.word a, weightSetSize (field w.word 91 88))) ++
      (if bit w.word 8 then (wlArrays w.word).map fun a => (wlBase2 w.word a, weightSetSize (field w.word 91 88)) else [])) [] = .go false →
    ∃ d, exec (.wload c) s = .next (s.withDev (d.issued w.tag)) ∧
      d = s.dev.modCore w.tag.core (fun x =>
        { (wlArrays w.word).foldl (fun x a =>
            if bit w.word 8 then
              { x with shadow := tblSet x.shadow a (s.dev.loadSet w.tag.core (field w.word 91 88) (wlBase2 w.word a)),
                       active := tblSet x.active a (s.dev.loadSet w.tag.core (field w.word 91 88) (wlBase w.word a)) }
            else { x with shadow := tblSet x.shadow a (s.dev.loadSet w.tag.core (field w.word 91 88) (wlBase w.word a)) }) x with
          loads := x.loads ++ [⟨w.tag, bit w.word 8⟩] })) ∧
  (∀ s c w r, OrderAt s c w → isOp 0x02 w.word = true → passBitsOk false w.word = true → psAccrete w.word = false →
    (s.dev.core w.tag.core).passWaits false (psSwap w.word) = false → s.dev.passRows w.tag w.word = some r →
    passFits ((s.dev.core w.tag.core).swapped (psSwap w.word)) false w.word r.offs.length = true →
    s.dev.gate w.tag (r.offs.map fun o => (o, actRowSize (field w.word 83 80))) [] = .go false → s.dev.quiet w.tag.core = false → (s.dev.core w.tag.core).wakeAt ≤ s.dev.time →
    exec (.pass c) s = .next (s.withDev ((s.dev.issuePass w false r).issued w.tag))) ∧
  (∀ s c w v n late r, OrderAt s c w → isOp 0x02 w.word = true → passBitsOk false w.word = true → psAccrete w.word = true →
    (s.dev.core w.tag.core).passWaits false (psSwap w.word) = false → s.dev.passConv w.tag w.word = some v → v.windowRows s.dev.time = some (n, late) →
    (s.dev.setConv w.tag.ctx (sync w.word) (s.dev.takeBatch w.tag.core v n)).passRows w.tag w.word = some r →
    passFits ((s.dev.core w.tag.core).swapped (psSwap w.word)) false w.word r.offs.length = true →
    s.dev.gate w.tag (r.offs.map fun o => (o, actRowSize (field w.word 83 80))) [] = .go false → s.dev.quiet w.tag.core = false → (s.dev.core w.tag.core).wakeAt ≤ s.dev.time →
    exec (.pass c) s = .next (s.withDev (((((s.dev.setConv w.tag.ctx (sync w.word) (s.dev.takeBatch w.tag.core v n)).bump (s.dev.coreIdx 0x1200 w.tag.core) 0x0A 1).bump
      (s.dev.coreIdx 0x1200 w.tag.core) 0x0B (if late then 1 else 0)).issuePass w false r).issued w.tag))) ∧
  (∀ s c w r, OrderAt s c w → isOp 0x04 w.word = true → passBitsOk true w.word = true →
    (s.dev.core w.tag.core).passWaits true (psSwap w.word) = false → s.dev.passRows w.tag w.word = some r →
    passFits ((s.dev.core w.tag.core).swapped (psSwap w.word)) true w.word r.offs.length = true →
    s.dev.gate w.tag ((r.offs ++ (List.range (field w.word 79 72)).map fun m => field w.word 143 120 + m * field w.word 71 56).map
      fun o => (o, actRowSize (field w.word 83 80))) [] = .go false → s.dev.quiet w.tag.core = false → (s.dev.core w.tag.core).wakeAt ≤ s.dev.time →
    exec (.pairpass c) s = .next (s.withDev ((s.dev.issuePass w true r).issued w.tag))) ∧
  (∀ s c w t, OrderAt s c w → isOp 0x03 w.word = true → ((s.dev.core w.tag.core).drains.any fun j => j.bank == (s.dev.core w.tag.core).cur) = false →
    (s.dev.core w.tag.core).bank (s.dev.core w.tag.core).cur = some t → drainOk w.word t.rows.length = true → s.dev.drainConvOk w.tag w.word = true →
    s.dev.epiAgrees w.tag.core w.word t = true → (t.batch.isSome && (drCvt w.word).fmt == cW64) = false →
    exec (.drain c) s = .next (s.withDev ((s.dev.modCore w.tag.core fun x =>
      { x with cur := !x.cur,
               drains := x.drains ++ [{ tag := w.tag, word := w.word, bank := x.cur, srSeed := s.dev.obj (0x7300 + w.tag.ctx) 8,
                                        srCounter := s.dev.obj (0x7300 + w.tag.ctx) 9 }] }).issued w.tag))) ∧
  (∀ s c w, OrderAt s c w → isOp 0x03 w.word = true → (s.dev.core w.tag.core).bank (s.dev.core w.tag.core).cur = none →
    drainOk w.word 0 = true → s.dev.drainConvOk w.tag w.word = true →
    exec (.drain c) s = .next (s.withDev ((s.dev.modCore w.tag.core fun x =>
      { x with cur := !x.cur,
               drains := x.drains ++ [{ tag := w.tag, word := w.word, bank := x.cur, srSeed := s.dev.obj (0x7300 + w.tag.ctx) 8,
                                        srCounter := s.dev.obj (0x7300 + w.tag.ctx) 9 }] }).issued w.tag)))

/-- When a core's next order is a well-formed VEC or VREDUCE whose operands stand open and are not poisoned, it writes its result at DST (L of an E4M3 pair at operand b), adds its counts to the context's range and non-finite counters, counts its elements or lines, and is done. W64ADD writes the combined tile with its header and counts a grid mismatch; a WSUM is done by its own operation. (R111, R118, R123, R145, R146, R147, R158) -/
def Obligations.VectorOrdersWriteTheirResults : Prop :=
  (∀ s c w, OrderAt s c w → isOp 0x10 w.word = true → vecOk w.word = true → vOp w.word ≠ 0x2B →
    (vOfW64 w.word = true → headerOk (leNat (s.dev.read (holdAt w.tag.core (formAddr (field w.word 127 100))) 32)) = true) →
    s.dev.gate w.tag ((vecReadSpans w.word).map spanNat) ((vecWriteSpans w.word).map spanNat) = .go false →
    ∃ d1 d2 d3 d4, d1 = s.dev.placeAt w.tag.core (vDst w.word) (vCvt w.word).fmt (s.dev.vecResult w.tag w.word).1 false ∧
      d2 = (if (vCvt w.word).fmt = cPair43 then d1.write (holdAt w.tag.core (formAddr (field w.word 155 128))) (s.dev.vecResult w.tag w.word).2.1 false else d1) ∧
      d3 = d2.count w.tag.ctx (s.dev.vecResult w.tag w.word).2.2 ∧ d4 = d3.bump (d2.coreIdx 0x1300 w.tag.core) 1 (vN w.word) ∧
      exec (.vec c) s = .next (s.withDev ((if 0x30 ≤ vOp w.word then d4.bump (d4.coreIdx 0x1300 w.tag.core) 2 (vN w.word) else d4).issued w.tag))) ∧
  (∀ s c w a b, OrderAt s c w → isOp 0x10 w.word = true → vecOk w.word = true → vOp w.word = 0x2B →
    s.dev.gate w.tag ((vecReadSpans w.word).map spanNat) ((vecWriteSpans w.word).map spanNat) = .go false →
    s.dev.tileAt w.tag.core (formAddr (field w.word 127 100)) (vN w.word) = a → s.dev.tileAt w.tag.core (formAddr (field w.word 155 128)) (vN w.word) = b →
    headerOk a.1 = true → headerOk b.1 = true → a.2.h.agrees b.2.h = true →
    ∃ d1, d1 = ((s.dev.write (holdAt w.tag.core (formAddr (vDst w.word))) ((a.2.combine b.2).1.h.bytes ++ entBytes (a.2.combine b.2).1.es) false).count
        w.tag.ctx ((nonfiniteCounts (a.2.combine b.2).1.es).add { finiteSat := (a.2.combine b.2).2 })).bump (0x7400 + w.tag.ctx) 4 (b2n (a.2.h.g != b.2.h.g)) ∧
      exec (.vec c) s = .next (s.withDev ((d1.bump (d1.coreIdx 0x1300 w.tag.core) 1 (vN w.word)).issued w.tag))) ∧
  (∀ s c w, OrderAt s c w → isOp 0x11 w.word = true → vreduceOk w.word = true → vrRop w.word ≠ 2 →
    s.dev.gate w.tag [spanNat (vrReadSpan w.word)] [spanNat (vrWriteSpan w.word 0 0)] = .go false →
    ∃ d1, d1 = s.dev.write (holdAt w.tag.core (vrDst w.word)) (s.dev.reduceResult w.tag w.word).1 false ∧
      exec (.vreduce c) s = .next (s.withDev (((d1.count w.tag.ctx (s.dev.reduceResult w.tag w.word).2).bump (d1.coreIdx 0x1300 w.tag.core) 3
        (vrLines w.word)).issued w.tag))) ∧
  (∀ s c w d, OrderAt s c w → isOp 0x11 w.word = true → vreduceOk w.word = true → vrRop w.word = 2 →
    s.dev.gate w.tag [spanNat (vrReadSpan w.word)] [] = .go false → s.dev.wsum w false = .done d →
    exec (.vreduce c) s = .next (s.withDev (d.issued w.tag)))

/-- A TUG whose descriptor stands readable queues its 64 bytes on the tug it picks while fewer than 32 places are taken. A CONVEY_PUT with credits sends all its messages. A take marks COUNT further messages taken, once that many are visible; a RELEASE frees the oldest taken messages and returns their credits; a COPY takes messages, copies their slots whole into the hold and frees them, at a quay ring when its turn among the waiting ones has come. (R128, R148, R149, R150, R158, R166, R169) -/
def Obligations.TugAndConveyorOrdersIssue : Prop :=
  (∀ s c w p, OrderAt s c w → isOp 0x20 w.word = true → s.dev.tugPlace w.tag.core w.word = some p →
    s.dev.tugGate w.tag (tugDesc w.word) p = .go false →
    (s.dev.tugQ w.tag.core.cl (s.dev.pickTug w.tag.core.cl (field w.word 10 8))).length < 32 →
    exec (.tug c) s = .next (s.withDev ((s.dev.setTugQ w.tag.core.cl (s.dev.pickTug w.tag.core.cl (field w.word 10 8))
      (s.dev.tugQ w.tag.core.cl (s.dev.pickTug w.tag.core.cl (field w.word 10 8)) ++ [{ tag := w.tag, desc := leNat (s.dev.read (tugDesc w.word) 64) }])).issued w.tag))) ∧
  (∀ s c w v b r, OrderAt s c w → isOp 0x21 w.word = true → s.dev.putConv w.tag w.word = some v →
    s.dev.gate w.tag [(putSrc w.word 0, (putCount w.word - 1) * field w.word 127 104 + putLen w.word)] [] = .go b →
    Dev.putGo w.tag w.word (putCount w.word - w.done) w.done s.dev = (r, putCount w.word) →
    exec (.conveyPut c) s = .next (s.withDev (r.issued w.tag))) ∧
  (∀ s c w v, OrderAt s c w → selTake w.word = true → s.dev.getConv w.tag w.word = some v → getCount w.word ≤ v.visible - v.taken →
    exec (.conveyGetTake c) s = .next (s.withDev ((s.dev.setConv w.tag.ctx (sync w.word)
      { v with taken := v.taken + getCount w.word, lastTake := getCount w.word, takeAt := v.taken, window := s.dev.windowAfter v (getCount w.word) }).issued w.tag))) ∧
  (∀ s c w v, OrderAt s c w → selRelease w.word = true → s.dev.getConv w.tag w.word = some v →
    exec (.conveyGetRelease c) s = .next (s.withDev ((s.dev.freeSlots w.tag.ctx (sync w.word) v (getCount w.word)).issued w.tag))) ∧
  (∀ s c w v b q d, OrderAt s c w → selCopy w.word = true → s.dev.getConv w.tag w.word = some v → getCount w.word ≤ v.visible - v.taken →
    q = (if v.quay then s.dev.getQueue w.tag.ctx (sync w.word) v w.tag.core else []) → (q.drop 1).contains w.tag.core = false →
    d = s.dev.setConv w.tag.ctx (sync w.word) { v with getters := q } →
    (((List.range (getCount w.word)).map fun i => v.slotAt (v.taken + i)).any fun a => d.ownedIn a v.slot) = false →
    d.gate w.tag [] [(field w.word 71 48, (getCount w.word - 1) * field w.word 87 72 + v.slot)] = .go b →
    exec (.conveyGetCopy c) s = .next (s.withDev ((((List.range (getCount w.word)).foldl (fun d i => d.copySlot w.tag.core w.word v i) d).freeSlots w.tag.ctx
      (sync w.word) { d.takeMsgs v (getCount w.word) with getters := q.drop 1 } (getCount w.word)).issued w.tag)))

/-- An ARRIVE whose earlier work is done sends its weighted arrival. A WAIT whose target generation has completed reports OK with that generation, and else joins the waiter set; its target is the generation of the core's latest arrival there, else the one in progress at the home. An ARRIVE_WAIT sends its arrival and then waits. A FENCE is done when every earlier order, message and descriptor is. HINT announces a phase and HINT with END withdraws it; both are counted. (R151, R152, R155, R158, R214, R217, R389) -/
def Obligations.BarrierOrdersArriveAndWait : Prop :=
  (∀ s c w, OrderAt s c w → isOp 0x30 w.word = true → s.dev.arriveOk w = true → waitTimeoutNs w.word = 0 → s.dev.settled w.tag = true → s.dev.arrivalRoom w.tag.ctx (sync w.word) clReq = true →
    exec (.arrive c) s = .next (s.withDev ((s.dev.sendArrival w.tag (sync w.word) (waitWeight w.word) 0 none).issued w.tag))) ∧
  (∀ s c w b g, OrderAt s c w → isOp 0x31 w.word = true → s.dev.bar w.tag.ctx (sync w.word) = some b → onlyFields w.word barFields = true → waitWeight w.word = 0 →
    sync w.word < 1024 → w.target = none → w.phase = 0 → b.poisoned = false → tblGet [] (s.dev.core w.tag.core).acksDue (sync w.word) = [] →
    (tblFind (s.dev.core w.tag.core).joined (sync w.word) = some g ∨
      (tblFind (s.dev.core w.tag.core).joined (sync w.word) = none ∧ g = b.gen ∧ (b.fast = true ∨ b.home = (s.dev.ctx w.tag.ctx).gangRank))) → b.holds g = false →
    (genDone g b.gen = true → w.late s.dev.time = false → exec (.wait c) s = .next (s.withDev ((s.dev.report w.tag stOK g 0).issued w.tag))) ∧
    (genDone g b.gen = false → exec (.wait c) s = .next (s.withDev (((s.dev.setBar w.tag.ctx (sync w.word)
      { b with waiters := (b.waiters.filter fun v => v.who != s.dev.here w.tag.ctx w.tag.core) ++ [⟨s.dev.here w.tag.ctx w.tag.core, g⟩] }).tellWait w.tag (sync w.word) 6 g).holding
        w.tag { w with target := some g, phase := 2 })))) ∧
  (∀ s c w, OrderAt s c w → isOp 0x32 w.word = true → s.dev.arriveOk w = true → w.target = none → w.phase = 0 → s.dev.settled w.tag = true → s.dev.arrivalRoom w.tag.ctx (sync w.word) clReq = true →
    exec (.arriveWait c) s = .next (s.withDev ((s.dev.sendArrival w.tag (sync w.word) (waitWeight w.word) 0 none).holding w.tag
      { w with phase := 1, start := s.dev.time }))) ∧
  (∀ s c w, OrderAt s c w → isOp 0x7F w.word = true → onlyFields w.word common = true → sync w.word = 0xFFFF → s.dev.fenced w.tag = true →
    exec (.fence c) s = .next (s.withDev (s.dev.issued w.tag))) ∧
  (∀ s c w, OrderAt s c w → selHint w.word = true → hintOk w.word = true →
    exec (.hint c) s = .next (s.withDev (((s.dev.modCore w.tag.core fun x =>
      { x with hint := some ⟨s.dev.time, field w.word 63 40, field w.word 95 64, field w.word 35 32⟩ }).bump (s.dev.coreIdx 0x1400 w.tag.core) 5 1).issued w.tag))) ∧
  (∀ s c w, OrderAt s c w → selHintEnd w.word = true → hintOk w.word = true →
    exec (.hintEnd c) s = .next (s.withDev (((s.dev.modCore w.tag.core fun x => { x with hint := none }).bump (s.dev.coreIdx 0x1400 w.tag.core) 5 1).issued w.tag)))

/-- A fenced COMMIT whose mirrored sets are in sync sends its vote, which carries NONFINITE_FLAG, and waits for the outcome. A SNAPSHOT whose core's orders are done and whose set has none in flight starts copying the committed bank. A COLLECT of each of the six kinds, with fewer than four of its group in flight, takes the group's next number and joins the group's flights with the fragments that came early. (R153, R154, R158, R284, R287, R293, R313, R316, R324, R330) -/
def Obligations.TrainingAndCollectiveOrdersIssue : Prop :=
  (∀ s c w, OrderAt s c w → isOp 0x50 w.word = true → s.dev.commitOk w.tag w.word = true → w.phase = 0 → s.dev.fenced w.tag = true → s.dev.mirrorSynced w.tag.ctx = true → s.dev.arrivalRoom w.tag.ctx (sync w.word) clCtl = true →
    exec (.commit c) s = .next (s.withDev ((s.dev.sendArrival w.tag (sync w.word) 1 4
      (some (commitMask w.word, s.dev.obj (0xA100 + w.tag.ctx) 3 == 1))).holding w.tag { w with phase := 2, start := s.dev.time }))) ∧
  (∀ s c w (x : StateSet), OrderAt s c w → isOp 0x51 w.word = true → snapSet w.word ≤ 15 → s.dev.sset w.tag.ctx (snapSet w.word) = some x → onlyFields w.word snapFields = true →
    (sync w.word = 0xFFFF ∨ s.dev.ownsBarrier w.tag.ctx (sync w.word) = true) → s.dev.ordersDone w.tag.core w.tag.stamp = true → s.dev.snapBusy w.tag.ctx (snapSet w.word) = false →
    exec (.snapshot c) s = .next (s.withDev (({ s.dev with cmp := { s.dev.cmp with snaps := s.dev.cmp.snaps ++
      [({ ctx := w.tag.ctx, set_ := snapSet w.word, bank := x.snapBank, dst := field w.word 115 64, abandon := bit w.word 8, bar := sync w.word, tag := some w.tag } : Snap)] } } : Dev).issued
        w.tag))) ∧
  (∀ s c w (g : Group) k, OrderAt s c w → selCollect k w.word = true → s.dev.clOk w.tag w.word = some g → g.flights.length < 4 →
    ∃ t, t = s.withDev ((s.dev.setGroup w.tag.ctx (clGroup w.word)
        { g with next := (g.next + 1) % 2 ^ 16,
                 flights := g.flights ++ [({ tag := w.tag, seq := g.next, word := w.word, frags := (g.early.filter fun e => e.1 == g.next).map Prod.snd } : Coll)],
                 early := g.early.filter fun e => e.1 != g.next }).issued w.tag) ∧
      (k = 0 → exec (.collAllReduce c) s = .next t) ∧ (k = 1 → exec (.collReduce c) s = .next t) ∧ (k = 2 → exec (.collBroadcast c) s = .next t) ∧
      (k = 3 → exec (.collAllGather c) s = .next t) ∧ (k = 4 → exec (.collReduceScatter c) s = .next t) ∧ (k = 5 → exec (.collAllToAll c) s = .next t))

/-- TILE_REPLAY replays the abandoned tiles of a core, bank 0 first: each is cleared, raised by 8 and replayed from its tally, and the context's replay counters and the device's grow. ACC_WAIT_EXPIRY issues an accreting PASS whose window now gives rows. WLOAD_COMPLETE ends the oldest load. DRAIN_READ of an empty bank reports 0 rows and writes nothing; of a tile with a hold destination it writes header and rows and empties the bank; under CONVEY it sends the rows while credits last. Waiting orders then get their turn. (R70, R81, R95, R96, R102, R103, R104, R106, R107, R144) -/
def Obligations.ArrayEventsHappen : Prop :=
  (∀ s c, c.exists = true → s.dev.safe = false → (s.dev.core c).replayPending = true →
    exec (.tileReplay c) s = .next (s.withDev (((s.dev.replayBank c false).replayBank c true).retryCore c))) ∧
  (∀ d c b t ctx, (Dev.core d c).bank b = some t → (d.core c).armed = some ctx → t.replayPending = true → d.tallyPoisoned c t = false →
    ∃ n d1, n = (if t.batch.isSome then (t.rows.filter TileRow.abandoned).length else 1) ∧
      d1 = ((((d.modCore c fun x => x.setBank b (some (d.replayTile c t))).bump (0x7400 + ctx) 1 n).bump (0x7400 + ctx) 2 (n * t.tally.length)).bump 0xB000 7 n) ∧
      d.replayBank c b = d1.noteSat ⟨c, ctx, 0, 0, 0, 0, (d.core c).stamp⟩ t (d.replayTile c t)) ∧
  (∀ s c w d, c.exists = true → (s.dev.core c).wait = some w → w.tag.op = 0x02 → psAccrete w.word = true → s.dev.mayRun c = true → runPass w s.dev = .done d →
    exec (.accWaitExpiry c) s = .next (s.withDev (d.modCore w.tag.core fun x => { x with wait := none }))) ∧
  (∀ s c, c.exists = true → s.dev.safe = false →
    exec (.wloadComplete c) s = .next (s.withDev ((s.dev.modCore c fun x => { x with loads := x.loads.drop 1 }).retryCore c))) ∧
  (∀ s c j js, c.exists = true → s.dev.safe = false → (s.dev.core c).stopped = false → (s.dev.core c).drains = j :: js → (s.dev.core c).bank j.bank = none →
    exec (.drainRead c) s = .next (s.withDev (((s.dev.modCore c fun x => { x with drains := x.drains.drop 1 }).report j.tag stOK emptyHeader.word 0).retry))) ∧
  (∀ s c j js t d, c.exists = true → s.dev.safe = false → (s.dev.core c).stopped = false → (s.dev.core c).drains = j :: js → (s.dev.core c).bank j.bank = some t →
    t.replayPending = false → d = s.dev.modCore c (fun x => x.setBank j.bank (some { t with tally := [] })) → d.epiAgrees c j.word t = true →
    (t.batch.isSome && (drCvt j.word).fmt == cW64) = false → drConvey j.word = false →
    ((drainWrites j.word t.rows.length t.batch.isSome).any fun p => d.pinned (holdAt c p.1) p.2) = false →
    ((drainReads j.word t.rows.length ++ drainWrites j.word t.rows.length t.batch.isSome).any fun p => d.ownedIn (holdAt c p.1) p.2) = false →
    ((drainReads j.word t.rows.length).any fun p => d.poisonIn (holdAt c p.1) p.2) = false →
    exec (.drainRead c) s = .next (s.withDev (((d.drainStore c j.word (d.drainOut c j t) t.tags false).drainEnd j t (d.drainOut c j t) false).retry))) ∧
  (∀ s c j js t d r, c.exists = true → s.dev.safe = false → (s.dev.core c).stopped = false → (s.dev.core c).drains = j :: js → (s.dev.core c).bank j.bank = some t →
    t.replayPending = false → d = s.dev.modCore c (fun x => x.setBank j.bank (some { t with tally := [] })) → d.epiAgrees c j.word t = true →
    (t.batch.isSome && (drCvt j.word).fmt == cW64) = false → drConvey j.word = true →
    ((drainWrites j.word t.rows.length t.batch.isSome).any fun p => d.pinned (holdAt c p.1) p.2) = false →
    ((drainReads j.word t.rows.length ++ drainWrites j.word t.rows.length t.batch.isSome).any fun p => d.ownedIn (holdAt c p.1) p.2) = false →
    ((drainReads j.word t.rows.length).any fun p => d.poisonIn (holdAt c p.1) p.2) = false →
    Dev.drainSend j.tag j.word (d.drainOut c j t).rows (t.rows.map TileRow.tag) false (t.rows.length - j.sent) j.sent d = (r, t.rows.length) →
    exec (.drainRead c) s = .next (s.withDev (((r.count j.tag.ctx ((d.drainOut c j t).between j.sent t.rows.length)).drainEnd j t
      { d.drainOut c j t with counts := Counts.zero } false).retry)))

/-- A tug descriptor between units of this module, to the companion or from it moves its runs and finishes with its byte count; where the companion refuses a run, those before it move and it ends with ADDRESS. The oldest message on its way is written into its slot with its header; one credit on its way reaches its producer. A snapshot of readable bytes to this module or the companion copies them and ends OK, or POISON where a line it moved is poisoned. A collective whose data is complete and accepted writes DST, counts, makes its arrival and reports. Waiting orders then get their turn. (R131, R134, R165, R166, R167, R188, R291, R293, R324) -/
def Obligations.DataMovementCompletes : Prop :=
  (∀ s cl tug pos ext i, cl < 8 → tug < 4 → (s.dev.tugQ cl tug)[pos]? = some i → s.dev.safe = false → s.dev.pwr.offKind = 0 → tugMayRun (s.dev.tugQ cl tug) pos = true →
    i.fetch = none → s.dev.tgMalformed i.tag.ctx i.desc = false → s.dev.tgHeld i.tag i.desc (s.dev.tgGood i.tag.ctx i.desc (tgRuns i.desc)).1 = none →
    (s.dev.tgGood i.tag.ctx i.desc (tgRuns i.desc)).2 = stOK →
    ((tgDstDev i.desc = s.dev.midOf i.tag.ctx → (tgFill i.desc = true ∨ tgSrcDev i.desc = s.dev.midOf i.tag.ctx) →
        ∃ x, x = s.dev.moveLocal i.desc (s.dev.tgGood i.tag.ctx i.desc (tgRuns i.desc)).1 ∧
          exec (.tugDescriptorComplete cl tug pos ext) s = .next (s.withDev ((x.1.tugFinish cl tug pos i
            ((s.dev.tgGood i.tag.ctx i.desc (tgRuns i.desc)).1.length * tgLen i.desc) (if x.2 then stPoison else stOK)).retry))) ∧
     (∀ k, tgDstDev i.desc = 15 → s.dev.midOf i.tag.ctx ≠ 15 → companionRefuses ext = some k → k < (s.dev.tgGood i.tag.ctx i.desc (tgRuns i.desc)).1.length →
        exec (.tugDescriptorComplete cl tug pos ext) s = .next (s.withDev (((s.dev.moveOut i.tag.ctx i.desc ((s.dev.tgGood i.tag.ctx i.desc (tgRuns i.desc)).1.take k)).1.tugFinish
          cl tug pos i (((s.dev.tgGood i.tag.ctx i.desc (tgRuns i.desc)).1.take k).length * tgLen i.desc) stAddress).retry))) ∧
     (tgDstDev i.desc = 15 → s.dev.midOf i.tag.ctx ≠ 15 → companionRefuses ext = none →
        ∃ x, x = s.dev.moveOut i.tag.ctx i.desc (s.dev.tgGood i.tag.ctx i.desc (tgRuns i.desc)).1 ∧
          exec (.tugDescriptorComplete cl tug pos ext) s = .next (s.withDev ((x.1.tugFinish cl tug pos i
            ((s.dev.tgGood i.tag.ctx i.desc (tgRuns i.desc)).1.length * tgLen i.desc) (if x.2 then stPoison else stOK)).retry))) ∧
     (tgDstDev i.desc = s.dev.midOf i.tag.ctx → tgFill i.desc = false → tgSrcDev i.desc = 15 → s.dev.midOf i.tag.ctx ≠ 15 → companionRefuses ext = none →
        ∃ x, x = s.dev.moveIn i.tag.ctx i.desc (s.dev.tgGood i.tag.ctx i.desc (tgRuns i.desc)).1 ext ∧
          exec (.tugDescriptorComplete cl tug pos ext) s = .next (s.withDev ((x.1.tugFinish cl tug pos i
            ((s.dev.tgGood i.tag.ctx i.desc (tgRuns i.desc)).1.length * tgLen i.desc) (if x.2 then stPoison else stOK)).retry))))) ∧
  (∀ s ctx n v m rest, ctx < 64 → n < 4096 → s.dev.conv ctx n = some v → v.flying = m :: rest → s.dev.pinned (v.slotAt m.seq) v.slot = false →
    s.dev.ownedIn (v.slotAt m.seq) v.slot = false →
    exec (.conveyMessageVisible ctx n) s = .next (s.withDev ((s.dev.leaveIdle.deliver ctx n { v with flying := rest } m.seq m.tag m.bytes m.poison).retry))) ∧
  (∀ s ctx n v, ctx < 64 → n < 4096 → s.dev.conv ctx n = some v → 0 < v.returning →
    exec (.creditReturn ctx n) s = .next (s.withDev ((s.dev.setConv ctx n { v with returning := v.returning - 1, credits := v.credits + 1 }).retry))) ∧
  (∀ s job ext sn size a, s.dev.cmp.snaps[job]? = some sn → s.dev.safe = false → s.dev.pwr.offKind = 0 →
    size = s.dev.snapSize sn → a = sn.dst % 2 ^ 48 → basinDev (sn.dst / 2 ^ 48) = true → a + size ≤ 2 ^ 48 →
    s.dev.access (.ctx sn.ctx) false sn.bank size = none → s.dev.ownedIn sn.bank size = false →
    ((sn.dst / 2 ^ 48 = s.dev.midOf sn.ctx → s.dev.access (.ctx sn.ctx) true a size = none → s.dev.pinned a size = false → s.dev.ownedIn a size = false →
        exec (.snapshotComplete job ext) s = .next (s.withDev (((s.dev.copyRun sn.bank a size).1.snapEnd job sn size
          (if s.dev.poisonIn sn.bank size then stPoison else stOK)).retry))) ∧
     (sn.dst / 2 ^ 48 = 15 → s.dev.midOf sn.ctx ≠ 15 → ext.accepted = true →
        exec (.snapshotComplete job ext) s = .next (s.withDev (((s.dev.devWrites sn.ctx a (s.dev.read sn.bank size) fun o k => s.dev.poisonIn (sn.bank + o) k).snapEnd job sn size
          (if s.dev.poisonIn sn.bank size then stPoison else stOK)).retry))))) ∧
  (∀ s ctx grp g f x ws n, ctx < 64 → grp < 256 → s.dev.safe = false → s.dev.group ctx grp = some g → g.flights = [f] → f.started = true →
    (f.frags.any fun p => p.shape != 0 && p.shape != clShape f.word) = false →
    x = (({ d := s.dev, f := f, bad := none } : CollRun)).folds ctx g → x.bad = none → x.f.started = true → x.duties ctx g = true → x.f.seq = f.seq →
    x.d.collAccepted ctx grp f.seq (clReduces f.word) = true →
    CollRun.output x ctx g = some (ws, n) → (x.d.putFlight ctx grp x.f).tilesMeet ctx g f.word ws = false → (ws.findSome? fun p => (x.d.putFlight ctx grp x.f).access (.ctx ctx) true p.1 p.2.1.length) = none →
    (ws.any fun p => (x.d.putFlight ctx grp x.f).pinned p.1 p.2.1.length) = false → (ws.any fun p => (x.d.putFlight ctx grp x.f).ownedIn p.1 p.2.1.length) = false →
    exec (.collectiveComplete ctx grp) s = .next (s.withDev (((x.d.putFlight ctx grp x.f).collEnds ctx grp x.f ws n).retry)))

/-- An arrival on its way to a store here is counted there: while its generation is short of COUNT the barrier holds the larger sum, and at COUNT the generation completes with any excess carried over. The oldest acknowledgement of a core and barrier tells it the generation its arrival joined. A release of the target generation ends the wait. A wait or a COMMIT whose TIMEOUT has expired leaves and is counted, and its list stops with TIMEOUT. (R211, R212, R213, R214, R215, R216, R322) -/
def Obligations.BarrierEventsHappen : Prop :=
  (∀ s k a b, s.dev.cmp.arrivals[k]? = some a → s.dev.bar a.ctx a.bar = some b → b.poisoned = false →
    ∃ d, d = ({ s.dev with cmp := { s.dev.cmp with arrivals := dropNth s.dev.cmp.arrivals k } } : Dev).ackArrival a.ctx a.bar a.who (some b.joining) ∧
      (b.arrived + a.weight < b.count → exec (.arrivalCounted k) s = .next (s.withDev (d.setBar a.ctx a.bar (b.counted a d.time)))) ∧
      (b.count ≤ b.arrived + a.weight → b.fast = true → exec (.arrivalCounted k) s = .next (s.withDev (d.setBar a.ctx a.bar { b.counted a d.time with pulling := false }))) ∧
      (b.count ≤ b.arrived + a.weight → b.fast = false →
        exec (.arrivalCounted k) s = .next (s.withDev (d.completeGen a.ctx a.bar (b.counted a d.time) (b.arrived + a.weight - b.count))))) ∧
  (∀ b a t, (Barrier.counted b a t).arrived = b.arrived + a.weight ∧ (b.counted a t).gen = b.gen ∧
    Barrier.joining b = if b.count ≤ b.arrived then (b.gen + 1) % 2 ^ 32 else b.gen) ∧
  (∀ s k a, s.dev.cmp.acks[k]? = some a → ((s.dev.cmp.acks.take k).any fun b => b.ctx == a.ctx && b.bar == a.bar && b.core == a.core) = false →
    exec (.arrivalAck k) s = .next (s.withDev (({ s.dev with cmp := { s.dev.cmp with acks := dropNth s.dev.cmp.acks k } }.acknowledge a.ctx a.bar a.core a.gen).retry))) ∧
  (∀ s k r w d g, s.dev.cmp.releases[k]? = some r → d = { s.dev with cmp := { s.dev.cmp with releases := dropNth s.dev.cmp.releases k } } →
    (s.dev.core r.core).wait = some w → waitsAt (s.dev.core r.core) r.ctx r.bar = true → w.tag.op ≠ 0x50 → w.target = some g → (g = r.gen ∨ genDone g r.gen = true) →
    w.late s.dev.time = false → exec (.releaseVisible k) s = .next (s.withDev (d.endWait r.core stOK false))) ∧
  (∀ s c w, c.exists = true → (s.dev.core c).wait = some w → (w.tag.op = 0x31 ∨ (w.tag.op = 0x32 ∧ w.phase ≠ 0)) → w.expired s.dev.time = true →
    exec (.waitTimeout c) s = .next (s.withDev (s.dev.waitExpires c))) ∧
  (∀ s c w, c.exists = true → (s.dev.core c).wait = some w → w.tag.op = 0x50 → w.phase = 2 → w.expired s.dev.time = true →
    exec (.commitTimeout c) s = .next (s.withDev (s.dev.waitExpires c))) ∧
  (∀ d c w b, (Dev.core d c).wait = some w → d.bar w.tag.ctx (sync w.word) = some b → (b.fast = true ∨ b.home = (d.ctx w.tag.ctx).gangRank) →
    d.waitExpires c = (((d.setBar w.tag.ctx (sync w.word) { b with timeouts := min 65535 (b.timeouts + 1) }).bump 0x9000 4 1).endWait c stTimeout true)) ∧
  (∀ d c w b, (Dev.core d c).wait = some w → d.bar w.tag.ctx (sync w.word) = some b → b.fast = false → b.home ≠ (d.ctx w.tag.ctx).gangRank →
    d.waitExpires c = (((d.tellWait w.tag (sync w.word) 7 0).bump 0x9000 4 1).endWait c stTimeout true))

/-- SYNC_IO high for 40 ns completes the generation of the fast barrier that has stopped pulling, and counts it; 200 ns later the module pulls again. A due tick of the cadence timer, and a rising edge of the external trigger, count in TICKS with their time and give every CADENCE list its next repetition, hold it pending or drop it. A due tick of the periodic snapshots starts one, or is dropped while the last is in flight. Each timer moves on by its period. (R170, R171, R222, R326, R488) -/
def Obligations.LineAndTickEventsHappen : Prop :=
  (∀ s c n b, s.dev.fastBar = some (c, n) → s.dev.bar c n = some b → b.poisoned = false → b.pulling = false → b.sawHigh = none →
    exec .fastLineHigh s = .next (s.withDev ((s.dev.completeGen c n { b with sawHigh := some s.dev.time, lastKind := 5, lastTime := s.dev.time } (b.arrived - b.count)).bump 0x9000 8 1))) ∧
  (∀ s c n b t, s.dev.fastBar = some (c, n) → s.dev.bar c n = some b → b.sawHigh = some t → t + 200 ≤ s.dev.time →
    exec .fastLineRepull s = .next (s.withDev (s.dev.setBar c n { b with sawHigh := none, pulling := (decide (b.arrived < b.count) || (s.dev.ctx c).gangUnnoted != []) && !b.poisoned }))) ∧
  (∀ s t, s.dev.cmp.timer = some t → s.dev.obj 0xD300 1 = 1 → t ≤ s.dev.time →
    exec .cadenceTick s = .next (s.withDev (({ s.dev with cmp := { s.dev.cmp with timer := some (t + s.dev.obj 0xD300 2) } } : Dev).tickLists t))) ∧
  (∀ s, s.dev.obj 0xD300 1 = 2 → exec .syncIoRisingEdge s = .next (s.withDev (s.dev.tickLists s.dev.time))) ∧
  (∀ s t, s.dev.cmp.timer = some t → s.dev.obj 0xA000 8 ≠ 0 → t ≤ s.dev.time →
    exec .snapTick s = .next (s.withDev (({ s.dev with cmp := { s.dev.cmp with timer := some (t + s.dev.obj 0xA000 8) } } : Dev).snapTick))) ∧
  (∀ l, ListRun.cadence l = true → l.stop = false → (l.repeats = 0 ∨ l.rep < l.repeats) →
    l.ticked = if l.ready = false then ({ l with ready := true }, false) else if l.tick then (l, true) else ({ l with tick := true }, false)) ∧
  (∀ d ctx n x, Dev.obj d 0xA000 8 ≠ 0 → (d.cmp.snaps.any fun s => s.tag.isNone && s.svc.isNone) = false → d.obj 0xA000 9 = ctx → d.obj 0xA000 0x0A = n → d.sset ctx n = some x →
    d.snapBusy ctx n = false →
    d.snapTick = { d with cmp := { d.cmp with snaps := d.cmp.snaps ++ [({ ctx := ctx, set_ := n, bank := x.snapBank, dst := d.obj 0xA000 0x0B, abandon := d.obj 0xA000 0x0C == 1, bar := 0xFFFF, tag := none } : Snap)] } })

/-- A quiet core with a ready row asks the tide gate of its die, wakes its gated blocks, and opens a tide where none runs. A due wave admits the first three askers, hinted ones first, one that still wakes at the end of its wake, and the next wave is 64 ns later; a wave with no asker ends the tide. Arrays and vector unit of a core each gate their clock after 16 cycles and their power after 20 µs with no work of their own. (R389, R396, R397, R399, R400) -/
def Obligations.TideAndGatesHappen : Prop :=
  (∀ s c x, c.exists = true → s.dev.core c = x → x.rowReady = true → s.dev.quiet c = true → x.asking = false →
    ∃ d, d = s.dev.setCore c { x with asking := true, wakeAt := if x.powerGated then s.dev.time + 200 else x.wakeAt, powerGated := false, clockGated := false } ∧
      exec (.tideRequest c) s = .next (s.withDev (if (tblFind d.cmp.tides (c.cl / 2)).isSome then d
        else ({ d with cmp := { d.cmp with tides := tblSet d.cmp.tides (c.cl / 2) { start := d.time } } } : Dev).bump (0x2010 + c.cl / 2) 0x0A 1))) ∧
  (∀ s die t, die < 4 → tblFind s.dev.cmp.tides die = some t → t.start + 64 * t.wave ≤ s.dev.time → s.dev.askers die ≠ [] →
    ∃ d, d = ((s.dev.askers die).take 3).foldl
        (fun d c => (d.modCore c fun x => { x with asking := false, quiet := false, lastRow := max d.time x.wakeAt }).bumpFree (0x2010 + die) 0x0B) s.dev ∧
      exec (.tideWave die) s = .next (s.withDev (({ d with cmp := { d.cmp with tides := tblSet d.cmp.tides die { t with wave := t.wave + 1 } } } : Dev).retry))) ∧
  (∀ s die t, die < 4 → tblFind s.dev.cmp.tides die = some t → t.start + 64 * t.wave ≤ s.dev.time → s.dev.askers die = [] →
    exec (.tideWave die) s = .next (s.withDev { s.dev with cmp := { s.dev.cmp with tides := tblErase s.dev.cmp.tides die } })) ∧
  (∀ s c a v, c.exists = true → a = s.dev.arraysIdle c (fun t => decide (20000 ≤ t)) → v = s.dev.vectorIdle c (fun t => decide (20000 ≤ t)) →
    exec (.powerGate c) s = .next (s.withDev (s.dev.modCore c fun x => { x with powerGated := x.powerGated || a, vecPower := x.vecPower || v }))) ∧
  (∀ s c a v, c.exists = true → a = s.dev.arraysIdle c (fun t => decide (16 * 1000 ≤ t * s.dev.mhz)) → v = s.dev.vectorIdle c (fun t => decide (16 * 1000 ≤ t * s.dev.mhz)) →
    exec (.selfGate c) s = .next (s.withDev (s.dev.modCore c fun x => { x with clockGated := x.clockGated || a, vecClock := x.vecClock || v }))) ∧
  (∀ d c f x, x = Dev.core d c → x.wait = none → x.loads = [] → d.arraysIdle c f = f (d.time - max x.lastRow x.lastLoad) ∧ d.vectorIdle c f = f (d.time - x.lastVec)) ∧
  (∀ (x : CoreSt) t, (x.rouse 0x01 t).clockGated = false ∧ (x.rouse 0x01 t).powerGated = false ∧ (x.rouse 0x10 t).vecClock = false ∧ (x.rouse 0x10 t).vecPower = false ∧
    (x.rouse 0x11 t).vecClock = false ∧ (x.rouse 0x11 t).vecPower = false)

/-- A READ that passes the checks of R469 is answered with the object's bytes, of sub-index 0 with the highest sub-index; through the Board's path a READ of ALERT_CAUSE also releases ALERT_N. DESCRIBE answers the object's record. A WRITE of an object without behaviour of its own stores its values. CLOSE ends the connection and its grants. A READ or DESCRIBE changes nothing but the connection and the output. (R405, R457, R464, R467, R468, R469, R470) -/
def Obligations.ManifestRequestsAreAnswered : Prop :=
  (∀ s q r, Passes s q .read r → vendorIdx q.index = false → q.sub ≠ 0 →
    exec (.manifestRead q) s = .next (s.withDev ((s.opened q).replied q (Dev.objBytes s.fuses (s.opened q) r q.index q.sub)))) ∧
  (∀ s q r, Passes s q .read r → vendorIdx q.index = false → q.sub = 0 →
    exec (.manifestRead q) s = .next (s.withDev ((s.opened q).replied q (natLe 1 ((topSub q.index).getD 0))))) ∧
  (∀ s q r, Passes s q .alertCause r →
    exec (.alertCause q) s = .next (s.withDev (({ s.opened q with pwr := { (s.opened q).pwr with alertLow := false } } : Dev).replied q
      (Dev.objBytes s.fuses (s.opened q) r q.index q.sub)))) ∧
  (∀ s q r, Passes s q .describe r → vendorIdx q.index = false →
    exec (.manifestDescribe q) s = .next (s.withDev ((s.opened q).replied q (natLe 8 (describeRecord r q.index q.sub))))) ∧
  (∀ s q r vs, Passes s q .write r → vs = reqValues r q.data → Dev.ownDenied s.fuses (s.opened q) q (vs.headD 0) = false →
    (s.opened q).ownState q.index q.sub = false → vs.any (outside r) = false → (s.opened q).ownRange q.index q.sub (vs.headD 0) = false →
    exec (.manifestWrite q) s = .next (s.withDev ((((Dev.put s.fuses (s.opened q) q.index q.sub vs).tellStandby q.index).replied q).audit s.dev))) ∧
  (∀ s q, q.op = 4 → q.ianaOk = true → s.dev.answers q = true → s.dev.noRoom q.kcl q.eid = false → s.dev.behindSlow q = false → badHeader q = false →
    lcPasses s.fuses q = true → s.dev.starting q = false →
    exec (.manifestClose q) s = .next (s.withDev (({ s.dev with sec := { s.dev.sec with conns := s.dev.sec.conns.filter fun c =>
      !(c.kcl == q.kcl && c.eid == q.eid) } } : Dev).replied q)))

/-- A request of any of these rows that fails one of the checks every object shares, in the order of R469, opens its connection, gets the reply with the code of the first failing check (and RETRY_AFTER with BUSY), and changes nothing else of the device; fuses and queue stay. (R464, R467, R469) -/
def Obligations.RefusedRequestsOnlyReply : Prop :=
  (∀ s q code wait r, Checked s q .read code wait r → code ≠ rcOK → exec (.manifestRead q) s = .next (s.withDev ((s.opened q).refuses q code wait))) ∧
  (∀ s q code wait r, Checked s q .describe code wait r → code ≠ rcOK → exec (.manifestDescribe q) s = .next (s.withDev ((s.opened q).refuses q code wait))) ∧
  (∀ s q code wait r, Checked s q .write code wait r → code ≠ rcOK → exec (.manifestWrite q) s = .next (s.withDev (((s.opened q).refuses q code wait).audit s.dev))) ∧
  (∀ s q code wait r, Checked s q .rangeClear code wait r → code ≠ rcOK → exec (.rangeClear q) s = .next (s.withDev (((s.opened q).refuses q code wait).audit s.dev))) ∧
  (∀ s q code wait r, Checked s q .accClear code wait r → code ≠ rcOK → exec (.accClear q) s = .next (s.withDev (((s.opened q).refuses q code wait).audit s.dev))) ∧
  (∀ s q code wait r, Checked s q .cadenceSource code wait r → code ≠ rcOK → exec (.cadenceSource q) s = .next (s.withDev (((s.opened q).refuses q code wait).audit s.dev))) ∧
  (∀ s q code wait r, Checked s q .snapPeriod code wait r → code ≠ rcOK → exec (.snapPeriod q) s = .next (s.withDev (((s.opened q).refuses q code wait).audit s.dev))) ∧
  (∀ s q code wait r, Checked s q .ioTugUse code wait r → code ≠ rcOK → exec (.ioTugUse q) s = .next (s.withDev (((s.opened q).refuses q code wait).audit s.dev))) ∧
  (∀ s q code wait r, Checked s q .portUse code wait r → code ≠ rcOK → exec (.portUse q) s = .next (s.withDev ((s.opened q).refuses q code wait))) ∧
  (∀ s q code wait r, Checked s q .retainUse code wait r → code ≠ rcOK → exec (.retainUse q) s = .next (s.withDev (((s.opened q).refuses q code wait).audit s.dev))) ∧
  (∀ s q code wait r, Checked s q .berthPlan code wait r → code ≠ rcOK → exec (.berthPlan q) s = .next (s.withDev ((s.opened q).refuses q code wait))) ∧
  (∀ s q code wait r, Checked s q .evalSlot code wait r → code ≠ rcOK → exec (.evalSlot q) s = .next (s.withDev (((s.opened q).refuses q code wait).audit s.dev))) ∧
  (∀ s q code wait r, Checked s q .classConfirm code wait r → code ≠ rcOK → exec (.classConfirm q) s = .next (s.withDev (((s.opened q).refuses q code wait).audit s.dev))) ∧
  (∀ s q code wait r, Checked s q .powerCap code wait r → code ≠ rcOK → exec (.powerCap q) s = .next (s.withDev (((s.opened q).refuses q code wait).audit s.dev))) ∧
  (∀ s q code wait r, Checked s q .ringState code wait r → code ≠ rcOK → exec (.ringState q) s = .next (s.withDev (((s.opened q).refuses q code wait).audit s.dev))) ∧
  (∀ s q code wait r, Checked s q .regionEnable code wait r → code ≠ rcOK → exec (.regionEnable q) s = .next (s.withDev (((s.opened q).refuses q code wait).audit s.dev))) ∧
  (∀ s q code wait r, Checked s q .regionDisable code wait r → code ≠ rcOK → exec (.regionDisable q) s = .next (s.withDev (((s.opened q).refuses q code wait).audit s.dev))) ∧
  (∀ s q code wait r, Checked s q .regionFrozen code wait r → code ≠ rcOK → exec (.regionFrozen q) s = .next (s.withDev (((s.opened q).refuses q code wait).audit s.dev))) ∧
  (∀ s q code wait r, Checked s q .ackClass code wait r → code ≠ rcOK → exec (.ackClass q) s = .next (s.withDev (((s.opened q).refuses q code wait).audit s.dev))) ∧
  (∀ s q code wait r, Checked s q .classClear code wait r → code ≠ rcOK → exec (.classClear q) s = .next (s.withDev (((s.opened q).refuses q code wait).audit s.dev))) ∧
  (∀ s q code wait r, Checked s q .calendar code wait r → code ≠ rcOK → exec (.calendar q) s = .next (s.withDev (((s.opened q).refuses q code wait).audit s.dev))) ∧
  (∀ s q b code wait r, Checked s q .fwStage code wait r → code ≠ rcOK → exec (.fwStage q b) s = .next (s.withDev (((s.opened q).refuses q code wait).audit s.dev))) ∧
  (∀ s q code wait r, Checked s q .discard code wait r → code ≠ rcOK → exec (.discardStaged q) s = .next (s.withDev (((s.opened q).refuses q code wait).audit s.dev))) ∧
  (∀ s q code wait r, Checked s q .activate code wait r → code ≠ rcOK → exec (.fwActivate q) s = .next (s.withDev (((s.opened q).refuses q code wait).audit s.dev))) ∧
  (∀ s q code wait r, Checked s q .raiseFloor code wait r → code ≠ rcOK → exec (.raiseFloor q) s = .next (s.withDev ((s.opened q).refuses q code wait))) ∧
  (∀ s q code wait r, Checked s q .vendor code wait r → code ≠ rcOK → exec (.vendorServiceWrite q) s = .next (s.withDev ((s.opened q).refuses q code wait))) ∧
  (∀ s q code wait r, Checked s q .resetFunction code wait r → code ≠ rcOK → exec (.resetRequestFunction q) s = .next (s.withDev ((s.opened q).refuses q code wait))) ∧
  (∀ s q code wait r, Checked s q .resetWarm code wait r → code ≠ rcOK → exec (.resetRequestWarm q) s = .next (s.withDev ((s.opened q).refuses q code wait))) ∧
  (∀ s q code wait r, Checked s q .psRun code wait r → code ≠ rcOK → exec (.pstateRequestRun q) s = .next (s.withDev ((s.opened q).refuses q code wait))) ∧
  (∀ s q code wait r, Checked s q .psSleep code wait r → code ≠ rcOK → exec (.pstateRequestSleep q) s = .next (s.withDev ((s.opened q).refuses q code wait))) ∧
  (∀ s q code wait r, Checked s q .psDeep code wait r → code ≠ rcOK → exec (.pstateRequestDeep q) s = .next (s.withDev ((s.opened q).refuses q code wait))) ∧
  (∀ s q code wait r, Checked s q .psOff code wait r → code ≠ rcOK → exec (.pstateRequestOff q) s = .next (s.withDev ((s.opened q).refuses q code wait)))

/-- An accepted RANGE_CLEAR or ACC_CLEAR puts the context's counters back to 0. CADENCE_SOURCE and SNAP_PERIOD take or release the cadence timer, whose first tick is START + k PERIOD or one period on. USE of an I/O tug or port and RETAIN_USE take the value where it is free, as does an evaluation slot, which borrows a spare for 10. A berth plan rediscovers the ports whose entries it changes. (R57, R115, R135, R170, R177, R269, R270, R326, R327, R474, R476) -/
def Obligations.CountersTimersAndUsesAreWritten : Prop :=
  (∀ s q r, Passes s q .rangeClear r → outside r (reqValue q) = false → exec (.rangeClear q) s = .next (s.withDev ((((s.opened q).clearSix q.index).replied q).audit s.dev))) ∧
  (∀ s q r, Passes s q .accClear r → outside r (reqValue q) = false → exec (.accClear q) s = .next (s.withDev ((((s.opened q).clearSix q.index).replied q).audit s.dev))) ∧
  (∀ s q r, Passes s q .cadenceSource r → outside r (reqValue q) = false → reqValue q ≠ (s.opened q).obj 0xD300 1 →
    ¬(reqValue q = 1 ∧ (s.opened q).obj 0xA000 8 ≠ 0) → (reqValue q = 2 → (s.opened q).syncHolder = none) →
    exec (.cadenceSource q) s = .next (s.withDev ((((s.opened q).setCadence (reqValue q)).replied q).audit s.dev))) ∧
  (∀ s q r, Passes s q .snapPeriod r → (reqValue q = 0 ∨ (1000000 ≤ reqValue q ∧ reqValue q ≤ 100000000000)) → reqValue q ≠ (s.opened q).obj 0xA000 8 →
    ¬(reqValue q ≠ 0 ∧ (s.opened q).cadenceHolds 1 = true) →
    exec (.snapPeriod q) s = .next (s.withDev ((((s.opened q).setSnapPeriod (reqValue q)).replied q).audit s.dev))) ∧
  (∀ s q r, Passes s q .ioTugUse r → outside r (reqValue q) = false → (s.opened q).ioWork ((s.opened q).obj q.index 1) = false → reqValue q ≠ (s.opened q).obj q.index 1 →
    ((s.opened q).obj q.index 1 = 0 ∨ reqValue q = 0) →
    ¬((s.opened q).obj q.index 1 = 3 ∧ ((List.range 8).filter fun t => (s.opened q).obj (0x8210 + t) 1 == 3).length = 1) →
    exec (.ioTugUse q) s = .next (s.withDev ((((s.opened q).setObj q.index 1 (reqValue q)).replied q).audit s.dev))) ∧
  (∀ s q r, Passes s q .portUse r → outside r (reqValue q) = false → reqValue q ≠ (s.opened q).obj q.index 3 → ((s.opened q).obj q.index 3 = 0 ∨ reqValue q = 0) →
    exec (.portUse q) s = .next (s.withDev ((Dev.netAudit s.fuses ((s.opened q).setObj q.index 3 (reqValue q)) (s.opened q)).replied q))) ∧
  (∀ s q r, Passes s q .retainUse r → outside r (reqValue q) = false → ¬(reqValue q = 0 ∧ (s.opened q).ringIn (q.index - 0x8320) = true) →
    reqValue q ≠ (s.opened q).obj (0x8320 + (q.index - 0x8320)) 1 → ((s.opened q).obj (0x8320 + (q.index - 0x8320)) 1 = 0 ∨ reqValue q = 0) →
    exec (.retainUse q) s = .next (s.withDev ((((s.opened q).setObj (0x8320 + (q.index - 0x8320)) 1 (reqValue q)).replied q).audit s.dev))) ∧
  (∀ s q r, Passes s q .berthPlan r → (planBasinId (s.opened q).plan = planBasinId q.data ∧ planBasin (s.opened q).plan = planBasin q.data ∨ (s.opened q).noneResident = true) →
    (∀ p ∈ (s.opened q).planChanges q.data, (s.opened q).portUse p = 0 ∧ (s.opened q).carriesSession p = false) →
    planFine q.data (s.opened q).mid = true →
    exec (.berthPlan q) s = .next (s.withDev ((Dev.netAudit s.fuses (((s.opened q).planChanges q.data).foldl (Dev.rediscover s.fuses)
      ((s.opened q).setPlan q.data)) (s.opened q)).replied q))) ∧
  (∀ s q r cl, Passes s q .evalSlot r → cl = q.index - 0xA600 → (s.opened q).slotBusy cl = false → reqValue q ≠ (s.opened q).evalSlot cl →
    ((s.opened q).evalSlot cl = 0xFF ∨ (s.opened q).evalSlot cl = 0xFE ∨ reqValue q = 0xFF) →
    ((∀ p, reqValue q = 10 → (s.opened q).freeSpare cl = some p →
        exec (.evalSlot q) s = .next (s.withDev ((((s.opened q).lend cl p).replied q).audit s.dev))) ∧
     (reqValue q = 0xFF → exec (.evalSlot q) s = .next (s.withDev ((((((s.opened q).leaveSlot cl).setObj (0xA600 + cl) 1 0xFF).setObj (0xA600 + cl) 2 0xFF).replied q).audit s.dev))) ∧
     (reqValue q < 10 → (s.opened q).coreUser cl (reqValue q) = none →
        exec (.evalSlot q) s = .next (s.withDev ((((((s.opened q).leaveSlot cl).setObj (0xA600 + cl) 1 (reqValue q)).setObj (0xA600 + cl) 2 0xFF).replied q).audit s.dev)))))

/-- CLASS_CONFIRM of the strapped class and POWER_CAP within 450 W to CLASS_LIMIT are stored. RING_STATE 1 registers a ring whose objects are set, ends an overrun at SQ_HEAD; 0 unregisters it. ENABLE TRUE enables a free range after recalling what a seal forbids; FALSE begins its fill, whose end frees the range. FROZEN seals an enabled region. ACK and CLEAR move a fault class whose causes are gone. CALENDAR sets the calendar where no PTP master does. (R199, R346, R378, R379, R410, R411, R427) -/
def Obligations.ClassRingsRegionsAndFaultClassesAreWritten : Prop :=
  (∀ s q r, Passes s q .classConfirm r → reqValue q = (s.opened q).pwr.strapClass → reqValue q ≠ 3 →
    exec (.classConfirm q) s = .next (s.withDev ((((s.opened q).setObj 0x2000 2 (reqValue q)).replied q).audit s.dev))) ∧
  (∀ s q r, Passes s q .powerCap r → 450 ≤ reqValue q → reqValue q ≤ (s.opened q).classLimit →
    exec (.powerCap q) s = .next (s.withDev (((({ s.opened q with pwr := { (s.opened q).pwr with capWritten := true } } : Dev).setObj 0x2000 5 (reqValue q)).replied q).audit s.dev))) ∧
  (∀ s q r c, Passes s q .ringState r → c = q.index - 0xD100 → outside r (reqValue q) = false →
    ((reqValue q = 1 → (s.opened q).ringState c = 0 → ((s.opened q).ctx c).state = 0 → (s.opened q).sqBase c ≠ 0 → (s.opened q).sqDepth c ≠ 0 → (s.opened q).cqBase c ≠ 0 →
        (s.opened q).cqDepth c ≠ 0 → exec (.ringState q) s = .next (s.withDev ((((s.opened q).register c).replied q).audit s.dev))) ∧
     (reqValue q = 1 → (s.opened q).ringState c = 2 →
        exec (.ringState q) s = .next (s.withDev (((((s.opened q).modCtx c fun x => { x with sqTail := (s.opened q).sqHead c }).setRing c 1).replied q).audit s.dev))) ∧
     (reqValue q ≠ 1 → (s.opened q).ringState c ≠ 0 → ((s.opened q).ctx c).state = 0 → (s.opened q).ringState c ≤ 2 →
        exec (.ringState q) s = .next (s.withDev (((((s.opened q).modCtx c fun x => { x with waiting := [], intDue := false }).setRing c 0).replied q).audit s.dev))))) ∧
  (∀ s q r k (x : Region), Passes s q .regionEnable r → k = q.index - 0x8400 → x = (s.opened q).region k → x.enabled = false → x.filling = none →
    (s.opened q).regions.any (fillsOver x) = false →
    (x.owner = 0xFF ∨ ((s.opened q).ctx x.owner).state ≠ 0) → (s.opened q).onePart x.base x.size = true →
    ((s.opened q).regions.find? fun p => p.2.enabled && spansMeet x.base x.size p.2.base p.2.size) = none →
    (attrSealCompanion x.attr = false ∨ (s.opened q).linesOut x = false) →
    exec (.regionEnable q) s = .next (s.withDev ((({ (s.opened q).sealRecall x with regions := tblSet (s.opened q).regions k { x with enabled := true } } : Dev).replied q).audit
      s.dev))) ∧
  (∀ s q r k, Passes s q .regionDisable r → k = q.index - 0x8400 → ((s.opened q).region k).enabled = true →
    (field ((s.opened q).region k).attr 2 1 = 0 ∨ bit ((s.opened q).roles s.fuses q.kcl q.eid) 0 = true) →
    exec (.regionDisable q) s = .next (s.withDev ((((s.opened q).disableRegion k).replied q).audit s.dev))) ∧
  (∀ s r, r < 1024 → (s.dev.region r).filling.isSome = true → s.dev.powered = true →
    exec (.regionFillDone r) s = .next (s.withDev { s.dev with regions := tblSet s.dev.regions r { s.dev.region r with filling := none } })) ∧
  (∀ s q r k (x : Region), Passes s q .regionFrozen r → k = q.index - 0x8400 → x = (s.opened q).region k → Dev.ownDenied s.fuses (s.opened q) q (reqValue q) = false →
    reqValue q = x.attr + 8 → attrFrozen x.attr = false →
    ((s.opened q).linesOut x = false → exec (.regionFrozen q) s = .next (s.withDev ((((s.opened q).frozen k x (reqValue q)).replied q).audit s.dev))) ∧
    ((s.opened q).linesOut x = true → exec (.regionFrozen q) s = .next (s.withDev ((((s.opened q).recallOwned x.base x.size).slowly (.regionFrozen q)).audit s.dev)))) ∧
  (∀ s q r, Passes s q .ackClass r → outside r (reqValue q) = false →
    exec (.ackClass q) s = .next (s.withDev ((((s.opened q).ack (q.index - 0x4010)).replied q).audit s.dev))) ∧
  (∀ s q r k, Passes s q .classClear r → k = q.index - 0x4010 → outside r (reqValue q) = false → (s.opened q).safe = false → (s.opened q).classPresent k = false → (s.opened q).quarantined = false →
    ∃ d, d = (if ((s.opened q).fclass k).isOpen then (s.opened q).logEvent 2 0 0xFF k 0 0 0 else s.opened q) ∧
      exec (.classClear q) s = .next (s.withDev ((({ d with faults := tblSet d.faults k { d.fclass k with isOpen := false, level := 0, acked := false, causes := [] } } :
        Dev).replied q).audit s.dev))) ∧
  (∀ s q r, Passes s q .calendar r → (s.opened q).hasMaster = false →
    exec (.calendar q) s = .next (s.withDev (((((({ s.opened q with calendar := reqValue q } : Dev).setObj 0xB000 6 1).logEvent 6 0 0xFF 0 0 0 0)).replied q).audit s.dev)))

/-- STAGE records SEC's verdict of the bundle; DISCARD empties the staging slot; ACTIVATE makes the named cores whose image differs pending and starts one. RAISE_FLOOR burns the higher floor and nothing else of the fuses. A verified ROLE_PROOF grants its role for ROLE_GRANT and a new AUTH_NONCE is drawn; grants end at their time; AUTH_NONCE is replaced after 60 s. An LC_REQUEST that passes every check of R451 burns its transition, replies, and a warm reset with the default berth plan follows; a vendor service write ends in a warm reset. (R371, R372, R435, R445, R447, R450, R451, R452, R481) -/
def Obligations.FirmwareRolesAndLifeCycleAreWritten : Prop :=
  (∀ s q b r, Passes s q .fwStage r → (s.opened q).obj 0x5000 5 ≠ 1 →
    exec (.fwStage q b) s = .next (s.withDev (((Dev.stage s.fuses (s.opened q) b).replied q).audit s.dev))) ∧
  (∀ s q r, Passes s q .discard r → (s.opened q).obj 0x5000 5 ≠ 1 → exec (.discardStaged q) s = .next (s.withDev (((s.opened q).unstage.replied q).audit s.dev))) ∧
  (∀ s q r, Passes s q .activate r → outside r (reqValue q) = false →
    exec (.fwActivate q) s = .next (s.withDev ((((s.opened q).activate (reqValue q)).replied q).audit s.dev))) ∧
  (∀ s q r, Passes s q .raiseFloor r → Dev.floorOk s.fuses (s.opened q) (reqValue q) = true → outside r (reqValue q) = false →
    exec (.raiseFloor q) s = .next { s with fuses := { s.fuses with floor := reqValue q }, dev := (Dev.floorRaised s.fuses (s.opened q)).replied q }) ∧
  (∀ s q r role, Passes s q .roleProof r → role = leNat (q.data.take 1) → leNat (slice q.data 1 3) = 0 →
    (role = 1 → s.fuses.lcState = 2 → exec (.roleProof q true) s = .next (s.withDev (((s.opened q).grant q.kcl q.eid 1).replied q).newNonce)) ∧
    (role = 3 → s.fuses.lcState ≠ 2 → s.fuses.lcState ≠ 4 → ((s.opened q).noteUnchecked 1).certCurrent Config.serviceFrom Config.serviceTo = true →
      exec (.roleProof q true) s = .next (s.withDev ((((s.opened q).noteUnchecked 1).grant q.kcl q.eid 3).replied q).newNonce))) ∧
  (∀ s kcl eid, exec (.roleGrantExpiry kcl eid) s = .next (s.withDev (s.dev.expire kcl eid))) ∧
  (∀ s, s.dev.powered = true → s.dev.sec.nonceAt + 60000000000 ≤ s.dev.time → exec .authNonceRefresh s = .next (s.withDev s.dev.newNonce)) ∧
  (∀ s q r d, Passes s q .lcRequest r → Dev.lcReply s.fuses (s.opened q) q true = rcOK → d = (Dev.lcNoted s.fuses (s.opened q) q).replied q →
    exec (.lcRequest q true) s = .next { s with fuses := s.fuses.transition q, dev := ({ d with pwr := { d.pwr with due := none } } : Dev).resetLater 20 }) ∧
  (∀ s q r, Passes s q .vendor r → exec (.vendorServiceWrite q) s = .next (s.withDev (((s.opened q).replied q).resetLater 18)))

/-- RESET_REQUEST 1 and 2 reply and reset. PSTATE_REQUEST 2, 3 and 4 enter SLEEP, DEEP or OFF where the conditions of R500 hold, and 0 wakes the module from SLEEP. A module at rest for IDLE_AFTER enters IDLE. WAKE_N, the wake timer and the KCL beacon wake the module from SLEEP with their cause. RESET_N low resets a powered module, and when it rises a waiting start goes on. (R490, R496, R499, R500, R501, R502) -/
def Obligations.PowerStatesAndResetsHappen : Prop :=
  (∀ s q r, Passes s q .resetFunction r → exec (.resetRequestFunction q) s = .next (s.withDev (((s.opened q).replied q).resetLater 19))) ∧
  (∀ s q r, Passes s q .resetWarm r → exec (.resetRequestWarm q) s = .next (s.withDev (((s.opened q).replied q).resetLater 18))) ∧
  (∀ s q r, Passes s q .psSleep r → s.dev.pwr.offKind = 0 → (s.opened q).entryClear [1, 3, 6] true = true →
    exec (.pstateRequestSleep q) s = .next (s.withDev (((s.opened q).replied q).enterState 2))) ∧
  (∀ s q r, Passes s q .psDeep r → (s.opened q).entryClear (if (s.opened q).obj 0x2000 0x22 = 1 then [6] else []) false = true →
    exec (.pstateRequestDeep q) s = .next (s.withDev (((s.opened q).replied q).enterState 3))) ∧
  (∀ s q r, Passes s q .psOff r → (s.opened q).entryClear [] false = true →
    exec (.pstateRequestOff q) s = .next (s.withDev (((s.opened q).replied q).enterState 4))) ∧
  (∀ s q r, Passes s q .psRun r → s.dev.pwr.offKind = 2 → exec (.pstateRequestRun q) s = .next (s.withDev (((s.opened q).replied q).wakeSleep 5))) ∧
  (∀ s t, s.dev.noteIdle.pwr.idleSince = some t → t + s.dev.noteIdle.obj 0x2000 0x25 * 1000 ≤ s.dev.noteIdle.time →
    exec .idleEntry s = .next (s.withDev (({ s.dev.noteIdle with pwr := { s.dev.noteIdle.pwr with idleSince := none } } : Dev).setObj 0x2000 0x20 1))) ∧
  (∀ s, s.dev.pwr.offKind = 2 → s.dev.pwr.due = none → exec .wakeN s = .next (s.withDev (({ s.dev with pwr := { s.dev.pwr with wakeLow := true } } : Dev).wakeSleep 1))) ∧
  (∀ s, s.dev.pwr.offKind = 3 → s.dev.pwr.due = none → exec .wakeN s = .next (s.withDev (({ s.dev with pwr := { s.dev.pwr with wakeLow := true } } : Dev).wakeDeep 1))) ∧
  (∀ s, s.dev.pwr.offKind = 4 →
    exec .wakeN s = .next (s.withDev (({ s.dev with pwr := { s.dev.pwr with wakeLow := true } } : Dev).wakeOff s.dev.pwr.strapClass s.dev.pwr.strapMid))) ∧
  (∀ s, s.dev.obj 0x2000 0x23 ≠ 0 → s.dev.pwr.sleptAt + s.dev.obj 0x2000 0x23 ≤ s.dev.time → s.dev.pwr.due = none →
    (s.dev.pwr.offKind = 2 → exec .wakeTimer s = .next (s.withDev (s.dev.wakeSleep 2))) ∧
    (s.dev.pwr.offKind = 3 → exec .wakeTimer s = .next (s.withDev (s.dev.wakeDeep 2)))) ∧
  (∀ s, s.dev.pwr.offKind = 2 → s.dev.pwr.due = none → exec .kclWakeBeacon s = .next (s.withDev (s.dev.wakeSleep 3))) ∧
  (∀ s, s.dev.pwr.offKind = 3 → s.dev.pwr.due = none → exec .kclWakeBeacon s = .next (s.withDev (s.dev.wakeDeep 3))) ∧
  (∀ s, s.dev.pwr.resetLow = false → [0, 1, 2, 8, 9].contains s.dev.pwr.offKind = true →
    exec .resetN s = .next (s.withDev (Dev.reset s.fuses { s.dev with pwr := { s.dev.pwr with resetLow := true } } 1))) ∧
  (∀ s, s.dev.pwr.offKind = 8 → s.dev.pwr.refclk = true →
    exec .resetNHigh s = .next (s.withDev (Dev.started s.fuses { s.dev with pwr := { s.dev.pwr with resetLow := false } })))

/-- With input power gone a cold start reads the straps; after a brown-out it is a brown-out start. The reference clock lets a waiting start go on. The fill of HBM ends. A brown-out loses every memory without warning, and so does the removal of input power, which also loses the calendar, CLASS_CONFIRM and the thermal trip's latch. (R395, R427, R453, R490, R493, R494) -/
def Obligations.StartsAndInputPowerHappen : Prop :=
  (∀ s cls mid, s.dev.pwr.offKind = 7 → cls < 4 → mid < 8 → exec (.coldStart cls mid) s = .next (s.withDev (s.dev.coldStart cls mid 0))) ∧
  (∀ s cls mid, s.dev.pwr.offKind = 6 → cls < 4 → mid < 8 → exec (.coldStart cls mid) s = .next (s.withDev (s.dev.coldStart cls mid 5))) ∧
  (∀ s, s.dev.pwr.offKind = 8 → s.dev.pwr.resetLow = false →
    exec .refclkPresent s = .next (s.withDev (Dev.started s.fuses { s.dev with pwr := { s.dev.pwr with refclk := true } }))) ∧
  (∀ s, s.dev.pwr.offKind = 0 → exec .wipeFillDone s = .next (s.withDev s.dev.fillDone)) ∧
  (∀ s, s.dev.pwr.offKind ≠ 5 → s.dev.pwr.offKind ≠ 6 → s.dev.pwr.offKind ≠ 7 → exec .brownOut s = .next (s.withDev (s.dev.powerLost 6))) ∧
  (∀ s, s.dev.pwr.offKind ≠ 7 →
    exec .inputPowerRemoved s = .next (s.withDev { s.dev.cut with fresh := s.dev.cut.fresh + 1, pwr := { s.dev.cut.pwr with refclk := Config.freeCount s.dev.cut.fresh % 2 == 0 } }))

/-- Where the endpoint of a transport answers, a control request of a command with its data gets a completion code and data: a new endpoint ID of 8 to 0xFE is taken, the ID in force is told, versions, message types and the vendor set are told. A PLDM request gets its terminus, types, version, commands, record or reading. The message layouts are presumed from DSP0236, DSP0240 and DSP0248 (log entry 60), which the spec names without stating them. (R461, R464, R465) -/
def Obligations.MctpAndPldmRequestsAreAnswered : Prop :=
  (∀ s m, ControlAsked s.dev m 1 2 → msgByte m 2 ≤ 1 → 8 ≤ msgByte m 3 → msgByte m 3 ≤ 0xFE →
    exec (.setEndpointId m) s = .next (s.withDev ((s.dev.setEid m.kcl (msgByte m 3)).controlReply m 1 0 [byteOf 0, byteOf (msgByte m 3), byteOf 0])) ∧
      (s.dev.setEid m.kcl (msgByte m 3)).ownEid m.kcl = msgByte m 3) ∧
  (∀ s m, ControlAsked s.dev m 2 0 → exec (.getEndpointId m) s = .next (s.withDev (s.dev.controlReply m 2 0 [byteOf (s.dev.ownEid m.kcl), byteOf 0, byteOf 0]))) ∧
  (∀ s m, ControlAsked s.dev m 4 1 → (msgByte m 2 = 0xFF ∨ msgByte m 2 = 0) → exec (.getMctpVersionSupport m) s =
    .next (s.withDev (s.dev.controlReply m 4 0 ([byteOf 1, byteOf 0xF1, byteOf 0xF3] ++ slice (Config.standardBytes 4 [byteOf (msgByte m 2)]) 0 2)))) ∧
  (∀ s m, ControlAsked s.dev m 5 0 → exec (.getMessageTypeSupport m) s = .next (s.withDev (s.dev.controlReply m 5 0 [byteOf 3, byteOf 1, byteOf 5, byteOf 0x7F]))) ∧
  (∀ s m, ControlAsked s.dev m 6 1 → msgByte m 2 = 0 → exec (.getVendorDefinedMessageSupport m) s =
    .next (s.withDev (s.dev.controlReply m 6 0 ([byteOf 0xFF, byteOf 1] ++ (natLe 4 Config.vendorIana).reverse ++ slice (Config.standardBytes 6 []) 0 2)))) ∧
  (∀ s m, PldmAsked s.dev m 0 2 0 → exec (.gettid m) s = .next (s.withDev (s.dev.pldmReply m 2 0 (slice (Config.standardBytes 0x102 []) 0 1)))) ∧
  (∀ s m, PldmAsked s.dev m 0 4 0 → exec (.getpldmtypes m) s = .next (s.withDev (s.dev.pldmReply m 4 0 (natLe 8 5)))) ∧
  (∀ s m, PldmAsked s.dev m 0 3 6 → (msgByte m 8 = 0 ∨ msgByte m 8 = 2) → exec (.getpldmversion m) s =
    .next (s.withDev (s.dev.pldmReply m 3 0 (natLe 4 0 ++ [byteOf 5] ++ slice (Config.standardBytes 0x103 [byteOf (msgByte m 8)]) 0 8)))) ∧
  (∀ s m, PldmAsked s.dev m 0 5 5 → msgByte m 3 = 0 → exec (.getpldmcommands m) s = .next (s.withDev (s.dev.pldmReply m 5 0 (natLe 32 0x3C)))) ∧
  (∀ s m, PldmAsked s.dev m 0 5 5 → msgByte m 3 = 2 → exec (.getpldmcommands m) s = .next (s.withDev (s.dev.pldmReply m 5 0 (natLe 32 (2 ^ 0x11 + 2 ^ 0x51))))) ∧
  (∀ s m, PldmAsked s.dev m 2 0x51 13 → exec (.getpdr m) s = .next (s.withDev (s.dev.pldmReply m 0x51 (pdrReply m).1 (pdrReply m).2))) ∧
  (∀ s m v, PldmAsked s.dev m 2 0x11 3 → Dev.sensorReading s.fuses s.dev (msgNum m 3 2) = some v → exec (.getsensorreading m) s =
    .next (s.withDev (s.dev.pldmReply m 0x11 0 ([byteOf v.1, byteOf 0, byteOf 0] ++ slice (Config.standardBytes 0x211 (slice m.data 3 2)) 0 3 ++ v.2)))) ∧
  (∀ f d, Dev.sensorReading f d 1 = some (4, natLe 4 (Dev.value f d 0x2000 6 0)) ∧
    (∀ die, die < 5 → Dev.sensorReading f d (2 + die) = some (3, natLe 2 (Dev.value f d (0x2010 + die) 1 0))) ∧
    (∀ st, st < 32 → Dev.sensorReading f d (0x20 + st) = some (3, natLe 2 (Dev.value f d (0x2020 + st) 1 0))))

/-- An SPDM request that reaches a running SEC in its turn counts and gets its answer: version 1.3 begins the connection, capabilities, the algorithms P-521 and SHA-512, the digest and portions of slot 0's chain, a signed challenge answer, and measurements taken at one moment. A module without an attestation identity answers the last four with an error. Layouts are presumed from DSP0274 (log entry 60). (R432, R436, R437, R438, R448) -/
def Obligations.SpdmRequestsAreAnswered : Prop :=
  (∀ s m d, s.dev.mctpTakes m = true → 4 ≤ m.data.length → msgByte m 1 = 0x84 → s.dev.pwr.offKind = 0 → s.dev.restarting 0 = false → d = s.dev.bump 0x6000 0x14 1 →
    exec (.spdmGetVersion m) s = .next (s.withDev (({ d with sec := { d.sec with spdm := tblSet d.sec.spdm (msgFrom m) 1 } } : Dev).send
      (.spdm m.kcl m.eid ([byteOf 0x10, byteOf 0x04] ++ ([byteOf 0, byteOf 0, byteOf 0, byteOf 1] ++ natLe 2 0x1300)))))) ∧
  (∀ s m d, SpdmAsked s.dev m 0xE1 1 → d = s.dev.bump 0x6000 0x14 1 → exec (.spdmGetCapabilities m) s = .next (s.withDev (d.spdmReply m 2 0x61
    ([byteOf 0, byteOf 0, byteOf 0] ++ (slice (Config.standardBytes 0x361 []) 0 9).take 1 ++ natLe 2 0 ++ natLe 4 0x16 ++ (slice (Config.standardBytes 0x361 []) 0 9).drop 1)))) ∧
  (∀ s m d, SpdmAsked s.dev m 0xE3 2 → d = s.dev.bump 0x6000 0x14 1 → bit (msgNum m 8 4) 8 = true → bit (msgNum m 12 4) 2 = true → bit (msgByte m 6) 0 = true →
    exec (.spdmNegotiateAlgorithms m) s = .next (s.withDev (d.spdmReply m 3 0x63
      (natLe 2 0 ++ natLe 2 36 ++ [byteOf 1, byteOf 0] ++ natLe 4 8 ++ natLe 4 0x100 ++ natLe 4 4 ++ List.replicate 16 0#8)))) ∧
  (∀ s m d, SpdmAsked s.dev m 0x81 3 → d = s.dev.bump 0x6000 0x14 1 → attests s.fuses = true →
    exec (.spdmGetDigests m) s = .next (s.withDev (d.spdmReply m 3 0x01 ([byteOf 1, byteOf 1] ++ sha512 (Dev.certChain s.fuses d))))) ∧
  (∀ s m d n, SpdmAsked s.dev m 0x82 3 → d = s.dev.bump 0x6000 0x14 1 → attests s.fuses = true → msgByte m 2 = 0 → msgNum m 4 2 < (Dev.certChain s.fuses d).length →
    n = min (min (msgNum m 6 2) 4215) ((Dev.certChain s.fuses d).length - msgNum m 4 2) →
    exec (.spdmGetCertificate m) s = .next (s.withDev (d.spdmReply m 3 0x02
      ([byteOf 0, byteOf 0] ++ natLe 2 n ++ natLe 2 ((Dev.certChain s.fuses d).length - msgNum m 4 2 - n) ++ slice (Dev.certChain s.fuses d) (msgNum m 4 2) n)))) ∧
  (∀ s m d e, SpdmAsked s.dev m 0x83 3 → d = s.dev.bump 0x6000 0x14 1 → attests s.fuses = true → msgByte m 2 = 0 → 44 ≤ m.data.length → msgByte m 3 = 0 → e = d.nonce.2 →
    exec (.spdmChallenge m) s = .next (s.withDev ((Dev.sign s.fuses e).2.spdmReply m 3 0x03
      ([byteOf 0, byteOf 1] ++ sha512 (Dev.certChain s.fuses d) ++ d.nonce.1 ++ [] ++ natLe 2 0 ++ slice m.data 36 8 ++ (Dev.sign s.fuses e).1)))) ∧
  (∀ s m d op is r, SpdmAsked s.dev m 0xE0 3 → d = s.dev.bump 0x6000 0x14 1 → attests s.fuses = true → op = msgByte m 3 → (op ≤ 22 ∨ op = 0xFF) → 12 ≤ m.data.length →
    bit (msgByte m 2) 0 = false → is = (if op = 0 then [] else if op = 0xFF then measIndices else [op]) → r = Dev.measBlocks s.fuses d is →
    exec (.spdmGetMeasurements m) s = .next (s.withDev (d.nonce.2.spdmReply m 3 0x60
      ([byteOf (if op = 0 then 22 else 0), byteOf 0, byteOf is.length] ++ natLe 3 r.length ++ r ++ d.nonce.1 ++ natLe 2 0 ++ slice m.data 4 8 ++ [])))) ∧
  (∀ f d m, attests f = false → Dev.spdmChallenge f d m = (spdmError 7 0x83, d) ∧ Dev.spdmMeasurements f d m = (spdmError 7 0xE0, d) ∧
    Dev.spdmCertificate f d m = (spdmError 7 0x82, d))

/-- In a running module a due governor period sets the ceilings of R382 and takes the average; a sample above 1.1 times POWER_CAP halves the duty ceiling; the cap is reported unattainable once after 100 ms; THROTTLE_N imposes its ceilings at once; a regulator's limit enters E2, which ends after 1 ms; a droop stretch is counted per die; a trim request is granted, or waits for 24 power-on hours. A reading below the trip thresholds is noted, and one at its threshold trips the module. The counter page is written each power-on hour. (R382, R384, R385, R388, R390, R391, R393, R394, R395, R424, R426) -/
def Obligations.PowerAndHeatEventsHappen : Prop :=
  (∀ s g, s.dev.pwr.offKind = 0 → exec (.governorPeriod g) s = .next (s.withDev (((s.dev.governor g).levelMoved s.dev).audit s.dev))) ∧
  (∀ d g run, Dev.restarting d 1 = false → d.pwr.governedAt + 100000 ≤ d.time →
    run = (if d.forecast g ≤ d.powerCap * 1000 ∧ d.powerCap * 1000 ≤ 20 * (d.powerCap * 1000 - d.forecast g) then d.pwr.headroomRun + 1 else 0) →
    d.pwr.throttleLow = false → (d.governor g).pwr.governedAt = d.time ∧ (d.governor g).pwr.headroomRun = run ∧
      (d.governor g).obj 0x2000 0x0B = min (min (d.govern g run).2 d.dutyLimit) 16 ∧
      (d.governor g).obj 0x2000 0x09 = max (max (max (d.govern g run).1 (d.obj 0x2000 0x0A)) (max d.opLimit d.warmNext)) 0 ∧ (d.governor g).obj 0x2000 0x06 = g.average / 1000) ∧
  (∀ s sample, s.dev.pwr.offKind = 0 → 11 * (s.dev.powerCap * 1000) < 10 * sample → 1 < s.dev.obj 0x2000 0x0B →
    exec (.fastLimiter sample) s = .next (s.withDev ((((s.dev.setObj 0x2000 0x0B (s.dev.obj 0x2000 0x0B / 2)).bump 0x2000 0x11 1).levelMoved s.dev).audit s.dev))) ∧
  (∀ s average t, s.dev.pwr.offKind = 0 → s.dev.pwr.overSince = some t → s.dev.obj 0x2000 0x08 = 7 → s.dev.obj 0x2000 0x0B = 1 → s.dev.powerCap * 1000 < average →
    t + 100000000 ≤ s.dev.time → s.dev.obj 0x2000 0x0C = 0 →
    exec (.capUnattainable average) s = .next (s.withDev ((((s.dev.setObj 0x2000 0x0C 1).fault 0x0401 none 0).levelMoved s.dev).audit s.dev))) ∧
  (∀ s d, s.dev.pwr.throttleLow = false → s.dev.powered = true → d = ({ s.dev with pwr := { s.dev.pwr with throttleLow := true } } : Dev) →
    exec .throttleNLow s = .next (s.withDev (((d.impose.bump 0x2000 0x10 1).levelMoved d).audit s.dev))) ∧
  (∀ s d, d = ({ s.dev with pwr := { s.dev.pwr with throttleLow := false } } : Dev) → exec .throttleNHigh s = .next (s.withDev ((d.levelMoved s.dev).audit s.dev))) ∧
  (∀ s die, die < 4 → s.dev.pwr.offKind = 0 → exec (.currentLimit die) s = .next (s.withDev (((s.dev.enterE2 (some die)).levelMoved s.dev).audit s.dev))) ∧
  (∀ s t, s.dev.pwr.offKind = 0 → s.dev.pwr.e2 = true → s.dev.pwr.e2Gone = some t → s.dev.junctionAt (celsius 105) = false → t + 1000000 ≤ s.dev.time →
    exec .e2End s = .next (s.withDev ((({ s.dev with pwr := { s.dev.pwr with e2 := false, e2Gone := none } } : Dev).levelMoved s.dev).audit s.dev))) ∧
  (∀ s die ts, die < 4 → s.dev.pwr.offKind = 0 → ts = ((tblGet [] s.dev.pwr.droops die).filter fun t => decide (s.dev.time < t + 1000000)) ++ [s.dev.time] → ts.length ≤ 1000 →
    exec (.droopStretch die) s = .next (s.withDev (((({ s.dev with pwr := { s.dev.pwr with droops := tblSet s.dev.pwr.droops die ts } } : Dev).bump (0x2010 + die) 0x08
      1).levelMoved s.dev).audit s.dev))) ∧
  (∀ s die, die < 4 → s.dev.pwr.offKind = 0 → s.dev.trimFree die = true →
    exec (.trimRequest die) s = .next (s.withDev (((s.dev.trim die).levelMoved s.dev).audit s.dev))) ∧
  (∀ s die, die < 4 → s.dev.pwr.offKind = 0 → s.dev.trimFree die = false → exec (.trimRequest die) s =
    .next (s.withDev ((({ s.dev with pwr := { s.dev.pwr with trimWaiting := insertNat die s.dev.pwr.trimWaiting } } : Dev).levelMoved s.dev).audit s.dev))) ∧
  (∀ s die, die < 4 → s.dev.pwr.offKind = 0 → die ∈ s.dev.pwr.trimWaiting → s.dev.trimFree die = true →
    exec (.trimIntervalEnd die) s = .next (s.withDev (((({ s.dev with pwr := { s.dev.pwr with trimWaiting := s.dev.pwr.trimWaiting.filter fun q => q != die } } : Dev).trim
      die).levelMoved s.dev).audit s.dev))) ∧
  (∀ s stack sensor temp, sensor < (if stack then 32 else 68) → s.dev.powered = true → temp < celsius 95 → s.dev.junctionAt (celsius 105) = false →
    exec (.tempThreshold stack sensor temp) s = .next (s.withDev (((s.dev.reads stack sensor temp).levelMoved s.dev).audit s.dev))) ∧
  (∀ s stack sensor temp, sensor < (if stack then 32 else 68) → s.dev.powered = true → tblGet 200 (if stack then s.dev.pwr.stackTemps else s.dev.pwr.temps) sensor < celsius 95 →
    celsius 95 ≤ temp → temp < celsius 105 → s.dev.junctionAt (celsius 105) = false → exec (.tempThreshold stack sensor temp) s =
      .next (s.withDev ((((s.dev.reads stack sensor temp).fault 0x0402 none (sensorDetail stack sensor)).levelMoved s.dev).audit s.dev))) ∧
  (∀ s stack sensor temp, sensor < (if stack then 32 else 68) → s.dev.powered = true → (if stack then celsius 105 else celsius 115) ≤ temp →
    exec (.thermalTrip stack sensor temp) s = .next (s.withDev ((if tblGet 200 (if stack then s.dev.pwr.stackTemps else s.dev.pwr.temps) sensor < celsius 95
      then (s.dev.reads stack sensor temp).fault 0x0402 none (sensorDetail stack sensor) else s.dev.reads stack sensor temp).trip (sensorDetail stack sensor) (stack, sensor)))) ∧
  (∀ s d, s.dev.powered = true → (s.dev.pwr.pageHour + 1) * 3600000000000 ≤ s.dev.pwr.onNs → d = ({ s.dev with pwr := { s.dev.pwr with pageHour := s.dev.pwr.pageHour + 1 } } : Dev) →
    exec .counterPageWrite s = .next (s.withDev d.writePage)) ∧
  (∀ d, (Dev.writePage d).pwr.newestPage.values = (d.objs.filter fun p => lifeKey p.1) ∧ (Dev.writePage d).pwr.newestPage.onNs = d.pwr.onNs ∧
    (Dev.writePage d).pwr.newestPage.seq = d.pwr.newestPage.seq + 1)

/-- A first failed check of a row is recorded and the open tiles replayed; a second within 1 s means the row has failed: a spare row takes its place, or the core waits for a spare core. A row test marks the rows it finds. A core with a disabled array, or a faulty one, is disabled and its logical number pointed at a free spare; a faulty core's context rewinds or is aborted. While CCn restarts both wait. (R75, R76, R77, R85, R416, R417, R418, R419) -/
def Obligations.FailuresAreMended : Prop :=
  (∀ s c array row p x, c.exists = true → array < 4 → row < 256 → s.dev.realCore c = c → p = s.dev.phys c → x = s.dev.physCore c.cl p → p ≠ 0xFF → s.dev.pwr.offKind = 0 →
    x.failed.contains (array * 512 + row) = false → bit x.arraysOff array = false → s.dev.cmp.heldFaults.contains (c.key, some (array, row)) = false →
    ((∀ t, tblFind x.checks (array * 512 + row) = some t → s.dev.time ≤ t + 1000000000 → s.dev.restarting (3 + c.cl) = false →
        exec (.rowCheck c array row) s = .next (s.withDev ((s.dev.mendRow c array row).audit s.dev))) ∧
     (∀ t, tblFind x.checks (array * 512 + row) = some t → t + 1000000000 < s.dev.time →
        exec (.rowCheck c array row) s = .next (s.withDev ((((s.dev.setPhysCore c.cl p { x with checks := tblSet x.checks (array * 512 + row) s.dev.time }).fault 0x0101 none
          (s.dev.rowDetail c array row)).rowReplay c).audit s.dev))) ∧
     (tblFind x.checks (array * 512 + row) = none →
        exec (.rowCheck c array row) s = .next (s.withDev ((((s.dev.setPhysCore c.cl p { x with checks := tblSet x.checks (array * 512 + row) s.dev.time }).fault 0x0101 none
          (s.dev.rowDetail c array row)).rowReplay c).audit s.dev))))) ∧
  (∀ s cl p x, cl < 8 → p < 12 → x = s.dev.physCore cl p → s.dev.pwr.offKind = 0 → s.dev.inUseCore cl p = false → s.dev.lentCore cl p = false →
    (∀ t, x.tested = some t → t + trimGap ≤ s.dev.pwr.onNs) →
    exec (.rowTest cl p []) s = .next (s.withDev ((s.dev.setPhysCore cl p { x with tested := some s.dev.pwr.onNs }).audit s.dev)) ∧
    (∀ a r, a < 4 → r < 260 → (Dev.physCore (s.dev.setPhysCore cl p { x with tested := some s.dev.pwr.onNs }) cl p).failed.contains (a * 512 + r) = false → s.dev.logicalOf cl p = 15 →
      exec (.rowTest cl p [(a, r)]) s = .next (s.withDev (((s.dev.setPhysCore cl p { x with tested := some s.dev.pwr.onNs }).rowFails cl 15 p a r).audit s.dev)))) ∧
  (∀ s c q, c.exists = true → s.dev.realCore c = c → s.dev.phys c ≠ 0xFF → (s.dev.physCore c.cl (s.dev.phys c)).arraysOff ≠ 0 → s.dev.restarting (3 + c.cl) = false →
    s.dev.pwr.offKind = 0 → s.dev.safe = false → s.dev.cmp.heldFaults = [] → s.dev.freeSpare c.cl = some q →
    exec (.spareCoreSwitch c) s = .next (s.withDev ((((((Dev.setPhysCore (s.dev.disableCore c.cl (s.dev.phys c)) c.cl q
      { s.dev.physCore c.cl q with hold := [], marks := [] }).pointAt c q).halt c false).rowReplay c).retryCore c).audit s.dev))) ∧
  (∀ s c, c.exists = true → s.dev.realCore c = c → s.dev.phys c ≠ 0xFF → s.dev.restarting (3 + c.cl) = false → s.dev.pwr.offKind = 0 → s.dev.safe = false →
    s.dev.cmp.heldFaults = [] → (s.dev.fault 0x0104 none (s.dev.coreDetail c)).restarting (3 + c.cl) = false →
    exec (.coreFault c) s = .next (s.withDev (((s.dev.fault 0x0104 none (s.dev.coreDetail c)).mendCore c).audit s.dev))) ∧
  (∀ d c q, Dev.freeSpare (Dev.disableCore d c.cl (d.phys c)) c.cl = some q → (d.core c).list = none →
    d.mendCore c = ((((d.disableCore c.cl (d.phys c)).stowHold c (d.phys c)).showHold c q).pointAt c q).halt c false)

/-- The patrol scrub of a stack's line without errors does nothing but end a pass on the stack's last line; up to two symbols are corrected and counted for stack and channel; errors of three or more on one die are corrected by erasure, the sixteenth within a second erases the die for good; else the line is poisoned, unless the pattern passes one die's test by chance: then wrong bytes stand, undetected. The SRAM scrub counts corrected words, and a double-bit error poisons the line. (R175, R181, R182, R184) -/
def Obligations.ScrubsFindErrors : Prop :=
  (∀ s stack a e d, stack < 32 → (s.dev.place a).1 = .hbm → (s.dev.stackOf a).1 = stack → s.dev.pwr.offKind = 0 → s.dev.unfilled a = false → d = s.dev.decodeLine stack a (s.dev.stackOf a).2.2 e →
    ((s.dev.stackOf a).2.1 / 64 ≠ 2 ^ 30 - 1 → exec (.patrolScrub stack a e) s = .next (s.withDev (d.audit s.dev))) ∧
    ((s.dev.stackOf a).2.1 / 64 = 2 ^ 30 - 1 → exec (.patrolScrub stack a e) s = .next (s.withDev ((d.bump (0x8300 + stack) 5 1).audit s.dev)))) ∧
  (∀ d stack a ch e, Dev.obj d (0x8300 + stack) 3 = 0xFF →
    (e.count = 0 → d.decodeLine stack a ch e = d) ∧
    (0 < e.count → e.count ≤ 2 → d.decodeLine stack a ch e = (d.bump (0x8300 + stack) 1 1).bumpAt (0xB100 + stack) 1 ch 1) ∧
    (∀ q, 2 < e.count → e.dies.eraseDups = [q] → d.decodeLine stack a ch e = d.byErasure stack ch q) ∧
    (∀ q r qs m, 2 < e.count → e.dies.eraseDups = q :: r :: qs → e.missed = some m → d.decodeLine stack a ch e = (d.miscorrect a m.2).byErasure stack ch m.1) ∧
    (∀ q r qs, 2 < e.count → e.dies.eraseDups = q :: r :: qs → e.missed = none →
      d.decodeLine stack a ch e = (d.bump (0x8300 + stack) 2 1).poisonLine a (3 * 2 ^ 56 + stack + 0xFF00))) ∧
  (∀ s cl a (e : LineErrors), (s.dev.place a).1 = .quay cl → s.dev.pwr.offKind = 0 → e.spare = none →
    (e.double = false → exec (.sramScrub a e) s = .next (s.withDev (s.dev.bump (0x8320 + cl) 2 e.count))) ∧
    (e.double = true → exec (.sramScrub a e) s = .next (s.withDev (((s.dev.bump (0x8320 + cl) 2 e.count).bump (0x8320 + cl) 4 1).poisonLine a
      (9 * 2 ^ 56 + cl + (a - quayBase cl) / 64 * 2 ^ 8))))) ∧
  (∀ s c a (e : LineErrors), (s.dev.place a).1 = .hold c → s.dev.pwr.offKind = 0 → e.double = false → e.spare = none →
    exec (.sramScrub a e) s = .next (s.withDev (s.dev.bump (0x8320 + c.cl) 3 e.count)))

/-- A core whose watchdog expires restarts, with the fault recorded; a new image that does not run within 250 ms is replaced by the previous one; when a restart ends the core runs, an activation is done, what waited for the core goes on and the next pending core activates. After 1 s at E0 deferred activations proceed. (R341, R342, R372, R373) -/
def Obligations.FirmwareCoresRestartAndActivate : Prop :=
  (∀ s k d, k < 15 → s.dev.pwr.offKind = 0 → s.dev.restarting k = false → d = (s.dev.coreRestarts k).fault 0x0501 none (fwDetail k) → (d.fwCore k).activatedAt = none →
    exec (.watchdogExpiry k) s = .next (s.withDev (d.audit s.dev))) ∧
  (∀ s k, k < 15 → s.dev.pwr.offKind = 0 → (s.dev.fwCore k).activation = 2 → (s.dev.fwCore k).restarting = true → (s.dev.fwCore k).since + 250000000 ≤ s.dev.time →
    exec (.activationRevert k) s = .next (s.withDev ((s.dev.fwReverts k).audit s.dev))) ∧
  (∀ d k x, x = Dev.fwCore d k → k ≠ 0 → d.fwReverts k =
    (d.setFw k { x with version := x.previous, image := x.oldImage, activation := 4, activatedAt := none, expiries := 0, since := d.time }).fault 0x0502 none (fwDetail k)) ∧
  (∀ s k x, k < 15 → s.dev.pwr.offKind = 0 → x = s.dev.fwCore k → x.restarting = true → x.stopped = false → x.activation = 2 →
    exec (.firmwareRestartEnd k) s = .next (s.withDev ((Dev.restartFrees s.fuses (s.dev.setFw k { x with restarting := false, activation := 3, activatedAt := some s.dev.time })
      k).activateNext.audit s.dev))) ∧
  (∀ s k x, k < 15 → s.dev.pwr.offKind = 0 → x = s.dev.fwCore k → x.restarting = true → x.stopped = false → x.activation ≠ 2 →
    exec (.firmwareRestartEnd k) s = .next (s.withDev ((Dev.restartFrees s.fuses (s.dev.setFw k { x with restarting := false }) k).activateNext.audit s.dev))) ∧
  (∀ s, s.dev.emergency = 0 → s.dev.pwr.e0Since + 1000000000 ≤ s.dev.time → s.dev.pwr.offKind = 0 →
    ∃ d, d = ({ s.dev with fw := s.dev.fw.map fun (p : Nat × FwCore) => (p.1, { p.2 with heldBack := false }) } : Dev) ∧
      exec .e0HoldExpiry s = .next (s.withDev (d.activateNext.audit s.dev)))

/-- Where the link serves requests, an allowed READ_SHARED or READ_OWN records its line and returns 64 bytes, or waits where a full filter recalls a modified line; READ_UNCACHED returns bytes within one line; a WRITE is posted; a WRITEBACK ends the companion's ownership; FETCH_ADD, SWAP and CAS return the old value and write the new one. A refused request gets its status. (R190, R191, R193, R195) -/
def Obligations.CompanionRequestsAreServed : Prop :=
  (∀ s a, LinkServes s.dev → a % 64 = 0 → s.dev.flitIn.access .companion false a 64 = none → tblFind s.dev.flitIn.host.snoop (s.dev.flitIn.canon a / 64) ≠ some .owned →
    tblFind s.dev.flitIn.host.snoop (s.dev.flitIn.canon a / 64) ≠ some .recalled → ∀ (d : Dev),
      (s.dev.flitIn.record (s.dev.flitIn.canon a / 64) .shared = (d, true) →
        exec (.kclReadShared a) s = .next (s.withDev (d.reply (s.dev.flitIn.read a 64) (s.dev.flitIn.poisonIn a 64)))) ∧
      (s.dev.flitIn.record (s.dev.flitIn.canon a / 64) .shared = (d, false) →
        exec (.kclReadShared a) s = .next (s.withDev { d with host := { d.host with held := d.host.held ++ [.kclReadShared a] } }))) ∧
  (∀ s a, LinkServes s.dev → a % 64 = 0 → s.dev.flitIn.access .companion true a 64 = none → tblFind s.dev.flitIn.host.snoop (s.dev.flitIn.canon a / 64) ≠ some .recalled →
    ∀ (d : Dev), s.dev.flitIn.record (s.dev.flitIn.canon a / 64) .owned = (d, true) →
      exec (.kclReadOwn a) s = .next (s.withDev (d.reply (s.dev.flitIn.read a 64) (s.dev.flitIn.poisonIn a 64)))) ∧
  (∀ s a n, LinkServes s.dev → 0 < n → a % 64 + n ≤ 64 → s.dev.flitIn.access .companion false a n = none →
    exec (.kclReadUncached a n) s = .next (s.withDev (s.dev.flitIn.reply (s.dev.flitIn.read a n) (s.dev.flitIn.poisonIn a n)))) ∧
  (∀ s a n st, LinkServes s.dev → 0 < n → a % 64 + n ≤ 64 → s.dev.flitIn.access .companion false a n = some st →
    exec (.kclReadUncached a n) s = .next (s.withDev (s.dev.flitIn.refuse st))) ∧
  (∀ s a bs mask bad, LinkServes s.dev → bs ≠ [] → a % 64 + bs.length ≤ 64 → (s.dev.flitIn.place a).1 ≠ .control →
    s.dev.flitIn.access .companion true a bs.length = none → s.dev.flitIn.pinned a bs.length = false →
    exec (.kclWrite a bs mask bad) s = .next (s.withDev (s.dev.flitIn.writeMask a bs mask bad))) ∧
  (∀ s a bs bad, LinkServes s.dev → a % 64 = 0 → bs.length = 64 → tblFind s.dev.flitIn.host.snoop (s.dev.flitIn.canon a / 64) = some .owned → s.dev.flitIn.pinned a 64 = false →
    s.dev.flitIn.access .companion true a 64 = none →
    ∃ d, d = (({ s.dev.flitIn with host := { s.dev.flitIn.host with snoop := tblErase s.dev.flitIn.host.snoop (s.dev.flitIn.canon a / 64) } } : Dev).write a bs
        bad).lateRecords ∧
      exec (.kclWriteback a bs bad) s = .next (s.withDev ((((List.range 64).filter fun c => (d.ctx c).waiting != []).foldl Dev.flush d.svcFlush).pump.outcomeDue
        true).mirrorGo.retry).again) ∧
  (∀ s a size v w, LinkServes s.dev → (size = 4 ∨ size = 8) → a % size = 0 → s.dev.flitIn.access .companion true a size = none → s.dev.flitIn.pinned a size = false →
    ∃ d old, d = s.dev.flitIn ∧ old = leNat (d.read a size) ∧
      exec (.kclFetchAdd a size v) s = .next (s.withDev ((d.write a (natLe size ((old + v) % 2 ^ (8 * size))) (d.poisonIn a size)).reply (natLe size old) (d.poisonIn a size))) ∧
      exec (.kclSwap a size v) s = .next (s.withDev ((d.write a (natLe size (v % 2 ^ (8 * size))) (d.poisonIn a size)).reply (natLe size old) (d.poisonIn a size))) ∧
      (old = v % 2 ^ (8 * size) → exec (.kclCas a size v w) s =
        .next (s.withDev ((d.write a (natLe size (w % 2 ^ (8 * size))) (d.poisonIn a size)).reply (natLe size old) (d.poisonIn a size)))) ∧
      (old ≠ v % 2 ^ (8 * size) → exec (.kclCas a size v w) s =
        .next (s.withDev ((d.write a (natLe size (old % 2 ^ (8 * size))) (d.poisonIn a size)).reply (natLe size old) (d.poisonIn a size)))))

/-- A failed lane in use leaves a half or a quarter, with KCL_LANES, a fault and a retrain, and closes the companion's connections; with no lanes left, or when tags fail, the link goes down. A failed flit is counted. Training raises the link on the lanes that are left, and requests held through a retrain complete. A beat of the host restarts its supervision. (R189, R345, R444, R464) -/
def Obligations.KclLinkEventsHappen : Prop :=
  (∀ s lane lost, lane < 32 → s.dev.host.linkUp = true → lane ∈ lanesInUse s.dev.host.lanesLost → s.dev.pwr.offKind < 3 → lost = s.dev.host.lanesLost ++ [lane] → lanesInUse lost ≠ [] →
    ∃ d, d = ({ s.dev with host := { s.dev.host with lanesLost := lost, retraining := true }, sec := { s.dev.sec with conns := s.dev.sec.conns.filter fun c => !c.kcl } } : Dev) ∧
      exec (.kclLaneFailure lane) s = .next (s.withDev ((d.setObj 0x8000 9 (lanesInUse lost).length).fault 0x0305 none 0)).again) ∧
  (∀ s, s.dev.host.linkUp = true → s.dev.pwr.offKind < 3 → exec .flitCrcFailure s = .next (s.withDev (s.dev.bump 0x8000 0x0A 1))) ∧
  (∀ s, s.dev.host.linkUp = true → s.dev.pwr.offKind < 3 → exec .kclTagFailures s = .next (s.withDev s.dev.linkDown).again) ∧
  (∀ s, lanesInUse s.dev.host.lanesLost ≠ [] → s.dev.pwr.offKind < 3 → (s.dev.host.linkUp = false ∨ s.dev.host.retraining = true) →
    exec .kclTraining s = .next (s.withDev (({ s.dev with host := { s.dev.host with linkUp := true, retraining := false } } : Dev).newLinkKey.setObj 0x8000 9
      (lanesInUse s.dev.host.lanesLost).length).replayHeld).again) ∧
  (∀ s v, LinkServes s.dev → exec (.hostHeartbeat v) s = .next (s.withDev { s.dev.flitIn with host := { s.dev.flitIn.host with lastBeat := s.dev.time } }))

/-- A submission doorbell within the ring's depth sets the tail, and one beyond it overruns the ring: OVERRUN is posted and the fault recorded. A completion head write makes room. The service page moves the service queue's indices. A token attaches where no session is, reattaches after host loss, and detaches: without contexts the session ends, with contexts it is host loss, and after host loss everything is wiped. (R343, R344, R347, R353, R376) -/
def Obligations.DoorbellsAndTheSessionWork : Prop :=
  (∀ s c v, c < 64 → LinkServes s.dev → v < 2 ^ 32 → (s.dev.flitIn.leaveIdle.ringState c = 1 ∨ s.dev.flitIn.leaveIdle.ringState c = 3) →
    ((v + 2 ^ 32 - s.dev.flitIn.leaveIdle.sqHead c) % 2 ^ 32 ≤ s.dev.flitIn.leaveIdle.sqDepth c →
      exec (.submissionTail c v) s = .next (s.withDev (s.dev.flitIn.leaveIdle.modCtx c fun x => { x with sqTail := v }))) ∧
    (s.dev.flitIn.leaveIdle.sqDepth c < (v + 2 ^ 32 - s.dev.flitIn.leaveIdle.sqHead c) % 2 ^ 32 → exec (.submissionTail c v) s = .next (s.withDev
      (((s.dev.flitIn.leaveIdle.setRing c 2).post c (completionWord c 0 0 (s.dev.flitIn.leaveIdle.setRing c 2).time stOverrun 0xFFFF 0xFFFF 0 false)).fault 0x0601 (some c) 0)))) ∧
  (∀ s c v, c < 64 → LinkServes s.dev → v < 2 ^ 32 → s.dev.flitIn.leaveIdle.ringState c ≠ 0 →
    exec (.completionHead c v) s = .next (s.withDev ((s.dev.flitIn.leaveIdle.modCtx c fun x => { x with cqHead := v }).flush c))) ∧
  (∀ s v d, LinkServes s.dev → d = s.dev.flitIn.leaveIdle → v < 2 ^ 32 → d.svcDepth ≠ 0 → d.svcCqDepth ≠ 0 →
    exec (.serviceTail true v) s = .next (s.withDev ({ d with host := { d.host with svcCqHead := v } } : Dev).svcFlush) ∧
    (d.host.svcOver = false → (v + 2 ^ 32 - d.svcHead) % 2 ^ 32 ≤ d.svcDepth → exec (.serviceTail false v) s = .next (s.withDev { d with host := { d.host with svcTail := v } })) ∧
    (d.host.svcOver = false → d.svcDepth < (v + 2 ^ 32 - d.svcHead) % 2 ^ 32 → exec (.serviceTail false v) s = .next (s.withDev
      ((({ d with host := { d.host with svcOver := true, svcTail := d.svcHead } } : Dev).svcDone 0 0 0 stOverrun).fault 0x0601 none 0)))) ∧
  (∀ s t d, LinkServes s.dev → d = s.dev.flitIn → d.host.token = none →
    exec (.attach t) s = .next (s.withDev ((({ d with host := { d.host with token := some (t % 2 ^ 64), lastBeat := d.time } } : Dev).setObj 0xD000 0x0F 1).hostStatus 0))) ∧
  (∀ s t d, LinkServes s.dev → d = s.dev.flitIn → d.host.token = some (t % 2 ^ 64) →
    (d.hostState ≠ 0 → d.restarting 2 = false → exec (.attach t) s = .next (s.withDev d.reattach)) ∧ (d.hostState = 0 → exec (.attach t) s = .next (s.withDev d.attachRefused)) ∧
    (d.hostState = 0 → d.sessionCtxs = [] → exec (.detach t) s = .next (s.withDev (d.endSession.audit d))) ∧
    (d.hostState = 0 → d.sessionCtxs ≠ [] → exec (.detach t) s = .next (s.withDev (d.hostLoss.audit d))) ∧
    (d.hostState ≠ 0 → d.restarting 2 = false → exec (.detach t) s = .next (s.withDev (d.wipeSession.audit d)))) ∧
  (∀ s t u d, LinkServes s.dev → d = s.dev.flitIn → d.host.token = some u → u ≠ t % 2 ^ 64 →
    exec (.attach t) s = .next (s.withDev d.attachRefused) ∧ exec (.detach t) s = .next (s.withDev (d.attachRefused.audit d)))

/-- When no beat came for HOST_HB_LOSS while SCH runs, host loss begins. A context parks where it can; at HOST_DRAIN_LIMIT every context is saved or held; HOST_PARK_WAIT after that the session is wiped. While a status other than host present holds, it is sent again every 100 ms. (R364, R366, R368, R369) -/
def Obligations.HostLossRunsItsCourse : Prop :=
  (∀ s, s.dev.restarting 2 = false → s.dev.pwr.offKind < 3 → s.dev.obj 0x2000 0x28 = 8 → s.dev.host.lastBeat + s.dev.obj 0xD000 0x0A * 1000000 ≤ s.dev.time → exec .hostHbLoss s = .next (s.withDev s.dev.hostLoss)) ∧
  (∀ s ctx, ctx < 64 → s.dev.hostState = 1 → s.dev.schReady = true → exec (.contextPark ctx) s = .next (s.withDev (s.dev.park ctx).hostRest)) ∧
  (∀ d ctx, (Dev.ctx d ctx).state = 5 → d.park ctx = d.modCtx ctx fun x => { x with state := 8, saveWanted := false }) ∧
  (∀ d ctx, (Dev.ctx d ctx).state = 4 → (d.ctx ctx).stopWanted = false → (d.ctx ctx).parkWanted = false → (d.ctx ctx).gangSize ≤ 1 → d.atBarriers ctx = true → d.canSave ctx = true →
    d.park ctx = d.saveCtx ctx 8) ∧
  (∀ s t, s.dev.host.lossAt = some t → s.dev.hostState = 1 → s.dev.schReady = true → t + s.dev.obj 0xD000 0x0B * 1000000 ≤ s.dev.time →
    exec .hostDrainLimit s = .next (s.withDev (s.dev.sessionCtxs.foldl Dev.drainCtx s.dev).hostRest)) ∧
  (∀ s t, s.dev.host.restAt = some t → s.dev.hostState = 2 → s.dev.schReady = true → t + s.dev.obj 0xD000 0x0C * 1000000000 ≤ s.dev.time →
    exec .hostParkWait s = .next (s.withDev (s.dev.wipeSession.audit s.dev))) ∧
  (∀ s, s.dev.net.statusKind ≠ 0 → s.dev.net.lastStatus + 100000000 ≤ s.dev.time → exec .nodeStatusSend s =
    .next (s.withDev (({ s.dev with net := { s.dev.net with lastStatus := s.dev.time } } : Dev).sendStatus s.dev.net.statusKind s.dev.net.statusSubject s.dev.net.statusSince)))

/-- A well-formed request at the head of the service queue is taken. A local copy that both checks allow moves its bytes with their poison and completes OK; a JPEG stream's planes are written as sample minus 128 and counted; a checkpoint begins a snapshot of its set; a SUBMIT writes its docket at the ring's tail and moves the tail. An unknown code completes UNSUPPORTED. (R375, R376, R377) -/
def Obligations.ServicesAreServed : Prop :=
  (∀ s ext w d, ServiceAt s.dev w → svCode w = 2 → d = s.dev.serviceTaken → svSrc w / 2 ^ 48 = d.midOf (svCtx w) → svDst w / 2 ^ 48 = d.midOf (svCtx w) →
    d.access (.ctx (svCtx w)) false (svSrc w % 2 ^ 48) (svLen w) = none → d.access (.ctx (svCtx w)) true (svDst w % 2 ^ 48) (svLen w) = none →
    s.dev.writesFree (Dev.copyWrites w s.dev) →
    exec (.svcIngestCopy ext) s = .next (s.withDev ((((d.copyRun (svSrc w % 2 ^ 48) (svDst w % 2 ^ 48) (svLen w)).1.ioTug d.svcTugs (svLen w))).svcDone (svCtx w) 2 (svTag w) stOK))) ∧
  (∀ s ext w, ServiceAt s.dev w → 4 < svCode w →
    exec (.svcIngestCopy ext) s = .next (s.withDev (s.dev.serviceTaken.svcDone (svCtx w) (svCode w) (svTag w) stUnsupported))) ∧
  (∀ s w (j : JpegFacts) d bs bad rows x h, ServiceAt s.dev w → svCode w = 1 → d = s.dev.serviceTaken → svStride w % 8 = 0 → j.intact = true →
    d.svcSource (svCtx w) (svSrc w) (svLen w) j.far = .inr (bs, bad, d) → jpegHead bs = some h → h.supported = true → rows = jpegRows h j (svDst w) (svStride w) →
    Dev.putRows (svCtx w) (bad 0 (svLen w)) j.far.accepted rows d = (x, stOK) → s.dev.writesFree (Dev.jpegWrites j w s.dev) →
    exec (.svcIngestJpeg j) s = .next (s.withDev (((x.ioTug d.svcTugs (svLen w + (rows.map fun r => r.2.length).sum)).bump 0xC000 6 (h.width * h.height)).svcDone
      (svCtx w) 1 (svTag w) stOK))) ∧
  (∀ s w x k, ServiceAt s.dev w → svCode w = 3 → s.dev.snapBusy (svCtx w) (svSet w) = false → svSet w ≤ 15 → s.dev.serviceTaken.sset (svCtx w) (svSet w) = some x →
    k = s.dev.serviceTaken.svcCore →
    exec .svcCheckpoint s = .next (s.withDev { k.2 with cmp := { k.2.cmp with snaps := k.2.cmp.snaps ++
      [({ ctx := svCtx w, set_ := svSet w, bank := x.snapBank, dst := svDst w, abandon := false, bar := 0xFFFF, tag := none, svc := some (svTag w, k.1) } : Snap)] } })) ∧
  (∀ s w bs bad e d c tail, ServiceAt s.dev w → svCode w = 4 → c = svCtx w → s.dev.serviceTaken.svcSource c (svSrc w) 64 s.dev.serviceTaken.farDocket = .inr (bs, bad, e) → d = e.farDrawn w → d.ringState c ≠ 0 → tail = (d.ctx c).sqTail →
    s.dev.writesFree (Dev.submitWrites w s.dev) → d.access .firmware true (d.sqBase c + 64 * (tail % d.sqDepth c)) 64 = none →
    exec .svcSubmit s = .next (s.withDev ((((d.write (d.sqBase c + 64 * (tail % d.sqDepth c)) bs (bad 0 64)).ioTug d.svcTugs 64).newTail c ((tail + 1) % 2 ^ 32)).svcDone c 4
      (svTag w) stOK)))

/-- A docket that SCH may start and its context accepts is taken from its ring and does its work: a NOP completes in order; CREATE takes the key slot and makes the context CREATED; ADMIT is checked and, where every check passes, placed; LAUNCH begins one list on each core it names; STOP of a saved context makes it STOPPED, START makes a STOPPED one READY, ABORT aborts, DESTROY wipes the context. All but ADMIT, LAUNCH and a STOP that must save complete at once. (R346, R347, R349, R350, R357, R361) -/
def Obligations.DocketsDoTheirWork : Prop :=
  (∀ s c w d, DocketAt s.dev c w 0 → d = s.dev.docketTaken c w → exec (.docketNop c) s = .next (s.withDev (Dev.nops c (d.ctx c).runs.length d))) ∧
  (∀ s c w d, DocketAt s.dev c w 1 → s.dev.restarting 0 = false → d = s.dev.docketTaken c w →
    ∃ e, e = ({ d with sec := { d.sec with slots := tblSet d.sec.slots c d.fresh }, fresh := d.fresh + 1 } : Dev) ∧
      exec (.docketCreate c) s = .next (s.withDev ((e.modCtx c fun x => { x with state := 1 }).docketDone c (d.lastRun c) stOK 0xFFFF 0xFFFF 0))) ∧
  (∀ s c w d, DocketAt s.dev c w 2 → (∀ p ∈ s.dev.admitReads (dkArg w), s.dev.ownedIn p.1 p.2 = false) → d = s.dev.docketTaken c w →
    exec (.docketAdmit c) s = .next (s.withDev (Dev.admitCtx s.fuses d c w (d.lastRun c)))) ∧
  (∀ f d c w r bs t, Dev.fwRead d (dkArg w) 128 = .inr bs → Fuses.mayMeet f = true → d.descriptorOk c (leNat bs) = true → d.fwTables c (leNat bs) = .inr t → d.tablesOk c t = true →
    d.admitConflict t = none → d.unreachedMember t = none → (((tabSets t).any fun p => p.2.mirror) = false ∨ d.obj 0xA000 3 = 1) →
    Dev.admitCtx f d c w r = Dev.admitLocal f d c t r.seq) ∧
  (∀ s c w d ls, DocketAt s.dev c w 3 → s.dev.headPlan c = some (.go ls) → d = s.dev.docketTaken c w →
    ∃ e, e = ls.foldl (fun d l => d.startList c l) d ∧ exec (.docketLaunch c) s = .next (s.withDev ((e.modCtx c fun x =>
      { x with state := 4, restoredAt := if x.restoredAt = 0 then e.time else x.restoredAt,
               runs := x.runs.map fun q => if q.seq == (d.lastRun c).seq then { q with lists := ls.map fun l => { key := l.1.key }, since := e.time } else q }).runOn c))) ∧
  (∀ s c w d, DocketAt s.dev c w 4 → d = s.dev.docketTaken c w → ((d.ctx c).state = 5 ∨ (d.ctx c).saved ≠ []) →
    exec (.docketStop c) s = .next (s.withDev ((d.modCtx c fun x => { x with state := 6, saveWanted := false }).docketDone c (d.lastRun c) stOK 0xFFFF 0xFFFF 0))) ∧
  (∀ s c w d, DocketAt s.dev c w 4 → d = s.dev.docketTaken c w → (d.ctx c).state ≠ 5 → (d.ctx c).saved = [] →
    exec (.docketStop c) s = .next (s.withDev (((d.deferGang c).modCtx c fun x => { x with stopWanted := true }).trySave c))) ∧
  (∀ s c w d, DocketAt s.dev c w 5 → d = s.dev.docketTaken c w →
    exec (.docketStart c) s = .next (s.withDev ((d.modCtx c fun x => { x with state := 3 }).docketDone c (d.lastRun c) stOK 0xFFFF 0xFFFF 0))) ∧
  (∀ s c w d, DocketAt s.dev c w 6 → d = s.dev.docketTaken c w →
    exec (.docketAbort c) s = .next (s.withDev (((d.abortCtx c none).settleRuns c).docketDone c (d.lastRun c) stOK 0xFFFF 0xFFFF 0))) ∧
  (∀ s c w d, DocketAt s.dev c w 7 → d = s.dev.docketTaken c w → (((s.dev.coresOf c).any fun k => (s.dev.core k).list.isSome) = false ∨ (s.dev.ctx c).state ≠ 9) →
    exec (.docketDestroy c) s = .next (s.withDev (((d.destroyCtx c).docketDone c (d.lastRun c) stOK 0xFFFF 0xFFFF 0).audit s.dev)))

/-- A list whose orders and descriptors are all done completes with its status, and its LAUNCH hears of it. A contended context past its quantum or TIMESLICE is asked to save and saved at its boundary. The best saved context whose cores are free is restored. SCH's budget starts pilot dispatch, which takes one ring's docket, and SCH's readiness ends it. A member's abort ends the context here; a digest is noted, opening the session of a barrier's home with its member, and so are a changed fingerprint and a step of a gang pre-emption point; 100 ms without a session or group refuses the admission. (R160, R250, R302, R357, R359, R360, R361, R363) -/
def Obligations.SchedulingHappens : Prop :=
  (∀ s c ctx l, c.exists = true → (s.dev.core c).armed = some ctx → (s.dev.core c).list = some l → s.dev.listDone c ctx = true →
    exec (.orderListComplete c) s = .next (s.withDev
      (((((s.dev.modCore c fun x => { x with list := none, acksDue := [] }).listResult ctx c.key l.outcome).idleCtx ctx).settleRuns ctx).trySave ctx))) ∧
  (∀ s ctx, ctx < 64 → s.dev.schReady = true → s.dev.preemptible ctx = true → exec (.preemption ctx) s = .next (s.withDev ((s.dev.askSave ctx).trySave ctx))) ∧
  (∀ d e ctx, e = Dev.gangStep d ctx → e.schReady = true → (e.ctx ctx).saveAsked = true → ((e.ctx ctx).state = 3 ∨ (e.ctx ctx).state = 4) → e.holdsOwned (e.ctx ctx).cores = false → e.canSave ctx = true →
    (e.ctx ctx).stopWanted = false → (e.ctx ctx).parkWanted = false → d.trySave ctx = (e.saveCtx ctx 5).bump 0xD000 7 1) ∧
  (∀ s ctx, ctx < 64 → s.dev.schReady = true → (s.dev.ctx ctx).state = 4 → s.dev.obj 0xD000 2 ≤ s.dev.ranFor ctx → s.dev.obj 0xD000 3 ≤ s.dev.ranFor ctx →
    s.dev.contended ctx (fun q => q == (s.dev.ctx ctx).prio) = true → exec (.timesliceExpiry ctx) s = .next (s.withDev ((s.dev.askSave ctx).trySave ctx))) ∧
  (∀ s ctx, ctx < 64 → s.dev.schReady = true → (s.dev.ctx ctx).state = 4 → s.dev.obj 0xD000 3 ≤ s.dev.ranFor ctx →
    s.dev.contended ctx (fun q => decide (q < (s.dev.ctx ctx).prio)) = true → exec (.minQuantumExpiry ctx) s = .next (s.withDev ((s.dev.askSave ctx).trySave ctx))) ∧
  (∀ s ctx, ctx < 64 → s.dev.schReady = true → s.dev.safe = false → s.dev.canRestore (s.dev.ctx ctx) ctx = true →
    (s.dev.ctxs.any fun p => p.1 != ctx && s.dev.canRestore p.2 p.1 && goesBefore p.2 (s.dev.ctx ctx)) = false →
    s.dev.holdsOwned ((s.dev.ctx ctx).saved.map SavedCore.key) = false → exec (.restore ctx) s = .next (s.withDev (s.dev.restoreCtx ctx))) ∧
  (∀ s, s.dev.obj 0xD000 4 ≠ 1 → exec .decisionBudgetExpiry s = .next (s.withDev ((s.dev.setObj 0xD000 4 1).bump 0xD000 5 1))) ∧
  (∀ s, s.dev.restarting 2 = false → exec .schReady s = .next (s.withDev (s.dev.setObj 0xD000 4 0))) ∧
  (∀ s ctx d w ls, ctx < 64 → s.dev.obj 0xD000 4 = 1 → (s.dev.ctx ctx).seekStart = false → s.dev.pilotPick ctx = true → d = ({ s.dev with host := { s.dev.host with pilotLast := ctx } } : Dev) →
    d.headDocket ctx = some w → d.headPlan ctx = some (.go ls) →
    exec (.pilotDispatch ctx) s = .next (s.withDev ((d.startDocket ctx w fun r d => d.launch ctx r (.go ls)).bump 0xD000 6 1))) ∧
  (∀ s ctx rank, ctx < 64 → rank < 16384 → rank ≠ s.dev.rank → rank ∈ (s.dev.ctx ctx).members →
    exec (.gangAbort ctx rank none) s = .next (s.withDev ((s.dev.abortCtx ctx none).settleRuns ctx)) ∧
    (∀ grp seq, exec (.gangAbort ctx rank (some (grp, seq))) s = .next (s.withDev (((s.dev.collDisagrees ctx grp seq).abortCtx ctx none).settleRuns ctx)))) ∧
  (∀ s ctx rank v fpr, ctx < 64 → rank < 16384 → ((s.dev.ctx ctx).state = 1 ∨ (s.dev.ctx ctx).state = 2) →
    exec (.memberDigest ctx rank (.digest v fpr)) s = .next (s.withDev (((Dev.meetMember s.fuses (s.dev.modCtx ctx fun x =>
      { x with digests := (x.digests.filter fun e => e.1 != rank) ++ [(rank, v, fpr)], ready := x.ready.filter fun r => r != rank,
               admitting := x.admitting.map fun a => { a with said := false } }) ctx rank).admitGo ctx).audit s.dev))) ∧
  (∀ s ctx rank step, ctx < 64 → rank < 16384 → 2 ≤ (s.dev.ctx ctx).state → rank ∈ (s.dev.ctx ctx).members → rank ≠ s.dev.rank →
    exec (.memberDigest ctx rank (.gang step)) s = .next (s.withDev ((s.dev.gangTold ctx rank step).audit s.dev))) ∧
  (∀ s ctx rank, ctx < 64 → rank < 16384 → (s.dev.ctx ctx).resident = true → rank ∈ (s.dev.ctx ctx).members → rank ≠ s.dev.rank →
    exec (.gangFprChanged ctx rank) s = .next (s.withDev (s.dev.setObj (0x7100 + ctx) 4 1))) ∧
  (∀ s ctx a r, ctx < 64 → (s.dev.ctx ctx).admitting = some a → a.since + 100000000 ≤ s.dev.time → s.dev.absentMember ctx a = some r →
    exec (.sessionOpenTimeout ctx) s = .next (s.withDev (s.dev.unadmit ctx stMemberAbsent (s.dev.gangOf ctx r))))

/-- A DATA packet of each operation of R247, for this module, in order, of an OPEN session, is counted at its port and received in its session: the next one in PSN order is applied with those held behind it, one ahead within the reorder window is held, and the accepted packets of a class are applied one after another until one must wait. (R242, R247, R248, R251, R252, R253, R315) -/
def Obligations.PacketsAreAccepted : Prop :=
  (∀ s p x t, p.port < 20 → p.half < 2 → PacketFor s.dev p x → p.typ = 0 → t = s.withDev ((s.dev.rxFrame p.port).recvData p.session x p) →
    (p.op = 0x1 → exec (.gezalWrite p) s = .next t) ∧
    (p.op = 0x2 → exec (.gezalRead p) s = .next t) ∧
    (p.op = 0x3 → exec (.gezalReadResp p) s = .next t) ∧
    (p.op = 0x4 → exec (.gezalDone p) s = .next t) ∧
    (p.op = 0x10 → exec (.gezalConvey p) s = .next t) ∧
    (p.op = 0x11 → exec (.gezalCredit p) s = .next t) ∧
    (p.op = 0x20 → exec (.gezalArrive p) s = .next t) ∧
    (p.op = 0x21 → exec (.gezalArriveAck p) s = .next t) ∧
    (p.op = 0x22 → exec (.gezalRelease p) s = .next t) ∧
    (p.op = 0x23 → exec (.gezalPoisonBarrier p) s = .next t) ∧
    (p.op = 0x30 → exec (.gezalCollect p) s = .next t) ∧
    (p.op = 0x41 → exec (.gezalMirror p) s = .next t) ∧
    (p.op = 0x60 → exec (.gezalNodeStatus p) s = .next t) ∧
    (p.op = 0x40 → stepKind p = 0 → exec (.gezalVote p) s = .next t) ∧
    (p.op = 0x40 → stepKind p = 1 → exec (.gezalOutcome (some p)) s = .next t) ∧
    (p.op = 0x40 → stepKind p = 2 → exec (.gezalHeartbeat p) s = .next t) ∧
    (p.op = 0x40 → stepKind p = 3 → exec (.gezalTakeover p) s = .next t) ∧
    (p.op = 0x40 → stepKind p = 4 → exec (.gezalReconcile p) s = .next t)) ∧
  (∀ d key x p r, r = (Session.rxc x p.cls).accept p (Dev.obj d 0x3100 6) d.time → r.2 = false →
    ∃ e, e = Dev.drainRx key p.cls (r.1.stalled.length + 1) (d.leaveIdle.setSession key { x with rx := tblSet x.rx p.cls r.1 }) ∧
      (∀ y, e.session key = some y → (y.rxc p.cls).fresh < 16 → d.recvData key x p = e.retry) ∧
      (∀ y, e.session key = some y → 16 ≤ (y.rxc p.cls).fresh → d.recvData key x p = (e.sendAck key p.cls).retry)) ∧
  (∀ (r : RxClass) (p : Packet) w time, psnAfter p.psn r.next = 0 → r.held = [] → r.accept p w time =
    ({ r with ce := r.ce || p.ce, ackSince := some (r.ackSince.getD time), next := (r.next + 1) % 2 ^ 32, promised := r.promised - 1, stalled := r.stalled ++ [p], fresh := r.fresh + 1, gapSince := none }, false)) ∧
  (∀ (r : RxClass) (p : Packet) w time, 0 < psnAfter p.psn r.next → psnAfter p.psn r.next < 2 ^ 31 → (r.held.any fun q => q.psn == p.psn) = false →
    (psnAfter p.psn r.next < w → r.accept p w time = ({ r with ce := r.ce || p.ce, ackSince := some (r.ackSince.getD time), held := r.held ++ [p], fresh := r.fresh + 1, gapSince := some (r.gapSince.getD time) }, false)) ∧
    (w ≤ psnAfter p.psn r.next → (r.accept p w time).2 = true)) ∧
  (∀ d key cls fuel x y p rest e, Dev.session d key = some x → (x.rxc cls).stalled = p :: rest →
    d.applyPkt key { x with rx := tblSet x.rx cls { x.rxc cls with stalled := rest } } p = some e → e.session key = some y → (y.rxc cls).stalled = rest →
    Dev.drainRx key cls (fuel + 1) d = Dev.drainRx key cls fuel (e.setSession key y))

/-- An allowed WRITE is written, and its last one answered with DONE; a refused one writes nothing, and its DONE tells the status (log 47: the form is the model's choice), with which the descriptor ends; an allowed READ is answered with READ_RESP packets of at most PAYLOAD_MAX; READ_RESP data is written at its place; DONE completes its descriptor; CONVEY delivers a whole message into the next slot, and keeps the pieces of one cut (log 86); CREDIT returns credits; ARRIVE is counted and ARRIVE_ACK told to its core; RELEASE moves a copy on and ends waits; POISON_BARRIER poisons; COLLECT and VOTE arrive; HEARTBEAT is seen; TAKEOVER and NODE_STATUS are obeyed; MIRROR writes a standby's bank. For each of the 18 rows: a packet that comes next in its class completes with that effect, under conditions on the state and the packet alone. (R165, R168, R213, R218, R228, R247, R256, R315, R330, R332, R334) -/
def Obligations.PacketOperationsApply : Prop :=
  (∀ d key x p, Dev.rankSaved d x p.addr = false → Dev.addressHere d p.addr = true → d.access .peer true (p.addr % 2 ^ 48 - p.runBefore) (p.runBefore + p.payload.length + p.runAfter) = none → d.pinned (p.addr % 2 ^ 48) p.payload.length = false →
    d.ownedIn (p.addr % 2 ^ 48) p.payload.length = false →
    x.badWrite = 0 →
    (p.last = false → d.applyWrite key x p =
      some ((d.write (p.addr % 2 ^ 48) p.payload p.poison).setSession key { x with wrote := x.wrote + p.payload.length })) ∧
    (p.last = true → d.applyWrite key x p =
      some (((d.write (p.addr % 2 ^ 48) p.payload p.poison).setSession key { x with wrote := 0 }).sendData key { cls := clResp, op := 0x04, addr := p.psn }))) ∧
  (∀ d key x p st, Dev.rankSaved d x p.addr = false → Dev.addressHere d p.addr = true → x.badWrite = 0 → d.access .peer true (p.addr % 2 ^ 48 - p.runBefore) (p.runBefore + p.payload.length + p.runAfter) = some st →
    (p.last = false → d.applyWrite key x p = some ((d.refused st).setSession key { x with badWrite := st })) ∧
    (p.last = true → d.applyWrite key x p = some (((d.refused st).setSession key { x with badWrite := 0, wrote := 0 }).sendData key
      { cls := clResp, op := 0x04, addr := p.psn, refusal := st, before := x.wrote }))) ∧
  (∀ d key x p n, n = leNat (slice (Packet.payload p) 0 3) → Dev.rankSaved d x p.addr = false → Dev.addressHere d p.addr = true → n ≠ 0 → d.access .peer false (p.addr % 2 ^ 48) n = none → d.ownedIn (p.addr % 2 ^ 48) n = false →
    d.canSend key clResp = true → d.applyRead key x p = some ((List.range (ceilDiv n d.payloadMax)).foldl (fun e i => e.respond key p (p.addr % 2 ^ 48) n d.payloadMax i) d)) ∧
  (∀ d key p cl t pos i, Dev.findTug d (fun i => i.remote == 1 && i.sess == key && i.txn == field (Packet.addr p) 31 0) = some (cl, t, pos, i) → d.tugAllSent i = true →
    (∀ y, d.session key = some y → y.flush ≠ some (field (Packet.addr p) 31 0)) →
    (p.refusal = 0 → d.applyDone key p = d.tugRemoteDone cl t pos i) ∧ (p.refusal ≠ 0 → d.applyDone key p =
      d.tugFails cl t pos i (p.before / tgLen i.desc * tgLen i.desc) p.refusal)) ∧
  (∀ d c p v, Dev.sibling d c = none → d.conv c (Packet.channel p) = some v → epMid v.cons = d.midOf c → (d.ctx c).saved = [] → d.ownedIn (v.slotAt v.visible) v.slot = false →
    d.pinned (v.slotAt v.visible) v.slot = false →
    (bit p.addr 16 = true → d.applyConvey c p = some (d.setConv c p.channel { v with pieces := v.pieces ++ p.payload, piecesBad := v.piecesBad || p.poison })) ∧
    (bit p.addr 16 = false → d.applyConvey c p = some (d.deliver c p.channel { v with pieces := [], piecesBad := false } v.visible (field p.addr 15 0)
      ((v.pieces ++ p.payload).take (v.slot - 8)) (v.piecesBad || p.poison)))) ∧
  (∀ d c p v, Dev.sibling d c = none → d.conv c (Packet.channel p) = some v → epMid v.prod = d.midOf c →
    d.applyCredit c p = d.setConv c p.channel { v with credits := v.credits + field p.addr 15 0 }) ∧
  (∀ d c p, Dev.sibling d c = none → (d.ctx c).remap = [] → field (Packet.addr p) 15 0 ≠ 0 → d.applyArrive c p = d.countArrival { ctx := c, bar := p.channel, weight := field p.addr 15 0, kind := field p.addr 35 32, who := ⟨d.gangOf c p.src, epCore (field p.addr 31 16)⟩ }) ∧
  (∀ d c p, Dev.sibling d c = none → d.applyArriveAck c p = d.acknowledge c p.channel (epCore (field p.addr 47 32)) (some (field p.addr 31 0))) ∧
  (∀ d n g c b, Dev.bar d c n = some b → b.home ≠ (d.ctx c).gangRank → b.poisoned = false → genDone g b.gen = false →
    ∃ e, e = (if b.gangpoint then (d.setBar c n { b with gen := (g + 1) % 2 ^ 32 }).modCtx c fun x => { x with gangHeld := false, gangSaid := false }
      else d.setBar c n { b with gen := (g + 1) % 2 ^ 32 }) ∧ d.releaseHere n g c = (e.coresWhere (releasedBy c n g)).foldl Dev.waitEnds e) ∧
  (∀ d c p, Dev.sibling d c = none → (d.ctx c).remap = [] → d.applyVote c p = d.countArrival { ctx := c, bar := field p.addr 41 32, weight := 1, kind := 4, who := ⟨d.gangOf c p.src, epCore (leNat (slice p.payload 0 2))⟩, vote := some (p.channel, bit p.addr 47) }) ∧
  (∀ d src, src = Dev.partner d → d.moorMode ≠ 0 → d.pairState = 1 → d.onHeartbeat src = { d with net := { d.net with heartbeatSeen := d.time } }) ∧
  (∀ d lost taker, (lost = Dev.rank d → d.onTakeover lost taker = d.fenceSelf) ∧ (lost ≠ d.rank → d.onTakeover lost taker = d.takeover lost taker)) ∧
  (∀ d src addr, src = Dev.partner d → (field addr 51 48 = 3 ∨ field addr 51 48 = 4) → d.onNodeStatus src addr = d.partnerLost false) ∧
  (∀ d (p : Packet) x c a, c = field p.channel 9 4 → Dev.sset d c (field p.channel 3 0) = some x → (d.ctx c).state = 10 → (d.ctx c).standbyFor = some p.src →
    field p.addr 39 0 + p.payload.length ≤ x.size → field p.channel 15 10 = 0 → field p.addr 50 40 = 0 → a = (if bit p.addr 51 then x.bank1 else x.bank0) + field p.addr 39 0 →
    d.pinned a p.payload.length = false → d.ownedIn a p.payload.length = false → d.access .firmware true a p.payload.length = none →
    d.applyMirror p = some (d.write a p.payload p.poison)) ∧
  (∀ s p x d y, DataNext s p x d y →
    (p.op = 0x01 → p.last = true → x.badWrite = 0 → d.rankSaved y p.addr = false → d.addressHere p.addr = true → d.access .peer true (p.addr % 2 ^ 48 - p.runBefore) (p.runBefore + p.payload.length + p.runAfter) = none → d.pinned (p.addr % 2 ^ 48) p.payload.length = false →
      d.ownedIn (p.addr % 2 ^ 48) p.payload.length = false → exec (.gezalWrite p) s = .next (s.withDev (Dev.dataDone (((d.write (p.addr % 2 ^ 48) p.payload p.poison).setSession p.session { y with wrote := 0 }).sendData p.session
        { cls := clResp, op := 0x04, addr := p.psn }) p))) ∧
    (∀ n, p.op = 0x02 → n = leNat (slice p.payload 0 3) → d.rankSaved y p.addr = false → d.addressHere p.addr = true → n ≠ 0 → d.access .peer false (p.addr % 2 ^ 48) n = none →
      d.ownedIn (p.addr % 2 ^ 48) n = false → d.canSend p.session clResp = true →
      exec (.gezalRead p) s = .next (s.withDev (Dev.dataDone ((List.range (ceilDiv n d.payloadMax)).foldl (fun e i => e.respond p.session p (p.addr % 2 ^ 48) n d.payloadMax i) d) p))) ∧
    (∀ r w, p.op = 0x03 → (x.reads.find? fun r => r.tag == p.channel) = some r → p.refusal = 0 → r.desc = false → d.readTug p.session r = some w →
      d.pinned (r.dst + (p.addr - r.src)) p.payload.length = false → d.ownedIn (r.dst + (p.addr - r.src)) p.payload.length = false → d.access (.ctx w.2.2.2.tag.ctx) true r.dst r.len = none →
      exec (.gezalReadResp p) s = .next (s.withDev (Dev.dataDone (d.readData p.session y r p w) p))) ∧
    (∀ cl t pos i, p.op = 0x04 → x.flush ≠ some (field p.addr 31 0) → (d.findTug fun i => i.remote == 1 && i.sess == p.session && i.txn == field p.addr 31 0) = some (cl, t, pos, i) →
      p.refusal = 0 → d.tugAllSent i = true → exec (.gezalDone p) s = .next (s.withDev (Dev.dataDone (d.tugRemoteDone cl t pos i) p))) ∧
    (∀ c, x.ctx = some c → d.sibling c = none →
      (∀ v, p.op = 0x10 → d.conv c p.channel = some v → epMid v.cons = d.midOf c → (d.ctx c).saved = [] → bit p.addr 16 = false → d.ownedIn (v.slotAt v.visible) v.slot = false →
        d.pinned (v.slotAt v.visible) v.slot = false → exec (.gezalConvey p) s = .next (s.withDev (Dev.dataDone (d.deliver c p.channel { v with pieces := [], piecesBad := false } v.visible (field p.addr 15 0)
          ((v.pieces ++ p.payload).take (v.slot - 8)) (v.piecesBad || p.poison)) p))) ∧
      (∀ v, p.op = 0x11 → d.conv c p.channel = some v → epMid v.prod = d.midOf c →
        exec (.gezalCredit p) s = .next (s.withDev (Dev.dataDone (d.setConv c p.channel { v with credits := v.credits + field p.addr 15 0 }) p))) ∧
      (p.op = 0x20 → (d.ctx c).remap = [] → field p.addr 15 0 ≠ 0 → exec (.gezalArrive p) s = .next (s.withDev (Dev.dataDone (d.countArrival { ctx := c, bar := p.channel, weight := field p.addr 15 0, kind := field p.addr 35 32, who := ⟨d.gangOf c p.src, epCore (field p.addr 31 16)⟩ }) p))) ∧
      (p.op = 0x21 → exec (.gezalArriveAck p) s = .next (s.withDev (Dev.dataDone (d.acknowledge c p.channel (epCore (field p.addr 47 32)) (some (field p.addr 31 0))) p))) ∧
      (∀ b e, p.op = 0x22 → d.bar c p.channel = some b → b.home ≠ (d.ctx c).gangRank → b.poisoned = false → b.gangpoint = false → genDone (field p.addr 31 0) b.gen = false →
        e = d.setBar c p.channel { b with gen := (field p.addr 31 0 + 1) % 2 ^ 32 } →
        exec (.gezalRelease p) s = .next (s.withDev (Dev.dataDone ((e.coresWhere (releasedBy c p.channel (field p.addr 31 0))).foldl Dev.waitEnds e) p))) ∧
      (∀ e, p.op = 0x23 → e = d.poisonBar c p.channel → (e.coresWhere fun k => k.armed == some c && tblGet [] k.acksDue p.channel != []) = [] →
        exec (.gezalPoisonBarrier p) s = .next (s.withDev (Dev.dataDone e p))) ∧
      (∀ g r, p.op = 0x30 → d.group c p.channel = some g → g.flights = [] → g.early = [] →
        ((List.range g.members.length).find? fun r => d.gangDevice c (nth 0 g.members r) == p.src && nth 0 g.members r != (d.ctx c).gangRank) = some r →
        exec (.gezalCollect p) s = .next (s.withDev (Dev.dataDone ((d.collArrives c p.channel (field p.addr 49 34) { phase := field p.addr 51 50, rank := r, offset := field p.addr 33 0, bytes := p.payload, poison := p.poison, shape := p.shape }).collGroup c p.channel false) p))) ∧
      (p.op = 0x40 → stepKind p = 0 → (d.ctx c).remap = [] → exec (.gezalVote p) s = .next (s.withDev (Dev.dataDone (d.countArrival { ctx := c, bar := field p.addr 41 32, weight := 1, kind := 4, who := ⟨d.gangOf c p.src, epCore (leNat (slice p.payload 0 2))⟩, vote := some (p.channel, bit p.addr 47) }) p))) ∧
      (∀ o : OutcomeF, p.op = 0x40 → stepKind p = 1 → o = { ctx := c, bar := field p.addr 41 32, gen := field p.addr 31 0, mask := p.channel, outcome := field p.addr 46 44 } → o.outcome ≤ 3 →
        (d.ctx c).hasApplied o = false → (d.cmp.outcomes.any fun q => q.ctx == c && q.bar == o.bar && q.gen == o.gen) = false →
        exec (.gezalOutcome (some p)) s = .next (s.withDev (Dev.dataDone (({ d with cmp := { d.cmp with outcomes := d.cmp.outcomes ++ [o] } } : Dev).outcomeDue false) p))) ∧
      (p.op = 0x40 → stepKind p = 4 → exec (.gezalReconcile p) s = .next (s.withDev (Dev.dataDone (d.mirrorLater (.reconcile p.src { ctx := c, bar := field p.addr 41 32, gen := field p.addr 31 0, outcome := field p.addr 46 44, mask := p.channel })) p)))) ∧
    (x.ctx = none →
      (∀ r, p.op = 0x41 → d.mirrorPlace p.src p.channel p.addr p.payload.length = some r → d.pinned r.1 r.2 = false → d.ownedIn r.1 r.2 = false →
        exec (.gezalMirror p) s = .next (s.withDev (Dev.dataDone (d.mirrorWrite r.1 p.payload p.poison) p))) ∧
      (p.op = 0x60 → p.src = d.partner → (field p.addr 51 48 = 3 ∨ field p.addr 51 48 = 4) → exec (.gezalNodeStatus p) s = .next (s.withDev (Dev.dataDone (d.partnerLost false) p))) ∧
      (p.op = 0x40 → stepKind p = 2 → p.src = d.partner → d.moorMode ≠ 0 → d.pairState = 1 →
        exec (.gezalHeartbeat p) s = .next (s.withDev (Dev.dataDone ({ d with net := { d.net with heartbeatSeen := d.time } } : Dev) p))) ∧
      (p.op = 0x40 → stepKind p = 3 → leNat (slice p.payload 0 2) ≠ d.rank →
        exec (.gezalTakeover p) s = .next (s.withDev (Dev.dataDone (d.takeover (leNat (slice p.payload 0 2)) (leNat (slice p.payload 2 2))) p)))))

/-- An ACK frees what it covers, sets the window and, at an initiator that waits for it, opens the session; a NACK repeats the packet it names at once. A packet for another rank of the basin is forwarded on the first direct port or half that is up. An accepted packet is acknowledged after 1 µs, a gap that lasted GAP_WAIT is told. Every 100 µs a moored module sends its HEARTBEAT, and without one for HEARTBEAT_LOSS the partner is lost. (R253, R254, R257, R318, R330, R332, R441) -/
def Obligations.AcknowledgementsAndTheirTimersHappen : Prop :=
  (∀ s p x d, p.port < 20 → p.half < 2 → PacketFor s.dev p x → p.typ = 1 → d = (s.dev.rxFrame p.port).covered p.session x p.cls p.ackPsn (field p.addr 31 0) (some (field p.addr 47 32)) p.ceEcho →
    (x.state = 1 → exec (.gezalAck p) s = .next (s.withDev (d.pushClass p.session p.cls).retry)) ∧
    (∀ y, x.state = 0 → (d.pushClass p.session p.cls).session p.session = some y →
      exec (.gezalAck p) s = .next (s.withDev ((d.pushClass p.session p.cls).sessionOpens p.session y).admitAll.retry))) ∧
  (∀ s p x, p.port < 20 → p.half < 2 → PacketFor s.dev p x → p.typ = 2 →
    exec (.gezalNack p) s = .next (s.withDev (((s.dev.rxFrame p.port).covered p.session x p.cls p.ackPsn 0 none false).resend p.session p.cls (field p.addr 31 0)))) ∧
  (∀ ack bm psn, psnAfter ack psn < 2 ^ 31 → ackCovers ack bm psn = true) ∧
  (∀ s (p : Packet) d u, p.port < 20 → p.half < 2 → p.dst ≠ s.dev.rank → p.typ ≠ 3 → s.dev.pwr.offKind = 0 → d = s.dev.rxFrame p.port → p.frameOk = true →
    s.dev.takesIn p = true → d.role p.port p.half = 1 → (d.half p.port p.half).state = 4 → d.inBasin p.dst = true → d.safe = false → d.directUnit (p.dst % 8) 0 = some u →
    exec (.transitForward p) s = .next (s.withDev ((d.emit u p [] none).bump 0x3100 0x0E 1))) ∧
  (∀ s key cls x t, cls < 4 → s.dev.session key = some x → (x.rxc cls).ackSince = some t → x.state = 1 → (t + 1000 ≤ s.dev.time ∨ 16 ≤ (x.rxc cls).fresh) →
    exec (.ackTimer key cls) s = .next (s.withDev (s.dev.sendAck key cls))) ∧
  (∀ s key cls x t, cls < 4 → s.dev.session key = some x → (x.rxc cls).gapSince = some t → x.state = 1 → t + s.dev.gapWait x.peer ≤ s.dev.time →
    exec (.gapWaitExpiry key cls) s = .next (s.withDev (s.dev.sendNack key cls))) ∧
  (∀ s, s.dev.partner ≠ 0xFFFF → s.dev.moorMode ≠ 0 → s.dev.pairState ≤ 1 → s.dev.safe = false → s.dev.net.heartbeatSent + 100000 ≤ s.dev.time → exec .heartbeatTimer s =
    .next (s.withDev (({ s.dev with net := { s.dev.net with heartbeatSent := s.dev.time } } : Dev).sendTo none s.dev.partner { cls := clCtl, op := 0x40, addr := stepAddr 2 0 0 0 0 }))) ∧
  (∀ s, s.dev.pairState = 1 → s.dev.reachable s.dev.partner = true → s.dev.net.heartbeatSeen + s.dev.obj 0xA000 4 ≤ s.dev.time →
    exec .heartbeatLoss s = .next (s.withDev (s.dev.partnerLost false))) ∧
  (∀ s ctx, ctx < 64 → s.dev.safe = false → s.dev.pwr.offKind = 0 → exec (.mirrorSync ctx) s = .next (s.withDev (s.dev.mirrorStep ctx).retry)) ∧
  (∀ s, exec (.gezalOutcome none) s = .next (s.withDev (s.dev.outcomeDue false).retry))

/-- When SEC runs and a handshake message is whole: an accepted OFFER is answered with ACCEPT in a new session; an accepted ACCEPT with CONFIRM; a verified CONFIRM opens the session and is acknowledged; a verified REKEY is answered with REKEY_ACK and starts the next epoch, as does REKEY_ACK at its sender; a peer that is not accepted is refused; REFUSE ends the handshake. An unanswered message is resent after 1 ms, up to 20 times; a due session is rekeyed. (R439, R440, R441, R442, R443) -/
def Obligations.HandshakesProceed : Prop :=
  (∀ s p v e d, s.dev.restarting 0 = false → HandshakeFor s.dev p hsOffer e → p.src < e.rank → hsOwner p = none →
    (e.net.sessions.find? fun q => q.2.peer == p.src && q.2.theirs == hsSender p && q.2.ctx == hsOwner p && q.2.state != 2) = none → d = e.uncheckedTime →
    (Dev.peerOk s.fuses d p v = true → d.addressable p.src = true → d.sessionsFull = false →
      ∃ x g, x = ({ ctx := hsOwner p, peer := p.src, mine := d.net.nextId, theirs := hsSender p, initiator := false, startAt := d.time, peerNonce := hsNonce p, peerKey := hsKey p, road := d.roadPair p.src } : Session) ∧
        g = ({ d with net := { d.net with nextId := d.net.nextId + 1, sessions := tblSet d.net.sessions d.net.nextId x } } : Dev) ∧
        exec (.offer p v) s = .next (s.withDev (Dev.sendHandshake s.fuses g d.net.nextId hsAccept))) ∧
    (Dev.peerOk s.fuses d p v = false → exec (.offer p v) s = .next (s.withDev (Dev.refuseHandshake s.fuses d p)))) ∧
  (∀ s p v e x, s.dev.restarting 0 = false → HandshakeFor s.dev p hsAccept e → e.session (hsPeer p) = some x → x.state = 0 → x.initiator = true → x.peer = p.src → x.stage ≠ hsConfirm →
    (Dev.peerOk s.fuses e.uncheckedTime p v = true → ∃ y : Session, y = { x with theirs := hsSender p, peerNonce := hsNonce p, peerKey := hsKey p } ∧
      exec (.accept p v) s = .next (s.withDev (Dev.sendHandshake s.fuses
        (e.uncheckedTime.setSession (hsPeer p) { y with keys := y.derive 0 y.myNonce y.myKey y.peerNonce y.peerKey }) (hsPeer p) hsConfirm))) ∧
    (Dev.peerOk s.fuses e.uncheckedTime p v = false → exec (.accept p v) s = .next (s.withDev ((Dev.refuseHandshake s.fuses e.uncheckedTime p).eraseSession (hsPeer p))))) ∧
  (∀ s p v e x, s.dev.restarting 0 = false → HandshakeFor s.dev p hsConfirm e → e.session (hsPeer p) = some x → x.initiator = false → x.peer = p.src → x.state = 0 →
    (v.sigOk = true → exec (.confirm p v) s = .next (s.withDev ((e.sessionOpens (hsPeer p) { x with peerNonce := hsNonce p }).sendAck (hsPeer p) clCtl).admitAll)) ∧
    (v.sigOk = false → exec (.confirm p v) s = .next (s.withDev ((Dev.refuseHandshake s.fuses e p).eraseSession (hsPeer p)).admitAll))) ∧
  (∀ s p v e x, s.dev.restarting 0 = false → HandshakeFor s.dev p hsRekey e → e.session (hsPeer p) = some x → x.state = 1 → x.peer = p.src → x.rekeying = false → x.peerNonce ≠ hsNonce p →
    v.sigOk = true → exec (.rekey p v) s = .next (s.withDev (Dev.sendHandshake s.fuses
      (e.setSession (hsPeer p) { x.nextEpoch e.time with peerNonce := hsNonce p, peerKey := hsKey p }) (hsPeer p) hsRekeyAck))) ∧
  (∀ s p v e x, s.dev.restarting 0 = false → HandshakeFor s.dev p hsRekeyAck e → e.session (hsPeer p) = some x → x.state = 1 → x.peer = p.src → x.rekeying = true → v.sigOk = true →
    ∃ y : Session, y = { x.nextEpoch e.time with peerNonce := hsNonce p, peerKey := hsKey p } ∧
      exec (.rekeyAck p v) s = .next (s.withDev (e.setSession (hsPeer p) { y with keys := y.derive y.epoch y.myNonce y.myKey y.peerNonce y.peerKey }))) ∧
  (∀ s p e x, HandshakeFor s.dev p hsRefuse e → e.session (hsPeer p) = some x → x.peer = p.src → x.state = 0 →
    exec (.refuse p) s = .next (s.withDev (e.eraseSession (hsPeer p)))) ∧
  (∀ s key x, s.dev.session key = some x → x.stage ≠ 0 → x.state ≠ 2 → x.lastSent + 1000000 ≤ s.dev.time →
    (x.resent < 20 → exec (.handshakeResend key) s = .next (s.withDev ((s.dev.setSession key { x with resent := x.resent + 1, lastSent := s.dev.time }).emitHandshake key x.msg))) ∧
    (20 ≤ x.resent → exec (.handshakeResend key) s = .next (s.withDev (s.dev.handshakeFails key x)))) ∧
  (∀ s key x, s.dev.restarting 0 = false → s.dev.session key = some x → x.state = 1 → x.rekeying = false → x.retryAt = 0 → x.rekeyAt + s.dev.obj 0x6000 0x0E * 1000000000 ≤ s.dev.time →
    exec (.rekeyTimer key) s = .next (s.withDev (Dev.sendHandshake s.fuses (s.dev.setSession key { x with rekeying := true, retryAt := 0 }) key hsRekey)))

/-- In a running module a DARK port goes to LINKING with light and to ABSENT after 500 ms; a LINKING one to IDENTIFYING with lock, its halves up, and to ABSENT after 200 ms; a basin port being identified is PLANNED by the HELLO its plan expects and foreign by another, and ends at 300 ms (100 ms and PLANNED on a roadstead port); an ABSENT or DOWN port retries after 1 s, one with a failed lane in both halves without leaving DOWN. (R239, R265, R271, R272, R273, R275) -/
def Obligations.PortsAreDiscovered : Prop :=
  (∀ s port half, port < 20 → half < 2 → s.dev.pwr.offKind = 0 → (s.dev.half port half).state = 1 →
    exec (.lightDetect port half) s = .next (s.withDev (Dev.netAudit s.fuses (s.dev.toState port half 2) s.dev)) ∧
    ((s.dev.half port half).since + 500000000 ≤ s.dev.time → exec (.darkTimeout port half) s = .next (s.withDev (Dev.netAudit s.fuses (s.dev.toState port half 5) s.dev)))) ∧
  (∀ s port half, port < 20 → half < 2 → s.dev.pwr.offKind = 0 → (s.dev.half port half).state = 2 →
    exec (.pcsFecLock port half) s = .next (s.withDev (Dev.netAudit s.fuses (s.dev.locks port half) s.dev)) ∧
    ((s.dev.half port half).since + 200000000 ≤ s.dev.time → exec (.linkingTimeout port half) s = .next (s.withDev (Dev.netAudit s.fuses (s.dev.toState port half 5) s.dev)))) ∧
  (∀ d port half, Dev.splitPort d port = false → d.locks port half = ((d.setHalves port 3).setPort port { d.portSt port with failed := 0, spared := 0, broken := 0 }).identify port half) ∧
  (∀ s port half, port < 20 → half < 2 → s.dev.pwr.offKind = 0 → (s.dev.half port half).state = 3 →
    (s.dev.role port half = 1 → (s.dev.half port half).since + 300000000 ≤ s.dev.time →
      ((s.dev.half port half).lldpSeen = true → exec (.identifyingTimeout port half) s = .next (s.withDev (Dev.netAudit s.fuses (s.dev.foreign port half) s.dev))) ∧
      ((s.dev.half port half).lldpSeen = false → exec (.identifyingTimeout port half) s = .next (s.withDev (Dev.netAudit s.fuses (s.dev.toState port half 5) s.dev)))) ∧
    (s.dev.role port half ≠ 1 → (s.dev.half port half).since + 100000000 ≤ s.dev.time →
      exec (.identifyingTimeout port half) s = .next (s.withDev (Dev.netAudit s.fuses (s.dev.toState port half 4) s.dev)))) ∧
  (∀ s (p : Packet) d, p.port < 20 → p.half < 2 → s.dev.pwr.offKind = 0 → p.typ = 3 → d = s.dev.rxFrame p.port → d.headerFine p = true → helloOk p = true →
    [3, 4, 6, 7].contains (d.half p.port p.half).state = true → exec (.gezalHello p) s = .next (s.withDev (Dev.netAudit s.fuses (d.hello p) s.dev))) ∧
  (∀ d p h u e, u = Dev.unit d (Packet.port p) p.half → h = d.half p.port u → h.state = 3 →
    e = (d.setHalf p.port u { h with peerRank := helloRank p, peerPort := helloPort p, peerHash := some (helloHash p), hashSame := d.planAgrees (helloHash p), helloSeen := true }).setBlob
      (0x3010 + p.port) 6 (slice p.payload 22 32) →
    (d.role p.port u = 1 → helloBasin p = planBasinId e.plan → helloMid p = entryMid (planEntry d.plan p.port) u → helloPort p = entryPort (planEntry d.plan p.port) u →
      d.hello p = e.toState p.port u 4) ∧
    (d.role p.port u ≠ 1 ∨ helloBasin p ≠ planBasinId e.plan ∨ helloMid p ≠ entryMid (planEntry d.plan p.port) u ∨ helloPort p ≠ entryPort (planEntry d.plan p.port) u →
      d.hello p = e.foreign p.port u)) ∧
  (∀ s port half, port < 20 → half < 2 → s.dev.pwr.offKind = 0 → (s.dev.half port half).since + 1000000000 ≤ s.dev.time →
    (s.dev.half port half).state = 5 → exec (.portRetry port half) s = .next (s.withDev (Dev.netAudit s.fuses (s.dev.toState port half 1) s.dev))) ∧
  (∀ s port half, port < 20 → half < 2 → s.dev.pwr.offKind = 0 → (s.dev.half port half).since + 1000000000 ≤ s.dev.time → (s.dev.half port half).state = 8 →
    exec (.portRetry port half) s = .next (s.withDev (Dev.netAudit s.fuses (s.dev.setHalf port half { s.dev.half port half with since := s.dev.time, retried := true }) s.dev)))

/-- A basin port sends its HELLO every 10 ms while it is identified and every 1 s after, and every port its LLDP frame every 1 s. A lit port keeps the last LLDP frame; one that carries traffic answers requests for its own address, learns a roadstead next hop from the first advertisement, and, as PTP_PORT, follows its master's time at most once a second and asks it for the delay. (R244, R264, R265, R276, R427) -/
def Obligations.NeighboursAreHeardAndTold : Prop :=
  (∀ s port half h, port < 20 → half < 2 → s.dev.pwr.offKind = 0 → h = s.dev.half port half → s.dev.role port half = 1 → [3, 4, 6].contains h.state = true →
    h.lastHello + (if h.state = 3 then 10000000 else 1000000000) ≤ s.dev.time →
    ∃ p, p = ({ port := port, half := half, typ := 3, cls := clCtl, enc := false, src := s.dev.rank, payload := s.dev.helloBytes port half } : Packet) ∧
      exec (.helloSend port half) s = .next (s.withDev (Dev.netAudit s.fuses ((s.dev.setHalf port half { h with lastHello := s.dev.time }).emit (2 * port + half) p [] none) s.dev))) ∧
  (∀ s port half h, port < 20 → half < 2 → s.dev.pwr.offKind = 0 → h = s.dev.half port half → 1 < h.state → h.lastLldp + 1000000000 ≤ s.dev.time →
    exec (.lldpSend port half) s = .next (s.withDev (((s.dev.setHalf port half { h with lastLldp := s.dev.time }).send (.frame port 1 (lldpBytes port))).bump (0x3010 + port) 0x0F 1))) ∧
  (∀ s port half data, port < 20 → half < 2 → s.dev.lit port half = true →
    exec (.lldpFrame port half data) s = .next (s.withDev (((s.dev.rxFrame port).setBlob (0x3010 + port) 7 (data.take 512)).setHalf port half { s.dev.half port half with lldpSeen := true, mac := some (beNat (slice data 6 6)) }))) ∧
  (∀ s port data, port < 20 → s.dev.litPort port = true → (s.dev.rxFrame port).carrying port = true →
    exec (.neighbourSolicitation port true data) s = .next (s.withDev (((s.dev.rxFrame port).send (.frame port 2 ((s.dev.rxFrame port).answerBytes port 2 data))).bump (0x3010 + port) 0x0F 1)) ∧
    exec (.echoRequest port true data) s = .next (s.withDev (((s.dev.rxFrame port).send (.frame port 3 ((s.dev.rxFrame port).answerBytes port 3 data))).bump (0x3010 + port) 0x0F 1)) ∧
    exec (.neighbourSolicitation port false data) s = .next (s.withDev ((s.dev.rxFrame port).discardFrame port))) ∧
  (∀ s port mac d, port < 20 → s.dev.litPort port = true → d = s.dev.rxFrame port → (d.role port 0 = 2 ∨ d.role port 1 = 2) → d.carrying port = true → (d.portSt port).learned = 0 →
    exec (.routerAdvertisement port mac) s = .next (s.withDev (d.setPort port { d.portSt port with learned := mac % 2 ^ 48 }))) ∧
  (∀ s port (m : PtpMsg) d, port < 20 → s.dev.litPort port = true → d = s.dev.rxFrame port → d.obj 0x3000 0x0A = port → d.carrying port = true → m.domain = d.obj 0x3000 0x0B → m.fits = true →
    exec (.ptpMessage port true m) s = .next (s.withDev (({ d with net := { d.net with ptpMaster := some port } } : Dev).ptpTakes port m))) ∧
  (∀ d port (m : PtpMsg), m.kind = 1 → Dev.ptpDue d = true →
    d.ptpTakes port m = ({ d with net := { d.net with ptpSync := none, ptpTimes := some (m.ns, d.time) } } : Dev).askDelay port) ∧
  (∀ d port (m : PtpMsg) t1 t2 t3, m.kind = 4 → (Dev.net d).ptpAsk = some (m.seq, t3) → d.net.ptpTimes = some (t1, t2) →
    (d.ptpDue = true → (d.ptpTakes port m).calendar = (((t1 : Int) + (((t2 : Int) - t1) + ((m.ns : Int) - t3)) / 2 + (d.time - t2 : Nat)) % 2 ^ 64).toNat ∧
      (d.ptpTakes port m).net.lastPtp = some d.time ∧ (d.ptpTakes port m).obj 0xB000 6 = 2) ∧
    (d.ptpDue = false → (d.ptpTakes port m).calendar = d.calendar))

/-- A loss of light is noted, with the failed lane's half; one that lasted 10 µs declares the port down and its packets go by other paths; one that cleared before counts as a glitch. A whole port that lost a lane comes up on its good half. A failed laser is marked and a spare switched onto its half. A planned retrain first drains the port, then brings up both halves. (R239, R240, R261) -/
def Obligations.LossesOnPortsAreHandled : Prop :=
  (∀ s port half l u h, port < 20 → half < 2 → s.dev.pwr.offKind = 0 → u = s.dev.unit port half → h = s.dev.half port u → [3, 4, 6, 7].contains h.state = true → h.lossAt = none →
    ∃ d, d = s.dev.setHalf port u { h with lossAt := some s.dev.time } ∧ exec (.lossDetection port half l) s = .next (s.withDev (Dev.netAudit s.fuses
      (if l then d.losesLane port half else (d.bumpFree (0x3010 + port) 0x0A).bumpFree (0x3010 + port) 0x0B) s.dev))) ∧
  (∀ s port half u t, port < 20 → half < 2 → s.dev.pwr.offKind = 0 → u = s.dev.unit port half → (s.dev.half port u).lossAt = some t →
    (t + 10000 ≤ s.dev.time → exec (.portDown port half) s = .next (s.withDev (Dev.netAudit s.fuses (s.dev.portGoesDown port u) s.dev))) ∧
    (s.dev.time < t + 10000 → exec (.linkGlitch port half) s = .next (s.withDev (Dev.netAudit s.fuses (((s.dev.setHalf port u { s.dev.half port u with lossAt := none }).setPort port
      { s.dev.portSt port with failed := withoutBit (s.dev.portSt port).failed half, broken := withoutBit (s.dev.portSt port).broken half }).bump (0x3010 + port) 0x0D 1) s.dev)))) ∧
  (∀ s port half, port < 20 → half < 2 → s.dev.pwr.offKind = 0 → (s.dev.half port 0).state = 8 → s.dev.splitPort port = false → (s.dev.portSt port).failed ≠ 0 →
    bit (s.dev.portSt port).failed half = false →
    exec (.halfRetrain port half) s = .next (s.withDev (Dev.netAudit s.fuses
      (((s.dev.setPort port { s.dev.portSt port with failed := withoutBit (s.dev.portSt port).failed half }).setHalves port (2 ^ half)).identify port 0) s.dev))) ∧
  (∀ s engine laser, engine < 4 → laser < 12 → s.dev.pwr.offKind = 0 → exec (.laserFailed engine laser) s = .next (s.withDev (Dev.netAudit s.fuses (s.dev.laserFails engine laser) s.dev))) ∧
  (∀ d engine laser, Dev.laserMap d engine laser = 0xFE → d.laserFails engine laser = d) ∧
  (∀ s port x, port < 20 → s.dev.pwr.offKind = 0 → x = s.dev.portSt port →
    (x.draining = none → s.dev.splitPort port = false → ((s.dev.half port 0).state = 4 ∨ (s.dev.half port 0).state = 7) → s.dev.halves port ≠ 3 → x.broken = 0 → s.dev.halfFed port 0 = true → s.dev.halfFed port 1 = true →
      exec (.plannedRetrain port) s = .next (s.withDev (Dev.netAudit s.fuses (s.dev.setPort port { x with draining := some s.dev.time }) s.dev))) ∧
    (∀ t, x.draining = some t → t + 1000000 ≤ s.dev.time → exec (.plannedRetrain port) s = .next (s.withDev (Dev.netAudit s.fuses
      ((((s.dev.resendFrom (2 * port)).dropQueue (2 * port)).setPort port { x with draining := none, failed := 0, spared := 0, broken := 0 }).setHalves port 3) s.dev))))

/-- An unacknowledged packet is sent again when its RTO comes; the sixteenth in a row on a path declares the path down. A down path is probed every 1 ms, and the third answer in a row brings it up; another's PROBE is answered. Without CE_ECHO for 20 µs a path's limit rises by 2% of line rate. A rank without a path for 10 ms is lost. (R254, R259, R262, R263) -/
def Obligations.PathsFailAndReturn : Prop :=
  (∀ s key cls psn x k, cls < 4 → s.dev.pwr.offKind = 0 → s.dev.session key = some x → ((x.txc cls).kept.find? fun k => k.pkt.psn == psn) = some k → x.state ≠ 2 →
    k.overdue s.dev.time = true → s.dev.reachable x.peer = true →
    ((s.dev.pathSt x.peer k.path).rtoRun < 15 → exec (.rtoExpiry key cls psn) s = .next (s.withDev (Dev.netAudit s.fuses
      ((s.dev.setPath x.peer k.path { s.dev.pathSt x.peer k.path with rtoRun := (s.dev.pathSt x.peer k.path).rtoRun + 1 }).resend key cls psn) s.dev))) ∧
    (15 ≤ (s.dev.pathSt x.peer k.path).rtoRun → (s.dev.pathSt x.peer k.path).down = false →
      exec (.rtoExpiry key cls psn) s = .next (s.withDev (Dev.netAudit s.fuses (s.dev.pathFails x.peer k.path) s.dev)))) ∧
  (∀ s rank path x txn e u, rank < 16384 → path < 8 → s.dev.pwr.offKind = 0 → x = s.dev.pathSt rank path → x.down = true → x.lastProbe + 1000000 ≤ s.dev.time →
    txn = (8 * s.dev.time + path) % 2 ^ 64 → e = s.dev.setPath rank path { x with lastProbe := s.dev.time, probes := (x.probes ++ [(⟨txn, s.dev.time, s.dev.rto rank path, false⟩ : Probe)]).drop (x.probes.length - 63) } →
    (e.setPath rank path { x with down := false }).outUnit rank path 0 = some u →
    exec (.probeTimer rank path) s = .next (s.withDev (Dev.netAudit s.fuses
      (e.emit u { typ := 5, cls := clCtl, enc := false, src := e.rank, dst := rank, txn := txn, path := path } (e.roadPair rank) none) s.dev))) ∧
  (∀ s (p : Packet) d, p.port < 20 → p.half < 2 → s.dev.pwr.offKind = 0 → p.typ = 5 → p.dst = s.dev.rank → d = s.dev.rxFrame p.port → d.headerFine p = true → d.carries p = true →
    exec (.gezalProbe p) s = .next (s.withDev (Dev.netAudit s.fuses (d.probed p) s.dev))) ∧
  (∀ d p i x qs, ((List.range 8).find? fun i => (Dev.pathSt d (Packet.src p) i).probes.any fun q => q.txn == p.txn) = some i → x = d.pathSt p.src i →
    qs = x.probes.map (fun q => Probe.answered q p.txn d.time) →
    (x.down = true → threeBack qs = true → d.probed p = d.setPath p.src i { x with down := false, rtoRun := 0, probes := qs }) ∧
    ((x.down = false ∨ threeBack qs = false) → d.probed p = d.setPath p.src i { x with probes := qs })) ∧
  (∀ a b c : Probe, a.back = true → b.back = true → c.back = true → ∀ l m, threeBack (l ++ [a, b, c] ++ m) = true) ∧
  (∀ (q : Probe) t n, (q.answered t n).back = true ↔ q.back = true ∨ (q.txn = t ∧ n ≤ q.at_ + q.rto)) ∧
  (∀ s rank path x, rank < 16384 → path < 8 → x = s.dev.pathSt rank path → x.lastCe + 20000 ≤ s.dev.time → x.limit.1 < x.limit.2 →
    exec (.rateRaiseTimer rank path) s = .next (s.withDev (s.dev.setPath rank path { x with limit := (if 50 * x.limit.2 ≤ 50 * x.limit.1 + x.limit.2 then (1, 1) else (50 * x.limit.1 + x.limit.2, 50 * x.limit.2)), lastCe := s.dev.time }))) ∧
  (∀ s rank t, rank < 16384 → s.dev.pwr.offKind = 0 → tblFind s.dev.net.lost rank = some t → t + 10000000 ≤ s.dev.time →
    exec (.pathLostTimer rank) s = .next (s.withDev (Dev.netAudit s.fuses (s.dev.pathLost rank) s.dev)))

/-- A command is well-formed when every core, context, port, die or object it names exists in the KC9. One that is not faults with noSuchUnit (the model's own stop, log entry 9: the spec has no such command). Every other of the 245 commands gives a next state, in any state, and leaves the queue of waiting commands alone. (R9, R16, R11) -/
def Obligations.UnknownUnitsStopAndTheRestRuns : Prop :=
  (∀ i s, wellFormed i = false → exec i s = .fault .noSuchUnit) ∧
  (∀ i s, wellFormed i = true → ∃ t, exec i s = .next t ∧ t.pending = s.pending)

/-- No command but a write of FLOOR and an LC_REQUEST changes a fuse: the life-cycle state, the positions left, the rollback floor, the owner and the device secret stay through every other command. (R435, R448, R452, R454) -/
def Obligations.OnlyTwoCommandsBurnFuses : Prop :=
  ∀ i s t, exec i s = .next t → (∀ q, i ≠ .raiseFloor q) → (∀ q v, i ≠ .lcRequest q v) → t.fuses = s.fuses

/-- For every state and every step that gives a next state: the fuses stay as they are, or the floor alone rises, or the life-cycle state moves by one permitted pair, burning one of the positions that are left and leaving the floor. And if the fuses made sense before the step (a life-cycle state of R448, positions within their number, a floor of one byte, an owner only in OWNED, no device secret in RETIRED), they make sense after it. (R435, R448, R449, R450, R452) -/
def Obligations.FusesMoveOnlyAsTheLifeCycleAllows : Prop :=
  ∀ s t, step s = .next t → Fuses.Step s.fuses t.fuses ∧ (Fuses.Sound s.fuses → Fuses.Sound t.fuses)

/-- Right after reset the queue is empty, memory lists nothing and is in its canonical form, no byte is poisoned, and the fuses make sense. (R448, R453) -/
def Obligations.ResetIsSound : Prop :=
  Fuses.Sound State.reset.fuses ∧ State.reset.MemOk ∧ State.reset.dev.mem = [] ∧ State.reset.dev.poison = [] ∧ State.reset.pending = [] ∧ (∀ a n, memRead State.reset.dev.mem a n = List.replicate n 0#8)

/-- The spec gives no command for the passing of time. The model's choice (log entry 8, DESIGN CHOICE) is that a step on an empty queue lets one nanosecond pass, with what the module does by itself in it, and leaves queue and fuses. What the module does of its own comes when its time has come and not before: the isolation of a power state, and a requested reset. (R24, R496, R501) -/
def Obligations.AnEmptyQueueLetsTimePass : Prop :=
  (∀ s, s.pending = [] → step s = .next (s.withDev (Dev.idle s.fuses s.dev))) ∧
  (∀ d : Dev, d.tick.time = d.time + 1 ∧ d.tick.mem = d.mem ∧ d.tick.ctxs = d.ctxs ∧ d.tick.cmp = d.cmp ∧ d.tick.net = d.net) ∧
  (∀ f (d : Dev) k t, d.pwr.due = some (k, t) → d.time < t → Dev.ownTime f d = d) ∧
  (∀ f (d e : Dev) k t, d.pwr.due = some (k, t) → t ≤ d.time → e = { d with pwr := { d.pwr with due := none } } →
    (2 ≤ k → k ≤ 4 → Dev.ownTime f d = e.isolated k) ∧ (k = 18 → Dev.ownTime f d = Dev.reset f e 2) ∧ (k = 19 → Dev.ownTime f d = Dev.reset f e 3) ∧
    (k = 20 → Dev.ownTime f d = Dev.reset f { e with blobs := e.blobs.filter fun p => p.1 != objKey 0x3000 1 0 } 2))

/-- For memory in its canonical form: after a write, a read of the same range gives the bytes written; every byte outside the range reads as before; a range zeroed reads as zeros and every other byte as before; and both leave the canonical form. (R194, R199, R453) -/
def Obligations.MemoryReadsBackWhatWasWritten : Prop :=
  ∀ m, memWf m = true →
    (∀ a bs, memRead (memWrite m a bs) a bs.length = bs ∧ memWf (memWrite m a bs) = true) ∧
    (∀ a bs x, (x < a ∨ a + bs.length ≤ x) → memRead (memWrite m a bs) x 1 = memRead m x 1) ∧
    (∀ a n, memRead (memZero m a n) a n = List.replicate n 0#8 ∧ memWf (memZero m a n) = true) ∧
    (∀ a n x, (x < a ∨ a + n ≤ x) → memRead (memZero m a n) x 1 = memRead m x 1)

/-- In a module that has power and whose SEC images verified, FAULT_N is low exactly while some class is open at a level at or above FAULT_N_LEVEL, whose default is 2, and a FAULT_N_LEVEL of 5 keeps it high. A READ of FAULT_N_ACTIVE answers it. (R406) -/
def Obligations.FaultPinFollowsTheClasses : Prop :=
  (∀ d : Dev, d.powered = true → d.pwr.offKind ≠ 9 → d.obj 0x4000 1 < 5 →
    (d.faultLow = true ↔ ∃ k x, (k, x) ∈ d.faults ∧ x.isOpen = true ∧ d.obj 0x4000 1 ≤ x.level)) ∧
  State.reset.dev.obj 0x4000 1 = 2 ∧
  (∀ d : Dev, d.powered = true → d.pwr.offKind ≠ 9 → d.obj 0x4000 1 = 5 → d.faultLow = false) ∧
  (∀ s q r, Passes s q .read r → q.index = 0x4000 → q.sub = 2 →
    exec (.manifestRead q) s = .next (s.withDev ((s.opened q).replied q (natLe 1 (if (s.opened q).faultLow then 1 else 0)))))

/-- An accepted write of 1 to ACK of a class marks that class acknowledged; the level of every class, whether it is open, and every pin the faults drive stay as they are. (R410) -/
def Obligations.AcknowledgingMovesNothingElse : Prop :=
  (∀ s q r, Passes s q .ackClass r → outside r (reqValue q) = false → reqValue q = 1 →
    exec (.ackClass q) s = .next (s.withDev ((((s.opened q).ack (q.index - 0x4010)).replied q).audit s.dev))) ∧
  (∀ (d : Dev) k, ((d.ack k).fclass k).acked = true ∧ (∀ j, ((d.ack k).fclass j).level = (d.fclass j).level ∧ ((d.ack k).fclass j).isOpen = (d.fclass j).isOpen ∧
      (j ≠ k → ((d.ack k).fclass j) = d.fclass j)) ∧
    (d.ack k).faultLow = d.faultLow ∧ (d.ack k).pwr = d.pwr ∧ (d.ack k).out = d.out ∧ (d.ack k).net = d.net ∧ (d.ack k).host = d.host)

/-- When the Board confirms the strapped class, POWER_CAP, where it still holds its default, takes the new CLASS_LIMIT (1,000 W, 1,600 W or 2,000 W); a cap that was written keeps its value. (R380) -/
def Obligations.TheCapFollowsAConfirmedClass : Prop :=
  (∀ s q r, Passes s q .classConfirm r → reqValue q = s.dev.pwr.strapClass → s.dev.pwr.strapClass ≠ 3 →
    exec (.classConfirm q) s = .next (s.withDev ((((s.opened q).setObj 0x2000 2 (reqValue q)).replied q).audit s.dev))) ∧
  (∀ (d e : Dev) v, e = d.setObj 0x2000 2 v → v = d.pwr.strapClass → v ≠ 3 →
    (e.classLimit = if v = 2 then 2000 else if v = 1 then 1600 else 1000) ∧
    (d.pwr.capWritten = false → e.powerCap = e.classLimit) ∧ (d.pwr.capWritten = true → e.powerCap = d.powerCap))

/-- A fault whose default level is 0 appends a notice to the logbook at level 0. No class opens or changes, ESCALATIONS stays, nothing is sent, and contexts, ports and pins stay. (R408) -/
def Obligations.NoticesOpenNothing : Prop :=
  ∀ (d e : Dev) src ctx detail, (faultSource src).2 = 0 → e = d.fault src ctx detail →
    (∃ r, e.events.getLast? = some r ∧ r.source = src ∧ r.level = 0 ∧ r.dflt = 0 ∧ r.detail = detail) ∧ (∀ k, e.fclass k = d.fclass k) ∧ e.obj 0x4000 8 = d.obj 0x4000 8 ∧
    e.ctxs = d.ctxs ∧ e.cmp = d.cmp ∧ e.net = d.net ∧ e.pwr = d.pwr ∧ e.out = d.out ∧ e.mem = d.mem

/-- The first fault of level 1 or above opens its class at that level, unacknowledged. A later fault of default level d, while the class is open at level L, has level min(4, max(d, L + 1)) and counts in ESCALATIONS where the class is unacknowledged, and level d where it is acknowledged; the class level becomes the larger of L and that level, unacknowledged again. The reactions of the new level apply, the abort falling on the context the new fault names. (R409) -/
def Obligations.FaultsOpenAndRaiseTheirClass : Prop :=
  ∀ (d : Dev) src ctx detail k dflt x, k = (faultSource src).1 → dflt = (faultSource src).2 → dflt ≠ 0 → x = d.fclass k →
    ∃ (e : Dev) (level : Nat), d.fault src ctx detail = e.react level ctx d.quarantined ∧
      level = (if x.isOpen = true ∧ x.acked = false then min 4 (max dflt (x.level + 1)) else dflt) ∧
      (e.fclass k).isOpen = true ∧ (e.fclass k).acked = false ∧ (e.fclass k).level = (if x.isOpen then max x.level level else level) ∧ (∀ j, j ≠ k → e.fclass j = d.fclass j) ∧
      e.obj 0x4000 8 = (if x.isOpen = true ∧ x.acked = false then satAdd (d.obj 0x4000 8) 1 else d.obj 0x4000 8)

/-- After reset the basin number is 0 (the default plan), the effective class is A with its limit of 1,000 W as POWER_CAP, FAULT_N_LEVEL is 2, FAULT_N and ALERT_N are high, no session stands, no class is open, and nothing has been sent. (R266, R378, R379, R405, R406) -/
def Obligations.ResetHoldsTheStatedValues : Prop :=
  State.reset.dev.basinNumber = 0 ∧ State.reset.dev.classActive = 0 ∧ State.reset.dev.powerCap = 1000 ∧ State.reset.dev.obj 0x4000 1 = 2 ∧ State.reset.dev.faultLow = false ∧
    State.reset.dev.pwr.alertLow = false ∧ State.reset.dev.net.sessions = [] ∧ State.reset.dev.faults = [] ∧ State.reset.dev.out = []

/-- For FP32, BF16, E4M3 and E5M2 and every encoding of a finite number, subnormals and both zeros included: converting its exact value into the same format gives the same bits and counts nothing, whatever the rounding mode, the RANGE bit and the random bits. (R36, R37, R39, R49, R55) -/
def Obligations.ConversionKeepsRepresentableValues : Prop :=
  ∀ f ∈ [fFP32, fBF16, fE4M3, fE5M2], ∀ b, b < 2 ^ (1 + f.expBits + f.manBits) → (decodeFloat f b).isFinite = true →
    ∀ mode range r, convFloat f mode range r (decodeFloat f b) = ⟨b, {}⟩

/-- Every finite E4M3, E5M2 and BF16 number converts to FP32, and every finite E4M3 number to BF16, in any mode, to the same value, counting nothing; so does every 8-bit integer to FP32, and the integer formats into wider ones. (R40, R55) -/
def Obligations.WideningConversionsAreExact : Prop :=
  (∀ p ∈ [(fE4M3, fFP32), (fE5M2, fFP32), (fBF16, fFP32), (fE4M3, fBF16)], ∀ b, b < 2 ^ (1 + p.1.expBits + p.1.manBits) → (decodeFloat p.1 b).isFinite = true →
    ∀ mode range r, (convFloat p.2 mode range r (decodeFloat p.1 b)).cnt = {} ∧ (decodeFloat p.2 (convFloat p.2 mode range r (decodeFloat p.1 b)).bits).eqv (decodeFloat p.1 b) = true) ∧
  (∀ i : Int, -128 ≤ i → i ≤ 127 → ∀ mode range r, (convFloat fFP32 mode range r (.ofInt i)).cnt = {} ∧ (decodeFloat fFP32 (convFloat fFP32 mode range r (.ofInt i)).bits).eqv (.ofInt i) = true) ∧
  (∀ p ∈ [(4, 8), (4, 32), (8, 32)], ∀ i : Int, -(2 ^ (p.1 - 1)) ≤ i → i < 2 ^ (p.1 - 1) → ∀ mode r, ∃ b, convInt p.2 mode r (.ofInt i) = ⟨b, {}⟩ ∧ signed p.2 b = i)

/-- For each float format and any exact value whose conversion counts nothing (so that it is in range by R53): round to nearest even gives a finite number with the source's sign from which no finite number of the format lies nearer to the source, with last bit 0 where another lies as near; toward zero gives one no larger in magnitude than the source, and no smaller than any other such number. (R47, R48, R53) -/
def Obligations.RoundingChoosesTheNearest : Prop :=
  ∀ f ∈ [fFP32, fBF16, fE4M3, fE5M2], ∀ neg m e range r, 0 < m →
    (∀ c, c = convFloat f .nearest range r (.fin neg m e) → c.cnt = {} → ∃ m' e', decodeFloat f c.bits = .fin neg m' e' ∧
      ∀ b n2 m2 e2, decodeFloat f b = .fin n2 m2 e2 → Val.noFarther (.fin neg m e) (.fin neg m' e') (.fin n2 m2 e2) ∧
        (Val.noFarther (.fin neg m e) (.fin n2 m2 e2) (.fin neg m' e') → (Val.fin n2 m2 e2).eqv (.fin neg m' e') = false → c.bits % 2 = 0)) ∧
    (∀ c, c = convFloat f .zero range r (.fin neg m e) → c.cnt = {} → ∃ m' e', decodeFloat f c.bits = .fin neg m' e' ∧ magLe m' e' m e = true ∧
      ∀ b n2 m2 e2, decodeFloat f b = .fin n2 m2 e2 → magLe m2 e2 m e = true → magLe m2 e2 m' e' = true)

/-- Take the passes of a float tile in any order and divide them between two tiles on the same grid. When neither the unsplit row nor either part overflows, the W64 combine of the two rows equals the unsplit row, entry by entry, non-finite states included, and clamps nothing. (R62, R88, R94, R108, R111, R112) -/
def Obligations.SplitReductionsCombineToTheSameBits : Prop :=
  ∀ (r u a b : TileRow) (l la lb : List (List Val × List (List Val))) n, r.cells = [] → r.whole = true → (∀ p ∈ l, p.2.length = n) → l.Perm (la ++ lb) → la ≠ [] → lb ≠ [] →
    u = r.feedAll false l → a = r.feedAll false la → b = r.feedAll false lb → u.whole = true → a.whole = true → b.whole = true →
    combineEnts 0 0 (a.cells.map Acc.ent) (b.cells.map Acc.ent) = (u.cells.map Acc.ent, 0)

/-- For three agreeing W64 tiles of one grid whose entries are small enough that no sum of them is clamped: combining them in either order, or grouped either way, gives the same tile, and nothing is counted. (R111) -/
def Obligations.CombiningIsFreeOfOrder : Prop :=
  ∀ x y z : W64, x.h.g = y.h.g → y.h.g = z.h.g → x.h.agrees y.h = true → y.h.agrees z.h = true → x.es.length = y.es.length → y.es.length = z.es.length →
    (∀ t ∈ [x, y, z], (∀ a, Ent.fin a ∈ t.es → -(2 ^ 60 : Int) < a ∧ a < 2 ^ 60) ∧ t.h.parts ≤ 65535) →
    x.combine y = y.combine x ∧ ((x.combine y).1.combine z).1 = (x.combine (y.combine z).1).1 ∧ (x.combine y).2 = 0 ∧ ((x.combine y).1.combine z).2 = 0

/-- For any products of finite elements and any grid 2^G: each is cut toward zero onto the grid, and the sum of the cut products differs from the exact sum S by less than n' 2^G where n' products are not multiples of 2^G, and not at all where n' is 0. A column whose products these are holds that sum. (R88, R90) -/
def Obligations.TruncationStaysWithinItsBound : Prop :=
  (∀ (g e0 : Int) ps, e0 ≤ g → (∀ p ∈ ps, e0 ≤ p.2.2) →
    (offGrid g ps = 0 → exactSum e0 ps = gridSum g ps * pow2 (g - e0)) ∧
    (0 < offGrid g ps → (exactSum e0 ps - gridSum g ps * pow2 (g - e0)).natAbs < offGrid g ps * pow2 (g - e0))) ∧
  (∀ (g : Int) (as ws : List Val) (ps : List (Bool × Nat × Int)), as.length = ws.length → List.zipWith Val.mul as ws = ps.map (fun p => Val.fin p.1 p.2.1 p.2.2) →
    (columnSum g as ws {}).ent = .fin (gridSum g ps))

/-- In every state, under conditions on the state and the operands alone (the ports, ranks, paths, lanes and contexts exist; the module is in RUN, SEC runs, where the command needs it), a received packet, a handshake message, a timer of a session, port or path, a port's retry or frame, and a request of the companion give a next state: that of the command's own effect, which the statements on each family spell out. (R190, R242, R247, R253, R254, R257, R262, R271, R440, R443) -/
def Obligations.NetworkAndLinkCommandsComplete : Prop :=
  (∀ s (p : Packet), p.port < 20 → p.half < 2 → 
    exec (.gezalWrite p) s = .next (s.withDev (s.dev.dataRow p 0x01)) ∧
    exec (.gezalRead p) s = .next (s.withDev (s.dev.dataRow p 0x02)) ∧
    exec (.gezalReadResp p) s = .next (s.withDev (s.dev.dataRow p 0x03)) ∧
    exec (.gezalDone p) s = .next (s.withDev (s.dev.dataRow p 0x04)) ∧
    exec (.gezalConvey p) s = .next (s.withDev (s.dev.dataRow p 0x10)) ∧
    exec (.gezalCredit p) s = .next (s.withDev (s.dev.dataRow p 0x11)) ∧
    exec (.gezalArrive p) s = .next (s.withDev (s.dev.dataRow p 0x20)) ∧
    exec (.gezalArriveAck p) s = .next (s.withDev (s.dev.dataRow p 0x21)) ∧
    exec (.gezalRelease p) s = .next (s.withDev (s.dev.dataRow p 0x22)) ∧
    exec (.gezalPoisonBarrier p) s = .next (s.withDev (s.dev.dataRow p 0x23)) ∧
    exec (.gezalCollect p) s = .next (s.withDev (s.dev.dataRow p 0x30)) ∧
    exec (.gezalMirror p) s = .next (s.withDev (s.dev.dataRow p 0x41)) ∧
    exec (.gezalNodeStatus p) s = .next (s.withDev (s.dev.dataRow p 0x60)) ∧
    exec (.gezalVote p) s = .next (s.withDev (s.dev.stepRow p 0)) ∧
    exec (.gezalHeartbeat p) s = .next (s.withDev (s.dev.stepRow p 2)) ∧
    exec (.gezalTakeover p) s = .next (s.withDev (s.dev.stepRow p 3)) ∧
    exec (.gezalReconcile p) s = .next (s.withDev (s.dev.stepRow p 4)) ∧
    exec (.transitForward p) s = .next (s.withDev (s.dev.transit p)) ∧
    exec (.gezalOutcome (some p)) s = .next (s.withDev (s.dev.stepRow p 1))) ∧
  (∀ s (p : Packet), p.port < 20 → p.half < 2 → p.dst = s.dev.rank → s.dev.pwr.offKind = 0 → (s.dev.rxFrame p.port).headerFine p = true → (s.dev.rxFrame p.port).carries p = true →
    (p.typ = 1 → exec (.gezalAck p) s = .next (s.withDev (s.dev.gezalIn p fun k x d => d.onAck k x p))) ∧
    (p.typ = 2 → exec (.gezalNack p) s = .next (s.withDev (s.dev.gezalIn p fun k x d => d.onNack k x p))) ∧
    (p.typ = 5 → exec (.gezalProbe p) s = .next (s.withDev (Dev.netAudit s.fuses ((s.dev.rxFrame p.port).probed p) s.dev)))) ∧
  (∀ s (p : Packet) v, p.port < 20 → p.half < 2 → s.dev.restarting 0 = false →
    exec (.offer p v) s = .next (s.withDev (s.dev.handshake p hsOffer fun d => Dev.onOffer s.fuses d p v)) ∧
    exec (.accept p v) s = .next (s.withDev (s.dev.handshake p hsAccept fun d => Dev.onAccept s.fuses d p v)) ∧
    exec (.confirm p v) s = .next (s.withDev ((s.dev.handshake p hsConfirm fun d => Dev.onConfirm s.fuses d p v).admitAll)) ∧
    exec (.rekey p v) s = .next (s.withDev (s.dev.handshake p hsRekey fun d => Dev.onRekey s.fuses d p v)) ∧
    exec (.rekeyAck p v) s = .next (s.withDev (s.dev.handshake p hsRekeyAck fun d => Dev.onRekeyAck s.fuses d p v)) ∧
    exec (.refuse p) s = .next (s.withDev (s.dev.handshake p hsRefuse fun d => d.onRefuse p))) ∧
  (∀ s key cls psn, cls < 4 →
    exec (.ackTimer key cls) s = .next (s.withDev (s.dev.ackTimer key cls)) ∧
    exec (.gapWaitExpiry key cls) s = .next (s.withDev (s.dev.gapExpires key cls)) ∧
    (s.dev.pwr.offKind = 0 → exec (.rtoExpiry key cls psn) s = .next (s.withDev (Dev.netAudit s.fuses (s.dev.rtoExpires key cls psn) s.dev))) ∧
    exec (.handshakeResend key) s = .next (s.withDev (s.dev.handshakeResend key)) ∧
    (s.dev.restarting 0 = false → exec (.rekeyTimer key) s = .next (s.withDev (Dev.rekeyTimer s.fuses s.dev key)))) ∧
  (∀ s port half data, port < 20 → half < 2 → s.dev.pwr.offKind = 0 →
    exec (.helloSend port half) s = .next (s.withDev (Dev.netAudit s.fuses (s.dev.sendHello port half) s.dev)) ∧
    exec (.identifyingTimeout port half) s = .next (s.withDev (Dev.netAudit s.fuses (s.dev.identified port half) s.dev)) ∧
    exec (.portRetry port half) s = .next (s.withDev (Dev.netAudit s.fuses (s.dev.retryPort port half) s.dev)) ∧
    exec (.plannedRetrain port) s = .next (s.withDev (Dev.netAudit s.fuses (s.dev.plannedRetrain port) s.dev)) ∧
    (∀ mine, exec (.neighbourSolicitation port mine data) s = .next (s.withDev (s.dev.answer port 2 mine data)) ∧
      exec (.echoRequest port mine data) s = .next (s.withDev (s.dev.answer port 3 mine data)))) ∧
  (∀ s port half (h : PortHalf) u, port < 20 → half < 2 → s.dev.pwr.offKind = 0 → h = s.dev.half port half → u = s.dev.unit port half →
    (h.state = 1 → exec (.lightDetect port half) s = .next (s.withDev (Dev.netAudit s.fuses (s.dev.toState port half 2) s.dev))) ∧
    (h.state = 1 → h.since + 500000000 ≤ s.dev.time → exec (.darkTimeout port half) s = .next (s.withDev (Dev.netAudit s.fuses (s.dev.toState port half 5) s.dev))) ∧
    (h.state = 2 → exec (.pcsFecLock port half) s = .next (s.withDev (Dev.netAudit s.fuses (s.dev.locks port half) s.dev))) ∧
    (h.state = 2 → h.since + 200000000 ≤ s.dev.time → exec (.linkingTimeout port half) s = .next (s.withDev (Dev.netAudit s.fuses (s.dev.toState port half 5) s.dev))) ∧
    ([3, 4, 6, 7].contains (s.dev.half port u).state = true → (s.dev.half port u).lossAt = none → exec (.lossDetection port half true) s = .next (s.withDev (Dev.netAudit s.fuses
      ((s.dev.setHalf port u { s.dev.half port u with lossAt := some s.dev.time }).losesLane port half) s.dev))) ∧
    ((s.dev.half port u).state = 8 → s.dev.splitPort port = false → exec (.lossDetection port half true) s = .next (s.withDev (Dev.netAudit s.fuses (s.dev.losesLane port half) s.dev))) ∧
    (∀ t, (s.dev.half port u).lossAt = some t → t + 10000 ≤ s.dev.time → exec (.portDown port half) s = .next (s.withDev (Dev.netAudit s.fuses (s.dev.portGoesDown port u) s.dev))) ∧
    (∀ t, (s.dev.half port u).lossAt = some t → s.dev.time < t + 10000 → exec (.linkGlitch port half) s = .next (s.withDev (Dev.netAudit s.fuses
      (((s.dev.setHalf port u { s.dev.half port u with lossAt := none }).setPort port { s.dev.portSt port with failed := withoutBit (s.dev.portSt port).failed half, broken := withoutBit (s.dev.portSt port).broken half }).bump (0x3010 + port) 0x0D 1) s.dev))) ∧
    ((s.dev.half port 0).state = 8 → s.dev.splitPort port = false → ((s.dev.portSt port).failed ≠ 0 ∧ bit (s.dev.portSt port).failed half = false ∨ (s.dev.half port 0).retried = true) →
      exec (.halfRetrain port half) s = .next (s.withDev (Dev.netAudit s.fuses
        (((s.dev.setPort port { s.dev.portSt port with failed := withoutBit (s.dev.portSt port).failed half }).setHalves port (2 ^ half)).identify port 0) s.dev))) ∧
    (1 < h.state → h.lastLldp + 1000000000 ≤ s.dev.time → exec (.lldpSend port half) s = .next (s.withDev
      (((s.dev.setHalf port half { h with lastLldp := s.dev.time }).send (.frame port 1 (lldpBytes port))).bump (0x3010 + port) 0x0F 1))) ∧
    (∀ data, s.dev.lit port half = true → exec (.lldpFrame port half data) s = .next (s.withDev (((s.dev.rxFrame port).setBlob (0x3010 + port) 7 (data.take 512)).setHalf port half { h with lldpSeen := true, mac := some (beNat (slice data 6 6)) })))) ∧
  (∀ s port d, port < 20 → s.dev.litPort port = true → d = s.dev.rxFrame port → d.carrying port = true →
    (∀ mac, (d.role port 0 = 2 ∨ d.role port 1 = 2) → (d.portSt port).learned = 0 → exec (.routerAdvertisement port mac) s = .next (s.withDev (d.setPort port { d.portSt port with learned := mac % 2 ^ 48 }))) ∧
    (∀ ns, d.obj 0x3000 0x0A = port → ns.domain = d.obj 0x3000 0x0B → exec (.ptpMessage port false ns) s = .next (s.withDev { d with net := { d.net with ptpMaster := none } }))) ∧
  (∀ s (p : Packet) d, p.port < 20 → p.half < 2 → s.dev.pwr.offKind = 0 → p.typ = 3 → d = s.dev.rxFrame p.port → d.headerFine p = true → helloOk p = true →
    [3, 4, 6, 7].contains (d.half p.port p.half).state = true → exec (.gezalHello p) s = .next (s.withDev (Dev.netAudit s.fuses (d.hello p) s.dev))) ∧
  (∀ s engine laser, engine < 4 → laser < 12 → s.dev.pwr.offKind = 0 → exec (.laserFailed engine laser) s = .next (s.withDev (Dev.netAudit s.fuses (s.dev.laserFails engine laser) s.dev))) ∧
  (∀ s engine laser fed d left, engine < 4 → laser < 12 → s.dev.pwr.offKind = 0 → fed = s.dev.laserMap engine laser → d = s.dev.setObjAt (0x3040 + engine) 1 laser 0xFE → left = d.obj (0x3040 + engine) 2 →
    (fed = 0xFF → exec (.laserFailed engine laser) s = .next (s.withDev (Dev.netAudit s.fuses ((d.setObj (0x3040 + engine) 2 (left - 1)).logWear 3 0x0302 (5 * 2 ^ 56 + engine + laser * 2 ^ 8)) s.dev))) ∧
    (fed < 0xFE → d.spareLaser engine = none → exec (.laserFailed engine laser) s = .next (s.withDev (Dev.netAudit s.fuses
      ((d.setPort (5 * engine + fed / 2) { d.portSt (5 * engine + fed / 2) with failed := withBit (d.portSt (5 * engine + fed / 2)).failed (fed % 2) }).fault 0x0302 none (5 * 2 ^ 56 + engine + laser * 2 ^ 8)) s.dev)))) ∧
  (∀ s ctx n x sb key, ctx < 64 → s.dev.safe = false → s.dev.pwr.offKind = 0 → s.dev.maskSets ctx 0xFFFF = [(n, x)] → (s.dev.ctx ctx).standbyAt = some sb → s.dev.sessionTo none (s.dev.obj 0xA000 1) = some key →
    x.mirror = true → s.dev.mirrorState x ≠ 3 →
    (x.dirty = [] → s.dev.mirrorKept ctx n = 0 → exec (.mirrorSync ctx) s = .next (s.withDev (s.dev.setSset ctx n { x with copied := x.sending != 0 || x.copied }).retry)) ∧
    (∀ g ts, x.dirty = [g] → ts = ((List.range 8).filter fun t => s.dev.obj (0x8210 + t) 1 == 3) → ts ≠ [] → s.dev.canSend key clReq = true →
      s.dev.ownedIn ((if (granule x g).1 = 0 then x.bank0 else x.bank1) + (granule x g).2.1) (granule x g).2.2 = false →
      exec (.mirrorSync ctx) s = .next (s.withDev ((((s.dev.sendGranule key ctx n sb x g).ioTug ts (granule x g).2.2).setSset ctx n { x with dirty := [], sending := 1 }).retry)))) ∧
  (∀ s rank path (x : PathSt), rank < 16384 → path < 8 → x = s.dev.pathSt rank path → x.lastCe + 20000 ≤ s.dev.time → x.limit.1 < x.limit.2 →
    exec (.rateRaiseTimer rank path) s = .next (s.withDev (s.dev.setPath rank path { x with
      limit := (if 50 * x.limit.2 ≤ 50 * x.limit.1 + x.limit.2 then (1, 1) else (50 * x.limit.1 + x.limit.2, 50 * x.limit.2)), lastCe := s.dev.time }))) ∧
  (∀ s rank t, rank < 16384 → s.dev.pwr.offKind = 0 → tblFind s.dev.net.lost rank = some t → t + 10000000 ≤ s.dev.time →
    exec (.pathLostTimer rank) s = .next (s.withDev (Dev.netAudit s.fuses (s.dev.pathLost rank) s.dev))) ∧
  (∀ s ctx, ctx < 64 → s.dev.safe = false → s.dev.pwr.offKind = 0 → exec (.mirrorSync ctx) s = .next (s.withDev (s.dev.mirrorStep ctx).retry)) ∧
  (∀ s rank path, rank < 16384 → path < 8 → s.dev.pwr.offKind = 0 → exec (.probeTimer rank path) s = .next (s.withDev (Dev.netAudit s.fuses (s.dev.probe rank path) s.dev))) ∧
  (∀ s ctx, ctx < 64 → exec (.sessionOpenTimeout ctx) s = .next (s.withDev (s.dev.sessionTimeout ctx))) ∧
  (∀ s a n v w bs mask bad,
    exec (.kclReadShared a) s = .next (s.withDev (s.dev.kclRequest (.kclReadShared a))) ∧
    exec (.kclReadOwn a) s = .next (s.withDev (s.dev.kclRequest (.kclReadOwn a))) ∧
    exec (.kclReadUncached a n) s = .next (s.withDev (s.dev.kclRequest (.kclReadUncached a n))) ∧
    exec (.kclWrite a bs mask bad) s = .next (s.withDev (s.dev.kclRequest (.kclWrite a bs mask bad))) ∧
    exec (.kclWriteback a bs bad) s = .next (s.withDev (s.dev.kclRequest (.kclWriteback a bs bad))).again ∧
    exec (.kclFetchAdd a n v) s = .next (s.withDev (s.dev.kclRequest (.kclFetchAdd a n v))) ∧
    exec (.kclSwap a n v) s = .next (s.withDev (s.dev.kclRequest (.kclSwap a n v))) ∧
    exec (.kclCas a n v w) s = .next (s.withDev (s.dev.kclRequest (.kclCas a n v w)))) ∧
  (∀ s lane, lane < 32 → exec (.kclLaneFailure lane) s = .next (s.withDev (s.dev.laneFails lane)).again) ∧
  (∀ s c v, c < 64 → exec (.submissionTail c v) s = .next (s.withDev (s.dev.byKcl (.submissionTail c v) fun d => d.newTail c v)))

/-- The header of a packet whose fields fit their places is 40 bytes long, and reading it, with the payload behind it, gives the packet back: every field of R245, and for what stands outside the header the values of a packet as it leaves. And the header of what 40 bytes spell is those 40 bytes, where as many payload bytes follow as LEN says. The first byte on the wire holds VER and TYPE, the last the reserved bits. (R245, R7) -/
def Obligations.HeadersReadBackAsTheyAreLaidOut : Prop :=
  (∀ p : Packet, p.ver < 2 ^ 4 → p.typ < 2 ^ 4 → p.cls < 2 ^ 2 → p.epoch < 2 ^ 2 → p.op < 2 ^ 8 → p.tries < 2 ^ 8 → p.channel < 2 ^ 16 → p.session < 2 ^ 32 → p.src < 2 ^ 16 → p.dst < 2 ^ 16 →
    p.psn < 2 ^ 32 → p.ackPsn < 2 ^ 32 → p.payload.length < 2 ^ 16 → p.txn < 2 ^ 64 → p.addr < 2 ^ 52 → p.path < 2 ^ 4 → p.reserved < 2 ^ 8 →
    (headerBytes p).length = 40 ∧ headerLen (headerBytes p) = p.payload.length ∧
    readHeader (headerBytes p) p.payload = { p with port := 0, half := 0, frameOk := true, ce := false, refusal := 0, before := 0, shape := 0, runBefore := 0, runAfter := 0, tag := [] } ∧
    (headerBytes p).head? = some (BitVec.ofNat 8 (16 * p.ver + p.typ)) ∧ (headerBytes p).getLast? = some (BitVec.ofNat 8 p.reserved)) ∧
  (∀ bs payload, bs.length = 40 → payload.length = headerLen bs → headerBytes (readHeader bs payload) = bs)

/-- The packet a port sends next is a control packet if one may leave and the control bytes of the last 10 µs, its own among them, stay within 5% of the port's rate: 500 times its bytes in a nanosecond. Otherwise it is one of the request, response and collective classes. The packet leaves the queue of its class, and every other queue stays as it was. (R258) -/
def Obligations.ControlLeavesFirstWithinItsShare : Prop :=
  (∀ d u (q : PortQ) e, q.ctl.find? (Dev.mayLeave d) = some e →
    ((q.ctlSent.filter fun x => decide (d.time < x.1 + 10000)).map Prod.snd).sum + frameCost e.pkt e.wire ≤ 500 * d.lineRate u →
    ∃ q', d.nextOut u q = some (e, q') ∧ q'.ctl = q.ctl.erase e ∧ q'.rest = q.rest) ∧
  (∀ d u (q q' : PortQ) e, q.turn < 3 → Dev.nextOut d u q = some (e, q') → d.mayLeave e = true ∧ ∃ c, c < 4 ∧ e ∈ q.classQ c ∧ q'.classQ c = (q.classQ c).erase e ∧
    (∀ k, k < 4 → k ≠ c → q'.classQ k = q.classQ k) ∧
    (c = 3 → ((q'.ctlSent.filter fun x => decide (d.time < x.1 + 10000)).map Prod.snd).sum ≤ 500 * d.lineRate u) ∧ (c ≠ 3 → q'.ctlSent = q.ctlSent))
end

