-- ==== Sys2Proof/Laws/Exec.lean ====
section
/-! SUPPORT. Each command runs its meaning: one equation for each constructor, true by definition, so that no proof unfolds the dispatch. -/

namespace Sys2Proof.Machine

theorem exec_wload (c : CoreRef) (s : State) : exec (.wload c) s = execWload c s := rfl
theorem exec_pass (c : CoreRef) (s : State) : exec (.pass c) s = execPass c s := rfl
theorem exec_pairpass (c : CoreRef) (s : State) : exec (.pairpass c) s = execPairpass c s := rfl
theorem exec_tileReplay (c : CoreRef) (s : State) : exec (.tileReplay c) s = execTileReplay c s := rfl
theorem exec_accWaitExpiry (c : CoreRef) (s : State) : exec (.accWaitExpiry c) s = execAccWaitExpiry c s := rfl
theorem exec_drain (c : CoreRef) (s : State) : exec (.drain c) s = execDrain c s := rfl
theorem exec_drainRead (c : CoreRef) (s : State) : exec (.drainRead c) s = execDrainRead c s := rfl
theorem exec_vec (c : CoreRef) (s : State) : exec (.vec c) s = execVec c s := rfl
theorem exec_vreduce (c : CoreRef) (s : State) : exec (.vreduce c) s = execVreduce c s := rfl
theorem exec_tug (c : CoreRef) (s : State) : exec (.tug c) s = execTug c s := rfl
theorem exec_tugDescriptorComplete (cl : Nat) (tug : Nat) (pos : Nat) (ext : External) (s : State) : exec (.tugDescriptorComplete cl tug pos ext) s = execTugDescriptorComplete cl tug pos ext s := rfl
theorem exec_conveyPut (c : CoreRef) (s : State) : exec (.conveyPut c) s = execConveyPut c s := rfl
theorem exec_conveyGetTake (c : CoreRef) (s : State) : exec (.conveyGetTake c) s = execConveyGetTake c s := rfl
theorem exec_conveyGetRelease (c : CoreRef) (s : State) : exec (.conveyGetRelease c) s = execConveyGetRelease c s := rfl
theorem exec_conveyGetCopy (c : CoreRef) (s : State) : exec (.conveyGetCopy c) s = execConveyGetCopy c s := rfl
theorem exec_conveyMessageVisible (ctx : Nat) (conv : Nat) (s : State) : exec (.conveyMessageVisible ctx conv) s = execConveyMessageVisible ctx conv s := rfl
theorem exec_creditReturn (ctx : Nat) (conv : Nat) (s : State) : exec (.creditReturn ctx conv) s = execCreditReturn ctx conv s := rfl
theorem exec_arrive (c : CoreRef) (s : State) : exec (.arrive c) s = execArrive c s := rfl
theorem exec_wait (c : CoreRef) (s : State) : exec (.wait c) s = execWait c s := rfl
theorem exec_arriveWait (c : CoreRef) (s : State) : exec (.arriveWait c) s = execArriveWait c s := rfl
theorem exec_hint (c : CoreRef) (s : State) : exec (.hint c) s = execHint c s := rfl
theorem exec_hintEnd (c : CoreRef) (s : State) : exec (.hintEnd c) s = execHintEnd c s := rfl
theorem exec_commit (c : CoreRef) (s : State) : exec (.commit c) s = execCommit c s := rfl
theorem exec_snapshot (c : CoreRef) (s : State) : exec (.snapshot c) s = execSnapshot c s := rfl
theorem exec_snapshotComplete (job : Nat) (ext : External) (s : State) : exec (.snapshotComplete job ext) s = execSnapshotComplete job ext s := rfl
theorem exec_collAllReduce (c : CoreRef) (s : State) : exec (.collAllReduce c) s = execCollAllReduce c s := rfl
theorem exec_collReduce (c : CoreRef) (s : State) : exec (.collReduce c) s = execCollReduce c s := rfl
theorem exec_collBroadcast (c : CoreRef) (s : State) : exec (.collBroadcast c) s = execCollBroadcast c s := rfl
theorem exec_collAllGather (c : CoreRef) (s : State) : exec (.collAllGather c) s = execCollAllGather c s := rfl
theorem exec_collReduceScatter (c : CoreRef) (s : State) : exec (.collReduceScatter c) s = execCollReduceScatter c s := rfl
theorem exec_collAllToAll (c : CoreRef) (s : State) : exec (.collAllToAll c) s = execCollAllToAll c s := rfl
theorem exec_collectiveComplete (ctx : Nat) (group : Nat) (s : State) : exec (.collectiveComplete ctx group) s = execCollectiveComplete ctx group s := rfl
theorem exec_fence (c : CoreRef) (s : State) : exec (.fence c) s = execFence c s := rfl
theorem exec_orderListComplete (c : CoreRef) (s : State) : exec (.orderListComplete c) s = execOrderListComplete c s := rfl
theorem exec_arrivalCounted (job : Nat) (s : State) : exec (.arrivalCounted job) s = execArrivalCounted job s := rfl
theorem exec_arrivalAck (job : Nat) (s : State) : exec (.arrivalAck job) s = execArrivalAck job s := rfl
theorem exec_releaseVisible (job : Nat) (s : State) : exec (.releaseVisible job) s = execReleaseVisible job s := rfl
theorem exec_waitTimeout (c : CoreRef) (s : State) : exec (.waitTimeout c) s = execWaitTimeout c s := rfl
theorem exec_commitTimeout (c : CoreRef) (s : State) : exec (.commitTimeout c) s = execCommitTimeout c s := rfl
theorem exec_gezalWrite (p : Packet) (s : State) : exec (.gezalWrite p) s = execGezalWrite p s := rfl
theorem exec_gezalRead (p : Packet) (s : State) : exec (.gezalRead p) s = execGezalRead p s := rfl
theorem exec_gezalReadResp (p : Packet) (s : State) : exec (.gezalReadResp p) s = execGezalReadResp p s := rfl
theorem exec_gezalDone (p : Packet) (s : State) : exec (.gezalDone p) s = execGezalDone p s := rfl
theorem exec_gezalConvey (p : Packet) (s : State) : exec (.gezalConvey p) s = execGezalConvey p s := rfl
theorem exec_gezalCredit (p : Packet) (s : State) : exec (.gezalCredit p) s = execGezalCredit p s := rfl
theorem exec_gezalArrive (p : Packet) (s : State) : exec (.gezalArrive p) s = execGezalArrive p s := rfl
theorem exec_gezalArriveAck (p : Packet) (s : State) : exec (.gezalArriveAck p) s = execGezalArriveAck p s := rfl
theorem exec_gezalRelease (p : Packet) (s : State) : exec (.gezalRelease p) s = execGezalRelease p s := rfl
theorem exec_gezalPoisonBarrier (p : Packet) (s : State) : exec (.gezalPoisonBarrier p) s = execGezalPoisonBarrier p s := rfl
theorem exec_gezalCollect (p : Packet) (s : State) : exec (.gezalCollect p) s = execGezalCollect p s := rfl
theorem exec_gezalVote (p : Packet) (s : State) : exec (.gezalVote p) s = execGezalVote p s := rfl
theorem exec_gezalOutcome (p : Option Packet) (s : State) : exec (.gezalOutcome p) s = execGezalOutcome p s := rfl
theorem exec_gezalHeartbeat (p : Packet) (s : State) : exec (.gezalHeartbeat p) s = execGezalHeartbeat p s := rfl
theorem exec_gezalTakeover (p : Packet) (s : State) : exec (.gezalTakeover p) s = execGezalTakeover p s := rfl
theorem exec_gezalReconcile (p : Packet) (s : State) : exec (.gezalReconcile p) s = execGezalReconcile p s := rfl
theorem exec_gezalMirror (p : Packet) (s : State) : exec (.gezalMirror p) s = execGezalMirror p s := rfl
theorem exec_gezalNodeStatus (p : Packet) (s : State) : exec (.gezalNodeStatus p) s = execGezalNodeStatus p s := rfl
theorem exec_gezalAck (p : Packet) (s : State) : exec (.gezalAck p) s = execGezalAck p s := rfl
theorem exec_gezalNack (p : Packet) (s : State) : exec (.gezalNack p) s = execGezalNack p s := rfl
theorem exec_gezalHello (p : Packet) (s : State) : exec (.gezalHello p) s = execGezalHello p s := rfl
theorem exec_gezalProbe (p : Packet) (s : State) : exec (.gezalProbe p) s = execGezalProbe p s := rfl
theorem exec_offer (p : Packet) (v : PeerProof) (s : State) : exec (.offer p v) s = execOffer p v s := rfl
theorem exec_accept (p : Packet) (v : PeerProof) (s : State) : exec (.accept p v) s = execAccept p v s := rfl
theorem exec_confirm (p : Packet) (v : PeerProof) (s : State) : exec (.confirm p v) s = execConfirm p v s := rfl
theorem exec_rekey (p : Packet) (v : PeerProof) (s : State) : exec (.rekey p v) s = execRekey p v s := rfl
theorem exec_rekeyAck (p : Packet) (v : PeerProof) (s : State) : exec (.rekeyAck p v) s = execRekeyAck p v s := rfl
theorem exec_refuse (p : Packet) (s : State) : exec (.refuse p) s = execRefuse p s := rfl
theorem exec_transitForward (p : Packet) (s : State) : exec (.transitForward p) s = execTransitForward p s := rfl
theorem exec_lldpFrame (port : Nat) (half : Nat) (data : List Byte) (s : State) : exec (.lldpFrame port half data) s = execLldpFrame port half data s := rfl
theorem exec_lldpSend (port : Nat) (half : Nat) (s : State) : exec (.lldpSend port half) s = execLldpSend port half s := rfl
theorem exec_helloSend (port : Nat) (half : Nat) (s : State) : exec (.helloSend port half) s = execHelloSend port half s := rfl
theorem exec_neighbourSolicitation (port : Nat) (mine : Bool) (data : List Byte) (s : State) : exec (.neighbourSolicitation port mine data) s = execNeighbourSolicitation port mine data s := rfl
theorem exec_echoRequest (port : Nat) (mine : Bool) (data : List Byte) (s : State) : exec (.echoRequest port mine data) s = execEchoRequest port mine data s := rfl
theorem exec_routerAdvertisement (port : Nat) (mac : Nat) (s : State) : exec (.routerAdvertisement port mac) s = execRouterAdvertisement port mac s := rfl
theorem exec_ptpMessage (port : Nat) (hasMaster : Bool) (ns : PtpMsg) (s : State) : exec (.ptpMessage port hasMaster ns) s = execPtpMessage port hasMaster ns s := rfl
theorem exec_ackTimer (sess : Nat) (cls : Nat) (s : State) : exec (.ackTimer sess cls) s = execAckTimer sess cls s := rfl
theorem exec_gapWaitExpiry (sess : Nat) (cls : Nat) (s : State) : exec (.gapWaitExpiry sess cls) s = execGapWaitExpiry sess cls s := rfl
theorem exec_rtoExpiry (sess : Nat) (cls : Nat) (psn : Nat) (s : State) : exec (.rtoExpiry sess cls psn) s = execRtoExpiry sess cls psn s := rfl
theorem exec_probeTimer (rank : Nat) (path : Nat) (s : State) : exec (.probeTimer rank path) s = execProbeTimer rank path s := rfl
theorem exec_rateRaiseTimer (rank : Nat) (path : Nat) (s : State) : exec (.rateRaiseTimer rank path) s = execRateRaiseTimer rank path s := rfl
theorem exec_lossDetection (port : Nat) (half : Nat) (laneLost : Bool) (s : State) : exec (.lossDetection port half laneLost) s = execLossDetection port half laneLost s := rfl
theorem exec_portDown (port : Nat) (half : Nat) (s : State) : exec (.portDown port half) s = execPortDown port half s := rfl
theorem exec_linkGlitch (port : Nat) (half : Nat) (s : State) : exec (.linkGlitch port half) s = execLinkGlitch port half s := rfl
theorem exec_halfRetrain (port : Nat) (half : Nat) (s : State) : exec (.halfRetrain port half) s = execHalfRetrain port half s := rfl
theorem exec_laserFailed (engine : Nat) (laser : Nat) (s : State) : exec (.laserFailed engine laser) s = execLaserFailed engine laser s := rfl
theorem exec_plannedRetrain (port : Nat) (s : State) : exec (.plannedRetrain port) s = execPlannedRetrain port s := rfl
theorem exec_portRetry (port : Nat) (half : Nat) (s : State) : exec (.portRetry port half) s = execPortRetry port half s := rfl
theorem exec_lightDetect (port : Nat) (half : Nat) (s : State) : exec (.lightDetect port half) s = execLightDetect port half s := rfl
theorem exec_darkTimeout (port : Nat) (half : Nat) (s : State) : exec (.darkTimeout port half) s = execDarkTimeout port half s := rfl
theorem exec_pcsFecLock (port : Nat) (half : Nat) (s : State) : exec (.pcsFecLock port half) s = execPcsFecLock port half s := rfl
theorem exec_linkingTimeout (port : Nat) (half : Nat) (s : State) : exec (.linkingTimeout port half) s = execLinkingTimeout port half s := rfl
theorem exec_identifyingTimeout (port : Nat) (half : Nat) (s : State) : exec (.identifyingTimeout port half) s = execIdentifyingTimeout port half s := rfl
theorem exec_pathLostTimer (rank : Nat) (s : State) : exec (.pathLostTimer rank) s = execPathLostTimer rank s := rfl
theorem exec_sessionOpenTimeout (ctx : Nat) (s : State) : exec (.sessionOpenTimeout ctx) s = execSessionOpenTimeout ctx s := rfl
theorem exec_handshakeResend (sess : Nat) (s : State) : exec (.handshakeResend sess) s = execHandshakeResend sess s := rfl
theorem exec_rekeyTimer (sess : Nat) (s : State) : exec (.rekeyTimer sess) s = execRekeyTimer sess s := rfl
theorem exec_mirrorSync (ctx : Nat) (s : State) : exec (.mirrorSync ctx) s = execMirrorSync ctx s := rfl
theorem exec_kclReadShared (addr : Nat) (s : State) : exec (.kclReadShared addr) s = execKclReadShared addr s := rfl
theorem exec_kclReadOwn (addr : Nat) (s : State) : exec (.kclReadOwn addr) s = execKclReadOwn addr s := rfl
theorem exec_kclReadUncached (addr : Nat) (len : Nat) (s : State) : exec (.kclReadUncached addr len) s = execKclReadUncached addr len s := rfl
theorem exec_kclWrite (addr : Nat) (data : List Byte) (mask : Nat) (poison : Bool) (s : State) : exec (.kclWrite addr data mask poison) s = execKclWrite addr data mask poison s := rfl
theorem exec_kclWriteback (addr : Nat) (data : List Byte) (poison : Bool) (s : State) : exec (.kclWriteback addr data poison) s = execKclWriteback addr data poison s := rfl
theorem exec_kclFetchAdd (addr : Nat) (size : Nat) (operand : Nat) (s : State) : exec (.kclFetchAdd addr size operand) s = execKclFetchAdd addr size operand s := rfl
theorem exec_kclSwap (addr : Nat) (size : Nat) (operand : Nat) (s : State) : exec (.kclSwap addr size operand) s = execKclSwap addr size operand s := rfl
theorem exec_kclCas (addr : Nat) (size : Nat) (compare : Nat) (swap : Nat) (s : State) : exec (.kclCas addr size compare swap) s = execKclCas addr size compare swap s := rfl
theorem exec_kclLaneFailure (lane : Nat) (s : State) : exec (.kclLaneFailure lane) s = execKclLaneFailure lane s := rfl
theorem exec_submissionTail (ctx : Nat) (value : Nat) (s : State) : exec (.submissionTail ctx value) s = execSubmissionTail ctx value s := rfl
theorem exec_completionHead (ctx : Nat) (value : Nat) (s : State) : exec (.completionHead ctx value) s = execCompletionHead ctx value s := rfl
theorem exec_attach (token : Nat) (s : State) : exec (.attach token) s = execAttach token s := rfl
theorem exec_hostHeartbeat (value : Nat) (s : State) : exec (.hostHeartbeat value) s = execHostHeartbeat value s := rfl
theorem exec_detach (token : Nat) (s : State) : exec (.detach token) s = execDetach token s := rfl
theorem exec_serviceTail (isHead : Bool) (value : Nat) (s : State) : exec (.serviceTail isHead value) s = execServiceTail isHead value s := rfl
theorem exec_docketNop (ctx : Nat) (s : State) : exec (.docketNop ctx) s = execDocketNop ctx s := rfl
theorem exec_docketCreate (ctx : Nat) (s : State) : exec (.docketCreate ctx) s = execDocketCreate ctx s := rfl
theorem exec_docketAdmit (ctx : Nat) (s : State) : exec (.docketAdmit ctx) s = execDocketAdmit ctx s := rfl
theorem exec_docketLaunch (ctx : Nat) (s : State) : exec (.docketLaunch ctx) s = execDocketLaunch ctx s := rfl
theorem exec_docketStop (ctx : Nat) (s : State) : exec (.docketStop ctx) s = execDocketStop ctx s := rfl
theorem exec_docketStart (ctx : Nat) (s : State) : exec (.docketStart ctx) s = execDocketStart ctx s := rfl
theorem exec_docketAbort (ctx : Nat) (s : State) : exec (.docketAbort ctx) s = execDocketAbort ctx s := rfl
theorem exec_docketDestroy (ctx : Nat) (s : State) : exec (.docketDestroy ctx) s = execDocketDestroy ctx s := rfl
theorem exec_preemption (ctx : Nat) (s : State) : exec (.preemption ctx) s = execPreemption ctx s := rfl
theorem exec_restore (ctx : Nat) (s : State) : exec (.restore ctx) s = execRestore ctx s := rfl
theorem exec_timesliceExpiry (ctx : Nat) (s : State) : exec (.timesliceExpiry ctx) s = execTimesliceExpiry ctx s := rfl
theorem exec_pilotDispatch (ctx : Nat) (s : State) : exec (.pilotDispatch ctx) s = execPilotDispatch ctx s := rfl
theorem exec_contextPark (ctx : Nat) (s : State) : exec (.contextPark ctx) s = execContextPark ctx s := rfl
theorem exec_watchdogExpiry (k : Nat) (s : State) : exec (.watchdogExpiry k) s = execWatchdogExpiry k s := rfl
theorem exec_activationRevert (k : Nat) (s : State) : exec (.activationRevert k) s = execActivationRevert k s := rfl
theorem exec_fwStage (q : ManifestReq) (b : BundleFacts) (s : State) : exec (.fwStage q b) s = execFwStage q b s := rfl
theorem exec_discardStaged (q : ManifestReq) (s : State) : exec (.discardStaged q) s = execDiscardStaged q s := rfl
theorem exec_fwActivate (q : ManifestReq) (s : State) : exec (.fwActivate q) s = execFwActivate q s := rfl
theorem exec_raiseFloor (q : ManifestReq) (s : State) : exec (.raiseFloor q) s = execRaiseFloor q s := rfl
theorem exec_svcIngestJpeg (j : JpegFacts) (s : State) : exec (.svcIngestJpeg j) s = execSvcIngestJpeg j s := rfl
theorem exec_svcIngestCopy (ext : External) (s : State) : exec (.svcIngestCopy ext) s = execSvcIngestCopy ext s := rfl
theorem exec_manifestRead (q : ManifestReq) (s : State) : exec (.manifestRead q) s = execManifestRead q s := rfl
theorem exec_manifestWrite (q : ManifestReq) (s : State) : exec (.manifestWrite q) s = execManifestWrite q s := rfl
theorem exec_manifestDescribe (q : ManifestReq) (s : State) : exec (.manifestDescribe q) s = execManifestDescribe q s := rfl
theorem exec_manifestClose (q : ManifestReq) (s : State) : exec (.manifestClose q) s = execManifestClose q s := rfl
theorem exec_setEndpointId (m : MctpMsg) (s : State) : exec (.setEndpointId m) s = execSetEndpointId m s := rfl
theorem exec_getEndpointId (m : MctpMsg) (s : State) : exec (.getEndpointId m) s = execGetEndpointId m s := rfl
theorem exec_getMctpVersionSupport (m : MctpMsg) (s : State) : exec (.getMctpVersionSupport m) s = execGetMctpVersionSupport m s := rfl
theorem exec_getMessageTypeSupport (m : MctpMsg) (s : State) : exec (.getMessageTypeSupport m) s = execGetMessageTypeSupport m s := rfl
theorem exec_getVendorDefinedMessageSupport (m : MctpMsg) (s : State) : exec (.getVendorDefinedMessageSupport m) s = execGetVendorDefinedMessageSupport m s := rfl
theorem exec_gettid (m : MctpMsg) (s : State) : exec (.gettid m) s = execGettid m s := rfl
theorem exec_getpldmtypes (m : MctpMsg) (s : State) : exec (.getpldmtypes m) s = execGetpldmtypes m s := rfl
theorem exec_getpldmversion (m : MctpMsg) (s : State) : exec (.getpldmversion m) s = execGetpldmversion m s := rfl
theorem exec_getpldmcommands (m : MctpMsg) (s : State) : exec (.getpldmcommands m) s = execGetpldmcommands m s := rfl
theorem exec_getpdr (m : MctpMsg) (s : State) : exec (.getpdr m) s = execGetpdr m s := rfl
theorem exec_getsensorreading (m : MctpMsg) (s : State) : exec (.getsensorreading m) s = execGetsensorreading m s := rfl
theorem exec_spdmGetVersion (m : MctpMsg) (s : State) : exec (.spdmGetVersion m) s = execSpdmGetVersion m s := rfl
theorem exec_spdmGetCapabilities (m : MctpMsg) (s : State) : exec (.spdmGetCapabilities m) s = execSpdmGetCapabilities m s := rfl
theorem exec_spdmNegotiateAlgorithms (m : MctpMsg) (s : State) : exec (.spdmNegotiateAlgorithms m) s = execSpdmNegotiateAlgorithms m s := rfl
theorem exec_spdmGetDigests (m : MctpMsg) (s : State) : exec (.spdmGetDigests m) s = execSpdmGetDigests m s := rfl
theorem exec_spdmGetCertificate (m : MctpMsg) (s : State) : exec (.spdmGetCertificate m) s = execSpdmGetCertificate m s := rfl
theorem exec_spdmChallenge (m : MctpMsg) (s : State) : exec (.spdmChallenge m) s = execSpdmChallenge m s := rfl
theorem exec_spdmGetMeasurements (m : MctpMsg) (s : State) : exec (.spdmGetMeasurements m) s = execSpdmGetMeasurements m s := rfl
theorem exec_rangeClear (q : ManifestReq) (s : State) : exec (.rangeClear q) s = execRangeClear q s := rfl
theorem exec_accClear (q : ManifestReq) (s : State) : exec (.accClear q) s = execAccClear q s := rfl
theorem exec_cadenceSource (q : ManifestReq) (s : State) : exec (.cadenceSource q) s = execCadenceSource q s := rfl
theorem exec_snapPeriod (q : ManifestReq) (s : State) : exec (.snapPeriod q) s = execSnapPeriod q s := rfl
theorem exec_ioTugUse (q : ManifestReq) (s : State) : exec (.ioTugUse q) s = execIoTugUse q s := rfl
theorem exec_portUse (q : ManifestReq) (s : State) : exec (.portUse q) s = execPortUse q s := rfl
theorem exec_retainUse (q : ManifestReq) (s : State) : exec (.retainUse q) s = execRetainUse q s := rfl
theorem exec_berthPlan (q : ManifestReq) (s : State) : exec (.berthPlan q) s = execBerthPlan q s := rfl
theorem exec_evalSlot (q : ManifestReq) (s : State) : exec (.evalSlot q) s = execEvalSlot q s := rfl
theorem exec_classConfirm (q : ManifestReq) (s : State) : exec (.classConfirm q) s = execClassConfirm q s := rfl
theorem exec_powerCap (q : ManifestReq) (s : State) : exec (.powerCap q) s = execPowerCap q s := rfl
theorem exec_ringState (q : ManifestReq) (s : State) : exec (.ringState q) s = execRingState q s := rfl
theorem exec_regionEnable (q : ManifestReq) (s : State) : exec (.regionEnable q) s = execRegionEnable q s := rfl
theorem exec_regionDisable (q : ManifestReq) (s : State) : exec (.regionDisable q) s = execRegionDisable q s := rfl
theorem exec_regionFillDone (r : Nat) (s : State) : exec (.regionFillDone r) s = execRegionFillDone r s := rfl
theorem exec_regionFrozen (q : ManifestReq) (s : State) : exec (.regionFrozen q) s = execRegionFrozen q s := rfl
theorem exec_ackClass (q : ManifestReq) (s : State) : exec (.ackClass q) s = execAckClass q s := rfl
theorem exec_classClear (q : ManifestReq) (s : State) : exec (.classClear q) s = execClassClear q s := rfl
theorem exec_alertCause (q : ManifestReq) (s : State) : exec (.alertCause q) s = execAlertCause q s := rfl
theorem exec_roleProof (q : ManifestReq) (verified : Bool) (s : State) : exec (.roleProof q verified) s = execRoleProof q verified s := rfl
theorem exec_lcRequest (q : ManifestReq) (verified : Bool) (s : State) : exec (.lcRequest q verified) s = execLcRequest q verified s := rfl
theorem exec_calendar (q : ManifestReq) (s : State) : exec (.calendar q) s = execCalendar q s := rfl
theorem exec_vendorServiceWrite (q : ManifestReq) (s : State) : exec (.vendorServiceWrite q) s = execVendorServiceWrite q s := rfl
theorem exec_pstateRequestRun (q : ManifestReq) (s : State) : exec (.pstateRequestRun q) s = execPstateRequestRun q s := rfl
theorem exec_pstateRequestSleep (q : ManifestReq) (s : State) : exec (.pstateRequestSleep q) s = execPstateRequestSleep q s := rfl
theorem exec_pstateRequestDeep (q : ManifestReq) (s : State) : exec (.pstateRequestDeep q) s = execPstateRequestDeep q s := rfl
theorem exec_pstateRequestOff (q : ManifestReq) (s : State) : exec (.pstateRequestOff q) s = execPstateRequestOff q s := rfl
theorem exec_resetRequestFunction (q : ManifestReq) (s : State) : exec (.resetRequestFunction q) s = execResetRequestFunction q s := rfl
theorem exec_resetRequestWarm (q : ManifestReq) (s : State) : exec (.resetRequestWarm q) s = execResetRequestWarm q s := rfl
theorem exec_governorPeriod (g : GovernorInput) (s : State) : exec (.governorPeriod g) s = execGovernorPeriod g s := rfl
theorem exec_fastLimiter (sample : Nat) (s : State) : exec (.fastLimiter sample) s = execFastLimiter sample s := rfl
theorem exec_capUnattainable (average : Nat) (s : State) : exec (.capUnattainable average) s = execCapUnattainable average s := rfl
theorem exec_tempThreshold (stack : Bool) (sensor : Nat) (temp : Int) (s : State) : exec (.tempThreshold stack sensor temp) s = execTempThreshold stack sensor temp s := rfl
theorem exec_thermalTrip (stack : Bool) (sensor : Nat) (temp : Int) (s : State) : exec (.thermalTrip stack sensor temp) s = execThermalTrip stack sensor temp s := rfl
theorem exec_droopStretch (die : Nat) (s : State) : exec (.droopStretch die) s = execDroopStretch die s := rfl
theorem exec_trimRequest (die : Nat) (s : State) : exec (.trimRequest die) s = execTrimRequest die s := rfl
theorem exec_tideRequest (c : CoreRef) (s : State) : exec (.tideRequest c) s = execTideRequest c s := rfl
theorem exec_tideWave (die : Nat) (s : State) : exec (.tideWave die) s = execTideWave die s := rfl
theorem exec_powerGate (c : CoreRef) (s : State) : exec (.powerGate c) s = execPowerGate c s := rfl
theorem exec_selfGate (c : CoreRef) (s : State) : exec (.selfGate c) s = execSelfGate c s := rfl
theorem exec_rowCheck (c : CoreRef) (array : Nat) (row : Nat) (s : State) : exec (.rowCheck c array row) s = execRowCheck c array row s := rfl
theorem exec_rowTest (cl : Nat) (phys : Nat) (failedRows : List (Nat × Nat)) (s : State) : exec (.rowTest cl phys failedRows) s = execRowTest cl phys failedRows s := rfl
theorem exec_spareCoreSwitch (c : CoreRef) (s : State) : exec (.spareCoreSwitch c) s = execSpareCoreSwitch c s := rfl
theorem exec_coreFault (c : CoreRef) (s : State) : exec (.coreFault c) s = execCoreFault c s := rfl
theorem exec_patrolScrub (stack : Nat) (addr : Nat) (e : LineErrors) (s : State) : exec (.patrolScrub stack addr e) s = execPatrolScrub stack addr e s := rfl
theorem exec_sramScrub (addr : Nat) (e : LineErrors) (s : State) : exec (.sramScrub addr e) s = execSramScrub addr e s := rfl
theorem exec_coldStart (strapClass : Nat) (strapMid : Nat) (s : State) : exec (.coldStart strapClass strapMid) s = execColdStart strapClass strapMid s := rfl
theorem exec_wloadComplete (c : CoreRef) (s : State) : exec (.wloadComplete c) s = execWloadComplete c s := rfl
theorem exec_firmwareRestartEnd (k : Nat) (s : State) : exec (.firmwareRestartEnd k) s = execFirmwareRestartEnd k s := rfl
theorem exec_minQuantumExpiry (ctx : Nat) (s : State) : exec (.minQuantumExpiry ctx) s = execMinQuantumExpiry ctx s := rfl
theorem exec_roleGrantExpiry (kcl : Bool) (eid : Nat) (s : State) : exec (.roleGrantExpiry kcl eid) s = execRoleGrantExpiry kcl eid s := rfl
theorem exec_currentLimit (die : Nat) (s : State) : exec (.currentLimit die) s = execCurrentLimit die s := rfl
theorem exec_trimIntervalEnd (die : Nat) (s : State) : exec (.trimIntervalEnd die) s = execTrimIntervalEnd die s := rfl
theorem exec_gangAbort (ctx : Nat) (rank : Nat) (coll : Option (Nat × Nat)) (s : State) : exec (.gangAbort ctx rank coll) s = execGangAbort ctx rank coll s := rfl
theorem exec_memberDigest (ctx : Nat) (rank : Nat) (n : Notice) (s : State) : exec (.memberDigest ctx rank n) s = execMemberDigest ctx rank n s := rfl
theorem exec_gangFprChanged (ctx : Nat) (rank : Nat) (s : State) : exec (.gangFprChanged ctx rank) s = execGangFprChanged ctx rank s := rfl
theorem exec_fastLineHigh (s : State) : exec (.fastLineHigh) s = execFastLineHigh s := rfl
theorem exec_fastLineRepull (s : State) : exec (.fastLineRepull) s = execFastLineRepull s := rfl
theorem exec_cadenceTick (s : State) : exec (.cadenceTick) s = execCadenceTick s := rfl
theorem exec_syncIoRisingEdge (s : State) : exec (.syncIoRisingEdge) s = execSyncIoRisingEdge s := rfl
theorem exec_snapTick (s : State) : exec (.snapTick) s = execSnapTick s := rfl
theorem exec_heartbeatTimer (s : State) : exec (.heartbeatTimer) s = execHeartbeatTimer s := rfl
theorem exec_heartbeatLoss (s : State) : exec (.heartbeatLoss) s = execHeartbeatLoss s := rfl
theorem exec_flitCrcFailure (s : State) : exec (.flitCrcFailure) s = execFlitCrcFailure s := rfl
theorem exec_kclTagFailures (s : State) : exec (.kclTagFailures) s = execKclTagFailures s := rfl
theorem exec_kclTraining (s : State) : exec (.kclTraining) s = execKclTraining s := rfl
theorem exec_decisionBudgetExpiry (s : State) : exec (.decisionBudgetExpiry) s = execDecisionBudgetExpiry s := rfl
theorem exec_hostHbLoss (s : State) : exec (.hostHbLoss) s = execHostHbLoss s := rfl
theorem exec_hostDrainLimit (s : State) : exec (.hostDrainLimit) s = execHostDrainLimit s := rfl
theorem exec_hostParkWait (s : State) : exec (.hostParkWait) s = execHostParkWait s := rfl
theorem exec_svcCheckpoint (s : State) : exec (.svcCheckpoint) s = execSvcCheckpoint s := rfl
theorem exec_svcSubmit (s : State) : exec (.svcSubmit) s = execSvcSubmit s := rfl
theorem exec_throttleNLow (s : State) : exec (.throttleNLow) s = execThrottleNLow s := rfl
theorem exec_throttleNHigh (s : State) : exec (.throttleNHigh) s = execThrottleNHigh s := rfl
theorem exec_e2End (s : State) : exec (.e2End) s = execE2End s := rfl
theorem exec_counterPageWrite (s : State) : exec (.counterPageWrite) s = execCounterPageWrite s := rfl
theorem exec_authNonceRefresh (s : State) : exec (.authNonceRefresh) s = execAuthNonceRefresh s := rfl
theorem exec_resetN (s : State) : exec (.resetN) s = execResetN s := rfl
theorem exec_wipeFillDone (s : State) : exec (.wipeFillDone) s = execWipeFillDone s := rfl
theorem exec_brownOut (s : State) : exec (.brownOut) s = execBrownOut s := rfl
theorem exec_wakeN (s : State) : exec (.wakeN) s = execWakeN s := rfl
theorem exec_wakeTimer (s : State) : exec (.wakeTimer) s = execWakeTimer s := rfl
theorem exec_kclWakeBeacon (s : State) : exec (.kclWakeBeacon) s = execKclWakeBeacon s := rfl
theorem exec_idleEntry (s : State) : exec (.idleEntry) s = execIdleEntry s := rfl
theorem exec_schReady (s : State) : exec (.schReady) s = execSchReady s := rfl
theorem exec_refclkPresent (s : State) : exec (.refclkPresent) s = execRefclkPresent s := rfl
theorem exec_resetNHigh (s : State) : exec (.resetNHigh) s = execResetNHigh s := rfl
theorem exec_nodeStatusSend (s : State) : exec (.nodeStatusSend) s = execNodeStatusSend s := rfl
theorem exec_e0HoldExpiry (s : State) : exec (.e0HoldExpiry) s = execE0HoldExpiry s := rfl
theorem exec_inputPowerRemoved (s : State) : exec (.inputPowerRemoved) s = execInputPowerRemoved s := rfl

end Sys2Proof.Machine
end

