-- ==== Sys2Proof/Laws/Memory.lean ====
section
/-! SUPPORT. Memory keeps its canonical form: what every operation over it leaves. -/

namespace Sys2Proof.Machine

/-- The canonical form, said of all entries at once. -/
theorem memWf_iff (cs : List Host.Cell) : memWf cs = true ↔ cs.Pairwise (fun c e => c.1 < e.1) ∧ ∀ c ∈ cs, c.2 ≠ 0#8 := by
  induction cs with
  | nil => simp [memWf]
  | cons c cs ih =>
    cases cs with
    | nil => simp [memWf]
    | cons e es =>
      simp only [memWf, Bool.and_eq_true, bne_iff_ne, ne_eq, decide_eq_true_eq, ih, List.pairwise_cons]
      constructor
      · rintro ⟨⟨h1, h2⟩, ⟨h3, h4⟩, h5⟩
        refine ⟨⟨?_, h3, h4⟩, ?_⟩
        · intro x hx
          rcases List.mem_cons.1 hx with rfl | hx
          · exact h2
          · exact Nat.lt_trans h2 (h3 x hx)
        · intro x hx
          rcases List.mem_cons.1 hx with rfl | hx
          · exact h1
          · exact h5 x hx
      · rintro ⟨⟨h1, h2, h3⟩, h4⟩
        exact ⟨⟨h4 c (by simp), h1 e (by simp)⟩, ⟨h2, h3⟩, fun x hx => h4 x (by simp [hx])⟩

theorem memWf_filter {cs : List Host.Cell} (p : Host.Cell → Bool) (h : memWf cs = true) : memWf (cs.filter p) = true := by
  rw [memWf_iff] at h ⊢
  exact ⟨h.1.filter _, fun c hc => h.2 c (List.mem_filter.1 hc).1⟩

/-- The cells of a byte string lie where the string lies, none of them zero. -/
theorem sparse_mem {bs : List Byte} {a : Nat} {c : Host.Cell} (h : c ∈ sparse a bs) : a ≤ c.1 ∧ c.1 < a + bs.length ∧ c.2 ≠ 0#8 := by
  induction bs generalizing a with
  | nil => simp [sparse] at h
  | cons b bs ih =>
    simp only [sparse] at h
    split at h
    · have := ih h; simp only [List.length_cons]; exact ⟨by omega, by omega, this.2.2⟩
    · next hb =>
      rcases List.mem_cons.1 h with rfl | h
      · exact ⟨Nat.le_refl _, by simp, hb⟩
      · have := ih h; simp only [List.length_cons]; exact ⟨by omega, by omega, this.2.2⟩

theorem sparse_rising (bs : List Byte) (a : Nat) : (sparse a bs).Pairwise fun c e => c.1 < e.1 := by
  induction bs generalizing a with
  | nil => simp [sparse]
  | cons b bs ih =>
    simp only [sparse]
    split
    · exact ih _
    · exact List.pairwise_cons.2 ⟨fun c hc => (sparse_mem hc).1, ih _⟩

theorem memZero_wf {cs : List Host.Cell} (a n : Nat) (h : memWf cs = true) : memWf (memZero cs a n) = true := memWf_filter _ h

theorem memWrite_wf {cs : List Host.Cell} (a : Nat) (bs : List Byte) (h : memWf cs = true) : memWf (memWrite cs a bs) = true := by
  rw [memWf_iff] at h
  rw [memWrite, memWf_iff]
  refine ⟨List.pairwise_append.2 ⟨List.pairwise_append.2 ⟨h.1.filter _, sparse_rising _ _, ?_⟩, h.1.filter _, ?_⟩, ?_⟩
  · intro c hc e he
    have h1 := (List.mem_filter.1 hc).2
    have h2 := (sparse_mem he).1
    simp only [decide_eq_true_eq] at h1
    exact Nat.lt_of_lt_of_le h1 h2
  · intro c hc e he
    have h2 := (List.mem_filter.1 he).2
    simp only [decide_eq_true_eq] at h2
    rcases List.mem_append.1 hc with hc | hc
    · have h1 := (List.mem_filter.1 hc).2
      simp only [decide_eq_true_eq] at h1
      omega
    · exact Nat.lt_of_lt_of_le (sparse_mem hc).2.1 h2
  · intro c hc
    rcases List.mem_append.1 hc with hc | hc
    · rcases List.mem_append.1 hc with hc | hc
      · exact h.2 c (List.mem_filter.1 hc).1
      · exact (sparse_mem hc).2.2
    · exact h.2 c (List.mem_filter.1 hc).1

theorem memPut_wf {cs : List Host.Cell} (a n : Nat) (new : List Host.Cell) (h : memWf cs = true) : memWf (memPut cs a n new) = true := by
  unfold memPut
  have h0 := memZero_wf a n h
  generalize memZero cs a n = m at h0
  induction new generalizing m with
  | nil => exact h0
  | cons c new ih =>
    simp only [List.foldl_cons]
    split
    · exact ih (m := _) (memWrite_wf _ _ h0)
    · exact ih (m := _) h0

theorem reset_memOk : State.reset.MemOk := rfl

end Sys2Proof.Machine
end

