-- ==== Sys2Proof/Laws/State.lean ====
section
/-! SUPPORT. One lemma for each field that an update of the device leaves: an accessor of it reads as before. -/

namespace Sys2Proof.Machine

/-! ### The state -/

@[simp] theorem State.withDev_pending (s : State) (d : Dev) : ({ s with dev := d } : State).pending = s.pending := rfl
@[simp] theorem State.withDev_fuses (s : State) (d : Dev) : ({ s with dev := d } : State).fuses = s.fuses := rfl
@[simp] theorem State.withDev_dev (s : State) (d : Dev) : ({ s with dev := d } : State).dev = d := rfl

/-! ### Dev.setObjAt -/

@[simp] theorem Dev.setObjAt_blobs (d : Dev) (idx sub elem v : Nat) : (d.setObjAt idx sub elem v).blobs = d.blobs := rfl
@[simp] theorem Dev.setObjAt_mem (d : Dev) (idx sub elem v : Nat) : (d.setObjAt idx sub elem v).mem = d.mem := rfl
@[simp] theorem Dev.setObjAt_poison (d : Dev) (idx sub elem v : Nat) : (d.setObjAt idx sub elem v).poison = d.poison := rfl
@[simp] theorem Dev.setObjAt_regions (d : Dev) (idx sub elem v : Nat) : (d.setObjAt idx sub elem v).regions = d.regions := rfl
@[simp] theorem Dev.setObjAt_ctxs (d : Dev) (idx sub elem v : Nat) : (d.setObjAt idx sub elem v).ctxs = d.ctxs := rfl
@[simp] theorem Dev.setObjAt_cmp (d : Dev) (idx sub elem v : Nat) : (d.setObjAt idx sub elem v).cmp = d.cmp := rfl
@[simp] theorem Dev.setObjAt_net (d : Dev) (idx sub elem v : Nat) : (d.setObjAt idx sub elem v).net = d.net := rfl
@[simp] theorem Dev.setObjAt_host (d : Dev) (idx sub elem v : Nat) : (d.setObjAt idx sub elem v).host = d.host := rfl
@[simp] theorem Dev.setObjAt_pwr (d : Dev) (idx sub elem v : Nat) : (d.setObjAt idx sub elem v).pwr = d.pwr := rfl
@[simp] theorem Dev.setObjAt_sec (d : Dev) (idx sub elem v : Nat) : (d.setObjAt idx sub elem v).sec = d.sec := rfl
@[simp] theorem Dev.setObjAt_fw (d : Dev) (idx sub elem v : Nat) : (d.setObjAt idx sub elem v).fw = d.fw := rfl
@[simp] theorem Dev.setObjAt_faults (d : Dev) (idx sub elem v : Nat) : (d.setObjAt idx sub elem v).faults = d.faults := rfl
@[simp] theorem Dev.setObjAt_events (d : Dev) (idx sub elem v : Nat) : (d.setObjAt idx sub elem v).events = d.events := rfl
@[simp] theorem Dev.setObjAt_wear (d : Dev) (idx sub elem v : Nat) : (d.setObjAt idx sub elem v).wear = d.wear := rfl
@[simp] theorem Dev.setObjAt_erasures (d : Dev) (idx sub elem v : Nat) : (d.setObjAt idx sub elem v).erasures = d.erasures := rfl
@[simp] theorem Dev.setObjAt_time (d : Dev) (idx sub elem v : Nat) : (d.setObjAt idx sub elem v).time = d.time := rfl
@[simp] theorem Dev.setObjAt_calendar (d : Dev) (idx sub elem v : Nat) : (d.setObjAt idx sub elem v).calendar = d.calendar := rfl
@[simp] theorem Dev.setObjAt_fresh (d : Dev) (idx sub elem v : Nat) : (d.setObjAt idx sub elem v).fresh = d.fresh := rfl
@[simp] theorem Dev.setObjAt_out (d : Dev) (idx sub elem v : Nat) : (d.setObjAt idx sub elem v).out = d.out := rfl

/-! ### Dev.setObj -/

@[simp] theorem Dev.setObj_blobs (d : Dev) (idx sub v : Nat) : (d.setObj idx sub v).blobs = d.blobs := rfl
@[simp] theorem Dev.setObj_mem (d : Dev) (idx sub v : Nat) : (d.setObj idx sub v).mem = d.mem := rfl
@[simp] theorem Dev.setObj_poison (d : Dev) (idx sub v : Nat) : (d.setObj idx sub v).poison = d.poison := rfl
@[simp] theorem Dev.setObj_regions (d : Dev) (idx sub v : Nat) : (d.setObj idx sub v).regions = d.regions := rfl
@[simp] theorem Dev.setObj_ctxs (d : Dev) (idx sub v : Nat) : (d.setObj idx sub v).ctxs = d.ctxs := rfl
@[simp] theorem Dev.setObj_cmp (d : Dev) (idx sub v : Nat) : (d.setObj idx sub v).cmp = d.cmp := rfl
@[simp] theorem Dev.setObj_net (d : Dev) (idx sub v : Nat) : (d.setObj idx sub v).net = d.net := rfl
@[simp] theorem Dev.setObj_host (d : Dev) (idx sub v : Nat) : (d.setObj idx sub v).host = d.host := rfl
@[simp] theorem Dev.setObj_pwr (d : Dev) (idx sub v : Nat) : (d.setObj idx sub v).pwr = d.pwr := rfl
@[simp] theorem Dev.setObj_sec (d : Dev) (idx sub v : Nat) : (d.setObj idx sub v).sec = d.sec := rfl
@[simp] theorem Dev.setObj_fw (d : Dev) (idx sub v : Nat) : (d.setObj idx sub v).fw = d.fw := rfl
@[simp] theorem Dev.setObj_faults (d : Dev) (idx sub v : Nat) : (d.setObj idx sub v).faults = d.faults := rfl
@[simp] theorem Dev.setObj_events (d : Dev) (idx sub v : Nat) : (d.setObj idx sub v).events = d.events := rfl
@[simp] theorem Dev.setObj_wear (d : Dev) (idx sub v : Nat) : (d.setObj idx sub v).wear = d.wear := rfl
@[simp] theorem Dev.setObj_erasures (d : Dev) (idx sub v : Nat) : (d.setObj idx sub v).erasures = d.erasures := rfl
@[simp] theorem Dev.setObj_time (d : Dev) (idx sub v : Nat) : (d.setObj idx sub v).time = d.time := rfl
@[simp] theorem Dev.setObj_calendar (d : Dev) (idx sub v : Nat) : (d.setObj idx sub v).calendar = d.calendar := rfl
@[simp] theorem Dev.setObj_fresh (d : Dev) (idx sub v : Nat) : (d.setObj idx sub v).fresh = d.fresh := rfl
@[simp] theorem Dev.setObj_out (d : Dev) (idx sub v : Nat) : (d.setObj idx sub v).out = d.out := rfl

/-! ### Dev.bump -/

@[simp] theorem Dev.bump_blobs (d : Dev) (idx sub n : Nat) : (d.bump idx sub n).blobs = d.blobs := by unfold Dev.bump; split <;> rfl
@[simp] theorem Dev.bump_mem (d : Dev) (idx sub n : Nat) : (d.bump idx sub n).mem = d.mem := by unfold Dev.bump; split <;> rfl
@[simp] theorem Dev.bump_poison (d : Dev) (idx sub n : Nat) : (d.bump idx sub n).poison = d.poison := by unfold Dev.bump; split <;> rfl
@[simp] theorem Dev.bump_regions (d : Dev) (idx sub n : Nat) : (d.bump idx sub n).regions = d.regions := by unfold Dev.bump; split <;> rfl
@[simp] theorem Dev.bump_ctxs (d : Dev) (idx sub n : Nat) : (d.bump idx sub n).ctxs = d.ctxs := by unfold Dev.bump; split <;> rfl
@[simp] theorem Dev.bump_cmp (d : Dev) (idx sub n : Nat) : (d.bump idx sub n).cmp = d.cmp := by unfold Dev.bump; split <;> rfl
@[simp] theorem Dev.bump_net (d : Dev) (idx sub n : Nat) : (d.bump idx sub n).net = d.net := by unfold Dev.bump; split <;> rfl
@[simp] theorem Dev.bump_host (d : Dev) (idx sub n : Nat) : (d.bump idx sub n).host = d.host := by unfold Dev.bump; split <;> rfl
@[simp] theorem Dev.bump_pwr (d : Dev) (idx sub n : Nat) : (d.bump idx sub n).pwr = d.pwr := by unfold Dev.bump; split <;> rfl
@[simp] theorem Dev.bump_sec (d : Dev) (idx sub n : Nat) : (d.bump idx sub n).sec = d.sec := by unfold Dev.bump; split <;> rfl
@[simp] theorem Dev.bump_fw (d : Dev) (idx sub n : Nat) : (d.bump idx sub n).fw = d.fw := by unfold Dev.bump; split <;> rfl
@[simp] theorem Dev.bump_faults (d : Dev) (idx sub n : Nat) : (d.bump idx sub n).faults = d.faults := by unfold Dev.bump; split <;> rfl
@[simp] theorem Dev.bump_events (d : Dev) (idx sub n : Nat) : (d.bump idx sub n).events = d.events := by unfold Dev.bump; split <;> rfl
@[simp] theorem Dev.bump_wear (d : Dev) (idx sub n : Nat) : (d.bump idx sub n).wear = d.wear := by unfold Dev.bump; split <;> rfl
@[simp] theorem Dev.bump_erasures (d : Dev) (idx sub n : Nat) : (d.bump idx sub n).erasures = d.erasures := by unfold Dev.bump; split <;> rfl
@[simp] theorem Dev.bump_time (d : Dev) (idx sub n : Nat) : (d.bump idx sub n).time = d.time := by unfold Dev.bump; split <;> rfl
@[simp] theorem Dev.bump_calendar (d : Dev) (idx sub n : Nat) : (d.bump idx sub n).calendar = d.calendar := by unfold Dev.bump; split <;> rfl
@[simp] theorem Dev.bump_fresh (d : Dev) (idx sub n : Nat) : (d.bump idx sub n).fresh = d.fresh := by unfold Dev.bump; split <;> rfl
@[simp] theorem Dev.bump_out (d : Dev) (idx sub n : Nat) : (d.bump idx sub n).out = d.out := by unfold Dev.bump; split <;> rfl

/-! ### Dev.bumpAt -/

@[simp] theorem Dev.bumpAt_blobs (d : Dev) (idx sub elem n : Nat) : (d.bumpAt idx sub elem n).blobs = d.blobs := by unfold Dev.bumpAt; split <;> rfl
@[simp] theorem Dev.bumpAt_mem (d : Dev) (idx sub elem n : Nat) : (d.bumpAt idx sub elem n).mem = d.mem := by unfold Dev.bumpAt; split <;> rfl
@[simp] theorem Dev.bumpAt_poison (d : Dev) (idx sub elem n : Nat) : (d.bumpAt idx sub elem n).poison = d.poison := by unfold Dev.bumpAt; split <;> rfl
@[simp] theorem Dev.bumpAt_regions (d : Dev) (idx sub elem n : Nat) : (d.bumpAt idx sub elem n).regions = d.regions := by unfold Dev.bumpAt; split <;> rfl
@[simp] theorem Dev.bumpAt_ctxs (d : Dev) (idx sub elem n : Nat) : (d.bumpAt idx sub elem n).ctxs = d.ctxs := by unfold Dev.bumpAt; split <;> rfl
@[simp] theorem Dev.bumpAt_cmp (d : Dev) (idx sub elem n : Nat) : (d.bumpAt idx sub elem n).cmp = d.cmp := by unfold Dev.bumpAt; split <;> rfl
@[simp] theorem Dev.bumpAt_net (d : Dev) (idx sub elem n : Nat) : (d.bumpAt idx sub elem n).net = d.net := by unfold Dev.bumpAt; split <;> rfl
@[simp] theorem Dev.bumpAt_host (d : Dev) (idx sub elem n : Nat) : (d.bumpAt idx sub elem n).host = d.host := by unfold Dev.bumpAt; split <;> rfl
@[simp] theorem Dev.bumpAt_pwr (d : Dev) (idx sub elem n : Nat) : (d.bumpAt idx sub elem n).pwr = d.pwr := by unfold Dev.bumpAt; split <;> rfl
@[simp] theorem Dev.bumpAt_sec (d : Dev) (idx sub elem n : Nat) : (d.bumpAt idx sub elem n).sec = d.sec := by unfold Dev.bumpAt; split <;> rfl
@[simp] theorem Dev.bumpAt_fw (d : Dev) (idx sub elem n : Nat) : (d.bumpAt idx sub elem n).fw = d.fw := by unfold Dev.bumpAt; split <;> rfl
@[simp] theorem Dev.bumpAt_faults (d : Dev) (idx sub elem n : Nat) : (d.bumpAt idx sub elem n).faults = d.faults := by unfold Dev.bumpAt; split <;> rfl
@[simp] theorem Dev.bumpAt_events (d : Dev) (idx sub elem n : Nat) : (d.bumpAt idx sub elem n).events = d.events := by unfold Dev.bumpAt; split <;> rfl
@[simp] theorem Dev.bumpAt_wear (d : Dev) (idx sub elem n : Nat) : (d.bumpAt idx sub elem n).wear = d.wear := by unfold Dev.bumpAt; split <;> rfl
@[simp] theorem Dev.bumpAt_erasures (d : Dev) (idx sub elem n : Nat) : (d.bumpAt idx sub elem n).erasures = d.erasures := by unfold Dev.bumpAt; split <;> rfl
@[simp] theorem Dev.bumpAt_time (d : Dev) (idx sub elem n : Nat) : (d.bumpAt idx sub elem n).time = d.time := by unfold Dev.bumpAt; split <;> rfl
@[simp] theorem Dev.bumpAt_calendar (d : Dev) (idx sub elem n : Nat) : (d.bumpAt idx sub elem n).calendar = d.calendar := by unfold Dev.bumpAt; split <;> rfl
@[simp] theorem Dev.bumpAt_fresh (d : Dev) (idx sub elem n : Nat) : (d.bumpAt idx sub elem n).fresh = d.fresh := by unfold Dev.bumpAt; split <;> rfl
@[simp] theorem Dev.bumpAt_out (d : Dev) (idx sub elem n : Nat) : (d.bumpAt idx sub elem n).out = d.out := by unfold Dev.bumpAt; split <;> rfl

/-! ### Dev.setBlob -/

@[simp] theorem Dev.setBlob_objs (d : Dev) (idx sub : Nat) (v : List Byte) : (d.setBlob idx sub v).objs = d.objs := rfl
@[simp] theorem Dev.setBlob_mem (d : Dev) (idx sub : Nat) (v : List Byte) : (d.setBlob idx sub v).mem = d.mem := rfl
@[simp] theorem Dev.setBlob_poison (d : Dev) (idx sub : Nat) (v : List Byte) : (d.setBlob idx sub v).poison = d.poison := rfl
@[simp] theorem Dev.setBlob_regions (d : Dev) (idx sub : Nat) (v : List Byte) : (d.setBlob idx sub v).regions = d.regions := rfl
@[simp] theorem Dev.setBlob_ctxs (d : Dev) (idx sub : Nat) (v : List Byte) : (d.setBlob idx sub v).ctxs = d.ctxs := rfl
@[simp] theorem Dev.setBlob_cmp (d : Dev) (idx sub : Nat) (v : List Byte) : (d.setBlob idx sub v).cmp = d.cmp := rfl
@[simp] theorem Dev.setBlob_net (d : Dev) (idx sub : Nat) (v : List Byte) : (d.setBlob idx sub v).net = d.net := rfl
@[simp] theorem Dev.setBlob_host (d : Dev) (idx sub : Nat) (v : List Byte) : (d.setBlob idx sub v).host = d.host := rfl
@[simp] theorem Dev.setBlob_pwr (d : Dev) (idx sub : Nat) (v : List Byte) : (d.setBlob idx sub v).pwr = d.pwr := rfl
@[simp] theorem Dev.setBlob_sec (d : Dev) (idx sub : Nat) (v : List Byte) : (d.setBlob idx sub v).sec = d.sec := rfl
@[simp] theorem Dev.setBlob_fw (d : Dev) (idx sub : Nat) (v : List Byte) : (d.setBlob idx sub v).fw = d.fw := rfl
@[simp] theorem Dev.setBlob_faults (d : Dev) (idx sub : Nat) (v : List Byte) : (d.setBlob idx sub v).faults = d.faults := rfl
@[simp] theorem Dev.setBlob_events (d : Dev) (idx sub : Nat) (v : List Byte) : (d.setBlob idx sub v).events = d.events := rfl
@[simp] theorem Dev.setBlob_wear (d : Dev) (idx sub : Nat) (v : List Byte) : (d.setBlob idx sub v).wear = d.wear := rfl
@[simp] theorem Dev.setBlob_erasures (d : Dev) (idx sub : Nat) (v : List Byte) : (d.setBlob idx sub v).erasures = d.erasures := rfl
@[simp] theorem Dev.setBlob_time (d : Dev) (idx sub : Nat) (v : List Byte) : (d.setBlob idx sub v).time = d.time := rfl
@[simp] theorem Dev.setBlob_calendar (d : Dev) (idx sub : Nat) (v : List Byte) : (d.setBlob idx sub v).calendar = d.calendar := rfl
@[simp] theorem Dev.setBlob_fresh (d : Dev) (idx sub : Nat) (v : List Byte) : (d.setBlob idx sub v).fresh = d.fresh := rfl
@[simp] theorem Dev.setBlob_out (d : Dev) (idx sub : Nat) (v : List Byte) : (d.setBlob idx sub v).out = d.out := rfl

/-! ### Dev.setRing -/

@[simp] theorem Dev.setRing_blobs (d : Dev) (c v : Nat) : (d.setRing c v).blobs = d.blobs := rfl
@[simp] theorem Dev.setRing_mem (d : Dev) (c v : Nat) : (d.setRing c v).mem = d.mem := rfl
@[simp] theorem Dev.setRing_poison (d : Dev) (c v : Nat) : (d.setRing c v).poison = d.poison := rfl
@[simp] theorem Dev.setRing_regions (d : Dev) (c v : Nat) : (d.setRing c v).regions = d.regions := rfl
@[simp] theorem Dev.setRing_ctxs (d : Dev) (c v : Nat) : (d.setRing c v).ctxs = d.ctxs := rfl
@[simp] theorem Dev.setRing_cmp (d : Dev) (c v : Nat) : (d.setRing c v).cmp = d.cmp := rfl
@[simp] theorem Dev.setRing_net (d : Dev) (c v : Nat) : (d.setRing c v).net = d.net := rfl
@[simp] theorem Dev.setRing_host (d : Dev) (c v : Nat) : (d.setRing c v).host = d.host := rfl
@[simp] theorem Dev.setRing_pwr (d : Dev) (c v : Nat) : (d.setRing c v).pwr = d.pwr := rfl
@[simp] theorem Dev.setRing_sec (d : Dev) (c v : Nat) : (d.setRing c v).sec = d.sec := rfl
@[simp] theorem Dev.setRing_fw (d : Dev) (c v : Nat) : (d.setRing c v).fw = d.fw := rfl
@[simp] theorem Dev.setRing_faults (d : Dev) (c v : Nat) : (d.setRing c v).faults = d.faults := rfl
@[simp] theorem Dev.setRing_events (d : Dev) (c v : Nat) : (d.setRing c v).events = d.events := rfl
@[simp] theorem Dev.setRing_wear (d : Dev) (c v : Nat) : (d.setRing c v).wear = d.wear := rfl
@[simp] theorem Dev.setRing_erasures (d : Dev) (c v : Nat) : (d.setRing c v).erasures = d.erasures := rfl
@[simp] theorem Dev.setRing_time (d : Dev) (c v : Nat) : (d.setRing c v).time = d.time := rfl
@[simp] theorem Dev.setRing_calendar (d : Dev) (c v : Nat) : (d.setRing c v).calendar = d.calendar := rfl
@[simp] theorem Dev.setRing_fresh (d : Dev) (c v : Nat) : (d.setRing c v).fresh = d.fresh := rfl
@[simp] theorem Dev.setRing_out (d : Dev) (c v : Nat) : (d.setRing c v).out = d.out := rfl

/-! ### Dev.setHalves -/

@[simp] theorem Dev.setHalves_blobs (d : Dev) (port v : Nat) : (d.setHalves port v).blobs = d.blobs := rfl
@[simp] theorem Dev.setHalves_mem (d : Dev) (port v : Nat) : (d.setHalves port v).mem = d.mem := rfl
@[simp] theorem Dev.setHalves_poison (d : Dev) (port v : Nat) : (d.setHalves port v).poison = d.poison := rfl
@[simp] theorem Dev.setHalves_regions (d : Dev) (port v : Nat) : (d.setHalves port v).regions = d.regions := rfl
@[simp] theorem Dev.setHalves_ctxs (d : Dev) (port v : Nat) : (d.setHalves port v).ctxs = d.ctxs := rfl
@[simp] theorem Dev.setHalves_cmp (d : Dev) (port v : Nat) : (d.setHalves port v).cmp = d.cmp := rfl
@[simp] theorem Dev.setHalves_net (d : Dev) (port v : Nat) : (d.setHalves port v).net = d.net := rfl
@[simp] theorem Dev.setHalves_host (d : Dev) (port v : Nat) : (d.setHalves port v).host = d.host := rfl
@[simp] theorem Dev.setHalves_pwr (d : Dev) (port v : Nat) : (d.setHalves port v).pwr = d.pwr := rfl
@[simp] theorem Dev.setHalves_sec (d : Dev) (port v : Nat) : (d.setHalves port v).sec = d.sec := rfl
@[simp] theorem Dev.setHalves_fw (d : Dev) (port v : Nat) : (d.setHalves port v).fw = d.fw := rfl
@[simp] theorem Dev.setHalves_faults (d : Dev) (port v : Nat) : (d.setHalves port v).faults = d.faults := rfl
@[simp] theorem Dev.setHalves_events (d : Dev) (port v : Nat) : (d.setHalves port v).events = d.events := rfl
@[simp] theorem Dev.setHalves_wear (d : Dev) (port v : Nat) : (d.setHalves port v).wear = d.wear := rfl
@[simp] theorem Dev.setHalves_erasures (d : Dev) (port v : Nat) : (d.setHalves port v).erasures = d.erasures := rfl
@[simp] theorem Dev.setHalves_time (d : Dev) (port v : Nat) : (d.setHalves port v).time = d.time := rfl
@[simp] theorem Dev.setHalves_calendar (d : Dev) (port v : Nat) : (d.setHalves port v).calendar = d.calendar := rfl
@[simp] theorem Dev.setHalves_fresh (d : Dev) (port v : Nat) : (d.setHalves port v).fresh = d.fresh := rfl
@[simp] theorem Dev.setHalves_out (d : Dev) (port v : Nat) : (d.setHalves port v).out = d.out := rfl

/-! ### Dev.send -/

@[simp] theorem Dev.send_objs (d : Dev) (o : Out) : (d.send o).objs = d.objs := rfl
@[simp] theorem Dev.send_blobs (d : Dev) (o : Out) : (d.send o).blobs = d.blobs := rfl
@[simp] theorem Dev.send_mem (d : Dev) (o : Out) : (d.send o).mem = d.mem := rfl
@[simp] theorem Dev.send_poison (d : Dev) (o : Out) : (d.send o).poison = d.poison := rfl
@[simp] theorem Dev.send_regions (d : Dev) (o : Out) : (d.send o).regions = d.regions := rfl
@[simp] theorem Dev.send_ctxs (d : Dev) (o : Out) : (d.send o).ctxs = d.ctxs := rfl
@[simp] theorem Dev.send_cmp (d : Dev) (o : Out) : (d.send o).cmp = d.cmp := rfl
@[simp] theorem Dev.send_net (d : Dev) (o : Out) : (d.send o).net = d.net := rfl
@[simp] theorem Dev.send_host (d : Dev) (o : Out) : (d.send o).host = d.host := rfl
@[simp] theorem Dev.send_pwr (d : Dev) (o : Out) : (d.send o).pwr = d.pwr := rfl
@[simp] theorem Dev.send_sec (d : Dev) (o : Out) : (d.send o).sec = d.sec := rfl
@[simp] theorem Dev.send_fw (d : Dev) (o : Out) : (d.send o).fw = d.fw := rfl
@[simp] theorem Dev.send_faults (d : Dev) (o : Out) : (d.send o).faults = d.faults := rfl
@[simp] theorem Dev.send_events (d : Dev) (o : Out) : (d.send o).events = d.events := rfl
@[simp] theorem Dev.send_wear (d : Dev) (o : Out) : (d.send o).wear = d.wear := rfl
@[simp] theorem Dev.send_erasures (d : Dev) (o : Out) : (d.send o).erasures = d.erasures := rfl
@[simp] theorem Dev.send_time (d : Dev) (o : Out) : (d.send o).time = d.time := rfl
@[simp] theorem Dev.send_calendar (d : Dev) (o : Out) : (d.send o).calendar = d.calendar := rfl
@[simp] theorem Dev.send_fresh (d : Dev) (o : Out) : (d.send o).fresh = d.fresh := rfl

/-! ### Dev.setCtx -/

@[simp] theorem Dev.setCtx_objs (d : Dev) (c : Nat) (x : Ctx) : (d.setCtx c x).objs = d.objs := rfl
@[simp] theorem Dev.setCtx_blobs (d : Dev) (c : Nat) (x : Ctx) : (d.setCtx c x).blobs = d.blobs := rfl
@[simp] theorem Dev.setCtx_mem (d : Dev) (c : Nat) (x : Ctx) : (d.setCtx c x).mem = d.mem := rfl
@[simp] theorem Dev.setCtx_poison (d : Dev) (c : Nat) (x : Ctx) : (d.setCtx c x).poison = d.poison := rfl
@[simp] theorem Dev.setCtx_regions (d : Dev) (c : Nat) (x : Ctx) : (d.setCtx c x).regions = d.regions := rfl
@[simp] theorem Dev.setCtx_cmp (d : Dev) (c : Nat) (x : Ctx) : (d.setCtx c x).cmp = d.cmp := rfl
@[simp] theorem Dev.setCtx_net (d : Dev) (c : Nat) (x : Ctx) : (d.setCtx c x).net = d.net := rfl
@[simp] theorem Dev.setCtx_host (d : Dev) (c : Nat) (x : Ctx) : (d.setCtx c x).host = d.host := rfl
@[simp] theorem Dev.setCtx_pwr (d : Dev) (c : Nat) (x : Ctx) : (d.setCtx c x).pwr = d.pwr := rfl
@[simp] theorem Dev.setCtx_sec (d : Dev) (c : Nat) (x : Ctx) : (d.setCtx c x).sec = d.sec := rfl
@[simp] theorem Dev.setCtx_fw (d : Dev) (c : Nat) (x : Ctx) : (d.setCtx c x).fw = d.fw := rfl
@[simp] theorem Dev.setCtx_faults (d : Dev) (c : Nat) (x : Ctx) : (d.setCtx c x).faults = d.faults := rfl
@[simp] theorem Dev.setCtx_events (d : Dev) (c : Nat) (x : Ctx) : (d.setCtx c x).events = d.events := rfl
@[simp] theorem Dev.setCtx_wear (d : Dev) (c : Nat) (x : Ctx) : (d.setCtx c x).wear = d.wear := rfl
@[simp] theorem Dev.setCtx_erasures (d : Dev) (c : Nat) (x : Ctx) : (d.setCtx c x).erasures = d.erasures := rfl
@[simp] theorem Dev.setCtx_time (d : Dev) (c : Nat) (x : Ctx) : (d.setCtx c x).time = d.time := rfl
@[simp] theorem Dev.setCtx_calendar (d : Dev) (c : Nat) (x : Ctx) : (d.setCtx c x).calendar = d.calendar := rfl
@[simp] theorem Dev.setCtx_fresh (d : Dev) (c : Nat) (x : Ctx) : (d.setCtx c x).fresh = d.fresh := rfl
@[simp] theorem Dev.setCtx_out (d : Dev) (c : Nat) (x : Ctx) : (d.setCtx c x).out = d.out := rfl

/-! ### Dev.modCtx -/

@[simp] theorem Dev.modCtx_objs (d : Dev) (c : Nat) (f : Ctx → Ctx) : (d.modCtx c f).objs = d.objs := rfl
@[simp] theorem Dev.modCtx_blobs (d : Dev) (c : Nat) (f : Ctx → Ctx) : (d.modCtx c f).blobs = d.blobs := rfl
@[simp] theorem Dev.modCtx_mem (d : Dev) (c : Nat) (f : Ctx → Ctx) : (d.modCtx c f).mem = d.mem := rfl
@[simp] theorem Dev.modCtx_poison (d : Dev) (c : Nat) (f : Ctx → Ctx) : (d.modCtx c f).poison = d.poison := rfl
@[simp] theorem Dev.modCtx_regions (d : Dev) (c : Nat) (f : Ctx → Ctx) : (d.modCtx c f).regions = d.regions := rfl
@[simp] theorem Dev.modCtx_cmp (d : Dev) (c : Nat) (f : Ctx → Ctx) : (d.modCtx c f).cmp = d.cmp := rfl
@[simp] theorem Dev.modCtx_net (d : Dev) (c : Nat) (f : Ctx → Ctx) : (d.modCtx c f).net = d.net := rfl
@[simp] theorem Dev.modCtx_host (d : Dev) (c : Nat) (f : Ctx → Ctx) : (d.modCtx c f).host = d.host := rfl
@[simp] theorem Dev.modCtx_pwr (d : Dev) (c : Nat) (f : Ctx → Ctx) : (d.modCtx c f).pwr = d.pwr := rfl
@[simp] theorem Dev.modCtx_sec (d : Dev) (c : Nat) (f : Ctx → Ctx) : (d.modCtx c f).sec = d.sec := rfl
@[simp] theorem Dev.modCtx_fw (d : Dev) (c : Nat) (f : Ctx → Ctx) : (d.modCtx c f).fw = d.fw := rfl
@[simp] theorem Dev.modCtx_faults (d : Dev) (c : Nat) (f : Ctx → Ctx) : (d.modCtx c f).faults = d.faults := rfl
@[simp] theorem Dev.modCtx_events (d : Dev) (c : Nat) (f : Ctx → Ctx) : (d.modCtx c f).events = d.events := rfl
@[simp] theorem Dev.modCtx_wear (d : Dev) (c : Nat) (f : Ctx → Ctx) : (d.modCtx c f).wear = d.wear := rfl
@[simp] theorem Dev.modCtx_erasures (d : Dev) (c : Nat) (f : Ctx → Ctx) : (d.modCtx c f).erasures = d.erasures := rfl
@[simp] theorem Dev.modCtx_time (d : Dev) (c : Nat) (f : Ctx → Ctx) : (d.modCtx c f).time = d.time := rfl
@[simp] theorem Dev.modCtx_calendar (d : Dev) (c : Nat) (f : Ctx → Ctx) : (d.modCtx c f).calendar = d.calendar := rfl
@[simp] theorem Dev.modCtx_fresh (d : Dev) (c : Nat) (f : Ctx → Ctx) : (d.modCtx c f).fresh = d.fresh := rfl
@[simp] theorem Dev.modCtx_out (d : Dev) (c : Nat) (f : Ctx → Ctx) : (d.modCtx c f).out = d.out := rfl

/-! ### Dev.setFw -/

@[simp] theorem Dev.setFw_objs (d : Dev) (k : Nat) (x : FwCore) : (d.setFw k x).objs = d.objs := rfl
@[simp] theorem Dev.setFw_blobs (d : Dev) (k : Nat) (x : FwCore) : (d.setFw k x).blobs = d.blobs := rfl
@[simp] theorem Dev.setFw_mem (d : Dev) (k : Nat) (x : FwCore) : (d.setFw k x).mem = d.mem := rfl
@[simp] theorem Dev.setFw_poison (d : Dev) (k : Nat) (x : FwCore) : (d.setFw k x).poison = d.poison := rfl
@[simp] theorem Dev.setFw_regions (d : Dev) (k : Nat) (x : FwCore) : (d.setFw k x).regions = d.regions := rfl
@[simp] theorem Dev.setFw_ctxs (d : Dev) (k : Nat) (x : FwCore) : (d.setFw k x).ctxs = d.ctxs := rfl
@[simp] theorem Dev.setFw_cmp (d : Dev) (k : Nat) (x : FwCore) : (d.setFw k x).cmp = d.cmp := rfl
@[simp] theorem Dev.setFw_net (d : Dev) (k : Nat) (x : FwCore) : (d.setFw k x).net = d.net := rfl
@[simp] theorem Dev.setFw_host (d : Dev) (k : Nat) (x : FwCore) : (d.setFw k x).host = d.host := rfl
@[simp] theorem Dev.setFw_pwr (d : Dev) (k : Nat) (x : FwCore) : (d.setFw k x).pwr = d.pwr := rfl
@[simp] theorem Dev.setFw_sec (d : Dev) (k : Nat) (x : FwCore) : (d.setFw k x).sec = d.sec := rfl
@[simp] theorem Dev.setFw_faults (d : Dev) (k : Nat) (x : FwCore) : (d.setFw k x).faults = d.faults := rfl
@[simp] theorem Dev.setFw_events (d : Dev) (k : Nat) (x : FwCore) : (d.setFw k x).events = d.events := rfl
@[simp] theorem Dev.setFw_wear (d : Dev) (k : Nat) (x : FwCore) : (d.setFw k x).wear = d.wear := rfl
@[simp] theorem Dev.setFw_erasures (d : Dev) (k : Nat) (x : FwCore) : (d.setFw k x).erasures = d.erasures := rfl
@[simp] theorem Dev.setFw_time (d : Dev) (k : Nat) (x : FwCore) : (d.setFw k x).time = d.time := rfl
@[simp] theorem Dev.setFw_calendar (d : Dev) (k : Nat) (x : FwCore) : (d.setFw k x).calendar = d.calendar := rfl
@[simp] theorem Dev.setFw_fresh (d : Dev) (k : Nat) (x : FwCore) : (d.setFw k x).fresh = d.fresh := rfl
@[simp] theorem Dev.setFw_out (d : Dev) (k : Nat) (x : FwCore) : (d.setFw k x).out = d.out := rfl

/-! ### Dev.setCore -/

@[simp] theorem Dev.setCore_objs (d : Dev) (c : CoreRef) (x : CoreSt) : (d.setCore c x).objs = d.objs := rfl
@[simp] theorem Dev.setCore_blobs (d : Dev) (c : CoreRef) (x : CoreSt) : (d.setCore c x).blobs = d.blobs := rfl
@[simp] theorem Dev.setCore_mem (d : Dev) (c : CoreRef) (x : CoreSt) : (d.setCore c x).mem = d.mem := rfl
@[simp] theorem Dev.setCore_poison (d : Dev) (c : CoreRef) (x : CoreSt) : (d.setCore c x).poison = d.poison := rfl
@[simp] theorem Dev.setCore_regions (d : Dev) (c : CoreRef) (x : CoreSt) : (d.setCore c x).regions = d.regions := rfl
@[simp] theorem Dev.setCore_ctxs (d : Dev) (c : CoreRef) (x : CoreSt) : (d.setCore c x).ctxs = d.ctxs := rfl
@[simp] theorem Dev.setCore_net (d : Dev) (c : CoreRef) (x : CoreSt) : (d.setCore c x).net = d.net := rfl
@[simp] theorem Dev.setCore_host (d : Dev) (c : CoreRef) (x : CoreSt) : (d.setCore c x).host = d.host := rfl
@[simp] theorem Dev.setCore_pwr (d : Dev) (c : CoreRef) (x : CoreSt) : (d.setCore c x).pwr = d.pwr := rfl
@[simp] theorem Dev.setCore_sec (d : Dev) (c : CoreRef) (x : CoreSt) : (d.setCore c x).sec = d.sec := rfl
@[simp] theorem Dev.setCore_fw (d : Dev) (c : CoreRef) (x : CoreSt) : (d.setCore c x).fw = d.fw := rfl
@[simp] theorem Dev.setCore_faults (d : Dev) (c : CoreRef) (x : CoreSt) : (d.setCore c x).faults = d.faults := rfl
@[simp] theorem Dev.setCore_events (d : Dev) (c : CoreRef) (x : CoreSt) : (d.setCore c x).events = d.events := rfl
@[simp] theorem Dev.setCore_wear (d : Dev) (c : CoreRef) (x : CoreSt) : (d.setCore c x).wear = d.wear := rfl
@[simp] theorem Dev.setCore_erasures (d : Dev) (c : CoreRef) (x : CoreSt) : (d.setCore c x).erasures = d.erasures := rfl
@[simp] theorem Dev.setCore_time (d : Dev) (c : CoreRef) (x : CoreSt) : (d.setCore c x).time = d.time := rfl
@[simp] theorem Dev.setCore_calendar (d : Dev) (c : CoreRef) (x : CoreSt) : (d.setCore c x).calendar = d.calendar := rfl
@[simp] theorem Dev.setCore_fresh (d : Dev) (c : CoreRef) (x : CoreSt) : (d.setCore c x).fresh = d.fresh := rfl
@[simp] theorem Dev.setCore_out (d : Dev) (c : CoreRef) (x : CoreSt) : (d.setCore c x).out = d.out := rfl
@[simp] theorem Dev.setCore_cmp_tugs (d : Dev) (c : CoreRef) (x : CoreSt) : (d.setCore c x).cmp.tugs = d.cmp.tugs := rfl
@[simp] theorem Dev.setCore_cmp_convs (d : Dev) (c : CoreRef) (x : CoreSt) : (d.setCore c x).cmp.convs = d.cmp.convs := rfl
@[simp] theorem Dev.setCore_cmp_bars (d : Dev) (c : CoreRef) (x : CoreSt) : (d.setCore c x).cmp.bars = d.cmp.bars := rfl
@[simp] theorem Dev.setCore_cmp_groups (d : Dev) (c : CoreRef) (x : CoreSt) : (d.setCore c x).cmp.groups = d.cmp.groups := rfl
@[simp] theorem Dev.setCore_cmp_sets (d : Dev) (c : CoreRef) (x : CoreSt) : (d.setCore c x).cmp.sets = d.cmp.sets := rfl
@[simp] theorem Dev.setCore_cmp_snaps (d : Dev) (c : CoreRef) (x : CoreSt) : (d.setCore c x).cmp.snaps = d.cmp.snaps := rfl
@[simp] theorem Dev.setCore_cmp_arrivals (d : Dev) (c : CoreRef) (x : CoreSt) : (d.setCore c x).cmp.arrivals = d.cmp.arrivals := rfl
@[simp] theorem Dev.setCore_cmp_acks (d : Dev) (c : CoreRef) (x : CoreSt) : (d.setCore c x).cmp.acks = d.cmp.acks := rfl
@[simp] theorem Dev.setCore_cmp_releases (d : Dev) (c : CoreRef) (x : CoreSt) : (d.setCore c x).cmp.releases = d.cmp.releases := rfl
@[simp] theorem Dev.setCore_cmp_outcomes (d : Dev) (c : CoreRef) (x : CoreSt) : (d.setCore c x).cmp.outcomes = d.cmp.outcomes := rfl
@[simp] theorem Dev.setCore_cmp_mirrored (d : Dev) (c : CoreRef) (x : CoreSt) : (d.setCore c x).cmp.mirrored = d.cmp.mirrored := rfl
@[simp] theorem Dev.setCore_cmp_phys (d : Dev) (c : CoreRef) (x : CoreSt) : (d.setCore c x).cmp.phys = d.cmp.phys := rfl
@[simp] theorem Dev.setCore_cmp_bound (d : Dev) (c : CoreRef) (x : CoreSt) : (d.setCore c x).cmp.bound = d.cmp.bound := rfl
@[simp] theorem Dev.setCore_cmp_tides (d : Dev) (c : CoreRef) (x : CoreSt) : (d.setCore c x).cmp.tides = d.cmp.tides := rfl
@[simp] theorem Dev.setCore_cmp_heldFaults (d : Dev) (c : CoreRef) (x : CoreSt) : (d.setCore c x).cmp.heldFaults = d.cmp.heldFaults := rfl
@[simp] theorem Dev.setCore_cmp_timer (d : Dev) (c : CoreRef) (x : CoreSt) : (d.setCore c x).cmp.timer = d.cmp.timer := rfl
@[simp] theorem Dev.setCore_cmp_filled (d : Dev) (c : CoreRef) (x : CoreSt) : (d.setCore c x).cmp.filled = d.cmp.filled := rfl
@[simp] theorem Dev.setCore_cmp_cadence (d : Dev) (c : CoreRef) (x : CoreSt) : (d.setCore c x).cmp.cadence = d.cmp.cadence := rfl

/-! ### Dev.modCore -/

@[simp] theorem Dev.modCore_objs (d : Dev) (c : CoreRef) (f : CoreSt → CoreSt) : (d.modCore c f).objs = d.objs := rfl
@[simp] theorem Dev.modCore_blobs (d : Dev) (c : CoreRef) (f : CoreSt → CoreSt) : (d.modCore c f).blobs = d.blobs := rfl
@[simp] theorem Dev.modCore_mem (d : Dev) (c : CoreRef) (f : CoreSt → CoreSt) : (d.modCore c f).mem = d.mem := rfl
@[simp] theorem Dev.modCore_poison (d : Dev) (c : CoreRef) (f : CoreSt → CoreSt) : (d.modCore c f).poison = d.poison := rfl
@[simp] theorem Dev.modCore_regions (d : Dev) (c : CoreRef) (f : CoreSt → CoreSt) : (d.modCore c f).regions = d.regions := rfl
@[simp] theorem Dev.modCore_ctxs (d : Dev) (c : CoreRef) (f : CoreSt → CoreSt) : (d.modCore c f).ctxs = d.ctxs := rfl
@[simp] theorem Dev.modCore_net (d : Dev) (c : CoreRef) (f : CoreSt → CoreSt) : (d.modCore c f).net = d.net := rfl
@[simp] theorem Dev.modCore_host (d : Dev) (c : CoreRef) (f : CoreSt → CoreSt) : (d.modCore c f).host = d.host := rfl
@[simp] theorem Dev.modCore_pwr (d : Dev) (c : CoreRef) (f : CoreSt → CoreSt) : (d.modCore c f).pwr = d.pwr := rfl
@[simp] theorem Dev.modCore_sec (d : Dev) (c : CoreRef) (f : CoreSt → CoreSt) : (d.modCore c f).sec = d.sec := rfl
@[simp] theorem Dev.modCore_fw (d : Dev) (c : CoreRef) (f : CoreSt → CoreSt) : (d.modCore c f).fw = d.fw := rfl
@[simp] theorem Dev.modCore_faults (d : Dev) (c : CoreRef) (f : CoreSt → CoreSt) : (d.modCore c f).faults = d.faults := rfl
@[simp] theorem Dev.modCore_events (d : Dev) (c : CoreRef) (f : CoreSt → CoreSt) : (d.modCore c f).events = d.events := rfl
@[simp] theorem Dev.modCore_wear (d : Dev) (c : CoreRef) (f : CoreSt → CoreSt) : (d.modCore c f).wear = d.wear := rfl
@[simp] theorem Dev.modCore_erasures (d : Dev) (c : CoreRef) (f : CoreSt → CoreSt) : (d.modCore c f).erasures = d.erasures := rfl
@[simp] theorem Dev.modCore_time (d : Dev) (c : CoreRef) (f : CoreSt → CoreSt) : (d.modCore c f).time = d.time := rfl
@[simp] theorem Dev.modCore_calendar (d : Dev) (c : CoreRef) (f : CoreSt → CoreSt) : (d.modCore c f).calendar = d.calendar := rfl
@[simp] theorem Dev.modCore_fresh (d : Dev) (c : CoreRef) (f : CoreSt → CoreSt) : (d.modCore c f).fresh = d.fresh := rfl
@[simp] theorem Dev.modCore_out (d : Dev) (c : CoreRef) (f : CoreSt → CoreSt) : (d.modCore c f).out = d.out := rfl
@[simp] theorem Dev.modCore_cmp_tugs (d : Dev) (c : CoreRef) (f : CoreSt → CoreSt) : (d.modCore c f).cmp.tugs = d.cmp.tugs := rfl
@[simp] theorem Dev.modCore_cmp_convs (d : Dev) (c : CoreRef) (f : CoreSt → CoreSt) : (d.modCore c f).cmp.convs = d.cmp.convs := rfl
@[simp] theorem Dev.modCore_cmp_bars (d : Dev) (c : CoreRef) (f : CoreSt → CoreSt) : (d.modCore c f).cmp.bars = d.cmp.bars := rfl
@[simp] theorem Dev.modCore_cmp_groups (d : Dev) (c : CoreRef) (f : CoreSt → CoreSt) : (d.modCore c f).cmp.groups = d.cmp.groups := rfl
@[simp] theorem Dev.modCore_cmp_sets (d : Dev) (c : CoreRef) (f : CoreSt → CoreSt) : (d.modCore c f).cmp.sets = d.cmp.sets := rfl
@[simp] theorem Dev.modCore_cmp_snaps (d : Dev) (c : CoreRef) (f : CoreSt → CoreSt) : (d.modCore c f).cmp.snaps = d.cmp.snaps := rfl
@[simp] theorem Dev.modCore_cmp_arrivals (d : Dev) (c : CoreRef) (f : CoreSt → CoreSt) : (d.modCore c f).cmp.arrivals = d.cmp.arrivals := rfl
@[simp] theorem Dev.modCore_cmp_acks (d : Dev) (c : CoreRef) (f : CoreSt → CoreSt) : (d.modCore c f).cmp.acks = d.cmp.acks := rfl
@[simp] theorem Dev.modCore_cmp_releases (d : Dev) (c : CoreRef) (f : CoreSt → CoreSt) : (d.modCore c f).cmp.releases = d.cmp.releases := rfl
@[simp] theorem Dev.modCore_cmp_outcomes (d : Dev) (c : CoreRef) (f : CoreSt → CoreSt) : (d.modCore c f).cmp.outcomes = d.cmp.outcomes := rfl
@[simp] theorem Dev.modCore_cmp_mirrored (d : Dev) (c : CoreRef) (f : CoreSt → CoreSt) : (d.modCore c f).cmp.mirrored = d.cmp.mirrored := rfl
@[simp] theorem Dev.modCore_cmp_phys (d : Dev) (c : CoreRef) (f : CoreSt → CoreSt) : (d.modCore c f).cmp.phys = d.cmp.phys := rfl
@[simp] theorem Dev.modCore_cmp_bound (d : Dev) (c : CoreRef) (f : CoreSt → CoreSt) : (d.modCore c f).cmp.bound = d.cmp.bound := rfl
@[simp] theorem Dev.modCore_cmp_tides (d : Dev) (c : CoreRef) (f : CoreSt → CoreSt) : (d.modCore c f).cmp.tides = d.cmp.tides := rfl
@[simp] theorem Dev.modCore_cmp_heldFaults (d : Dev) (c : CoreRef) (f : CoreSt → CoreSt) : (d.modCore c f).cmp.heldFaults = d.cmp.heldFaults := rfl
@[simp] theorem Dev.modCore_cmp_timer (d : Dev) (c : CoreRef) (f : CoreSt → CoreSt) : (d.modCore c f).cmp.timer = d.cmp.timer := rfl
@[simp] theorem Dev.modCore_cmp_filled (d : Dev) (c : CoreRef) (f : CoreSt → CoreSt) : (d.modCore c f).cmp.filled = d.cmp.filled := rfl
@[simp] theorem Dev.modCore_cmp_cadence (d : Dev) (c : CoreRef) (f : CoreSt → CoreSt) : (d.modCore c f).cmp.cadence = d.cmp.cadence := rfl

/-! ### Dev.setConv -/

@[simp] theorem Dev.setConv_objs (d : Dev) (ctx n : Nat) (v : Conveyor) : (d.setConv ctx n v).objs = d.objs := rfl
@[simp] theorem Dev.setConv_blobs (d : Dev) (ctx n : Nat) (v : Conveyor) : (d.setConv ctx n v).blobs = d.blobs := rfl
@[simp] theorem Dev.setConv_mem (d : Dev) (ctx n : Nat) (v : Conveyor) : (d.setConv ctx n v).mem = d.mem := rfl
@[simp] theorem Dev.setConv_poison (d : Dev) (ctx n : Nat) (v : Conveyor) : (d.setConv ctx n v).poison = d.poison := rfl
@[simp] theorem Dev.setConv_regions (d : Dev) (ctx n : Nat) (v : Conveyor) : (d.setConv ctx n v).regions = d.regions := rfl
@[simp] theorem Dev.setConv_ctxs (d : Dev) (ctx n : Nat) (v : Conveyor) : (d.setConv ctx n v).ctxs = d.ctxs := rfl
@[simp] theorem Dev.setConv_net (d : Dev) (ctx n : Nat) (v : Conveyor) : (d.setConv ctx n v).net = d.net := rfl
@[simp] theorem Dev.setConv_host (d : Dev) (ctx n : Nat) (v : Conveyor) : (d.setConv ctx n v).host = d.host := rfl
@[simp] theorem Dev.setConv_pwr (d : Dev) (ctx n : Nat) (v : Conveyor) : (d.setConv ctx n v).pwr = d.pwr := rfl
@[simp] theorem Dev.setConv_sec (d : Dev) (ctx n : Nat) (v : Conveyor) : (d.setConv ctx n v).sec = d.sec := rfl
@[simp] theorem Dev.setConv_fw (d : Dev) (ctx n : Nat) (v : Conveyor) : (d.setConv ctx n v).fw = d.fw := rfl
@[simp] theorem Dev.setConv_faults (d : Dev) (ctx n : Nat) (v : Conveyor) : (d.setConv ctx n v).faults = d.faults := rfl
@[simp] theorem Dev.setConv_events (d : Dev) (ctx n : Nat) (v : Conveyor) : (d.setConv ctx n v).events = d.events := rfl
@[simp] theorem Dev.setConv_wear (d : Dev) (ctx n : Nat) (v : Conveyor) : (d.setConv ctx n v).wear = d.wear := rfl
@[simp] theorem Dev.setConv_erasures (d : Dev) (ctx n : Nat) (v : Conveyor) : (d.setConv ctx n v).erasures = d.erasures := rfl
@[simp] theorem Dev.setConv_time (d : Dev) (ctx n : Nat) (v : Conveyor) : (d.setConv ctx n v).time = d.time := rfl
@[simp] theorem Dev.setConv_calendar (d : Dev) (ctx n : Nat) (v : Conveyor) : (d.setConv ctx n v).calendar = d.calendar := rfl
@[simp] theorem Dev.setConv_fresh (d : Dev) (ctx n : Nat) (v : Conveyor) : (d.setConv ctx n v).fresh = d.fresh := rfl
@[simp] theorem Dev.setConv_out (d : Dev) (ctx n : Nat) (v : Conveyor) : (d.setConv ctx n v).out = d.out := rfl
@[simp] theorem Dev.setConv_cmp_cores (d : Dev) (ctx n : Nat) (v : Conveyor) : (d.setConv ctx n v).cmp.cores = d.cmp.cores := rfl
@[simp] theorem Dev.setConv_cmp_tugs (d : Dev) (ctx n : Nat) (v : Conveyor) : (d.setConv ctx n v).cmp.tugs = d.cmp.tugs := rfl
@[simp] theorem Dev.setConv_cmp_bars (d : Dev) (ctx n : Nat) (v : Conveyor) : (d.setConv ctx n v).cmp.bars = d.cmp.bars := rfl
@[simp] theorem Dev.setConv_cmp_groups (d : Dev) (ctx n : Nat) (v : Conveyor) : (d.setConv ctx n v).cmp.groups = d.cmp.groups := rfl
@[simp] theorem Dev.setConv_cmp_sets (d : Dev) (ctx n : Nat) (v : Conveyor) : (d.setConv ctx n v).cmp.sets = d.cmp.sets := rfl
@[simp] theorem Dev.setConv_cmp_snaps (d : Dev) (ctx n : Nat) (v : Conveyor) : (d.setConv ctx n v).cmp.snaps = d.cmp.snaps := rfl
@[simp] theorem Dev.setConv_cmp_arrivals (d : Dev) (ctx n : Nat) (v : Conveyor) : (d.setConv ctx n v).cmp.arrivals = d.cmp.arrivals := rfl
@[simp] theorem Dev.setConv_cmp_acks (d : Dev) (ctx n : Nat) (v : Conveyor) : (d.setConv ctx n v).cmp.acks = d.cmp.acks := rfl
@[simp] theorem Dev.setConv_cmp_releases (d : Dev) (ctx n : Nat) (v : Conveyor) : (d.setConv ctx n v).cmp.releases = d.cmp.releases := rfl
@[simp] theorem Dev.setConv_cmp_outcomes (d : Dev) (ctx n : Nat) (v : Conveyor) : (d.setConv ctx n v).cmp.outcomes = d.cmp.outcomes := rfl
@[simp] theorem Dev.setConv_cmp_mirrored (d : Dev) (ctx n : Nat) (v : Conveyor) : (d.setConv ctx n v).cmp.mirrored = d.cmp.mirrored := rfl
@[simp] theorem Dev.setConv_cmp_phys (d : Dev) (ctx n : Nat) (v : Conveyor) : (d.setConv ctx n v).cmp.phys = d.cmp.phys := rfl
@[simp] theorem Dev.setConv_cmp_bound (d : Dev) (ctx n : Nat) (v : Conveyor) : (d.setConv ctx n v).cmp.bound = d.cmp.bound := rfl
@[simp] theorem Dev.setConv_cmp_tides (d : Dev) (ctx n : Nat) (v : Conveyor) : (d.setConv ctx n v).cmp.tides = d.cmp.tides := rfl
@[simp] theorem Dev.setConv_cmp_heldFaults (d : Dev) (ctx n : Nat) (v : Conveyor) : (d.setConv ctx n v).cmp.heldFaults = d.cmp.heldFaults := rfl
@[simp] theorem Dev.setConv_cmp_timer (d : Dev) (ctx n : Nat) (v : Conveyor) : (d.setConv ctx n v).cmp.timer = d.cmp.timer := rfl
@[simp] theorem Dev.setConv_cmp_filled (d : Dev) (ctx n : Nat) (v : Conveyor) : (d.setConv ctx n v).cmp.filled = d.cmp.filled := rfl
@[simp] theorem Dev.setConv_cmp_cadence (d : Dev) (ctx n : Nat) (v : Conveyor) : (d.setConv ctx n v).cmp.cadence = d.cmp.cadence := rfl

/-! ### Dev.setBar -/

@[simp] theorem Dev.setBar_objs (d : Dev) (ctx n : Nat) (b : Barrier) : (d.setBar ctx n b).objs = d.objs := rfl
@[simp] theorem Dev.setBar_blobs (d : Dev) (ctx n : Nat) (b : Barrier) : (d.setBar ctx n b).blobs = d.blobs := rfl
@[simp] theorem Dev.setBar_mem (d : Dev) (ctx n : Nat) (b : Barrier) : (d.setBar ctx n b).mem = d.mem := rfl
@[simp] theorem Dev.setBar_poison (d : Dev) (ctx n : Nat) (b : Barrier) : (d.setBar ctx n b).poison = d.poison := rfl
@[simp] theorem Dev.setBar_regions (d : Dev) (ctx n : Nat) (b : Barrier) : (d.setBar ctx n b).regions = d.regions := rfl
@[simp] theorem Dev.setBar_ctxs (d : Dev) (ctx n : Nat) (b : Barrier) : (d.setBar ctx n b).ctxs = d.ctxs := rfl
@[simp] theorem Dev.setBar_net (d : Dev) (ctx n : Nat) (b : Barrier) : (d.setBar ctx n b).net = d.net := rfl
@[simp] theorem Dev.setBar_host (d : Dev) (ctx n : Nat) (b : Barrier) : (d.setBar ctx n b).host = d.host := rfl
@[simp] theorem Dev.setBar_pwr (d : Dev) (ctx n : Nat) (b : Barrier) : (d.setBar ctx n b).pwr = d.pwr := rfl
@[simp] theorem Dev.setBar_sec (d : Dev) (ctx n : Nat) (b : Barrier) : (d.setBar ctx n b).sec = d.sec := rfl
@[simp] theorem Dev.setBar_fw (d : Dev) (ctx n : Nat) (b : Barrier) : (d.setBar ctx n b).fw = d.fw := rfl
@[simp] theorem Dev.setBar_faults (d : Dev) (ctx n : Nat) (b : Barrier) : (d.setBar ctx n b).faults = d.faults := rfl
@[simp] theorem Dev.setBar_events (d : Dev) (ctx n : Nat) (b : Barrier) : (d.setBar ctx n b).events = d.events := rfl
@[simp] theorem Dev.setBar_wear (d : Dev) (ctx n : Nat) (b : Barrier) : (d.setBar ctx n b).wear = d.wear := rfl
@[simp] theorem Dev.setBar_erasures (d : Dev) (ctx n : Nat) (b : Barrier) : (d.setBar ctx n b).erasures = d.erasures := rfl
@[simp] theorem Dev.setBar_time (d : Dev) (ctx n : Nat) (b : Barrier) : (d.setBar ctx n b).time = d.time := rfl
@[simp] theorem Dev.setBar_calendar (d : Dev) (ctx n : Nat) (b : Barrier) : (d.setBar ctx n b).calendar = d.calendar := rfl
@[simp] theorem Dev.setBar_fresh (d : Dev) (ctx n : Nat) (b : Barrier) : (d.setBar ctx n b).fresh = d.fresh := rfl
@[simp] theorem Dev.setBar_out (d : Dev) (ctx n : Nat) (b : Barrier) : (d.setBar ctx n b).out = d.out := rfl
@[simp] theorem Dev.setBar_cmp_cores (d : Dev) (ctx n : Nat) (b : Barrier) : (d.setBar ctx n b).cmp.cores = d.cmp.cores := rfl
@[simp] theorem Dev.setBar_cmp_tugs (d : Dev) (ctx n : Nat) (b : Barrier) : (d.setBar ctx n b).cmp.tugs = d.cmp.tugs := rfl
@[simp] theorem Dev.setBar_cmp_convs (d : Dev) (ctx n : Nat) (b : Barrier) : (d.setBar ctx n b).cmp.convs = d.cmp.convs := rfl
@[simp] theorem Dev.setBar_cmp_groups (d : Dev) (ctx n : Nat) (b : Barrier) : (d.setBar ctx n b).cmp.groups = d.cmp.groups := rfl
@[simp] theorem Dev.setBar_cmp_sets (d : Dev) (ctx n : Nat) (b : Barrier) : (d.setBar ctx n b).cmp.sets = d.cmp.sets := rfl
@[simp] theorem Dev.setBar_cmp_snaps (d : Dev) (ctx n : Nat) (b : Barrier) : (d.setBar ctx n b).cmp.snaps = d.cmp.snaps := rfl
@[simp] theorem Dev.setBar_cmp_arrivals (d : Dev) (ctx n : Nat) (b : Barrier) : (d.setBar ctx n b).cmp.arrivals = d.cmp.arrivals := rfl
@[simp] theorem Dev.setBar_cmp_acks (d : Dev) (ctx n : Nat) (b : Barrier) : (d.setBar ctx n b).cmp.acks = d.cmp.acks := rfl
@[simp] theorem Dev.setBar_cmp_releases (d : Dev) (ctx n : Nat) (b : Barrier) : (d.setBar ctx n b).cmp.releases = d.cmp.releases := rfl
@[simp] theorem Dev.setBar_cmp_outcomes (d : Dev) (ctx n : Nat) (b : Barrier) : (d.setBar ctx n b).cmp.outcomes = d.cmp.outcomes := rfl
@[simp] theorem Dev.setBar_cmp_mirrored (d : Dev) (ctx n : Nat) (b : Barrier) : (d.setBar ctx n b).cmp.mirrored = d.cmp.mirrored := rfl
@[simp] theorem Dev.setBar_cmp_phys (d : Dev) (ctx n : Nat) (b : Barrier) : (d.setBar ctx n b).cmp.phys = d.cmp.phys := rfl
@[simp] theorem Dev.setBar_cmp_bound (d : Dev) (ctx n : Nat) (b : Barrier) : (d.setBar ctx n b).cmp.bound = d.cmp.bound := rfl
@[simp] theorem Dev.setBar_cmp_tides (d : Dev) (ctx n : Nat) (b : Barrier) : (d.setBar ctx n b).cmp.tides = d.cmp.tides := rfl
@[simp] theorem Dev.setBar_cmp_heldFaults (d : Dev) (ctx n : Nat) (b : Barrier) : (d.setBar ctx n b).cmp.heldFaults = d.cmp.heldFaults := rfl
@[simp] theorem Dev.setBar_cmp_timer (d : Dev) (ctx n : Nat) (b : Barrier) : (d.setBar ctx n b).cmp.timer = d.cmp.timer := rfl
@[simp] theorem Dev.setBar_cmp_filled (d : Dev) (ctx n : Nat) (b : Barrier) : (d.setBar ctx n b).cmp.filled = d.cmp.filled := rfl
@[simp] theorem Dev.setBar_cmp_cadence (d : Dev) (ctx n : Nat) (b : Barrier) : (d.setBar ctx n b).cmp.cadence = d.cmp.cadence := rfl

/-! ### Dev.setGroup -/

@[simp] theorem Dev.setGroup_objs (d : Dev) (ctx n : Nat) (g : Group) : (d.setGroup ctx n g).objs = d.objs := rfl
@[simp] theorem Dev.setGroup_blobs (d : Dev) (ctx n : Nat) (g : Group) : (d.setGroup ctx n g).blobs = d.blobs := rfl
@[simp] theorem Dev.setGroup_mem (d : Dev) (ctx n : Nat) (g : Group) : (d.setGroup ctx n g).mem = d.mem := rfl
@[simp] theorem Dev.setGroup_poison (d : Dev) (ctx n : Nat) (g : Group) : (d.setGroup ctx n g).poison = d.poison := rfl
@[simp] theorem Dev.setGroup_regions (d : Dev) (ctx n : Nat) (g : Group) : (d.setGroup ctx n g).regions = d.regions := rfl
@[simp] theorem Dev.setGroup_ctxs (d : Dev) (ctx n : Nat) (g : Group) : (d.setGroup ctx n g).ctxs = d.ctxs := rfl
@[simp] theorem Dev.setGroup_net (d : Dev) (ctx n : Nat) (g : Group) : (d.setGroup ctx n g).net = d.net := rfl
@[simp] theorem Dev.setGroup_host (d : Dev) (ctx n : Nat) (g : Group) : (d.setGroup ctx n g).host = d.host := rfl
@[simp] theorem Dev.setGroup_pwr (d : Dev) (ctx n : Nat) (g : Group) : (d.setGroup ctx n g).pwr = d.pwr := rfl
@[simp] theorem Dev.setGroup_sec (d : Dev) (ctx n : Nat) (g : Group) : (d.setGroup ctx n g).sec = d.sec := rfl
@[simp] theorem Dev.setGroup_fw (d : Dev) (ctx n : Nat) (g : Group) : (d.setGroup ctx n g).fw = d.fw := rfl
@[simp] theorem Dev.setGroup_faults (d : Dev) (ctx n : Nat) (g : Group) : (d.setGroup ctx n g).faults = d.faults := rfl
@[simp] theorem Dev.setGroup_events (d : Dev) (ctx n : Nat) (g : Group) : (d.setGroup ctx n g).events = d.events := rfl
@[simp] theorem Dev.setGroup_wear (d : Dev) (ctx n : Nat) (g : Group) : (d.setGroup ctx n g).wear = d.wear := rfl
@[simp] theorem Dev.setGroup_erasures (d : Dev) (ctx n : Nat) (g : Group) : (d.setGroup ctx n g).erasures = d.erasures := rfl
@[simp] theorem Dev.setGroup_time (d : Dev) (ctx n : Nat) (g : Group) : (d.setGroup ctx n g).time = d.time := rfl
@[simp] theorem Dev.setGroup_calendar (d : Dev) (ctx n : Nat) (g : Group) : (d.setGroup ctx n g).calendar = d.calendar := rfl
@[simp] theorem Dev.setGroup_fresh (d : Dev) (ctx n : Nat) (g : Group) : (d.setGroup ctx n g).fresh = d.fresh := rfl
@[simp] theorem Dev.setGroup_out (d : Dev) (ctx n : Nat) (g : Group) : (d.setGroup ctx n g).out = d.out := rfl
@[simp] theorem Dev.setGroup_cmp_cores (d : Dev) (ctx n : Nat) (g : Group) : (d.setGroup ctx n g).cmp.cores = d.cmp.cores := rfl
@[simp] theorem Dev.setGroup_cmp_tugs (d : Dev) (ctx n : Nat) (g : Group) : (d.setGroup ctx n g).cmp.tugs = d.cmp.tugs := rfl
@[simp] theorem Dev.setGroup_cmp_convs (d : Dev) (ctx n : Nat) (g : Group) : (d.setGroup ctx n g).cmp.convs = d.cmp.convs := rfl
@[simp] theorem Dev.setGroup_cmp_bars (d : Dev) (ctx n : Nat) (g : Group) : (d.setGroup ctx n g).cmp.bars = d.cmp.bars := rfl
@[simp] theorem Dev.setGroup_cmp_sets (d : Dev) (ctx n : Nat) (g : Group) : (d.setGroup ctx n g).cmp.sets = d.cmp.sets := rfl
@[simp] theorem Dev.setGroup_cmp_snaps (d : Dev) (ctx n : Nat) (g : Group) : (d.setGroup ctx n g).cmp.snaps = d.cmp.snaps := rfl
@[simp] theorem Dev.setGroup_cmp_arrivals (d : Dev) (ctx n : Nat) (g : Group) : (d.setGroup ctx n g).cmp.arrivals = d.cmp.arrivals := rfl
@[simp] theorem Dev.setGroup_cmp_acks (d : Dev) (ctx n : Nat) (g : Group) : (d.setGroup ctx n g).cmp.acks = d.cmp.acks := rfl
@[simp] theorem Dev.setGroup_cmp_releases (d : Dev) (ctx n : Nat) (g : Group) : (d.setGroup ctx n g).cmp.releases = d.cmp.releases := rfl
@[simp] theorem Dev.setGroup_cmp_outcomes (d : Dev) (ctx n : Nat) (g : Group) : (d.setGroup ctx n g).cmp.outcomes = d.cmp.outcomes := rfl
@[simp] theorem Dev.setGroup_cmp_mirrored (d : Dev) (ctx n : Nat) (g : Group) : (d.setGroup ctx n g).cmp.mirrored = d.cmp.mirrored := rfl
@[simp] theorem Dev.setGroup_cmp_phys (d : Dev) (ctx n : Nat) (g : Group) : (d.setGroup ctx n g).cmp.phys = d.cmp.phys := rfl
@[simp] theorem Dev.setGroup_cmp_bound (d : Dev) (ctx n : Nat) (g : Group) : (d.setGroup ctx n g).cmp.bound = d.cmp.bound := rfl
@[simp] theorem Dev.setGroup_cmp_tides (d : Dev) (ctx n : Nat) (g : Group) : (d.setGroup ctx n g).cmp.tides = d.cmp.tides := rfl
@[simp] theorem Dev.setGroup_cmp_heldFaults (d : Dev) (ctx n : Nat) (g : Group) : (d.setGroup ctx n g).cmp.heldFaults = d.cmp.heldFaults := rfl
@[simp] theorem Dev.setGroup_cmp_timer (d : Dev) (ctx n : Nat) (g : Group) : (d.setGroup ctx n g).cmp.timer = d.cmp.timer := rfl
@[simp] theorem Dev.setGroup_cmp_filled (d : Dev) (ctx n : Nat) (g : Group) : (d.setGroup ctx n g).cmp.filled = d.cmp.filled := rfl
@[simp] theorem Dev.setGroup_cmp_cadence (d : Dev) (ctx n : Nat) (g : Group) : (d.setGroup ctx n g).cmp.cadence = d.cmp.cadence := rfl

/-! ### Dev.setSset -/

@[simp] theorem Dev.setSset_objs (d : Dev) (ctx n : Nat) (x : StateSet) : (d.setSset ctx n x).objs = d.objs := rfl
@[simp] theorem Dev.setSset_blobs (d : Dev) (ctx n : Nat) (x : StateSet) : (d.setSset ctx n x).blobs = d.blobs := rfl
@[simp] theorem Dev.setSset_mem (d : Dev) (ctx n : Nat) (x : StateSet) : (d.setSset ctx n x).mem = d.mem := rfl
@[simp] theorem Dev.setSset_poison (d : Dev) (ctx n : Nat) (x : StateSet) : (d.setSset ctx n x).poison = d.poison := rfl
@[simp] theorem Dev.setSset_regions (d : Dev) (ctx n : Nat) (x : StateSet) : (d.setSset ctx n x).regions = d.regions := rfl
@[simp] theorem Dev.setSset_ctxs (d : Dev) (ctx n : Nat) (x : StateSet) : (d.setSset ctx n x).ctxs = d.ctxs := rfl
@[simp] theorem Dev.setSset_net (d : Dev) (ctx n : Nat) (x : StateSet) : (d.setSset ctx n x).net = d.net := rfl
@[simp] theorem Dev.setSset_host (d : Dev) (ctx n : Nat) (x : StateSet) : (d.setSset ctx n x).host = d.host := rfl
@[simp] theorem Dev.setSset_pwr (d : Dev) (ctx n : Nat) (x : StateSet) : (d.setSset ctx n x).pwr = d.pwr := rfl
@[simp] theorem Dev.setSset_sec (d : Dev) (ctx n : Nat) (x : StateSet) : (d.setSset ctx n x).sec = d.sec := rfl
@[simp] theorem Dev.setSset_fw (d : Dev) (ctx n : Nat) (x : StateSet) : (d.setSset ctx n x).fw = d.fw := rfl
@[simp] theorem Dev.setSset_faults (d : Dev) (ctx n : Nat) (x : StateSet) : (d.setSset ctx n x).faults = d.faults := rfl
@[simp] theorem Dev.setSset_events (d : Dev) (ctx n : Nat) (x : StateSet) : (d.setSset ctx n x).events = d.events := rfl
@[simp] theorem Dev.setSset_wear (d : Dev) (ctx n : Nat) (x : StateSet) : (d.setSset ctx n x).wear = d.wear := rfl
@[simp] theorem Dev.setSset_erasures (d : Dev) (ctx n : Nat) (x : StateSet) : (d.setSset ctx n x).erasures = d.erasures := rfl
@[simp] theorem Dev.setSset_time (d : Dev) (ctx n : Nat) (x : StateSet) : (d.setSset ctx n x).time = d.time := rfl
@[simp] theorem Dev.setSset_calendar (d : Dev) (ctx n : Nat) (x : StateSet) : (d.setSset ctx n x).calendar = d.calendar := rfl
@[simp] theorem Dev.setSset_fresh (d : Dev) (ctx n : Nat) (x : StateSet) : (d.setSset ctx n x).fresh = d.fresh := rfl
@[simp] theorem Dev.setSset_out (d : Dev) (ctx n : Nat) (x : StateSet) : (d.setSset ctx n x).out = d.out := rfl
@[simp] theorem Dev.setSset_cmp_cores (d : Dev) (ctx n : Nat) (x : StateSet) : (d.setSset ctx n x).cmp.cores = d.cmp.cores := rfl
@[simp] theorem Dev.setSset_cmp_tugs (d : Dev) (ctx n : Nat) (x : StateSet) : (d.setSset ctx n x).cmp.tugs = d.cmp.tugs := rfl
@[simp] theorem Dev.setSset_cmp_convs (d : Dev) (ctx n : Nat) (x : StateSet) : (d.setSset ctx n x).cmp.convs = d.cmp.convs := rfl
@[simp] theorem Dev.setSset_cmp_bars (d : Dev) (ctx n : Nat) (x : StateSet) : (d.setSset ctx n x).cmp.bars = d.cmp.bars := rfl
@[simp] theorem Dev.setSset_cmp_groups (d : Dev) (ctx n : Nat) (x : StateSet) : (d.setSset ctx n x).cmp.groups = d.cmp.groups := rfl
@[simp] theorem Dev.setSset_cmp_snaps (d : Dev) (ctx n : Nat) (x : StateSet) : (d.setSset ctx n x).cmp.snaps = d.cmp.snaps := rfl
@[simp] theorem Dev.setSset_cmp_arrivals (d : Dev) (ctx n : Nat) (x : StateSet) : (d.setSset ctx n x).cmp.arrivals = d.cmp.arrivals := rfl
@[simp] theorem Dev.setSset_cmp_acks (d : Dev) (ctx n : Nat) (x : StateSet) : (d.setSset ctx n x).cmp.acks = d.cmp.acks := rfl
@[simp] theorem Dev.setSset_cmp_releases (d : Dev) (ctx n : Nat) (x : StateSet) : (d.setSset ctx n x).cmp.releases = d.cmp.releases := rfl
@[simp] theorem Dev.setSset_cmp_outcomes (d : Dev) (ctx n : Nat) (x : StateSet) : (d.setSset ctx n x).cmp.outcomes = d.cmp.outcomes := rfl
@[simp] theorem Dev.setSset_cmp_mirrored (d : Dev) (ctx n : Nat) (x : StateSet) : (d.setSset ctx n x).cmp.mirrored = d.cmp.mirrored := rfl
@[simp] theorem Dev.setSset_cmp_phys (d : Dev) (ctx n : Nat) (x : StateSet) : (d.setSset ctx n x).cmp.phys = d.cmp.phys := rfl
@[simp] theorem Dev.setSset_cmp_bound (d : Dev) (ctx n : Nat) (x : StateSet) : (d.setSset ctx n x).cmp.bound = d.cmp.bound := rfl
@[simp] theorem Dev.setSset_cmp_tides (d : Dev) (ctx n : Nat) (x : StateSet) : (d.setSset ctx n x).cmp.tides = d.cmp.tides := rfl
@[simp] theorem Dev.setSset_cmp_heldFaults (d : Dev) (ctx n : Nat) (x : StateSet) : (d.setSset ctx n x).cmp.heldFaults = d.cmp.heldFaults := rfl
@[simp] theorem Dev.setSset_cmp_timer (d : Dev) (ctx n : Nat) (x : StateSet) : (d.setSset ctx n x).cmp.timer = d.cmp.timer := rfl
@[simp] theorem Dev.setSset_cmp_filled (d : Dev) (ctx n : Nat) (x : StateSet) : (d.setSset ctx n x).cmp.filled = d.cmp.filled := rfl
@[simp] theorem Dev.setSset_cmp_cadence (d : Dev) (ctx n : Nat) (x : StateSet) : (d.setSset ctx n x).cmp.cadence = d.cmp.cadence := rfl

/-! ### Dev.setTugQ -/

@[simp] theorem Dev.setTugQ_objs (d : Dev) (cl t : Nat) (q : List TugItem) : (d.setTugQ cl t q).objs = d.objs := rfl
@[simp] theorem Dev.setTugQ_blobs (d : Dev) (cl t : Nat) (q : List TugItem) : (d.setTugQ cl t q).blobs = d.blobs := rfl
@[simp] theorem Dev.setTugQ_mem (d : Dev) (cl t : Nat) (q : List TugItem) : (d.setTugQ cl t q).mem = d.mem := rfl
@[simp] theorem Dev.setTugQ_poison (d : Dev) (cl t : Nat) (q : List TugItem) : (d.setTugQ cl t q).poison = d.poison := rfl
@[simp] theorem Dev.setTugQ_regions (d : Dev) (cl t : Nat) (q : List TugItem) : (d.setTugQ cl t q).regions = d.regions := rfl
@[simp] theorem Dev.setTugQ_ctxs (d : Dev) (cl t : Nat) (q : List TugItem) : (d.setTugQ cl t q).ctxs = d.ctxs := rfl
@[simp] theorem Dev.setTugQ_net (d : Dev) (cl t : Nat) (q : List TugItem) : (d.setTugQ cl t q).net = d.net := rfl
@[simp] theorem Dev.setTugQ_host (d : Dev) (cl t : Nat) (q : List TugItem) : (d.setTugQ cl t q).host = d.host := rfl
@[simp] theorem Dev.setTugQ_pwr (d : Dev) (cl t : Nat) (q : List TugItem) : (d.setTugQ cl t q).pwr = d.pwr := rfl
@[simp] theorem Dev.setTugQ_sec (d : Dev) (cl t : Nat) (q : List TugItem) : (d.setTugQ cl t q).sec = d.sec := rfl
@[simp] theorem Dev.setTugQ_fw (d : Dev) (cl t : Nat) (q : List TugItem) : (d.setTugQ cl t q).fw = d.fw := rfl
@[simp] theorem Dev.setTugQ_faults (d : Dev) (cl t : Nat) (q : List TugItem) : (d.setTugQ cl t q).faults = d.faults := rfl
@[simp] theorem Dev.setTugQ_events (d : Dev) (cl t : Nat) (q : List TugItem) : (d.setTugQ cl t q).events = d.events := rfl
@[simp] theorem Dev.setTugQ_wear (d : Dev) (cl t : Nat) (q : List TugItem) : (d.setTugQ cl t q).wear = d.wear := rfl
@[simp] theorem Dev.setTugQ_erasures (d : Dev) (cl t : Nat) (q : List TugItem) : (d.setTugQ cl t q).erasures = d.erasures := rfl
@[simp] theorem Dev.setTugQ_time (d : Dev) (cl t : Nat) (q : List TugItem) : (d.setTugQ cl t q).time = d.time := rfl
@[simp] theorem Dev.setTugQ_calendar (d : Dev) (cl t : Nat) (q : List TugItem) : (d.setTugQ cl t q).calendar = d.calendar := rfl
@[simp] theorem Dev.setTugQ_fresh (d : Dev) (cl t : Nat) (q : List TugItem) : (d.setTugQ cl t q).fresh = d.fresh := rfl
@[simp] theorem Dev.setTugQ_out (d : Dev) (cl t : Nat) (q : List TugItem) : (d.setTugQ cl t q).out = d.out := rfl
@[simp] theorem Dev.setTugQ_cmp_cores (d : Dev) (cl t : Nat) (q : List TugItem) : (d.setTugQ cl t q).cmp.cores = d.cmp.cores := rfl
@[simp] theorem Dev.setTugQ_cmp_convs (d : Dev) (cl t : Nat) (q : List TugItem) : (d.setTugQ cl t q).cmp.convs = d.cmp.convs := rfl
@[simp] theorem Dev.setTugQ_cmp_bars (d : Dev) (cl t : Nat) (q : List TugItem) : (d.setTugQ cl t q).cmp.bars = d.cmp.bars := rfl
@[simp] theorem Dev.setTugQ_cmp_groups (d : Dev) (cl t : Nat) (q : List TugItem) : (d.setTugQ cl t q).cmp.groups = d.cmp.groups := rfl
@[simp] theorem Dev.setTugQ_cmp_sets (d : Dev) (cl t : Nat) (q : List TugItem) : (d.setTugQ cl t q).cmp.sets = d.cmp.sets := rfl
@[simp] theorem Dev.setTugQ_cmp_snaps (d : Dev) (cl t : Nat) (q : List TugItem) : (d.setTugQ cl t q).cmp.snaps = d.cmp.snaps := rfl
@[simp] theorem Dev.setTugQ_cmp_arrivals (d : Dev) (cl t : Nat) (q : List TugItem) : (d.setTugQ cl t q).cmp.arrivals = d.cmp.arrivals := rfl
@[simp] theorem Dev.setTugQ_cmp_acks (d : Dev) (cl t : Nat) (q : List TugItem) : (d.setTugQ cl t q).cmp.acks = d.cmp.acks := rfl
@[simp] theorem Dev.setTugQ_cmp_releases (d : Dev) (cl t : Nat) (q : List TugItem) : (d.setTugQ cl t q).cmp.releases = d.cmp.releases := rfl
@[simp] theorem Dev.setTugQ_cmp_outcomes (d : Dev) (cl t : Nat) (q : List TugItem) : (d.setTugQ cl t q).cmp.outcomes = d.cmp.outcomes := rfl
@[simp] theorem Dev.setTugQ_cmp_mirrored (d : Dev) (cl t : Nat) (q : List TugItem) : (d.setTugQ cl t q).cmp.mirrored = d.cmp.mirrored := rfl
@[simp] theorem Dev.setTugQ_cmp_phys (d : Dev) (cl t : Nat) (q : List TugItem) : (d.setTugQ cl t q).cmp.phys = d.cmp.phys := rfl
@[simp] theorem Dev.setTugQ_cmp_bound (d : Dev) (cl t : Nat) (q : List TugItem) : (d.setTugQ cl t q).cmp.bound = d.cmp.bound := rfl
@[simp] theorem Dev.setTugQ_cmp_tides (d : Dev) (cl t : Nat) (q : List TugItem) : (d.setTugQ cl t q).cmp.tides = d.cmp.tides := rfl
@[simp] theorem Dev.setTugQ_cmp_heldFaults (d : Dev) (cl t : Nat) (q : List TugItem) : (d.setTugQ cl t q).cmp.heldFaults = d.cmp.heldFaults := rfl
@[simp] theorem Dev.setTugQ_cmp_timer (d : Dev) (cl t : Nat) (q : List TugItem) : (d.setTugQ cl t q).cmp.timer = d.cmp.timer := rfl
@[simp] theorem Dev.setTugQ_cmp_filled (d : Dev) (cl t : Nat) (q : List TugItem) : (d.setTugQ cl t q).cmp.filled = d.cmp.filled := rfl
@[simp] theorem Dev.setTugQ_cmp_cadence (d : Dev) (cl t : Nat) (q : List TugItem) : (d.setTugQ cl t q).cmp.cadence = d.cmp.cadence := rfl

/-! ### Dev.setPhysCore -/

@[simp] theorem Dev.setPhysCore_objs (d : Dev) (cl p : Nat) (x : PhysCore) : (d.setPhysCore cl p x).objs = d.objs := rfl
@[simp] theorem Dev.setPhysCore_blobs (d : Dev) (cl p : Nat) (x : PhysCore) : (d.setPhysCore cl p x).blobs = d.blobs := rfl
@[simp] theorem Dev.setPhysCore_mem (d : Dev) (cl p : Nat) (x : PhysCore) : (d.setPhysCore cl p x).mem = d.mem := rfl
@[simp] theorem Dev.setPhysCore_poison (d : Dev) (cl p : Nat) (x : PhysCore) : (d.setPhysCore cl p x).poison = d.poison := rfl
@[simp] theorem Dev.setPhysCore_regions (d : Dev) (cl p : Nat) (x : PhysCore) : (d.setPhysCore cl p x).regions = d.regions := rfl
@[simp] theorem Dev.setPhysCore_ctxs (d : Dev) (cl p : Nat) (x : PhysCore) : (d.setPhysCore cl p x).ctxs = d.ctxs := rfl
@[simp] theorem Dev.setPhysCore_net (d : Dev) (cl p : Nat) (x : PhysCore) : (d.setPhysCore cl p x).net = d.net := rfl
@[simp] theorem Dev.setPhysCore_host (d : Dev) (cl p : Nat) (x : PhysCore) : (d.setPhysCore cl p x).host = d.host := rfl
@[simp] theorem Dev.setPhysCore_pwr (d : Dev) (cl p : Nat) (x : PhysCore) : (d.setPhysCore cl p x).pwr = d.pwr := rfl
@[simp] theorem Dev.setPhysCore_sec (d : Dev) (cl p : Nat) (x : PhysCore) : (d.setPhysCore cl p x).sec = d.sec := rfl
@[simp] theorem Dev.setPhysCore_fw (d : Dev) (cl p : Nat) (x : PhysCore) : (d.setPhysCore cl p x).fw = d.fw := rfl
@[simp] theorem Dev.setPhysCore_faults (d : Dev) (cl p : Nat) (x : PhysCore) : (d.setPhysCore cl p x).faults = d.faults := rfl
@[simp] theorem Dev.setPhysCore_events (d : Dev) (cl p : Nat) (x : PhysCore) : (d.setPhysCore cl p x).events = d.events := rfl
@[simp] theorem Dev.setPhysCore_wear (d : Dev) (cl p : Nat) (x : PhysCore) : (d.setPhysCore cl p x).wear = d.wear := rfl
@[simp] theorem Dev.setPhysCore_erasures (d : Dev) (cl p : Nat) (x : PhysCore) : (d.setPhysCore cl p x).erasures = d.erasures := rfl
@[simp] theorem Dev.setPhysCore_time (d : Dev) (cl p : Nat) (x : PhysCore) : (d.setPhysCore cl p x).time = d.time := rfl
@[simp] theorem Dev.setPhysCore_calendar (d : Dev) (cl p : Nat) (x : PhysCore) : (d.setPhysCore cl p x).calendar = d.calendar := rfl
@[simp] theorem Dev.setPhysCore_fresh (d : Dev) (cl p : Nat) (x : PhysCore) : (d.setPhysCore cl p x).fresh = d.fresh := rfl
@[simp] theorem Dev.setPhysCore_out (d : Dev) (cl p : Nat) (x : PhysCore) : (d.setPhysCore cl p x).out = d.out := rfl
@[simp] theorem Dev.setPhysCore_cmp_cores (d : Dev) (cl p : Nat) (x : PhysCore) : (d.setPhysCore cl p x).cmp.cores = d.cmp.cores := rfl
@[simp] theorem Dev.setPhysCore_cmp_tugs (d : Dev) (cl p : Nat) (x : PhysCore) : (d.setPhysCore cl p x).cmp.tugs = d.cmp.tugs := rfl
@[simp] theorem Dev.setPhysCore_cmp_convs (d : Dev) (cl p : Nat) (x : PhysCore) : (d.setPhysCore cl p x).cmp.convs = d.cmp.convs := rfl
@[simp] theorem Dev.setPhysCore_cmp_bars (d : Dev) (cl p : Nat) (x : PhysCore) : (d.setPhysCore cl p x).cmp.bars = d.cmp.bars := rfl
@[simp] theorem Dev.setPhysCore_cmp_groups (d : Dev) (cl p : Nat) (x : PhysCore) : (d.setPhysCore cl p x).cmp.groups = d.cmp.groups := rfl
@[simp] theorem Dev.setPhysCore_cmp_sets (d : Dev) (cl p : Nat) (x : PhysCore) : (d.setPhysCore cl p x).cmp.sets = d.cmp.sets := rfl
@[simp] theorem Dev.setPhysCore_cmp_snaps (d : Dev) (cl p : Nat) (x : PhysCore) : (d.setPhysCore cl p x).cmp.snaps = d.cmp.snaps := rfl
@[simp] theorem Dev.setPhysCore_cmp_arrivals (d : Dev) (cl p : Nat) (x : PhysCore) : (d.setPhysCore cl p x).cmp.arrivals = d.cmp.arrivals := rfl
@[simp] theorem Dev.setPhysCore_cmp_acks (d : Dev) (cl p : Nat) (x : PhysCore) : (d.setPhysCore cl p x).cmp.acks = d.cmp.acks := rfl
@[simp] theorem Dev.setPhysCore_cmp_releases (d : Dev) (cl p : Nat) (x : PhysCore) : (d.setPhysCore cl p x).cmp.releases = d.cmp.releases := rfl
@[simp] theorem Dev.setPhysCore_cmp_outcomes (d : Dev) (cl p : Nat) (x : PhysCore) : (d.setPhysCore cl p x).cmp.outcomes = d.cmp.outcomes := rfl
@[simp] theorem Dev.setPhysCore_cmp_mirrored (d : Dev) (cl p : Nat) (x : PhysCore) : (d.setPhysCore cl p x).cmp.mirrored = d.cmp.mirrored := rfl
@[simp] theorem Dev.setPhysCore_cmp_bound (d : Dev) (cl p : Nat) (x : PhysCore) : (d.setPhysCore cl p x).cmp.bound = d.cmp.bound := rfl
@[simp] theorem Dev.setPhysCore_cmp_tides (d : Dev) (cl p : Nat) (x : PhysCore) : (d.setPhysCore cl p x).cmp.tides = d.cmp.tides := rfl
@[simp] theorem Dev.setPhysCore_cmp_heldFaults (d : Dev) (cl p : Nat) (x : PhysCore) : (d.setPhysCore cl p x).cmp.heldFaults = d.cmp.heldFaults := rfl
@[simp] theorem Dev.setPhysCore_cmp_timer (d : Dev) (cl p : Nat) (x : PhysCore) : (d.setPhysCore cl p x).cmp.timer = d.cmp.timer := rfl
@[simp] theorem Dev.setPhysCore_cmp_filled (d : Dev) (cl p : Nat) (x : PhysCore) : (d.setPhysCore cl p x).cmp.filled = d.cmp.filled := rfl
@[simp] theorem Dev.setPhysCore_cmp_cadence (d : Dev) (cl p : Nat) (x : PhysCore) : (d.setPhysCore cl p x).cmp.cadence = d.cmp.cadence := rfl

/-! ### Dev.setSession -/

@[simp] theorem Dev.setSession_objs (d : Dev) (k : Nat) (x : Session) : (d.setSession k x).objs = d.objs := rfl
@[simp] theorem Dev.setSession_blobs (d : Dev) (k : Nat) (x : Session) : (d.setSession k x).blobs = d.blobs := rfl
@[simp] theorem Dev.setSession_mem (d : Dev) (k : Nat) (x : Session) : (d.setSession k x).mem = d.mem := rfl
@[simp] theorem Dev.setSession_poison (d : Dev) (k : Nat) (x : Session) : (d.setSession k x).poison = d.poison := rfl
@[simp] theorem Dev.setSession_regions (d : Dev) (k : Nat) (x : Session) : (d.setSession k x).regions = d.regions := rfl
@[simp] theorem Dev.setSession_ctxs (d : Dev) (k : Nat) (x : Session) : (d.setSession k x).ctxs = d.ctxs := rfl
@[simp] theorem Dev.setSession_cmp (d : Dev) (k : Nat) (x : Session) : (d.setSession k x).cmp = d.cmp := rfl
@[simp] theorem Dev.setSession_host (d : Dev) (k : Nat) (x : Session) : (d.setSession k x).host = d.host := rfl
@[simp] theorem Dev.setSession_pwr (d : Dev) (k : Nat) (x : Session) : (d.setSession k x).pwr = d.pwr := rfl
@[simp] theorem Dev.setSession_sec (d : Dev) (k : Nat) (x : Session) : (d.setSession k x).sec = d.sec := rfl
@[simp] theorem Dev.setSession_fw (d : Dev) (k : Nat) (x : Session) : (d.setSession k x).fw = d.fw := rfl
@[simp] theorem Dev.setSession_faults (d : Dev) (k : Nat) (x : Session) : (d.setSession k x).faults = d.faults := rfl
@[simp] theorem Dev.setSession_events (d : Dev) (k : Nat) (x : Session) : (d.setSession k x).events = d.events := rfl
@[simp] theorem Dev.setSession_wear (d : Dev) (k : Nat) (x : Session) : (d.setSession k x).wear = d.wear := rfl
@[simp] theorem Dev.setSession_erasures (d : Dev) (k : Nat) (x : Session) : (d.setSession k x).erasures = d.erasures := rfl
@[simp] theorem Dev.setSession_time (d : Dev) (k : Nat) (x : Session) : (d.setSession k x).time = d.time := rfl
@[simp] theorem Dev.setSession_calendar (d : Dev) (k : Nat) (x : Session) : (d.setSession k x).calendar = d.calendar := rfl
@[simp] theorem Dev.setSession_fresh (d : Dev) (k : Nat) (x : Session) : (d.setSession k x).fresh = d.fresh := rfl
@[simp] theorem Dev.setSession_out (d : Dev) (k : Nat) (x : Session) : (d.setSession k x).out = d.out := rfl
@[simp] theorem Dev.setSession_net_halves (d : Dev) (k : Nat) (x : Session) : (d.setSession k x).net.halves = d.net.halves := rfl
@[simp] theorem Dev.setSession_net_ports (d : Dev) (k : Nat) (x : Session) : (d.setSession k x).net.ports = d.net.ports := rfl
@[simp] theorem Dev.setSession_net_paths (d : Dev) (k : Nat) (x : Session) : (d.setSession k x).net.paths = d.net.paths := rfl
@[simp] theorem Dev.setSession_net_lost (d : Dev) (k : Nat) (x : Session) : (d.setSession k x).net.lost = d.net.lost := rfl
@[simp] theorem Dev.setSession_net_lostSince (d : Dev) (k : Nat) (x : Session) : (d.setSession k x).net.lostSince = d.net.lostSince := rfl
@[simp] theorem Dev.setSession_net_nextId (d : Dev) (k : Nat) (x : Session) : (d.setSession k x).net.nextId = d.net.nextId := rfl
@[simp] theorem Dev.setSession_net_lastStatus (d : Dev) (k : Nat) (x : Session) : (d.setSession k x).net.lastStatus = d.net.lastStatus := rfl
@[simp] theorem Dev.setSession_net_statusKind (d : Dev) (k : Nat) (x : Session) : (d.setSession k x).net.statusKind = d.net.statusKind := rfl
@[simp] theorem Dev.setSession_net_statusSince (d : Dev) (k : Nat) (x : Session) : (d.setSession k x).net.statusSince = d.net.statusSince := rfl
@[simp] theorem Dev.setSession_net_heartbeatSent (d : Dev) (k : Nat) (x : Session) : (d.setSession k x).net.heartbeatSent = d.net.heartbeatSent := rfl
@[simp] theorem Dev.setSession_net_heartbeatSeen (d : Dev) (k : Nat) (x : Session) : (d.setSession k x).net.heartbeatSeen = d.net.heartbeatSeen := rfl
@[simp] theorem Dev.setSession_net_statusSubject (d : Dev) (k : Nat) (x : Session) : (d.setSession k x).net.statusSubject = d.net.statusSubject := rfl
@[simp] theorem Dev.setSession_net_loop (d : Dev) (k : Nat) (x : Session) : (d.setSession k x).net.loop = d.net.loop := rfl
@[simp] theorem Dev.setSession_net_parts (d : Dev) (k : Nat) (x : Session) : (d.setSession k x).net.parts = d.net.parts := rfl
@[simp] theorem Dev.setSession_net_heard (d : Dev) (k : Nat) (x : Session) : (d.setSession k x).net.heard = d.net.heard := rfl
@[simp] theorem Dev.setSession_net_ptpMaster (d : Dev) (k : Nat) (x : Session) : (d.setSession k x).net.ptpMaster = d.net.ptpMaster := rfl
@[simp] theorem Dev.setSession_net_lastPtp (d : Dev) (k : Nat) (x : Session) : (d.setSession k x).net.lastPtp = d.net.lastPtp := rfl
@[simp] theorem Dev.setSession_net_ptpSeq (d : Dev) (k : Nat) (x : Session) : (d.setSession k x).net.ptpSeq = d.net.ptpSeq := rfl
@[simp] theorem Dev.setSession_net_ptpSync (d : Dev) (k : Nat) (x : Session) : (d.setSession k x).net.ptpSync = d.net.ptpSync := rfl
@[simp] theorem Dev.setSession_net_ptpTimes (d : Dev) (k : Nat) (x : Session) : (d.setSession k x).net.ptpTimes = d.net.ptpTimes := rfl
@[simp] theorem Dev.setSession_net_ptpAsk (d : Dev) (k : Nat) (x : Session) : (d.setSession k x).net.ptpAsk = d.net.ptpAsk := rfl
@[simp] theorem Dev.setSession_net_queues (d : Dev) (k : Nat) (x : Session) : (d.setSession k x).net.queues = d.net.queues := rfl

/-! ### Dev.eraseSession -/

@[simp] theorem Dev.eraseSession_objs (d : Dev) (k : Nat) : (d.eraseSession k).objs = d.objs := rfl
@[simp] theorem Dev.eraseSession_blobs (d : Dev) (k : Nat) : (d.eraseSession k).blobs = d.blobs := rfl
@[simp] theorem Dev.eraseSession_mem (d : Dev) (k : Nat) : (d.eraseSession k).mem = d.mem := rfl
@[simp] theorem Dev.eraseSession_poison (d : Dev) (k : Nat) : (d.eraseSession k).poison = d.poison := rfl
@[simp] theorem Dev.eraseSession_regions (d : Dev) (k : Nat) : (d.eraseSession k).regions = d.regions := rfl
@[simp] theorem Dev.eraseSession_ctxs (d : Dev) (k : Nat) : (d.eraseSession k).ctxs = d.ctxs := rfl
@[simp] theorem Dev.eraseSession_cmp (d : Dev) (k : Nat) : (d.eraseSession k).cmp = d.cmp := rfl
@[simp] theorem Dev.eraseSession_host (d : Dev) (k : Nat) : (d.eraseSession k).host = d.host := rfl
@[simp] theorem Dev.eraseSession_pwr (d : Dev) (k : Nat) : (d.eraseSession k).pwr = d.pwr := rfl
@[simp] theorem Dev.eraseSession_sec (d : Dev) (k : Nat) : (d.eraseSession k).sec = d.sec := rfl
@[simp] theorem Dev.eraseSession_fw (d : Dev) (k : Nat) : (d.eraseSession k).fw = d.fw := rfl
@[simp] theorem Dev.eraseSession_faults (d : Dev) (k : Nat) : (d.eraseSession k).faults = d.faults := rfl
@[simp] theorem Dev.eraseSession_events (d : Dev) (k : Nat) : (d.eraseSession k).events = d.events := rfl
@[simp] theorem Dev.eraseSession_wear (d : Dev) (k : Nat) : (d.eraseSession k).wear = d.wear := rfl
@[simp] theorem Dev.eraseSession_erasures (d : Dev) (k : Nat) : (d.eraseSession k).erasures = d.erasures := rfl
@[simp] theorem Dev.eraseSession_time (d : Dev) (k : Nat) : (d.eraseSession k).time = d.time := rfl
@[simp] theorem Dev.eraseSession_calendar (d : Dev) (k : Nat) : (d.eraseSession k).calendar = d.calendar := rfl
@[simp] theorem Dev.eraseSession_fresh (d : Dev) (k : Nat) : (d.eraseSession k).fresh = d.fresh := rfl
@[simp] theorem Dev.eraseSession_out (d : Dev) (k : Nat) : (d.eraseSession k).out = d.out := rfl
@[simp] theorem Dev.eraseSession_net_halves (d : Dev) (k : Nat) : (d.eraseSession k).net.halves = d.net.halves := rfl
@[simp] theorem Dev.eraseSession_net_ports (d : Dev) (k : Nat) : (d.eraseSession k).net.ports = d.net.ports := rfl
@[simp] theorem Dev.eraseSession_net_paths (d : Dev) (k : Nat) : (d.eraseSession k).net.paths = d.net.paths := rfl
@[simp] theorem Dev.eraseSession_net_lost (d : Dev) (k : Nat) : (d.eraseSession k).net.lost = d.net.lost := rfl
@[simp] theorem Dev.eraseSession_net_lostSince (d : Dev) (k : Nat) : (d.eraseSession k).net.lostSince = d.net.lostSince := rfl
@[simp] theorem Dev.eraseSession_net_nextId (d : Dev) (k : Nat) : (d.eraseSession k).net.nextId = d.net.nextId := rfl
@[simp] theorem Dev.eraseSession_net_lastStatus (d : Dev) (k : Nat) : (d.eraseSession k).net.lastStatus = d.net.lastStatus := rfl
@[simp] theorem Dev.eraseSession_net_statusKind (d : Dev) (k : Nat) : (d.eraseSession k).net.statusKind = d.net.statusKind := rfl
@[simp] theorem Dev.eraseSession_net_statusSince (d : Dev) (k : Nat) : (d.eraseSession k).net.statusSince = d.net.statusSince := rfl
@[simp] theorem Dev.eraseSession_net_heartbeatSent (d : Dev) (k : Nat) : (d.eraseSession k).net.heartbeatSent = d.net.heartbeatSent := rfl
@[simp] theorem Dev.eraseSession_net_heartbeatSeen (d : Dev) (k : Nat) : (d.eraseSession k).net.heartbeatSeen = d.net.heartbeatSeen := rfl
@[simp] theorem Dev.eraseSession_net_statusSubject (d : Dev) (k : Nat) : (d.eraseSession k).net.statusSubject = d.net.statusSubject := rfl
@[simp] theorem Dev.eraseSession_net_loop (d : Dev) (k : Nat) : (d.eraseSession k).net.loop = d.net.loop := rfl
@[simp] theorem Dev.eraseSession_net_parts (d : Dev) (k : Nat) : (d.eraseSession k).net.parts = d.net.parts := rfl
@[simp] theorem Dev.eraseSession_net_heard (d : Dev) (k : Nat) : (d.eraseSession k).net.heard = d.net.heard := rfl
@[simp] theorem Dev.eraseSession_net_ptpMaster (d : Dev) (k : Nat) : (d.eraseSession k).net.ptpMaster = d.net.ptpMaster := rfl
@[simp] theorem Dev.eraseSession_net_lastPtp (d : Dev) (k : Nat) : (d.eraseSession k).net.lastPtp = d.net.lastPtp := rfl
@[simp] theorem Dev.eraseSession_net_ptpSeq (d : Dev) (k : Nat) : (d.eraseSession k).net.ptpSeq = d.net.ptpSeq := rfl
@[simp] theorem Dev.eraseSession_net_ptpSync (d : Dev) (k : Nat) : (d.eraseSession k).net.ptpSync = d.net.ptpSync := rfl
@[simp] theorem Dev.eraseSession_net_ptpTimes (d : Dev) (k : Nat) : (d.eraseSession k).net.ptpTimes = d.net.ptpTimes := rfl
@[simp] theorem Dev.eraseSession_net_ptpAsk (d : Dev) (k : Nat) : (d.eraseSession k).net.ptpAsk = d.net.ptpAsk := rfl
@[simp] theorem Dev.eraseSession_net_queues (d : Dev) (k : Nat) : (d.eraseSession k).net.queues = d.net.queues := rfl

/-! ### Dev.setHalf -/

@[simp] theorem Dev.setHalf_objs (d : Dev) (port half : Nat) (h : PortHalf) : (d.setHalf port half h).objs = d.objs := rfl
@[simp] theorem Dev.setHalf_blobs (d : Dev) (port half : Nat) (h : PortHalf) : (d.setHalf port half h).blobs = d.blobs := rfl
@[simp] theorem Dev.setHalf_mem (d : Dev) (port half : Nat) (h : PortHalf) : (d.setHalf port half h).mem = d.mem := rfl
@[simp] theorem Dev.setHalf_poison (d : Dev) (port half : Nat) (h : PortHalf) : (d.setHalf port half h).poison = d.poison := rfl
@[simp] theorem Dev.setHalf_regions (d : Dev) (port half : Nat) (h : PortHalf) : (d.setHalf port half h).regions = d.regions := rfl
@[simp] theorem Dev.setHalf_ctxs (d : Dev) (port half : Nat) (h : PortHalf) : (d.setHalf port half h).ctxs = d.ctxs := rfl
@[simp] theorem Dev.setHalf_cmp (d : Dev) (port half : Nat) (h : PortHalf) : (d.setHalf port half h).cmp = d.cmp := rfl
@[simp] theorem Dev.setHalf_host (d : Dev) (port half : Nat) (h : PortHalf) : (d.setHalf port half h).host = d.host := rfl
@[simp] theorem Dev.setHalf_pwr (d : Dev) (port half : Nat) (h : PortHalf) : (d.setHalf port half h).pwr = d.pwr := rfl
@[simp] theorem Dev.setHalf_sec (d : Dev) (port half : Nat) (h : PortHalf) : (d.setHalf port half h).sec = d.sec := rfl
@[simp] theorem Dev.setHalf_fw (d : Dev) (port half : Nat) (h : PortHalf) : (d.setHalf port half h).fw = d.fw := rfl
@[simp] theorem Dev.setHalf_faults (d : Dev) (port half : Nat) (h : PortHalf) : (d.setHalf port half h).faults = d.faults := rfl
@[simp] theorem Dev.setHalf_events (d : Dev) (port half : Nat) (h : PortHalf) : (d.setHalf port half h).events = d.events := rfl
@[simp] theorem Dev.setHalf_wear (d : Dev) (port half : Nat) (h : PortHalf) : (d.setHalf port half h).wear = d.wear := rfl
@[simp] theorem Dev.setHalf_erasures (d : Dev) (port half : Nat) (h : PortHalf) : (d.setHalf port half h).erasures = d.erasures := rfl
@[simp] theorem Dev.setHalf_time (d : Dev) (port half : Nat) (h : PortHalf) : (d.setHalf port half h).time = d.time := rfl
@[simp] theorem Dev.setHalf_calendar (d : Dev) (port half : Nat) (h : PortHalf) : (d.setHalf port half h).calendar = d.calendar := rfl
@[simp] theorem Dev.setHalf_fresh (d : Dev) (port half : Nat) (h : PortHalf) : (d.setHalf port half h).fresh = d.fresh := rfl
@[simp] theorem Dev.setHalf_out (d : Dev) (port half : Nat) (h : PortHalf) : (d.setHalf port half h).out = d.out := rfl
@[simp] theorem Dev.setHalf_net_ports (d : Dev) (port half : Nat) (h : PortHalf) : (d.setHalf port half h).net.ports = d.net.ports := rfl
@[simp] theorem Dev.setHalf_net_paths (d : Dev) (port half : Nat) (h : PortHalf) : (d.setHalf port half h).net.paths = d.net.paths := rfl
@[simp] theorem Dev.setHalf_net_sessions (d : Dev) (port half : Nat) (h : PortHalf) : (d.setHalf port half h).net.sessions = d.net.sessions := rfl
@[simp] theorem Dev.setHalf_net_lost (d : Dev) (port half : Nat) (h : PortHalf) : (d.setHalf port half h).net.lost = d.net.lost := rfl
@[simp] theorem Dev.setHalf_net_lostSince (d : Dev) (port half : Nat) (h : PortHalf) : (d.setHalf port half h).net.lostSince = d.net.lostSince := rfl
@[simp] theorem Dev.setHalf_net_nextId (d : Dev) (port half : Nat) (h : PortHalf) : (d.setHalf port half h).net.nextId = d.net.nextId := rfl
@[simp] theorem Dev.setHalf_net_lastStatus (d : Dev) (port half : Nat) (h : PortHalf) : (d.setHalf port half h).net.lastStatus = d.net.lastStatus := rfl
@[simp] theorem Dev.setHalf_net_statusKind (d : Dev) (port half : Nat) (h : PortHalf) : (d.setHalf port half h).net.statusKind = d.net.statusKind := rfl
@[simp] theorem Dev.setHalf_net_statusSince (d : Dev) (port half : Nat) (h : PortHalf) : (d.setHalf port half h).net.statusSince = d.net.statusSince := rfl
@[simp] theorem Dev.setHalf_net_heartbeatSent (d : Dev) (port half : Nat) (h : PortHalf) : (d.setHalf port half h).net.heartbeatSent = d.net.heartbeatSent := rfl
@[simp] theorem Dev.setHalf_net_heartbeatSeen (d : Dev) (port half : Nat) (h : PortHalf) : (d.setHalf port half h).net.heartbeatSeen = d.net.heartbeatSeen := rfl
@[simp] theorem Dev.setHalf_net_statusSubject (d : Dev) (port half : Nat) (h : PortHalf) : (d.setHalf port half h).net.statusSubject = d.net.statusSubject := rfl
@[simp] theorem Dev.setHalf_net_loop (d : Dev) (port half : Nat) (h : PortHalf) : (d.setHalf port half h).net.loop = d.net.loop := rfl
@[simp] theorem Dev.setHalf_net_parts (d : Dev) (port half : Nat) (h : PortHalf) : (d.setHalf port half h).net.parts = d.net.parts := rfl
@[simp] theorem Dev.setHalf_net_heard (d : Dev) (port half : Nat) (h : PortHalf) : (d.setHalf port half h).net.heard = d.net.heard := rfl
@[simp] theorem Dev.setHalf_net_ptpMaster (d : Dev) (port half : Nat) (h : PortHalf) : (d.setHalf port half h).net.ptpMaster = d.net.ptpMaster := rfl
@[simp] theorem Dev.setHalf_net_lastPtp (d : Dev) (port half : Nat) (h : PortHalf) : (d.setHalf port half h).net.lastPtp = d.net.lastPtp := rfl
@[simp] theorem Dev.setHalf_net_ptpSeq (d : Dev) (port half : Nat) (h : PortHalf) : (d.setHalf port half h).net.ptpSeq = d.net.ptpSeq := rfl
@[simp] theorem Dev.setHalf_net_ptpSync (d : Dev) (port half : Nat) (h : PortHalf) : (d.setHalf port half h).net.ptpSync = d.net.ptpSync := rfl
@[simp] theorem Dev.setHalf_net_ptpTimes (d : Dev) (port half : Nat) (h : PortHalf) : (d.setHalf port half h).net.ptpTimes = d.net.ptpTimes := rfl
@[simp] theorem Dev.setHalf_net_ptpAsk (d : Dev) (port half : Nat) (h : PortHalf) : (d.setHalf port half h).net.ptpAsk = d.net.ptpAsk := rfl
@[simp] theorem Dev.setHalf_net_queues (d : Dev) (port half : Nat) (h : PortHalf) : (d.setHalf port half h).net.queues = d.net.queues := rfl

/-! ### Dev.setPort -/

@[simp] theorem Dev.setPort_objs (d : Dev) (port : Nat) (x : PortSt) : (d.setPort port x).objs = d.objs := rfl
@[simp] theorem Dev.setPort_blobs (d : Dev) (port : Nat) (x : PortSt) : (d.setPort port x).blobs = d.blobs := rfl
@[simp] theorem Dev.setPort_mem (d : Dev) (port : Nat) (x : PortSt) : (d.setPort port x).mem = d.mem := rfl
@[simp] theorem Dev.setPort_poison (d : Dev) (port : Nat) (x : PortSt) : (d.setPort port x).poison = d.poison := rfl
@[simp] theorem Dev.setPort_regions (d : Dev) (port : Nat) (x : PortSt) : (d.setPort port x).regions = d.regions := rfl
@[simp] theorem Dev.setPort_ctxs (d : Dev) (port : Nat) (x : PortSt) : (d.setPort port x).ctxs = d.ctxs := rfl
@[simp] theorem Dev.setPort_cmp (d : Dev) (port : Nat) (x : PortSt) : (d.setPort port x).cmp = d.cmp := rfl
@[simp] theorem Dev.setPort_host (d : Dev) (port : Nat) (x : PortSt) : (d.setPort port x).host = d.host := rfl
@[simp] theorem Dev.setPort_pwr (d : Dev) (port : Nat) (x : PortSt) : (d.setPort port x).pwr = d.pwr := rfl
@[simp] theorem Dev.setPort_sec (d : Dev) (port : Nat) (x : PortSt) : (d.setPort port x).sec = d.sec := rfl
@[simp] theorem Dev.setPort_fw (d : Dev) (port : Nat) (x : PortSt) : (d.setPort port x).fw = d.fw := rfl
@[simp] theorem Dev.setPort_faults (d : Dev) (port : Nat) (x : PortSt) : (d.setPort port x).faults = d.faults := rfl
@[simp] theorem Dev.setPort_events (d : Dev) (port : Nat) (x : PortSt) : (d.setPort port x).events = d.events := rfl
@[simp] theorem Dev.setPort_wear (d : Dev) (port : Nat) (x : PortSt) : (d.setPort port x).wear = d.wear := rfl
@[simp] theorem Dev.setPort_erasures (d : Dev) (port : Nat) (x : PortSt) : (d.setPort port x).erasures = d.erasures := rfl
@[simp] theorem Dev.setPort_time (d : Dev) (port : Nat) (x : PortSt) : (d.setPort port x).time = d.time := rfl
@[simp] theorem Dev.setPort_calendar (d : Dev) (port : Nat) (x : PortSt) : (d.setPort port x).calendar = d.calendar := rfl
@[simp] theorem Dev.setPort_fresh (d : Dev) (port : Nat) (x : PortSt) : (d.setPort port x).fresh = d.fresh := rfl
@[simp] theorem Dev.setPort_out (d : Dev) (port : Nat) (x : PortSt) : (d.setPort port x).out = d.out := rfl
@[simp] theorem Dev.setPort_net_halves (d : Dev) (port : Nat) (x : PortSt) : (d.setPort port x).net.halves = d.net.halves := rfl
@[simp] theorem Dev.setPort_net_paths (d : Dev) (port : Nat) (x : PortSt) : (d.setPort port x).net.paths = d.net.paths := rfl
@[simp] theorem Dev.setPort_net_sessions (d : Dev) (port : Nat) (x : PortSt) : (d.setPort port x).net.sessions = d.net.sessions := rfl
@[simp] theorem Dev.setPort_net_lost (d : Dev) (port : Nat) (x : PortSt) : (d.setPort port x).net.lost = d.net.lost := rfl
@[simp] theorem Dev.setPort_net_lostSince (d : Dev) (port : Nat) (x : PortSt) : (d.setPort port x).net.lostSince = d.net.lostSince := rfl
@[simp] theorem Dev.setPort_net_nextId (d : Dev) (port : Nat) (x : PortSt) : (d.setPort port x).net.nextId = d.net.nextId := rfl
@[simp] theorem Dev.setPort_net_lastStatus (d : Dev) (port : Nat) (x : PortSt) : (d.setPort port x).net.lastStatus = d.net.lastStatus := rfl
@[simp] theorem Dev.setPort_net_statusKind (d : Dev) (port : Nat) (x : PortSt) : (d.setPort port x).net.statusKind = d.net.statusKind := rfl
@[simp] theorem Dev.setPort_net_statusSince (d : Dev) (port : Nat) (x : PortSt) : (d.setPort port x).net.statusSince = d.net.statusSince := rfl
@[simp] theorem Dev.setPort_net_heartbeatSent (d : Dev) (port : Nat) (x : PortSt) : (d.setPort port x).net.heartbeatSent = d.net.heartbeatSent := rfl
@[simp] theorem Dev.setPort_net_heartbeatSeen (d : Dev) (port : Nat) (x : PortSt) : (d.setPort port x).net.heartbeatSeen = d.net.heartbeatSeen := rfl
@[simp] theorem Dev.setPort_net_statusSubject (d : Dev) (port : Nat) (x : PortSt) : (d.setPort port x).net.statusSubject = d.net.statusSubject := rfl
@[simp] theorem Dev.setPort_net_loop (d : Dev) (port : Nat) (x : PortSt) : (d.setPort port x).net.loop = d.net.loop := rfl
@[simp] theorem Dev.setPort_net_parts (d : Dev) (port : Nat) (x : PortSt) : (d.setPort port x).net.parts = d.net.parts := rfl
@[simp] theorem Dev.setPort_net_heard (d : Dev) (port : Nat) (x : PortSt) : (d.setPort port x).net.heard = d.net.heard := rfl
@[simp] theorem Dev.setPort_net_ptpMaster (d : Dev) (port : Nat) (x : PortSt) : (d.setPort port x).net.ptpMaster = d.net.ptpMaster := rfl
@[simp] theorem Dev.setPort_net_lastPtp (d : Dev) (port : Nat) (x : PortSt) : (d.setPort port x).net.lastPtp = d.net.lastPtp := rfl
@[simp] theorem Dev.setPort_net_ptpSeq (d : Dev) (port : Nat) (x : PortSt) : (d.setPort port x).net.ptpSeq = d.net.ptpSeq := rfl
@[simp] theorem Dev.setPort_net_ptpSync (d : Dev) (port : Nat) (x : PortSt) : (d.setPort port x).net.ptpSync = d.net.ptpSync := rfl
@[simp] theorem Dev.setPort_net_ptpTimes (d : Dev) (port : Nat) (x : PortSt) : (d.setPort port x).net.ptpTimes = d.net.ptpTimes := rfl
@[simp] theorem Dev.setPort_net_ptpAsk (d : Dev) (port : Nat) (x : PortSt) : (d.setPort port x).net.ptpAsk = d.net.ptpAsk := rfl
@[simp] theorem Dev.setPort_net_queues (d : Dev) (port : Nat) (x : PortSt) : (d.setPort port x).net.queues = d.net.queues := rfl

/-! ### Dev.setPath -/

@[simp] theorem Dev.setPath_objs (d : Dev) (rank path : Nat) (x : PathSt) : (d.setPath rank path x).objs = d.objs := rfl
@[simp] theorem Dev.setPath_blobs (d : Dev) (rank path : Nat) (x : PathSt) : (d.setPath rank path x).blobs = d.blobs := rfl
@[simp] theorem Dev.setPath_mem (d : Dev) (rank path : Nat) (x : PathSt) : (d.setPath rank path x).mem = d.mem := rfl
@[simp] theorem Dev.setPath_poison (d : Dev) (rank path : Nat) (x : PathSt) : (d.setPath rank path x).poison = d.poison := rfl
@[simp] theorem Dev.setPath_regions (d : Dev) (rank path : Nat) (x : PathSt) : (d.setPath rank path x).regions = d.regions := rfl
@[simp] theorem Dev.setPath_ctxs (d : Dev) (rank path : Nat) (x : PathSt) : (d.setPath rank path x).ctxs = d.ctxs := rfl
@[simp] theorem Dev.setPath_cmp (d : Dev) (rank path : Nat) (x : PathSt) : (d.setPath rank path x).cmp = d.cmp := rfl
@[simp] theorem Dev.setPath_host (d : Dev) (rank path : Nat) (x : PathSt) : (d.setPath rank path x).host = d.host := rfl
@[simp] theorem Dev.setPath_pwr (d : Dev) (rank path : Nat) (x : PathSt) : (d.setPath rank path x).pwr = d.pwr := rfl
@[simp] theorem Dev.setPath_sec (d : Dev) (rank path : Nat) (x : PathSt) : (d.setPath rank path x).sec = d.sec := rfl
@[simp] theorem Dev.setPath_fw (d : Dev) (rank path : Nat) (x : PathSt) : (d.setPath rank path x).fw = d.fw := rfl
@[simp] theorem Dev.setPath_faults (d : Dev) (rank path : Nat) (x : PathSt) : (d.setPath rank path x).faults = d.faults := rfl
@[simp] theorem Dev.setPath_events (d : Dev) (rank path : Nat) (x : PathSt) : (d.setPath rank path x).events = d.events := rfl
@[simp] theorem Dev.setPath_wear (d : Dev) (rank path : Nat) (x : PathSt) : (d.setPath rank path x).wear = d.wear := rfl
@[simp] theorem Dev.setPath_erasures (d : Dev) (rank path : Nat) (x : PathSt) : (d.setPath rank path x).erasures = d.erasures := rfl
@[simp] theorem Dev.setPath_time (d : Dev) (rank path : Nat) (x : PathSt) : (d.setPath rank path x).time = d.time := rfl
@[simp] theorem Dev.setPath_calendar (d : Dev) (rank path : Nat) (x : PathSt) : (d.setPath rank path x).calendar = d.calendar := rfl
@[simp] theorem Dev.setPath_fresh (d : Dev) (rank path : Nat) (x : PathSt) : (d.setPath rank path x).fresh = d.fresh := rfl
@[simp] theorem Dev.setPath_out (d : Dev) (rank path : Nat) (x : PathSt) : (d.setPath rank path x).out = d.out := rfl
@[simp] theorem Dev.setPath_net_halves (d : Dev) (rank path : Nat) (x : PathSt) : (d.setPath rank path x).net.halves = d.net.halves := rfl
@[simp] theorem Dev.setPath_net_ports (d : Dev) (rank path : Nat) (x : PathSt) : (d.setPath rank path x).net.ports = d.net.ports := rfl
@[simp] theorem Dev.setPath_net_sessions (d : Dev) (rank path : Nat) (x : PathSt) : (d.setPath rank path x).net.sessions = d.net.sessions := rfl
@[simp] theorem Dev.setPath_net_lost (d : Dev) (rank path : Nat) (x : PathSt) : (d.setPath rank path x).net.lost = d.net.lost := rfl
@[simp] theorem Dev.setPath_net_lostSince (d : Dev) (rank path : Nat) (x : PathSt) : (d.setPath rank path x).net.lostSince = d.net.lostSince := rfl
@[simp] theorem Dev.setPath_net_nextId (d : Dev) (rank path : Nat) (x : PathSt) : (d.setPath rank path x).net.nextId = d.net.nextId := rfl
@[simp] theorem Dev.setPath_net_lastStatus (d : Dev) (rank path : Nat) (x : PathSt) : (d.setPath rank path x).net.lastStatus = d.net.lastStatus := rfl
@[simp] theorem Dev.setPath_net_statusKind (d : Dev) (rank path : Nat) (x : PathSt) : (d.setPath rank path x).net.statusKind = d.net.statusKind := rfl
@[simp] theorem Dev.setPath_net_statusSince (d : Dev) (rank path : Nat) (x : PathSt) : (d.setPath rank path x).net.statusSince = d.net.statusSince := rfl
@[simp] theorem Dev.setPath_net_heartbeatSent (d : Dev) (rank path : Nat) (x : PathSt) : (d.setPath rank path x).net.heartbeatSent = d.net.heartbeatSent := rfl
@[simp] theorem Dev.setPath_net_heartbeatSeen (d : Dev) (rank path : Nat) (x : PathSt) : (d.setPath rank path x).net.heartbeatSeen = d.net.heartbeatSeen := rfl
@[simp] theorem Dev.setPath_net_statusSubject (d : Dev) (rank path : Nat) (x : PathSt) : (d.setPath rank path x).net.statusSubject = d.net.statusSubject := rfl
@[simp] theorem Dev.setPath_net_loop (d : Dev) (rank path : Nat) (x : PathSt) : (d.setPath rank path x).net.loop = d.net.loop := rfl
@[simp] theorem Dev.setPath_net_parts (d : Dev) (rank path : Nat) (x : PathSt) : (d.setPath rank path x).net.parts = d.net.parts := rfl
@[simp] theorem Dev.setPath_net_heard (d : Dev) (rank path : Nat) (x : PathSt) : (d.setPath rank path x).net.heard = d.net.heard := rfl
@[simp] theorem Dev.setPath_net_ptpMaster (d : Dev) (rank path : Nat) (x : PathSt) : (d.setPath rank path x).net.ptpMaster = d.net.ptpMaster := rfl
@[simp] theorem Dev.setPath_net_lastPtp (d : Dev) (rank path : Nat) (x : PathSt) : (d.setPath rank path x).net.lastPtp = d.net.lastPtp := rfl
@[simp] theorem Dev.setPath_net_ptpSeq (d : Dev) (rank path : Nat) (x : PathSt) : (d.setPath rank path x).net.ptpSeq = d.net.ptpSeq := rfl
@[simp] theorem Dev.setPath_net_ptpSync (d : Dev) (rank path : Nat) (x : PathSt) : (d.setPath rank path x).net.ptpSync = d.net.ptpSync := rfl
@[simp] theorem Dev.setPath_net_ptpTimes (d : Dev) (rank path : Nat) (x : PathSt) : (d.setPath rank path x).net.ptpTimes = d.net.ptpTimes := rfl
@[simp] theorem Dev.setPath_net_ptpAsk (d : Dev) (rank path : Nat) (x : PathSt) : (d.setPath rank path x).net.ptpAsk = d.net.ptpAsk := rfl
@[simp] theorem Dev.setPath_net_queues (d : Dev) (rank path : Nat) (x : PathSt) : (d.setPath rank path x).net.queues = d.net.queues := rfl

/-! ### Dev.write -/

@[simp] theorem Dev.write_objs (d : Dev) (a : Nat) (bs : List Byte) (bad : Bool) : (d.write a bs bad).objs = d.objs := rfl
@[simp] theorem Dev.write_blobs (d : Dev) (a : Nat) (bs : List Byte) (bad : Bool) : (d.write a bs bad).blobs = d.blobs := rfl
@[simp] theorem Dev.write_regions (d : Dev) (a : Nat) (bs : List Byte) (bad : Bool) : (d.write a bs bad).regions = d.regions := rfl
@[simp] theorem Dev.write_ctxs (d : Dev) (a : Nat) (bs : List Byte) (bad : Bool) : (d.write a bs bad).ctxs = d.ctxs := rfl
@[simp] theorem Dev.write_net (d : Dev) (a : Nat) (bs : List Byte) (bad : Bool) : (d.write a bs bad).net = d.net := rfl
@[simp] theorem Dev.write_pwr (d : Dev) (a : Nat) (bs : List Byte) (bad : Bool) : (d.write a bs bad).pwr = d.pwr := rfl
@[simp] theorem Dev.write_sec (d : Dev) (a : Nat) (bs : List Byte) (bad : Bool) : (d.write a bs bad).sec = d.sec := rfl
@[simp] theorem Dev.write_fw (d : Dev) (a : Nat) (bs : List Byte) (bad : Bool) : (d.write a bs bad).fw = d.fw := rfl
@[simp] theorem Dev.write_faults (d : Dev) (a : Nat) (bs : List Byte) (bad : Bool) : (d.write a bs bad).faults = d.faults := rfl
@[simp] theorem Dev.write_events (d : Dev) (a : Nat) (bs : List Byte) (bad : Bool) : (d.write a bs bad).events = d.events := rfl
@[simp] theorem Dev.write_wear (d : Dev) (a : Nat) (bs : List Byte) (bad : Bool) : (d.write a bs bad).wear = d.wear := rfl
@[simp] theorem Dev.write_erasures (d : Dev) (a : Nat) (bs : List Byte) (bad : Bool) : (d.write a bs bad).erasures = d.erasures := rfl
@[simp] theorem Dev.write_time (d : Dev) (a : Nat) (bs : List Byte) (bad : Bool) : (d.write a bs bad).time = d.time := rfl
@[simp] theorem Dev.write_calendar (d : Dev) (a : Nat) (bs : List Byte) (bad : Bool) : (d.write a bs bad).calendar = d.calendar := rfl
@[simp] theorem Dev.write_fresh (d : Dev) (a : Nat) (bs : List Byte) (bad : Bool) : (d.write a bs bad).fresh = d.fresh := rfl

/-! ### Dev.recallShared -/

@[simp] theorem Dev.recallShared_objs (d : Dev) (a n : Nat) : (d.recallShared a n).objs = d.objs := rfl
@[simp] theorem Dev.recallShared_blobs (d : Dev) (a n : Nat) : (d.recallShared a n).blobs = d.blobs := rfl
@[simp] theorem Dev.recallShared_mem (d : Dev) (a n : Nat) : (d.recallShared a n).mem = d.mem := rfl
@[simp] theorem Dev.recallShared_poison (d : Dev) (a n : Nat) : (d.recallShared a n).poison = d.poison := rfl
@[simp] theorem Dev.recallShared_regions (d : Dev) (a n : Nat) : (d.recallShared a n).regions = d.regions := rfl
@[simp] theorem Dev.recallShared_ctxs (d : Dev) (a n : Nat) : (d.recallShared a n).ctxs = d.ctxs := rfl
@[simp] theorem Dev.recallShared_cmp (d : Dev) (a n : Nat) : (d.recallShared a n).cmp = d.cmp := rfl
@[simp] theorem Dev.recallShared_net (d : Dev) (a n : Nat) : (d.recallShared a n).net = d.net := rfl
@[simp] theorem Dev.recallShared_pwr (d : Dev) (a n : Nat) : (d.recallShared a n).pwr = d.pwr := rfl
@[simp] theorem Dev.recallShared_sec (d : Dev) (a n : Nat) : (d.recallShared a n).sec = d.sec := rfl
@[simp] theorem Dev.recallShared_fw (d : Dev) (a n : Nat) : (d.recallShared a n).fw = d.fw := rfl
@[simp] theorem Dev.recallShared_faults (d : Dev) (a n : Nat) : (d.recallShared a n).faults = d.faults := rfl
@[simp] theorem Dev.recallShared_events (d : Dev) (a n : Nat) : (d.recallShared a n).events = d.events := rfl
@[simp] theorem Dev.recallShared_wear (d : Dev) (a n : Nat) : (d.recallShared a n).wear = d.wear := rfl
@[simp] theorem Dev.recallShared_erasures (d : Dev) (a n : Nat) : (d.recallShared a n).erasures = d.erasures := rfl
@[simp] theorem Dev.recallShared_time (d : Dev) (a n : Nat) : (d.recallShared a n).time = d.time := rfl
@[simp] theorem Dev.recallShared_calendar (d : Dev) (a n : Nat) : (d.recallShared a n).calendar = d.calendar := rfl
@[simp] theorem Dev.recallShared_fresh (d : Dev) (a n : Nat) : (d.recallShared a n).fresh = d.fresh := rfl

/-! ### Dev.recallOwned -/

@[simp] theorem Dev.recallOwned_objs (d : Dev) (a n : Nat) : (d.recallOwned a n).objs = d.objs := rfl
@[simp] theorem Dev.recallOwned_blobs (d : Dev) (a n : Nat) : (d.recallOwned a n).blobs = d.blobs := rfl
@[simp] theorem Dev.recallOwned_mem (d : Dev) (a n : Nat) : (d.recallOwned a n).mem = d.mem := rfl
@[simp] theorem Dev.recallOwned_poison (d : Dev) (a n : Nat) : (d.recallOwned a n).poison = d.poison := rfl
@[simp] theorem Dev.recallOwned_regions (d : Dev) (a n : Nat) : (d.recallOwned a n).regions = d.regions := rfl
@[simp] theorem Dev.recallOwned_ctxs (d : Dev) (a n : Nat) : (d.recallOwned a n).ctxs = d.ctxs := rfl
@[simp] theorem Dev.recallOwned_cmp (d : Dev) (a n : Nat) : (d.recallOwned a n).cmp = d.cmp := rfl
@[simp] theorem Dev.recallOwned_net (d : Dev) (a n : Nat) : (d.recallOwned a n).net = d.net := rfl
@[simp] theorem Dev.recallOwned_pwr (d : Dev) (a n : Nat) : (d.recallOwned a n).pwr = d.pwr := rfl
@[simp] theorem Dev.recallOwned_sec (d : Dev) (a n : Nat) : (d.recallOwned a n).sec = d.sec := rfl
@[simp] theorem Dev.recallOwned_fw (d : Dev) (a n : Nat) : (d.recallOwned a n).fw = d.fw := rfl
@[simp] theorem Dev.recallOwned_faults (d : Dev) (a n : Nat) : (d.recallOwned a n).faults = d.faults := rfl
@[simp] theorem Dev.recallOwned_events (d : Dev) (a n : Nat) : (d.recallOwned a n).events = d.events := rfl
@[simp] theorem Dev.recallOwned_wear (d : Dev) (a n : Nat) : (d.recallOwned a n).wear = d.wear := rfl
@[simp] theorem Dev.recallOwned_erasures (d : Dev) (a n : Nat) : (d.recallOwned a n).erasures = d.erasures := rfl
@[simp] theorem Dev.recallOwned_time (d : Dev) (a n : Nat) : (d.recallOwned a n).time = d.time := rfl
@[simp] theorem Dev.recallOwned_calendar (d : Dev) (a n : Nat) : (d.recallOwned a n).calendar = d.calendar := rfl
@[simp] theorem Dev.recallOwned_fresh (d : Dev) (a n : Nat) : (d.recallOwned a n).fresh = d.fresh := rfl

/-! ### Dev.logEvent -/

@[simp] theorem Dev.logEvent_blobs (d : Dev) (typ src ctx detail cls dflt level : Nat) : (d.logEvent typ src ctx detail cls dflt level).blobs = d.blobs := rfl
@[simp] theorem Dev.logEvent_mem (d : Dev) (typ src ctx detail cls dflt level : Nat) : (d.logEvent typ src ctx detail cls dflt level).mem = d.mem := rfl
@[simp] theorem Dev.logEvent_poison (d : Dev) (typ src ctx detail cls dflt level : Nat) : (d.logEvent typ src ctx detail cls dflt level).poison = d.poison := rfl
@[simp] theorem Dev.logEvent_regions (d : Dev) (typ src ctx detail cls dflt level : Nat) : (d.logEvent typ src ctx detail cls dflt level).regions = d.regions := rfl
@[simp] theorem Dev.logEvent_ctxs (d : Dev) (typ src ctx detail cls dflt level : Nat) : (d.logEvent typ src ctx detail cls dflt level).ctxs = d.ctxs := rfl
@[simp] theorem Dev.logEvent_cmp (d : Dev) (typ src ctx detail cls dflt level : Nat) : (d.logEvent typ src ctx detail cls dflt level).cmp = d.cmp := rfl
@[simp] theorem Dev.logEvent_net (d : Dev) (typ src ctx detail cls dflt level : Nat) : (d.logEvent typ src ctx detail cls dflt level).net = d.net := rfl
@[simp] theorem Dev.logEvent_host (d : Dev) (typ src ctx detail cls dflt level : Nat) : (d.logEvent typ src ctx detail cls dflt level).host = d.host := rfl
@[simp] theorem Dev.logEvent_pwr (d : Dev) (typ src ctx detail cls dflt level : Nat) : (d.logEvent typ src ctx detail cls dflt level).pwr = d.pwr := rfl
@[simp] theorem Dev.logEvent_sec (d : Dev) (typ src ctx detail cls dflt level : Nat) : (d.logEvent typ src ctx detail cls dflt level).sec = d.sec := rfl
@[simp] theorem Dev.logEvent_fw (d : Dev) (typ src ctx detail cls dflt level : Nat) : (d.logEvent typ src ctx detail cls dflt level).fw = d.fw := rfl
@[simp] theorem Dev.logEvent_faults (d : Dev) (typ src ctx detail cls dflt level : Nat) : (d.logEvent typ src ctx detail cls dflt level).faults = d.faults := rfl
@[simp] theorem Dev.logEvent_wear (d : Dev) (typ src ctx detail cls dflt level : Nat) : (d.logEvent typ src ctx detail cls dflt level).wear = d.wear := rfl
@[simp] theorem Dev.logEvent_erasures (d : Dev) (typ src ctx detail cls dflt level : Nat) : (d.logEvent typ src ctx detail cls dflt level).erasures = d.erasures := rfl
@[simp] theorem Dev.logEvent_time (d : Dev) (typ src ctx detail cls dflt level : Nat) : (d.logEvent typ src ctx detail cls dflt level).time = d.time := rfl
@[simp] theorem Dev.logEvent_calendar (d : Dev) (typ src ctx detail cls dflt level : Nat) : (d.logEvent typ src ctx detail cls dflt level).calendar = d.calendar := rfl
@[simp] theorem Dev.logEvent_fresh (d : Dev) (typ src ctx detail cls dflt level : Nat) : (d.logEvent typ src ctx detail cls dflt level).fresh = d.fresh := rfl
@[simp] theorem Dev.logEvent_out (d : Dev) (typ src ctx detail cls dflt level : Nat) : (d.logEvent typ src ctx detail cls dflt level).out = d.out := rfl
@[simp] theorem Dev.write_mem (d : Dev) (a : Nat) (bs : List Byte) (bad : Bool) : (d.write a bs bad).mem = memWrite d.mem (d.canon a) bs := rfl
@[simp] theorem Dev.write_poison (d : Dev) (a : Nat) (bs : List Byte) (bad : Bool) : (d.write a bs bad).poison = markLines d.poison (d.canon a) bs.length bad := rfl

end Sys2Proof.Machine
end

