-- ==== Sys2Proof/Laws/Tables.lean ====
section
/-! SUPPORT. What the tables of the state read after one entry is set, and what the accessors of the device read after their own setters. -/

namespace Sys2Proof.Machine

@[simp] theorem tblFind_set_same {α : Type} (t : Tbl α) (k : Nat) (v : α) : tblFind (tblSet t k v) k = some v := by
  induction t with
  | nil => simp [tblSet, tblFind]
  | cons h t ih =>
    obtain ⟨a, w⟩ := h
    simp only [tblSet]; split
    · simp [tblFind]
    · split
      · simp [tblFind]
      · next h1 h2 => simp [tblFind, h2, ih]

theorem tblFind_set_other {α : Type} (t : Tbl α) (k j : Nat) (v : α) (h : j ≠ k) : tblFind (tblSet t k v) j = tblFind t j := by
  induction t with
  | nil => simp [tblSet, tblFind, Ne.symm h]
  | cons hd t ih =>
    obtain ⟨a, w⟩ := hd
    simp only [tblSet]; split
    · simp [tblFind, Ne.symm h]
    · split
      · next h1 h2 => subst h2; simp [tblFind, Ne.symm h]
      · simp [tblFind, ih]

@[simp] theorem tblGet_set_same {α : Type} (x : α) (t : Tbl α) (k : Nat) (v : α) : tblGet x (tblSet t k v) k = v := by simp [tblGet]
theorem tblGet_set_other {α : Type} (x : α) (t : Tbl α) (k j : Nat) (v : α) (h : j ≠ k) : tblGet x (tblSet t k v) j = tblGet x t j := by
  simp [tblGet, tblFind_set_other _ _ _ _ h]

theorem tblFind_erase_other {α : Type} (t : Tbl α) (k j : Nat) (h : j ≠ k) : tblFind (tblErase t k) j = tblFind t j := by
  induction t with
  | nil => rfl
  | cons hd t ih =>
    obtain ⟨a, w⟩ := hd
    simp only [tblErase]; split
    · next h1 => subst h1; simp [tblFind, Ne.symm h]
    · simp [tblFind, ih]

/-! ### Objects of the dictionary -/

@[simp] theorem Dev.objAt_setObjAt (d : Dev) (i s e v : Nat) : (d.setObjAt i s e v).objAt i s e = v := by simp [Dev.objAt, Dev.setObjAt]
@[simp] theorem Dev.obj_setObj (d : Dev) (i s v : Nat) : (d.setObj i s v).obj i s = v := by simp [Dev.obj, Dev.setObj]
theorem Dev.objAt_setObjAt_other (d : Dev) (i s e v j t f : Nat) (h : objKey j t f ≠ objKey i s e) : (d.setObjAt i s e v).objAt j t f = d.objAt j t f := by
  simp [Dev.objAt, Dev.setObjAt, tblFind_set_other _ _ _ _ h]
theorem Dev.obj_setObj_other (d : Dev) (i s v j t : Nat) (h : objKey j t 0 ≠ objKey i s 0) : (d.setObj i s v).obj j t = d.obj j t :=
  d.objAt_setObjAt_other i s 0 v j t 0 h
/-- A counter other than the one counted reads as before. -/
theorem Dev.obj_bump_other (d : Dev) (i s n j t : Nat) (h : objKey j t 0 ≠ objKey i s 0) : (d.bump i s n).obj j t = d.obj j t := by
  unfold Dev.bump; split
  · rfl
  · exact d.obj_setObj_other _ _ _ _ _ h
/-- What a counter reads once it has counted. -/
theorem Dev.obj_bump (d : Dev) (i s n : Nat) (h : n ≠ 0) : (d.bump i s n).obj i s = satAdd (d.obj i s) n := by simp [Dev.bump, h]

/-! ### Parts of the device -/

@[simp] theorem Dev.ctx_setCtx (d : Dev) (c : Nat) (x : Ctx) : (d.setCtx c x).ctx c = x := by simp [Dev.ctx, Dev.setCtx]
@[simp] theorem Dev.ctx_modCtx (d : Dev) (c : Nat) (f : Ctx → Ctx) : (d.modCtx c f).ctx c = f (d.ctx c) := by simp [Dev.modCtx]
theorem Dev.ctx_modCtx_other (d : Dev) (c k : Nat) (f : Ctx → Ctx) (h : k ≠ c) : (d.modCtx c f).ctx k = d.ctx k := by
  simp [Dev.ctx, Dev.modCtx, Dev.setCtx, tblGet_set_other _ _ _ _ _ h]
@[simp] theorem Dev.core_setCore (d : Dev) (c : CoreRef) (x : CoreSt) : (d.setCore c x).core c = x := by simp [Dev.core, Dev.setCore]
@[simp] theorem Dev.core_modCore (d : Dev) (c : CoreRef) (f : CoreSt → CoreSt) : (d.modCore c f).core c = f (d.core c) := by simp [Dev.modCore]
theorem Dev.core_modCore_other (d : Dev) (c k : CoreRef) (f : CoreSt → CoreSt) (h : k.key ≠ c.key) : (d.modCore c f).core k = d.core k := by
  simp [Dev.core, Dev.modCore, Dev.setCore, tblGet_set_other _ _ _ _ _ h]
@[simp] theorem Dev.conv_setConv (d : Dev) (c n : Nat) (v : Conveyor) : (d.setConv c n v).conv c n = some v := by simp [Dev.conv, Dev.setConv]
@[simp] theorem Dev.bar_setBar (d : Dev) (c n : Nat) (b : Barrier) : (d.setBar c n b).bar c n = some b := by simp [Dev.bar, Dev.setBar]
@[simp] theorem Dev.group_setGroup (d : Dev) (c n : Nat) (g : Group) : (d.setGroup c n g).group c n = some g := by simp [Dev.group, Dev.setGroup]
@[simp] theorem Dev.sset_setSset (d : Dev) (c n : Nat) (x : StateSet) : (d.setSset c n x).sset c n = some x := by simp [Dev.sset, Dev.setSset]
@[simp] theorem Dev.tugQ_setTugQ (d : Dev) (cl t : Nat) (q : List TugItem) : (d.setTugQ cl t q).tugQ cl t = q := by simp [Dev.tugQ, Dev.setTugQ]
@[simp] theorem Dev.session_setSession (d : Dev) (k : Nat) (x : Session) : (d.setSession k x).session k = some x := by simp [Dev.session, Dev.setSession]
@[simp] theorem Dev.half_setHalf (d : Dev) (p h : Nat) (x : PortHalf) : (d.setHalf p h x).half p h = x := by simp [Dev.half, Dev.setHalf]
@[simp] theorem Dev.portSt_setPort (d : Dev) (p : Nat) (x : PortSt) : (d.setPort p x).portSt p = x := by simp [Dev.portSt, Dev.setPort]
@[simp] theorem Dev.pathSt_setPath (d : Dev) (r p : Nat) (x : PathSt) : (d.setPath r p x).pathSt r p = x := by simp [Dev.pathSt, Dev.setPath]

end Sys2Proof.Machine
end

