-- ==== Sys2Proof/Laws/Ops.lean ====
section
/-! SUPPORT. What each shared operation does where the conditions of Safety hold: said once, for every command that goes through it. -/

namespace Sys2Proof.Machine

/-! ### How a command acts -/

/-- A command whose units exist gives the next state of its effect, with the queue and the fuses as they were. -/
theorem onDev_runs {ok : Bool} {f : Dev → Dev} {s : State} (h : ok = true) : onDev ok f s = .next (s.withDev (f s.dev)) := by simp [onDev, h, State.withDev]
theorem onDevF_runs {ok : Bool} {f : Fuses → Dev → Dev} {s : State} (h : ok = true) : onDevF ok f s = .next (s.withDev (f s.fuses s.dev)) := by simp [onDevF, h, State.withDev]
theorem onFuses_runs {ok : Bool} {f : Fuses → Dev → Fuses × Dev} {s : State} (h : ok = true) :
    onFuses ok f s = .next { s with fuses := (f s.fuses s.dev).1, dev := (f s.fuses s.dev).2 } := by simp [onFuses, h]

/-- Everything a command of the device can do. -/
theorem onDev_next {ok : Bool} {f : Dev → Dev} {s t : State} (h : onDev ok f s = .next t) : ok = true ∧ t.dev = f s.dev ∧ t.fuses = s.fuses ∧ t.pending = s.pending := by
  unfold onDev at h; split at h
  · next hb => cases h; exact ⟨hb, rfl, rfl, rfl⟩
  · cases h
theorem onDevF_next {ok : Bool} {f : Fuses → Dev → Dev} {s t : State} (h : onDevF ok f s = .next t) :
    ok = true ∧ t.dev = f s.fuses s.dev ∧ t.fuses = s.fuses ∧ t.pending = s.pending := by
  unfold onDevF at h; split at h
  · next hb => cases h; exact ⟨hb, rfl, rfl, rfl⟩
  · cases h
theorem onFuses_next {ok : Bool} {f : Fuses → Dev → Fuses × Dev} {s t : State} (h : onFuses ok f s = .next t) :
    ok = true ∧ t.dev = (f s.fuses s.dev).2 ∧ t.fuses = (f s.fuses s.dev).1 ∧ t.pending = s.pending := by
  unfold onFuses at h; split at h
  · next hb => cases h; exact ⟨hb, rfl, rfl, rfl⟩
  · cases h

/-! ### Orders -/

theorem attempt_order {s : State} {c : CoreRef} {w : Waiting} (h : OrderAt s c w) (sel : Nat → Bool) (run : Waiting → Dev → Turn) (hs : sel w.word = true) :
    s.dev.attempt c sel run = s.dev.settle w true (run w s.dev) := by
  obtain ⟨h1, h2, h3, h4, h5⟩ := h
  simp [Dev.attempt, h2, h3, h4, h5, hs]
/-- Everything a row of orders can do at a core that may run: it gives the waiting order its turn, or meets what stands at the list's place. -/
theorem attempt_cases (d : Dev) (c : CoreRef) (sel : Nat → Bool) (run : Waiting → Dev → Turn) :
    d.attempt c sel run = d ∨ (∃ w fresh, (d.core c).wait = some w ∧ fresh = false ∧ sel w.word = true ∧ d.attempt c sel run = d.settle w fresh (run w d)) ∨
      ((d.core c).wait = none ∧ d.stopping c = false ∧
        ((∃ t st, d.fetch c = .refused t st ∧ d.attempt c sel run = (d.refused st).endOrder t st true) ∨ (∃ t, d.fetch c = .poison t ∧ d.attempt c sel run = (d.begin t).consumePoison t) ∨
         (∃ a, d.fetch c = .owned a ∧ d.attempt c sel run = d.recallOwned a 32) ∨
         (∃ w, d.fetch c = .order w ∧ sel w.word = true ∧ d.attempt c sel run = d.settle w true (run w d)) ∨
         (∃ w, d.fetch c = .order w ∧ sel w.word = false ∧ knownOp w.tag.op = false ∧ d.attempt c sel run = d.malformed w.tag))) := by
  by_cases hm : d.mayRun c = true
  · cases hw : (d.core c).wait with
    | some w =>
      by_cases hs : sel w.word = true
      · exact .inr (.inl ⟨w, false, rfl, rfl, hs, by simp [Dev.attempt, hm, hw, hs]⟩)
      · exact .inl (by simp [Dev.attempt, hm, hw, hs])
    | none =>
      by_cases hp : d.stopping c = true
      · exact .inl (by simp [Dev.attempt, hm, hw, hp])
      · cases hf : d.fetch c with
        | nothing => exact .inl (by simp [Dev.attempt, hm, hw, hp, hf])
        | refused t st => exact .inr (.inr ⟨rfl, by simpa using hp, .inl ⟨t, st, rfl, by simp [Dev.attempt, hm, hw, hp, hf]⟩⟩)
        | poison t => exact .inr (.inr ⟨rfl, by simpa using hp, .inr (.inl ⟨t, rfl, by simp [Dev.attempt, hm, hw, hp, hf]⟩)⟩)
        | owned a => exact .inr (.inr ⟨rfl, by simpa using hp, .inr (.inr (.inl ⟨a, rfl, by simp [Dev.attempt, hm, hw, hp, hf]⟩))⟩)
        | order w =>
          by_cases hs : sel w.word = true
          · exact .inr (.inr ⟨rfl, by simpa using hp, .inr (.inr (.inr (.inl ⟨w, rfl, hs, by simp [Dev.attempt, hm, hw, hp, hf, hs]⟩)))⟩)
          · by_cases hk : knownOp w.tag.op = true
            · exact .inl (by simp [Dev.attempt, hm, hw, hp, hf, hs, hk])
            · exact .inr (.inr ⟨rfl, by simpa using hp, .inr (.inr (.inr (.inr ⟨w, rfl, by simpa using hs, by simpa using hk, by simp [Dev.attempt, hm, hw, hp, hf, hs, hk]⟩)))⟩)
  · exact .inl (by simp [Dev.attempt, hm])

/-- An order whose turn ends it issues. -/
theorem order_done {s : State} {c : CoreRef} {w : Waiting} (h : OrderAt s c w) {sel : Nat → Bool} {run : Waiting → Dev → Turn} (hs : sel w.word = true) {d : Dev} {b : Bool} (hb : b = true)
    (hr : run w s.dev = .done d) : onDev b (fun d => d.attempt c sel run) s = .next (s.withDev (d.issued w.tag)) := by
  rw [onDev_runs hb, attempt_order h _ _ hs, hr]; rfl
/-- An order that must wait holds at its core. -/
theorem order_wait {s : State} {c : CoreRef} {w w' : Waiting} (h : OrderAt s c w) {sel : Nat → Bool} {run : Waiting → Dev → Turn} (hs : sel w.word = true) {d : Dev} {b : Bool} (hb : b = true)
    (hr : run w s.dev = .wait d w') : onDev b (fun d => d.attempt c sel run) s = .next (s.withDev (d.holding w.tag w')) := by
  rw [onDev_runs hb, attempt_order h _ _ hs, hr]; rfl

/-! ### Manifest requests -/

/-- Opening a connection changes nothing but the connections. -/
@[simp] theorem openConn_pwr (d : Dev) (k : Bool) (e : Nat) : (d.openConn k e).pwr = d.pwr := by unfold Dev.openConn; split <;> rfl
@[simp] theorem openConn_objs (d : Dev) (k : Bool) (e : Nat) : (d.openConn k e).objs = d.objs := by unfold Dev.openConn; split <;> rfl
@[simp] theorem openConn_mem (d : Dev) (k : Bool) (e : Nat) : (d.openConn k e).mem = d.mem := by unfold Dev.openConn; split <;> rfl
@[simp] theorem openConn_cmp (d : Dev) (k : Bool) (e : Nat) : (d.openConn k e).cmp = d.cmp := by unfold Dev.openConn; split <;> rfl
@[simp] theorem openConn_ctxs (d : Dev) (k : Bool) (e : Nat) : (d.openConn k e).ctxs = d.ctxs := by unfold Dev.openConn; split <;> rfl
@[simp] theorem openConn_faults (d : Dev) (k : Bool) (e : Nat) : (d.openConn k e).faults = d.faults := by unfold Dev.openConn; split <;> rfl

/-- The first request of its connection is handled at once (R471). -/
theorem onReq_first {s : State} {q : ManifestReq} (h : s.dev.behindSlow q = false) (i : Instr) (f : Fuses → Dev → Dev) : onReq i q f s = onDevF (wellFormed i) f s := by
  simp [onReq, onDevF, h]
theorem onRow_pass {s : State} {q : ManifestReq} {row : ManifestRow} {r : ObjRow} (h : Passes s q row r) (run : ObjRow → Dev → Answer) {a : Answer} (ha : run r (s.opened q) = a) :
    Dev.onRow s.fuses s.dev q row run = a.given q := by
  obtain ⟨w, h1, h2, h3, h4, -, h5⟩ := h
  simp only [State.opened] at h5 ha
  simp [Dev.onRow, h1, Dev.manifest, h2, h3, h4, h5, ha]
/-- A request that the shared checks refuse gets that code and nothing else happens. -/
theorem onRow_fail {s : State} {q : ManifestReq} {row : ManifestRow} {r : ObjRow} {c w : Nat} (h : Checked s q row c w r) (hc : c ≠ rcOK) (run : ObjRow → Dev → Answer) :
    Dev.onRow s.fuses s.dev q row run = ((s.opened q).refuses q c w, c) := by
  obtain ⟨h1, h2, h3, h4, -, h5⟩ := h
  simp only [State.opened] at h5
  simp [Dev.onRow, h1, Dev.manifest, h2, h3, h4, h5, hc, Dev.refuses, State.opened]
theorem onRow_yes {s : State} {q : ManifestReq} {row : ManifestRow} {r : ObjRow} (h : Passes s q row r) (run : ObjRow → Dev → Answer) {d : Dev} (ha : run r (s.opened q) = d.yes) :
    Dev.onRow s.fuses s.dev q row run = (d.replied q, rcOK) := by
  rw [onRow_pass h run ha]; rfl

/-- Everything a request of a row can do: nothing, a refusal that only replies, or what the row does, with its reply. -/
theorem manifest_cases (f : Fuses) (d : Dev) (q : ManifestReq) (run : ObjRow → Dev → Answer) :
    Dev.manifest f d q run = (d, 256) ∨ (∃ e c, (e = d ∨ e = d.openConn q.kcl q.eid) ∧ c ≠ rcOK ∧ ∃ w, Dev.manifest f d q run = (e.sendReply q c 0 w [], c)) ∨
      (∃ w r a, Dev.check f (d.openConn q.kcl q.eid) q = (rcOK, w, r) ∧ a = run r (d.openConn q.kcl q.eid) ∧
        Dev.manifest f d q run = a.given q) := by
  by_cases h1 : q.ianaOk = false ∨ d.answers q = false
  · exact .inl (by simp only [Dev.manifest]; rw [if_pos h1])
  · by_cases h2 : d.noRoom q.kcl q.eid = true
    · exact .inr (.inl ⟨d, rcBusy, .inl rfl, by decide, 1000000, by simp only [Dev.manifest]; rw [if_neg h1, if_pos h2]⟩)
    · by_cases h3 : (Dev.check f (d.openConn q.kcl q.eid) q).1 ≠ rcOK
      · exact .inr (.inl ⟨_, _, .inr rfl, h3, _, by simp only [Dev.manifest]; rw [if_neg h1, if_neg h2, if_pos h3]⟩)
      · refine .inr (.inr ⟨(Dev.check f (d.openConn q.kcl q.eid) q).2.1, (Dev.check f (d.openConn q.kcl q.eid) q).2.2, _, ?_, rfl, ?_⟩)
        · simp only [ne_eq, Decidable.not_not] at h3; rw [← h3]
        · simp only [Dev.manifest]; rw [if_neg h1, if_neg h2, if_neg h3]

/-! ### Messages -/

theorem control_asked {d : Dev} {m : MctpMsg} {c n : Nat} (h : ControlAsked d m c n) (f : Dev → Nat × List Byte × Dev) : d.control m c n f = (f d).2.2.controlReply m c (f d).1 (f d).2.1 := by
  obtain ⟨h1, h2, h3, h4⟩ := h
  have : ¬ m.data.length < 2 := by omega
  have h5 : ¬ m.data.length < 2 + n := by omega
  simp [Dev.control, h1, h2, h3, this, h5, Dev.controlReply]
theorem pldm_asked {d : Dev} {m : MctpMsg} {t c n : Nat} (h : PldmAsked d m t c n) (f : Dev → Nat × List Byte) : d.pldm m t c n f = d.pldmReply m c (f d).1 (f d).2 := by
  obtain ⟨h1, h0, h2, h3, h3', h4⟩ := h
  have : ¬ m.data.length < 3 := by omega
  have h5 : ¬ m.data.length < 3 + n := by omega
  rcases h0 with h0 | h0 <;> simp [Dev.pldm, h0, h1, h2, h3, h3', this, h5, Dev.pldmReply]
theorem spdm_asked {d : Dev} {m : MctpMsg} {c need next : Nat} (h : SpdmAsked d m c need) (hn : need ≠ 0) (f : Dev → (Nat × List Byte) × Dev) {a : (Nat × List Byte) × Dev}
    (ha : f (d.bump 0x6000 0x14 1) = a) (hc : a.1.1 ≠ 0x7F) : d.spdmRow m c need next f = a.2.spdmReply m next a.1.1 a.1.2 := by
  obtain ⟨h1, h2, h3, h4, h5, h6, h7⟩ := h
  have : ¬ m.data.length < 4 := by omega
  have h9 : (d.bump 0x6000 0x14 1).restarting 0 = d.restarting 0 := rfl
  have h10 : ¬ tblGet 0 d.sec.spdm (msgFrom m) < need := Nat.not_lt.2 (by simpa using h7)
  simp [Dev.spdmRow, h1, h3, h4, this, Dev.spdm, h5, h6, h10, hn, h9, ha, hc, Dev.spdmReply]

/-! ### The companion -/

/-- A flit's count touches nothing else. -/
@[simp] theorem flitIn_safe (d : Dev) : d.flitIn.safe = d.safe := by unfold Dev.flitIn Dev.latchEdge Dev.safe; split <;> (try split) <;> rfl
/-- Nor does it touch the link. -/
theorem flitIn_link (d : Dev) : d.flitIn.host.retraining = d.host.retraining ∧ d.flitIn.host.held = d.host.held ∧ d.flitIn.obj 0x2000 0x28 = d.obj 0x2000 0x28 := by
  unfold Dev.flitIn Dev.latchEdge; split <;> (try split) <;> exact ⟨rfl, rfl, rfl⟩
theorem byLink_serves {d : Dev} (h : LinkServes d) (i : Instr) (f : Dev → Dev) : d.byLink i f = f d.flitIn := by
  obtain ⟨h1, h2, h3, h4, h5, h6⟩ := h
  obtain ⟨g1, g2, g3⟩ := flitIn_link d
  simp [Dev.byLink, h1, h3, g1, g2, g3, h2, h4, h5]
theorem byKcl_serves {d : Dev} (h : LinkServes d) (i : Instr) (f : Dev → Dev) : d.byKcl i f = f d.flitIn := by
  rw [Dev.byKcl, byLink_serves h]; simp [Dev.unlessSafe, h.sound]
/-- Waking from IDLE does not touch the safe state. -/
@[simp] theorem leaveIdle_safe (d : Dev) : d.leaveIdle.safe = d.safe := by
  unfold Dev.leaveIdle Dev.safe; dsimp only; split
  · exact congrArg (· == 1) (Dev.obj_setObj_other _ _ _ _ _ _ (by decide))
  · rfl
/-- With nothing held there is nothing to replay. -/
theorem replayHeld_nothing {d : Dev} (h : d.host.held = []) : d.replayHeld = d := by
  unfold Dev.replayHeld; rw [h]; split <;> rfl
theorem kclRequest_serves {d d' : Dev} (h : LinkServes d) (i : Instr) (hd : d.flitIn.kclDo i = (d', true)) (hh : d'.host.held = []) : d.kclRequest i = d' := by
  simp only [Dev.kclRequest, byLink_serves h, hd, replayHeld_nothing hh]; simp
theorem serve_ends {d d' : Dev} {w st : Nat} (h : ServiceAt d w) (sel : Nat → Bool) (ws : Nat → Dev → List (Nat × Nat)) (hw : d.writesFree (ws w d)) (run : Nat → Dev → Dev × Option Nat)
    (hs : sel (svCode w) = true) (hr : run w d.serviceTaken = (d', some st)) : d.serve sel ws run = (d'.refused st).svcDone (svCtx w) (svCode w) (svTag w) st := by
  obtain ⟨h1, h2, h3, h4⟩ := h
  unfold Dev.serviceTaken at hr
  simp [-Nat.reducePow, Dev.serve, h1, hs, h4, hw.1, hw.2, h2, h3, hr]
theorem serve_goes_on {d d' : Dev} {w : Nat} (h : ServiceAt d w) (sel : Nat → Bool) (ws : Nat → Dev → List (Nat × Nat)) (hw : d.writesFree (ws w d)) (run : Nat → Dev → Dev × Option Nat)
    (hs : sel (svCode w) = true) (hr : run w d.serviceTaken = (d', none)) : d.serve sel ws run = d' := by
  obtain ⟨h1, h2, h3, h4⟩ := h
  unfold Dev.serviceTaken at hr
  simp [-Nat.reducePow, Dev.serve, h1, hs, h4, hw.1, hw.2, h2, h3, hr]

/-! ### Dockets -/

/-- A ring that seeks no step entry passes over nothing. -/
theorem seekHead_none {d : Dev} {c : Nat} (h : (d.ctx c).seekStart = false) : d.seekHead c = d := by
  unfold Dev.seekHead
  cases d.docketsLeft c <;> simp [Dev.seekGo, h]
theorem docket_at {d : Dev} {c w k : Nat} (h : DocketAt d c w k) (sel : Nat → Bool) (run : Nat → DocketRun → Dev → Dev) (hs : sel k = true) :
    d.docket c sel run = run w ((d.docketTaken c w).lastRun c) (d.docketTaken c w) := by
  obtain ⟨h0, h1, h2, h3, h4, h5, h6, h7⟩ := h
  subst h2
  unfold Dev.docketTaken at *
  simp only [Dev.ctx_modCtx] at h7
  rw [Dev.docket, seekHead_none h4]
  simp [Dev.docketHead, h1, h3, hs, Dev.startDocket, h5, h6, h7]

/-! ### Packets -/

theorem gezalIn_for {d : Dev} {p : Packet} {x : Session} (h : PacketFor d p x) (f : Nat → Session → Dev → Dev) : d.gezalIn p f = f p.session x (d.rxFrame p.port) := by
  obtain ⟨h1, h2, h0, h3, h4, h5, h6, h7, h8, h9, h10, h11⟩ := h
  have h12 : ¬ ((d.rxFrame p.port).safe = true ∧ p.typ = 0) := by rintro ⟨a, b⟩; simp [h5 b] at a
  simp only [Dev.gezalIn, h3, h4, h6, h7, h8, h9, h10, h11, h12]; simp [h0, h1, h2]
theorem handshake_for {d : Dev} {p : Packet} {m : Nat} {e : Dev} (h : HandshakeFor d p m e) (f : Dev → Dev) : d.handshake p m f = f e := by
  obtain ⟨h1, h2, h3, h4, h5, h6, h7⟩ := h
  simp [Dev.handshake, h3, h4, h5, h6, h7]
theorem bySec_runs {d : Dev} {i : Instr} {f : Dev → Dev} (h : d.restarting 0 = false) : d.bySec i f = f d := by simp [Dev.bySec, h]
theorem netRow_runs {f : Fuses} {d : Dev} {g : Dev → Dev} (h : d.pwr.offKind = 0) : Dev.netRow f d g = Dev.netAudit f (g d) d := by simp [Dev.netRow, h]

/-! ### Faults -/

/-- A logbook record changes no object but the count of records. -/
theorem logEvent_obj (d : Dev) (a b c e f g h i j : Nat) (hk : objKey i j 0 ≠ objKey 0xB000 0x0A 0) : (d.logEvent a b c e f g h).obj i j = d.obj i j := by
  simp only [Dev.logEvent]; rw [Dev.obj_setObj_other _ _ _ _ _ _ hk]; split <;> rfl

end Sys2Proof.Machine
end

