-- ==== Sys2Proof/Tests/Slice0.lean ====
section
/-! SUPPORT. Tests of the model: for each statement with hypotheses small states that meet them, a command that each check of
wellFormed refuses, and the worked examples of the spec. -/

namespace Sys2Proof.Tests

open Sys2Proof.Machine

set_option Elab.async false

theorem test_idle_step : step State.reset = .next { State.reset with dev := Dev.idle State.reset.fuses State.reset.dev } := rfl

/-! ### Small states -/

/-- Core 0 of cluster 0, on which every order of these tests stands. -/
def c0 : CoreRef := ⟨0, 0⟩

/-- An order word: opcode, SYNC, and fields as (low bit, value). -/
def word (op sync_ : Nat) (fs : List (Nat × Nat)) : Nat := fs.foldl (fun n p => n + p.2 * 2 ^ p.1) (op + sync_ * 2 ^ 16)

/-- Context 0 running on core 0, its list of orders at 0x1000 of the hold. -/
def running (w : Nat) (f : CoreSt → CoreSt := id) (g : Dev → Dev := id) : State :=
  let l : ListRun := { addr := 0x050000001000, count := 4, repeats := 1, cadence := false, reports := 0, depth := 0 }
  let x : CoreSt := { armed := some 0, list := some l, quiet := false }
  { dev := g { ctxs := [(0, { state := 4, cores := [0] })], cmp := { cores := [(0, f x)] }, mem := memWrite [] 0x050000001020 (natLe 32 w) } }

/-- The order a core finds at its list's place. -/
def nextOrder (s : State) (c : CoreRef) : Option Waiting := match s.dev.fetch c with | .order w => some w | _ => none
def theOrder (s : State) (c : CoreRef) : Waiting := (nextOrder s c).getD { tag := ⟨c, 0, 0, 0, 0, 0, 0⟩, word := 0 }

/-- The conditions of OrderAt, decided. -/
def orderReady (s : State) (c : CoreRef) : Bool :=
  c.exists && s.dev.mayRun c && (s.dev.core c).wait.isNone && !(s.dev.stopping c) && (nextOrder s c).isSome

theorem orderAt_of_ready {s : State} {c : CoreRef} (h : orderReady s c = true) : OrderAt s c (theOrder s c) := by
  simp only [orderReady, Bool.and_eq_true, Option.isNone_iff_eq_none, Bool.not_eq_true'] at h
  obtain ⟨⟨⟨⟨h1, h2⟩, h3⟩, h4⟩, h5⟩ := h
  refine ⟨h1, h2, h3, h4, ?_⟩
  simp only [theOrder, nextOrder] at h5 ⊢
  cases h6 : s.dev.fetch c <;> simp_all

/-- Whether an order's gate stands open over good data. -/
def open_ (g : Gate) : Bool := match g with | .go b => !b | .stall _ => false
/-- Whether an order's turn ends it. -/
def ends (t : Turn) : Bool := match t with | .done _ => true | _ => false
/-! ### Orders (b01): each theorem shows a state that meets every hypothesis of one clause -/

def sWload : State := running (word 0x01 0xFFFF [(32, 1), (40, 0x4000), (88, cE4M3)])
theorem test_wload_ready : (orderReady sWload c0 && let w := theOrder sWload c0
  isOp 0x01 w.word && wlOk w.word && open_ (sWload.dev.gate w.tag ((wlArrays w.word).map (fun a => (wlBase w.word a, weightSetSize (field w.word 91 88))) ++
    (if bit w.word 8 then (wlArrays w.word).map fun a => (wlBase2 w.word a, weightSetSize (field w.word 91 88)) else [])) [])) = true := by decide +kernel
def sWload2 : State := running (word 0x01 0xFFFF [(32, 1), (8, 1), (40, 0x4000), (64, 0x20000), (88, cPair43)])
theorem test_wload_pair_ready : (orderReady sWload2 c0 && let w := theOrder sWload2 c0
  isOp 0x01 w.word && wlOk w.word && open_ (sWload2.dev.gate w.tag ((wlArrays w.word).map (fun a => (wlBase w.word a, weightSetSize (field w.word 91 88))) ++
    (if bit w.word 8 then (wlArrays w.word).map fun a => (wlBase2 w.word a, weightSetSize (field w.word 91 88)) else [])) [])) = true := by decide +kernel
/-- Four active and shadow sets of a format with no bytes loaded. -/
def withSets (fmt : Nat) (x : CoreSt) : CoreSt :=
  let t : Tbl WSet := [0, 1, 2, 3].map fun a => (a, ⟨⟨some fmt, some 0x8000⟩, []⟩)
  { x with active := t, shadow := t }
def passReady (s : State) (pair : Bool) (op : Nat) : Bool := orderReady s c0 && let w := theOrder s c0
  isOp op w.word && passBitsOk pair w.word && !(psAccrete w.word) && !((s.dev.core w.tag.core).passWaits pair (psSwap w.word)) &&
    (match s.dev.passRows w.tag w.word with
     | some r => passFits ((s.dev.core w.tag.core).swapped (psSwap w.word)) pair w.word r.offs.length &&
        open_ (s.dev.gate w.tag ((r.offs ++ (if pair then (List.range (field w.word 79 72)).map fun m => field w.word 143 120 + m * field w.word 71 56 else [])).map
          fun o => (o, actRowSize (field w.word 83 80))) []) && !(s.dev.quiet w.tag.core) && decide ((s.dev.core w.tag.core).wakeAt ≤ s.dev.time)
     | none => false)
def sPass : State := running (word 0x02 0xFFFF [(32, 0x10000), (56, 256), (72, 1), (80, cE4M3), (84, cE4M3), (88, 1006)]) (withSets cE4M3)
theorem test_pass_ready : passReady sPass false 0x02 = true := by decide +kernel
def sPair : State := running (word 0x04 0xFFFF [(32, 0x10000), (56, 320), (72, 1), (80, cPair43), (84, cPair43), (88, 1006), (120, 0x20000)]) (withSets cPair43)
theorem test_pairpass_ready : passReady sPair true 0x04 = true := by decide +kernel
/-- A conveyor whose ring lies in the hold of core 0, which consumes and produces it. -/
def ringConv : Conveyor := { quay := false, ring := 0x050000030000, depth := 4, slot := 512, cons := 0, prod := 0, credits := 4, visible := 2, taken := 0 }
def withConv (v : Conveyor) (d : Dev) : Dev := d.setConv 0 7 v
def sAccrete : State := running (word 0x02 7 [(10, 1), (80, cE4M3), (84, cE4M3), (88, 1006)]) (withSets cE4M3) (withConv { ringConv with window := some ⟨0, 2, 512, 2⟩ })
theorem test_pass_accrete_ready : (orderReady sAccrete c0 && let w := theOrder sAccrete c0; let d := sAccrete.dev
  isOp 0x02 w.word && passBitsOk false w.word && psAccrete w.word && !((d.core w.tag.core).passWaits false (psSwap w.word)) &&
  (match d.passConv w.tag w.word with
   | some v => (match v.windowRows d.time with
     | some n => (match (d.setConv w.tag.ctx (sync w.word) (d.takeBatch w.tag.core v n.1)).passRows w.tag w.word with
       | some r => passFits ((d.core w.tag.core).swapped (psSwap w.word)) false w.word r.offs.length && open_ (d.gate w.tag (r.offs.map fun o => (o, actRowSize (field w.word 83 80))) []) &&
           !(d.quiet w.tag.core) && decide ((d.core w.tag.core).wakeAt ≤ d.time)
       | none => false)
     | none => false)
   | none => false)) = true := by decide +kernel
/-- A core whose current bank holds a tile of one row. -/
def withTile (x : CoreSt) : CoreSt := { x with bank0 := some { isInt := false, rows := [{ g := -18, cells := List.replicate 4 {} }], tally := [] } }
def drainReady (s : State) (rows : Nat) : Bool := orderReady s c0 && let w := theOrder s c0
  isOp 0x03 w.word && drainOk w.word rows && s.dev.drainConvOk w.tag w.word
def sDrain : State := running (word 0x03 0xFFFF [(48, 0x40000), (72, 1024)]) withTile
def sDrainEmpty : State := running (word 0x03 0xFFFF [(48, 0x40000), (72, 1024)])
theorem test_drain_ready : (drainReady sDrain 1 && let w := theOrder sDrain c0; let x := sDrain.dev.core w.tag.core
  !(x.drains.any fun j => j.bank == x.cur) && (match x.bank x.cur with
    | some t => t.rows.length == 1 && sDrain.dev.epiAgrees w.tag.core w.word t && !(t.batch.isSome && (drCvt w.word).fmt == cW64) | none => false)) = true := by decide +kernel
theorem test_drain_empty_ready : (drainReady sDrainEmpty 0 && let x := sDrainEmpty.dev.core c0; (x.bank x.cur).isNone) = true := by decide +kernel

/-- ADD of two vectors of two FP32 elements. -/
def sVec : State := running (word 0x10 0xFFFF [(48, 1), (72, 0x40000 / 8 * 256 + 1), (100, 0x41000 / 8 * 256 + 1), (128, 0x42000 / 8 * 256 + 1)])
def vecReady (s : State) : Bool := orderReady s c0 && let w := theOrder s c0
  isOp 0x10 w.word && vecOk w.word && open_ (s.dev.gate w.tag ((vecReadSpans w.word).map spanNat) ((vecWriteSpans w.word).map spanNat))
/-- CVT of a W64 row of two elements to FP32. -/
def sVecW64 : State := let s := running (word 0x10 0xFFFF [(32, 0x0B), (48, 1), (68, cW64), (72, 0x40000 / 8 * 256 + 1), (100, 0x41000 / 8 * 256 + 1)])
  { s with dev := { s.dev with mem := memWrite s.dev.mem (holdAt c0 0x41000) (Header.bytes { g := -18, rows := 1, kind := false, width := 1, parts := 1 }) } }
theorem test_vec_w64_ready : (vecReady sVecW64 && let w := theOrder sVecW64 c0
  vOfW64 w.word && headerOk (leNat (sVecW64.dev.read (holdAt w.tag.core (formAddr (field w.word 127 100))) 32))) = true := by decide +kernel
theorem test_vec_ready : (vecReady sVec && vOp (theOrder sVec c0).word != 0x2B) = true := by decide +kernel
/-- The header of a W64 tile of one row of 128 columns. -/
def tileHeader : Header := { g := -18, rows := 1, kind := false, width := 1, parts := 1 }
def withHeaders (d : Dev) : Dev :=
  { d with mem := memWrite (memWrite d.mem (holdAt c0 0x41000) tileHeader.bytes) (holdAt c0 0x42000) tileHeader.bytes }
def sW64 : State := let s := running (word 0x10 0xFFFF [(32, 0x2B), (40, 0xB0), (48, 127), (68, cW64), (72, 0x40000 / 8 * 256 + 1), (100, 0x41000 / 8 * 256 + 1), (128, 0x42000 / 8 * 256 + 1)])
  { s with dev := withHeaders s.dev }
theorem test_w64add_ready : (vecReady sW64 && let w := theOrder sW64 c0
  let a := sW64.dev.tileAt w.tag.core (formAddr (field w.word 127 100)) (vN w.word)
  let b := sW64.dev.tileAt w.tag.core (formAddr (field w.word 155 128)) (vN w.word)
  vOp w.word == 0x2B && headerOk a.1 && headerOk b.1 && a.2.h.agrees b.2.h) = true := by decide +kernel
def vredReady (s : State) : Bool := orderReady s c0 && let w := theOrder s c0
  isOp 0x11 w.word && vreduceOk w.word
def sVred : State := running (word 0x11 0xFFFF [(40, 3), (80, 0x41000), (104, 1), (144, 0x40000)])
theorem test_vreduce_ready : (vredReady sVred && let w := theOrder sVred c0
  vrRop w.word != 2 && open_ (sVred.dev.gate w.tag [spanNat (vrReadSpan w.word)] [spanNat (vrWriteSpan w.word 0 0)])) = true := by decide +kernel
def sWsum : State := let s := running (word 0x11 0xFFFF [(8, 2), (32, 0xB0), (40, 1), (60, cW64), (64, 127), (80, 0x41000), (120, 0x1000), (144, 0x40000)])
  { s with dev := withHeaders s.dev }
theorem test_wsum_ready : (vredReady sWsum && let w := theOrder sWsum c0
  vrRop w.word == 2 && open_ (sWsum.dev.gate w.tag [spanNat (vrReadSpan w.word)] []) && ends (sWsum.dev.wsum w false)) = true := by decide +kernel

def sTug : State := running (word 0x20 0xFFFF [(8, 4), (32, 0x050000000000 + 0x50000)])
theorem test_tug_ready : (orderReady sTug c0 && let w := theOrder sTug c0; let d := sTug.dev
  isOp 0x20 w.word && (match d.tugPlace w.tag.core w.word with | some p => open_ (d.tugGate w.tag (tugDesc w.word) p) | none => false) &&
  decide ((d.tugQ w.tag.core.cl (d.pickTug w.tag.core.cl (field w.word 10 8))).length < 32)) = true := by decide +kernel
def sPut : State := running (word 0x21 7 [(32, 0x41000), (56, 16), (88, 2), (104, 16)]) id (withConv ringConv)
theorem test_put_ready : (orderReady sPut c0 && let w := theOrder sPut c0; let d := sPut.dev
  isOp 0x21 w.word && (d.putConv w.tag w.word).isSome && open_ (d.gate w.tag [(putSrc w.word 0, (putCount w.word - 1) * field w.word 127 104 + putLen w.word)] []) &&
  (Dev.putGo w.tag w.word (putCount w.word - w.done) w.done d).2 == putCount w.word) = true := by decide +kernel
def getReady (s : State) : Bool := orderReady s c0 && let w := theOrder s c0; (s.dev.getConv w.tag w.word).isSome
def canTake (s : State) : Bool := let w := theOrder s c0
  match s.dev.getConv w.tag w.word with | some v => decide (getCount w.word ≤ v.visible - v.taken) | none => false
def sTake : State := running (word 0x22 7 [(32, 2)]) id (withConv ringConv)
def sRelease : State := running (word 0x22 7 [(8, 1), (32, 1)]) id (withConv { ringConv with taken := 2 })
def sCopy : State := running (word 0x22 7 [(9, 1), (32, 2), (48, 0x40000), (72, 512)]) id (withConv ringConv)
theorem test_get_take_ready : (getReady sTake && selTake (theOrder sTake c0).word && canTake sTake) = true := by decide +kernel
theorem test_get_release_ready : (getReady sRelease && selRelease (theOrder sRelease c0).word) = true := by decide +kernel
theorem test_get_copy_ready : (getReady sCopy && canTake sCopy && let w := theOrder sCopy c0
  selCopy w.word && (match sCopy.dev.getConv w.tag w.word with
    | some v => !(((if v.quay then sCopy.dev.getQueue w.tag.ctx (sync w.word) v w.tag.core else []).drop 1).contains w.tag.core) && !(((List.range 2).map fun i => v.slotAt (v.taken + i)).any fun a => sCopy.dev.ownedIn a v.slot)
    | none => false) && open_ (sCopy.dev.gate w.tag [] [(field w.word 71 48, (getCount w.word - 1) * field w.word 87 72 + 512)])) = true := by decide +kernel

/-- Barrier 5 of context 0, homed here, of two arrivals. -/
def bar2 : Barrier := { home := 0, count := 2, gangpoint := false, fast := false }
def withBar (b : Barrier) (d : Dev) : Dev := d.setBar 0 5 b
def sArrive : State := running (word 0x30 5 [(32, 1)]) id (withBar bar2)
theorem test_arrive_ready : (orderReady sArrive c0 && let w := theOrder sArrive c0
  isOp 0x30 w.word && sArrive.dev.arriveOk w && waitTimeoutNs w.word == 0 && sArrive.dev.settled w.tag) = true := by decide +kernel
def sWait : State := running (word 0x31 5 []) (fun x => { x with joined := [(5, 3)] }) (withBar { bar2 with gen := 4 })
theorem test_wait_ready : (orderReady sWait c0 && let w := theOrder sWait c0
  isOp 0x31 w.word && onlyFields w.word barFields && waitWeight w.word == 0 && w.target.isNone && (match sWait.dev.bar w.tag.ctx (sync w.word) with
    | some b => !b.poisoned && tblGet [] (sWait.dev.core w.tag.core).acksDue (sync w.word) == [] && decide (sync w.word < 1024) && w.phase == 0 && !(b.holds 3) &&
        tblFind (sWait.dev.core w.tag.core).joined (sync w.word) == some 3 && genDone 3 b.gen && !(w.late sWait.dev.time)
    | none => false)) = true := by decide +kernel
/-- A WAIT of a core that has not arrived, at the barrier's home: it joins the generation in progress. -/
def sWaitOn : State := running (word 0x31 5 []) id (withBar bar2)
theorem test_wait_joins_ready : (orderReady sWaitOn c0 && let w := theOrder sWaitOn c0
  isOp 0x31 w.word && onlyFields w.word barFields && waitWeight w.word == 0 && w.target.isNone && w.phase == 0 && (match sWaitOn.dev.bar w.tag.ctx (sync w.word) with
    | some b => !b.poisoned && tblGet [] (sWaitOn.dev.core w.tag.core).acksDue (sync w.word) == [] && (tblFind (sWaitOn.dev.core w.tag.core).joined (sync w.word)).isNone &&
        b.home == (sWaitOn.dev.ctx w.tag.ctx).gangRank && !(b.holds b.gen) && !(genDone b.gen b.gen)
    | none => false)) = true := by decide +kernel
def sArriveWait : State := running (word 0x32 5 [(32, 1)]) id (withBar bar2)
theorem test_arrive_wait_ready : (orderReady sArriveWait c0 && let w := theOrder sArriveWait c0
  isOp 0x32 w.word && sArriveWait.dev.arriveOk w && w.target.isNone && w.phase == 0 && sArriveWait.dev.settled w.tag) = true := by decide +kernel
def sFence : State := running (word 0x7F 0xFFFF [])
theorem test_fence_ready : (orderReady sFence c0 && let w := theOrder sFence c0
  isOp 0x7F w.word && onlyFields w.word common && sync w.word == 0xFFFF && sFence.dev.fenced w.tag) = true := by decide +kernel
def sHint : State := running (word 0x40 0xFFFF [(32, 15), (40, 100), (64, 7)])
def sHintEnd : State := running (word 0x40 0xFFFF [(8, 1)])
theorem test_hint_ready : (orderReady sHint c0 && let w := theOrder sHint c0; selHint w.word && hintOk w.word) = true := by decide +kernel
theorem test_hint_end_ready : (orderReady sHintEnd c0 && let w := theOrder sHintEnd c0; selHintEnd w.word && hintOk w.word) = true := by decide +kernel

/-- State set 2 of context 0. -/
def set2 : StateSet := { view := 0x100000, bank0 := 0x200000, bank1 := 0x300000, size := 4096, mirror := false, teacher := false }
def sCommit : State := running (word 0x50 5 [(32, 4)]) id fun d => withBar bar2 (d.setSset 0 2 set2)
theorem test_commit_ready : (orderReady sCommit c0 && let w := theOrder sCommit c0
  isOp 0x50 w.word && sCommit.dev.commitOk w.tag w.word && w.phase == 0 && sCommit.dev.fenced w.tag && sCommit.dev.mirrorSynced w.tag.ctx) = true := by decide +kernel
def sSnap : State := running (word 0x51 0xFFFF [(32, 2), (64, 0x400000)]) id fun d => d.setSset 0 2 set2
theorem test_snapshot_ready : (orderReady sSnap c0 && let w := theOrder sSnap c0
  isOp 0x51 w.word && decide (snapSet w.word ≤ 15) && (sSnap.dev.sset w.tag.ctx (snapSet w.word)).isSome && onlyFields w.word snapFields && sync w.word == 0xFFFF &&
  sSnap.dev.ordersDone w.tag.core w.tag.stamp && !(sSnap.dev.snapBusy w.tag.ctx (snapSet w.word))) = true := by decide +kernel
/-- Group 3 of two ranks, this module's rank 0 being its root, driven by core 0. -/
def group3 : Group := { members := [0, 1], root := 0, driver := c0, basinFirst := false }
def sCollect (kind : Nat) : State := running (word 0x60 0xFFFF [(32, 3), (52, kind), (64, 0x100000), (112, 0x200000), (160, 64)]) id fun d => d.setGroup 0 3 group3
def collectReady (k : Nat) : Bool := orderReady (sCollect k) c0 && let w := theOrder (sCollect k) c0
  selCollect k w.word && (match (sCollect k).dev.clOk w.tag w.word with | some g => decide (g.flights.length < 4) | none => false)
theorem test_collect_ready : ([0, 1, 2, 3, 4, 5].all collectReady) = true := by decide +kernel

/-! ### Events of the cores and arrays (b02) -/

/-- The device of a core of context 0 in a given condition. -/
def dev0 (f : CoreSt → CoreSt) (g : Dev → Dev := id) : Dev := (running 0 f g).dev
def st (d : Dev) : State := { dev := d }

/-- A tile whose one row was abandoned by an overflow. -/
def lostTile : Tile := { isInt := false, rows := [{ g := -18, abandoned := true }], tally := [⟨false, cE4M3, cE4M3, [0x10000], [], [], []⟩] }
theorem test_tile_replay_ready : (let d := dev0 fun x => { x with bank0 := some lostTile }
  c0.exists && !d.safe && (d.core c0).replayPending && ((d.core c0).bank false == some lostTile) && ((d.core c0).armed == some 0) && lostTile.replayPending && !(d.tallyPoisoned c0 lostTile)) = true := by
  decide +kernel
/-- An accreting PASS that waits while its window has one of two rows, past its time. -/
def accWaiting : Dev :=
  let w := (theOrder sAccrete c0).word
  { dev0 (fun x => withSets cE4M3 { x with lastRow := 600, wait := some { tag := ⟨c0, 0, 0, 0, 0, 0x02, 0⟩, word := w } }) (withConv { ringConv with visible := 1, window := some ⟨0, 2, 512, 1⟩ }) with time := 600 }
theorem test_acc_wait_expiry_ready : (match (accWaiting.core c0).wait with
  | some w => w.tag.op == 0x02 && psAccrete w.word && accWaiting.mayRun c0 && ends (runPass w accWaiting) | none => false) = true := by decide +kernel
theorem test_wload_complete_ready : (let d := dev0 fun x => { x with loads := [⟨⟨c0, 0, 0, 0, 0, 1, 0⟩, false⟩] }; c0.exists && !d.safe && (d.core c0).loads.length == 1) = true := by decide +kernel
/-- A drain to FP32 of the bank that no longer receives passes. -/
def drainJob (w : Nat) : DrainJob := { tag := ⟨c0, 0, 0, 0, 0, 3, 0⟩, word := w, bank := false, srSeed := 0, srCounter := 0 }
def wDrain : Nat := word 0x03 0xFFFF [(48, 0x40000), (72, 1024)]
def wDrainConv : Nat := word 0x03 7 [(8, 1), (32, 0x20)]
theorem test_drain_read_empty_ready : (let d := dev0 fun x => { x with drains := [drainJob wDrain] }
  !d.safe && !(d.core c0).stopped && (d.core c0).drains == [drainJob wDrain] && ((d.core c0).bank false).isNone) = true := by decide +kernel
def drainStands (d0 : Dev) (w : Nat) (convey : Bool) : Bool :=
  match (d0.core c0).bank false with
  | none => false
  | some t =>
    let j := drainJob w
    let d := d0.modCore c0 (fun x => x.setBank false (some { t with tally := [] }))
    !d0.safe && !(d0.core c0).stopped && (d0.core c0).drains == [j] && !t.replayPending && d.epiAgrees c0 w t && !(t.batch.isSome && (drCvt w).fmt == cW64) &&
      drConvey w == convey && !((drainWrites w t.rows.length t.batch.isSome).any fun p => d.pinned (holdAt c0 p.1) p.2) &&
      !((drainReads w t.rows.length ++ drainWrites w t.rows.length t.batch.isSome).any fun p => d.ownedIn (holdAt c0 p.1) p.2) &&
      !((drainReads w t.rows.length).any fun p => d.poisonIn (holdAt c0 p.1) p.2) &&
      (!convey || (Dev.drainSend j.tag w (d.drainOut c0 j t).rows (t.rows.map TileRow.tag) false (t.rows.length - j.sent) j.sent d).2 == t.rows.length)
theorem test_drain_read_ready : drainStands (dev0 fun x => { withTile x with cur := true, drains := [drainJob wDrain] }) wDrain false = true := by decide +kernel
theorem test_drain_convey_ready : drainStands (dev0 (fun x => { withTile x with cur := true, drains := [drainJob wDrainConv] }) (withConv ringConv)) wDrainConv true = true := by
  decide +kernel

/-- A region of context 0 over the second 2 MiB of HBM. -/
def withRegion (d : Dev) : Dev := { d with regions := [(0, { base := 0x200000, size := 0x400000, owner := 0, enabled := true })] }
/-- A descriptor of one run of 64 bytes. -/
def desc (srcDev src dstDev dst : Nat) (fill : Nat) : Nat :=
  src + srcDev * 2 ^ 48 + dst * 2 ^ 64 + dstDev * 2 ^ 112 + fill * 2 ^ 132 + 64 * 2 ^ 224 + 2 ^ 256 + 2 ^ 272 + 0xFFFF * 2 ^ 432
def tugDev (de : Nat) : Dev := withRegion (dev0 id fun d => d.setTugQ 0 1 [{ tag := ⟨c0, 0, 0, 0, 0, 0x20, 0⟩, desc := de }])
def tugStands (de : Nat) : Bool :=
  let d := tugDev de
  match (d.tugQ 0 1)[0]? with
  | none => false
  | some i => !d.safe && d.pwr.offKind == 0 && tugMayRun (d.tugQ 0 1) 0 && !(d.tgMalformed i.tag.ctx i.desc) &&
      (d.tgHeld i.tag i.desc (d.tgGood i.tag.ctx i.desc (tgRuns i.desc)).1).isNone && (d.tgGood i.tag.ctx i.desc (tgRuns i.desc)).2 == stOK
theorem test_tug_local_ready : (tugStands (desc 0 0x200000 0 0x050000060000 0) && tugStands (desc 0 0 0 0x200040 1) && (tugDev 0).midOf 0 == 0) = true := by decide +kernel
theorem test_tug_out_ready : (tugStands (desc 0 0x200000 15 0x1000 0) && tgDstDev (desc 0 0x200000 15 0x1000 0) == 15) = true := by decide +kernel
theorem test_tug_in_ready : (tugStands (desc 15 0x1000 0 0x200000 0) && tgSrcDev (desc 15 0x1000 0 0x200000 0) == 15 && !(tgFill (desc 15 0x1000 0 0x200000 0))) = true := by decide +kernel
def sentConv : Conveyor := { ringConv with flying := [⟨2, 0, [1#8], false, c0, 0⟩], returning := 1, sent := 3 }
theorem test_message_ready : (let d := dev0 id (withConv sentConv)
  d.conv 0 7 == some sentConv && !(d.pinned (sentConv.slotAt 2) sentConv.slot) && !(d.ownedIn (sentConv.slotAt 2) sentConv.slot) && decide (0 < sentConv.returning)) = true := by decide +kernel
def snapDev (dst : Nat) : Dev := withRegion (dev0 id fun d => { d.setSset 0 2 set2 with cmp := { (d.setSset 0 2 set2).cmp with snaps := [{ ctx := 0, set_ := 2, bank := 0x200000, dst := dst, abandon := false, bar := 0xFFFF, tag := none }] } })
def snapStands (dst : Nat) : Bool :=
  let d := snapDev dst
  match d.cmp.snaps[0]? with
  | none => false
  | some sn => let size := d.snapSize sn
    !d.safe && d.pwr.offKind == 0 && size == 4096 && basinDev (sn.dst / 2 ^ 48) && decide (sn.dst % 2 ^ 48 + size ≤ 2 ^ 48) && (d.access (.ctx sn.ctx) false sn.bank size).isNone && !(d.ownedIn sn.bank size)
theorem test_snapshot_local_ready : (snapStands 0x400000 && let d := snapDev 0x400000
  (d.access (.ctx 0) true 0x400000 4096).isNone && !(d.pinned 0x400000 4096) && !(d.ownedIn 0x400000 4096)) = true := by decide +kernel
theorem test_snapshot_out_ready : snapStands (15 * 2 ^ 48) = true := by decide +kernel
/-- A broadcast of one FP32 element in a group of one, whose data is complete. -/
def soloColl : Coll := { tag := ⟨c0, 0, 0, 0, 0, 0x60, 0⟩, seq := 0, word := word 0x60 0xFFFF [(32, 3), (52, 2), (64, 0x200000), (112, 0x200100), (160, 1)], started := true, frags := [⟨1, 0, 0, natLe 4 7, false, 0⟩] }
def soloGroup : Group := { members := [0], root := 0, driver := c0, basinFirst := false, next := 1, flights := [soloColl] }
def collDev : Dev := withRegion (dev0 id fun d => d.setGroup 0 3 soloGroup)
theorem test_collective_ready : (let x := ({ d := collDev, f := soloColl, bad := none } : CollRun).folds 0 soloGroup
  !collDev.safe && collDev.group 0 3 == some soloGroup && !(soloColl.frags.any fun p => p.shape != 0 && p.shape != clShape soloColl.word) && x.bad.isNone && x.f.started && x.duties 0 soloGroup && x.f.seq == 0 && x.d.collAccepted 0 3 0 (clReduces soloColl.word) &&
  (match CollRun.output x 0 soloGroup with
   | some (ws, _) => let d := x.d.putFlight 0 3 x.f
     ws.length == 1 && !(d.tilesMeet 0 soloGroup soloColl.word ws) && (ws.findSome? fun p => d.access (.ctx 0) true p.1 p.2.1.length).isNone && !(ws.any fun p => d.pinned p.1 p.2.1.length) && !(ws.any fun p => d.ownedIn p.1 p.2.1.length)
   | none => false)) = true := by decide +kernel

def withArrival (n : Nat) (d : Dev) : Dev := { d with cmp := { d.cmp with arrivals := [{ ctx := 0, bar := 5, weight := n, kind := 0, who := ⟨0, c0⟩ }] } }
theorem test_arrival_counted_ready : (let d := dev0 id fun d => withArrival 1 (withBar bar2 d)
  (d.cmp.arrivals[0]?).isSome && d.bar 0 5 == some bar2 && !bar2.poisoned && decide (bar2.arrived + 1 < bar2.count)) = true := by decide +kernel
theorem test_arrival_completes_ready : ([false, true].all fun f => let b := { bar2 with fast := f, arrived := 1 }; let d := dev0 id fun d => withArrival 1 (withBar b d)
  d.bar 0 5 == some b && decide (b.count ≤ b.arrived + 1)) = true := by decide +kernel
theorem test_arrival_ack_ready : (let d := dev0 id fun d => { d with cmp := { d.cmp with acks := [⟨0, 5, c0, some 0⟩] } }
  d.cmp.acks[0]? == some ⟨0, 5, c0, some 0⟩ && !((d.cmp.acks.take 0).any fun _ => true)) = true := by decide +kernel
def waitWord : Nat := word 0x31 5 [(64, 1000)]
/-- Core 0 waits at barrier 5 for generation 3, since 0. -/
def waiting (op phase : Nat) (t : Nat) (g : Dev → Dev := id) : Dev :=
  { dev0 (fun x => { x with wait := some { tag := ⟨c0, 0, 0, 0, 0, op, 0⟩, word := word op 5 [(64, 1000)], phase := phase, target := some 3 } }) (fun d => g (withBar bar2 d)) with time := t }
theorem test_release_ready : (let d := waiting 0x31 0 10 fun d => { d with cmp := { d.cmp with releases := [⟨0, 5, c0, 3, 0⟩] } }
  match d.cmp.releases[0]?, (d.core c0).wait with
  | some r, some w => waitsAt (d.core r.core) r.ctx r.bar && w.tag.op != 0x50 && w.target == some r.gen && !(w.late d.time)
  | _, _ => false) = true := by decide +kernel
def expiredAt (op phase : Nat) : Bool := let d := waiting op phase 2000
  match (d.core c0).wait with | some w => w.expired d.time && w.tag.op == op && w.phase == phase && (d.bar w.tag.ctx (sync w.word)).isSome | none => false
/-- A wait at a barrier whose home is another module. -/
def waitingAway : Dev := waiting 0x31 0 2000 (withBar { bar2 with home := 1 })
theorem test_wait_expires_away : (match (waitingAway.core c0).wait with
  | some w => (match waitingAway.bar w.tag.ctx (sync w.word) with | some b => !b.fast && b.home != (waitingAway.ctx w.tag.ctx).gangRank | none => false)
  | none => false) = true := by decide +kernel
theorem test_wait_timeout_ready : (expiredAt 0x31 0 && expiredAt 0x32 1 && expiredAt 0x50 2) = true := by decide +kernel

def fastDev (b : Barrier) (t : Nat) : Dev := { (dev0 id (withBar b)).setObj 0x9000 7 5 with time := t }
theorem test_fast_line_ready : (let b := { bar2 with fast := true, pulling := false, arrived := 2 }
  (fastDev b 0).fastBar == some (0, 5) && (fastDev b 0).bar 0 5 == some b && b.sawHigh.isNone &&
  (fastDev { b with sawHigh := some 0 } 200).bar 0 5 == some { b with sawHigh := some 0 }) = true := by decide +kernel
theorem test_cadence_tick_ready : (let d : Dev := { (dev0 id).setObj 0xD300 1 1 with time := 1000 }; let d := { d with cmp := { d.cmp with timer := some 900 } }
  d.cmp.timer == some 900 && d.obj 0xD300 1 == 1 && decide (900 ≤ d.time)) = true := by decide +kernel
theorem test_sync_io_ready : ((dev0 id).setObj 0xD300 1 2).obj 0xD300 1 = 2 := by decide +kernel
theorem test_snap_tick_ready : (let d : Dev := ((dev0 id fun d => d.setSset 0 2 set2).setObj 0xA000 8 1000000).setObj 0xA000 0x0A 2 |>.setObj 0xA000 9 0; let d := { d with time := 1000, cmp := { d.cmp with timer := some 900 } }
  d.obj 0xA000 8 != 0 && !(d.cmp.snaps.any fun s => s.tag.isNone && s.svc.isNone) && d.sset (d.obj 0xA000 9) (d.obj 0xA000 0x0A) == some set2 && !(d.snapBusy (d.obj 0xA000 9) 2) && decide (900 ≤ d.time)) = true := by
  decide +kernel
theorem test_ticked_ready : [(false, false), (true, false), (true, true)].all (fun p =>
  let l : ListRun := { addr := 0, count := 1, repeats := 0, cadence := true, reports := 0, depth := 0, ready := p.1, tick := p.2 }
  l.cadence && !l.stop && (l.ticked.2 == p.2)) = true := by decide +kernel

/-- A quiet core before an accepted PASS. -/
def quietDev : Dev := (running (theOrder sPass c0).word fun x => { withSets cE4M3 x with quiet := true, powerGated := true, wait := some { tag := ⟨c0, 0, 0, 0, 0, 0x02, 0⟩, word := 0, gated := true } }).dev
theorem test_tide_request_ready : (let x := quietDev.core c0; x.rowReady && quietDev.quiet c0 && !x.asking) = true := by decide +kernel
def tideDev (asks : Bool) : Dev := { quietDev with cmp := { quietDev.cmp with tides := [(0, { start := 0 })], cores := [(0, { quietDev.core c0 with asking := asks })] }, time := 500 }
theorem test_tide_wave_ready : ((tideDev true).askers 0 != [] && (tideDev false).askers 0 == [] && (tblFind (tideDev true).cmp.tides 0).isSome) = true := by decide +kernel
theorem test_gates_ready : (let d : Dev := { time := 20000 }
  d.arraysIdle c0 (fun t => decide (20000 ≤ t)) && d.vectorIdle c0 (fun t => decide (16 * 1000 ≤ t * d.mhz))) = true := by decide +kernel

/-! ### Manifest requests (b03) -/

/-- The conditions of Checked, decided. -/
def checkedB (s : State) (q : ManifestReq) (row : ManifestRow) : Bool :=
  s.dev.rowOf q == row && q.ianaOk && s.dev.answers q && !(s.dev.noRoom q.kcl q.eid) && !(s.dev.behindSlow q)
def passesB (s : State) (q : ManifestReq) (row : ManifestRow) : Bool := checkedB s q row && (Dev.check s.fuses (s.opened q) q).1 == rcOK
def failsB (s : State) (q : ManifestReq) (row : ManifestRow) : Bool := checkedB s q row && (Dev.check s.fuses (s.opened q) q).1 != rcOK
/-- The object a request names. -/
def objOf (s : State) (q : ManifestReq) : ObjRow := (Dev.check s.fuses (s.opened q) q).2.2

theorem checked_of {s : State} {q : ManifestReq} {row : ManifestRow} (h : checkedB s q row = true) :
    Checked s q row (Dev.check s.fuses (s.opened q) q).1 (Dev.check s.fuses (s.opened q) q).2.1 (objOf s q) := by
  simp only [checkedB, Bool.and_eq_true, beq_iff_eq, Bool.not_eq_true'] at h
  exact ⟨h.1.1.1.1, h.1.1.1.2, h.1.1.2, h.1.2, h.2, rfl⟩
theorem passes_of {s : State} {q : ManifestReq} {row : ManifestRow} (h : passesB s q row = true) : Passes s q row (objOf s q) := by
  simp only [passesB, Bool.and_eq_true, beq_iff_eq] at h
  have := checked_of h.1
  rw [h.2] at this
  exact ⟨_, this⟩

def rd (idx sub : Nat) (kcl : Bool := true) : ManifestReq := { kcl := kcl, op := 1, index := idx, sub := sub }
def wr (idx sub n v : Nat) (kcl : Bool := true) : ManifestReq := { kcl := kcl, op := 2, index := idx, sub := sub, length := n, data := natLe n v }
/-- A module with context 0 and barriers, and with region 0. -/
def sMan : State := { dev := withRegion (dev0 id) }
/-- A module of an owner, whose client on KCL has proved the Owner role, or as it is built, whose client has proved the Vendor role. -/
def sOwner : State := { fuses := { lcState := 2 }, dev := { sMan.dev with sec := { conns := [{ kcl := true, eid := 8, owner := some 1000 }] } } }
def sVendor : State := { fuses := { lcState := 3 }, dev := { sec := { conns := [{ kcl := true, eid := 8, vendor := some 1000 }] } } }

theorem test_read_passes : (passesB sMan (rd 0x2000 5) .read && passesB sMan (rd 0x2000 0) .read && passesB sMan (rd 0x4000 2) .read && !(vendorIdx 0x2000)) = true := by decide +kernel
theorem test_alert_cause_passes : passesB sMan (rd 0x4000 6 false) .alertCause = true := by decide +kernel
theorem test_describe_passes : passesB sMan { rd 0x2000 5 with op := 3 } .describe = true := by decide +kernel
theorem test_write_passes : (let q := wr 0x3000 0x0B 1 5; let r := objOf sMan q; let vs := reqValues r q.data
  passesB sMan q .write && !(Dev.ownDenied sMan.fuses (sMan.opened q) q (vs.headD 0)) && !((sMan.opened q).ownState q.index q.sub) && !(vs.any (outside r)) &&
  !((sMan.opened q).ownRange q.index q.sub (vs.headD 0))) = true := by decide +kernel
theorem test_close_passes : (let q : ManifestReq := { op := 4 }; q.ianaOk && sMan.dev.answers q && !(sMan.dev.noRoom q.kcl q.eid) && !(sMan.dev.behindSlow q) && !(badHeader q) && lcPasses sMan.fuses q && !(sMan.dev.starting q)) = true := by decide +kernel

/-- One request of each row that the common checks refuse, for its reserved byte. -/
def refusals : List (ManifestReq × ManifestRow) :=
  [(rd 0x2000 5, .read), ({ rd 0x2000 5 with op := 3 }, .describe), (wr 0x3000 0x0B 1 5, .write), (wr 0x7300 7 1 1, .rangeClear), (wr 0x7400 7 1 1, .accClear), (wr 0xD300 1 1 1, .cadenceSource),
   (wr 0xA000 8 8 0, .snapPeriod), (wr 0x8210 1 1 0, .ioTugUse), (wr 0x3010 3 1 0, .portUse), (wr 0x8320 1 1 0, .retainUse), (wr 0x3000 1 1 0, .berthPlan), (wr 0xA600 1 1 0, .evalSlot),
   (wr 0x2000 2 1 0, .classConfirm), (wr 0x2000 5 4 0, .powerCap), (wr 0xD100 7 1 0, .ringState), (wr 0x8400 5 1 1, .regionEnable), (wr 0x8400 5 1 0, .regionDisable), (wr 0x8400 4 1 8, .regionFrozen),
   (wr 0x4010 8 1 1, .ackClass), (wr 0x4010 9 1 1, .classClear), (wr 0xB000 5 8 0, .calendar), (wr 0x5000 4 1 1, .fwStage), (wr 0x5000 4 1 2, .discard), (wr 0x5000 6 2 0, .activate),
   (wr 0x6000 0x0D 1 0, .raiseFloor), (wr 0x2000 0x26 1 1, .resetFunction), (wr 0x2000 0x26 1 2, .resetWarm), (wr 0x2000 0x21 1 0, .psRun), (wr 0x2000 0x21 1 2, .psSleep),
   (wr 0x2000 0x21 1 3, .psDeep), (wr 0x2000 0x21 1 4, .psOff), (wr 0xF000 1 1 0, .vendor)]
theorem test_refusals : refusals.all (fun p => failsB sMan { p.1 with reserved := 1 } p.2) = true := by decide +kernel

theorem test_counters_clear_passes : (passesB sMan (wr 0x7300 7 1 1) .rangeClear && !(outside (objOf sMan (wr 0x7300 7 1 1)) 1) &&
  passesB sMan (wr 0x7400 7 1 1) .accClear && !(outside (objOf sMan (wr 0x7400 7 1 1)) 1)) = true := by decide +kernel
theorem test_cadence_passes : ([1, 2].all fun v => let q := wr 0xD300 1 1 v
  passesB sMan q .cadenceSource && !(outside (objOf sMan q) v) && v != (sMan.opened q).obj 0xD300 1 && (sMan.opened q).obj 0xA000 8 == 0 && (sMan.opened q).syncHolder.isNone) = true := by decide +kernel
theorem test_snap_period_passes : (let q := wr 0xA000 8 8 1000000
  passesB sMan q .snapPeriod && reqValue q == 1000000 && (sMan.opened q).obj 0xA000 8 == 0 && (sMan.opened q).obj 0xD300 1 != 1) = true := by decide +kernel
theorem test_io_tug_passes : (let q := wr 0x8210 1 1 0; let d := sMan.opened q
  passesB sMan q .ioTugUse && !(outside (objOf sMan q) 0) && !(d.ioWork (d.obj 0x8210 1)) && d.obj 0x8210 1 == 3 && ((List.range 8).filter fun t => d.obj (0x8210 + t) 1 == 3).length != 1) = true := by
  decide +kernel
theorem test_port_use_passes : (let q := wr 0x3010 3 1 1; passesB sMan q .portUse && !(outside (objOf sMan q) 1) && (sMan.opened q).obj 0x3010 3 == 0) = true := by decide +kernel
theorem test_retain_use_passes : (let q := wr 0x8320 1 1 2; passesB sMan q .retainUse && !(outside (objOf sMan q) 2) && (sMan.opened q).obj 0x8320 1 == 0) = true := by decide +kernel
theorem test_eval_slot_passes : ([10, 0xFF, 3].all fun v => let s : State := { sMan with dev := sMan.dev.setObj 0xA600 1 (if v = 10 then 0xFF else 10) }; let q := wr 0xA600 1 1 v; let d := s.opened q
  passesB s q .evalSlot && !(d.slotBusy 0) && v != d.evalSlot 0 && (v != 10 || (d.freeSpare 0).isSome) && (9 < v || (d.coreUser 0 v).isNone)) = true := by decide +kernel

theorem test_class_confirm_passes : (let q := wr 0x2000 2 1 2 false; let s : State := { dev := { pwr := { strapClass := 2 } } }
  passesB s q .classConfirm && reqValue q == (s.opened q).pwr.strapClass && s.dev.pwr.strapClass == 2) = true := by decide +kernel
theorem test_power_cap_passes : (let q := wr 0x2000 5 4 900 false
  passesB sMan q .powerCap && decide (450 ≤ reqValue q) && decide (reqValue q ≤ (sMan.opened q).classLimit)) = true := by decide +kernel
/-- Ring 1 set up and not registered, or registered, or overrun. -/
def ringDev (st_ : Nat) : State :=
  { dev := ((((({} : Dev).setObj 0xD101 1 0x100000).setObj 0xD101 2 64).setObj 0xD101 3 0x200000).setObj 0xD101 4 64).setRing 1 st_ }
theorem test_ring_state_passes : ([(1, 0), (1, 2), (0, 1)].all fun p => let q := wr 0xD101 7 1 p.1; let s := ringDev p.2; let d := s.opened q
  passesB s q .ringState && !(outside (objOf s q) p.1) && d.ringState 1 == p.2 && (d.ctx 1).state == 0 && d.sqBase 1 != 0 && d.sqDepth 1 != 0 && d.cqBase 1 != 0 && d.cqDepth 1 != 0) = true := by
  decide +kernel
def sOff : State := { sMan with dev := { sMan.dev with regions := [(0, { base := 0x200000, size := 0x400000, owner := 0 })] } }
theorem test_region_enable_passes : (let q := wr 0x8400 5 1 1; let d := sOff.opened q; let x := d.region 0
  passesB sOff q .regionEnable && !x.enabled && x.filling.isNone && !(d.regions.any (fillsOver x)) && (d.ctx x.owner).state != 0 && d.onePart x.base x.size &&
  (d.regions.find? fun p => p.2.enabled && spansMeet x.base x.size p.2.base p.2.size).isNone) = true := by decide +kernel
theorem test_region_disable_passes : (let q := wr 0x8400 5 1 0; let d := sMan.opened q
  passesB sMan q .regionDisable && (d.region 0).enabled && field (d.region 0).attr 2 1 == 0) = true := by decide +kernel
theorem test_region_fill_ready : (let d : Dev := { regions := [(0, { base := 0x200000, size := 0x200000, filling := some (0x200000, 0x200000) })] }
  (d.region 0).filling.isSome && d.powered) = true := by decide +kernel
theorem test_region_frozen_passes : (let q := wr 0x8400 4 1 8; let d := sMan.opened q
  passesB sMan q .regionFrozen && !(Dev.ownDenied sMan.fuses d q 8) && (d.region 0).attr == 0 && !(attrFrozen (d.region 0).attr) && !(d.linesOut (d.region 0))) = true := by decide +kernel
/-- The companion owns a line of the region: freezing it waits for the line. -/
def sFreezing : State := { sMan with dev := { sMan.dev with host := { sMan.dev.host with linkUp := true, snoop := [((sMan.dev.region 0).base / 64, .owned)] } } }
theorem test_region_frozen_waits : (let q := wr 0x8400 4 1 8; let d := sFreezing.opened q
  passesB sFreezing q .regionFrozen && !(Dev.ownDenied sFreezing.fuses d q 8) && (d.region 0).attr == 0 && d.linesOut (d.region 0)) = true := by decide +kernel
theorem test_ack_passes : (let q := wr 0x4010 8 1 1; passesB sMan q .ackClass && !(outside (objOf sMan q) 1) && reqValue q == 1) = true := by decide +kernel
theorem test_clear_passes : ([true, false].all fun b => let s : State := { dev := { faults := [(0, { isOpen := b, level := 1 })] } }; let q := wr 0x4010 9 1 1; let d := s.opened q
  passesB s q .classClear && !(outside (objOf s q) 1) && !(d.classPresent 0) && !d.quarantined && (d.fclass 0).isOpen == b) = true := by decide +kernel
theorem test_calendar_passes : (let q := wr 0xB000 5 8 1000 false; passesB sMan q .calendar && !((sMan.opened q).hasMaster)) = true := by decide +kernel
theorem test_berth_plan_passes : (let q : ManifestReq := { wr 0x3000 1 0 0 with length := sMan.dev.plan.length, data := sMan.dev.plan }; let d := sMan.opened q
  passesB sMan q .berthPlan && planBasinId d.plan == planBasinId q.data && planBasin d.plan == planBasin q.data && (d.planChanges q.data) == [] && planFine q.data d.mid) = true := by decide +kernel

/-! ### Life cycle, power states and starts (b04) -/

theorem test_stage_passes : (passesB sMan (wr 0x5000 4 1 1) .fwStage && (sMan.opened (wr 0x5000 4 1 1)).obj 0x5000 5 != 1 && passesB sMan (wr 0x5000 4 1 2) .discard) = true := by decide +kernel
theorem test_activate_passes : (passesB sMan (wr 0x5000 6 2 1) .activate && !(outside (objOf sMan (wr 0x5000 6 2 1)) 1)) = true := by decide +kernel
theorem test_raise_floor_passes : (let s : State := { sOwner with dev := { sOwner.dev with fw := (List.range 15).map fun k => (k, { image := { bundle := 5 } }) } }; let q := wr 0x6000 0x0D 2 3
  passesB s q .raiseFloor && Dev.floorOk s.fuses (s.opened q) 3 && !(outside (objOf s q) 3)) = true := by decide +kernel
theorem test_role_proof_passes : (let q : ManifestReq := { wr 0x6000 9 136 1 with op := 2 }; let v : ManifestReq := wr 0x6000 9 136 3
  passesB { fuses := { lcState := 2 } } q .roleProof && leNat (q.data.take 1) == 1 && leNat (slice q.data 1 3) == 0 && passesB sMan v .roleProof && leNat (v.data.take 1) == 3 && sMan.fuses.lcState != 2 && sMan.fuses.lcState != 4 &&
  ((sMan.opened v).noteUnchecked 1).certCurrent Config.serviceFrom Config.serviceTo) = true := by decide +kernel
theorem test_auth_nonce_ready : (let d : Dev := { time := 60000000000 }; d.powered && decide (d.sec.nonceAt + 60000000000 ≤ d.time)) = true := by decide +kernel

theorem slice_length (bs : List Byte) (a n : Nat) : (slice bs a n).length = n := by
  simp only [slice, List.length_append, List.length_replicate, List.length_take, List.length_drop]; omega
/-- An LC_REQUEST from PROVISIONED to RETIRED over the AUTH_NONCE in force. -/
def lcQ : ManifestReq := { kcl := true, op := 2, index := 0x6000, sub := 8, length := 336, data := [4#8, 0#8, 0#8, 0#8] ++ (slice (Config.freeBytes 0) 0 64 ++ List.replicate 268 0#8) }
theorem lcQ_length : lcQ.data.length = 336 := by
  have h := slice_length (Config.freeBytes 0) 0 64
  generalize hx : slice (Config.freeBytes 0) 0 64 = x at h
  rw [show lcQ.data = [4#8, 0#8, 0#8, 0#8] ++ (x ++ List.replicate 268 0#8) from by rw [← hx]; rfl, List.length_append, List.length_append, List.length_replicate, h]; rfl
theorem lcQ_nonce : slice lcQ.data 4 64 = slice (Config.freeBytes 0) 0 64 := by
  have h := slice_length (Config.freeBytes 0) 0 64
  generalize hx : slice (Config.freeBytes 0) 0 64 = x at h
  have e : lcQ.data = [4#8, 0#8, 0#8, 0#8] ++ (x ++ List.replicate 268 0#8) := by rw [← hx]; rfl
  rw [e]
  simp only [slice]
  rw [show ([4#8, 0#8, 0#8, 0#8] ++ (x ++ List.replicate 268 0#8)).drop 4 = x ++ List.replicate 268 0#8 from rfl]
  rw [List.take_left' h]; simp [h]
theorem lcQ_zeros (a n : Nat) (h : 68 ≤ a) : leNat (slice lcQ.data a n) = 0 := by
  have h6 := slice_length (Config.freeBytes 0) 0 64
  generalize hx : slice (Config.freeBytes 0) 0 64 = x at h6
  have e : lcQ.data = [4#8, 0#8, 0#8, 0#8] ++ (x ++ List.replicate 268 0#8) := by rw [← hx]; rfl
  have z : ∀ m, leNat (List.replicate m 0#8) = 0 := by
    intro m; induction m with
    | zero => rfl
    | succ m ih => simp [List.replicate_succ, leNat, ih]
  have hd : lcQ.data.drop a = List.replicate (336 - a) 0#8 := by
    rw [e, List.drop_append, List.drop_append, List.drop_of_length_le (by simp; omega), List.drop_of_length_le (by simp [h6]; omega), List.drop_replicate]
    simp [h6]; omega
  simp only [slice, hd, List.take_replicate, List.length_replicate, List.replicate_append_replicate, z]
theorem test_lc_request_accepted : Dev.lcReply sVendor.fuses (sVendor.opened lcQ) lcQ true = rcOK := by
  have h1 : leNat (slice lcQ.data 1 3) = 0 := by decide +kernel
  have h2 : leNat (lcQ.data.take 1) = 4 := by decide +kernel
  have h3 : slice (Config.freeBytes (sVendor.opened lcQ).sec.nonceDraw) 0 64 = slice (Config.freeBytes 0) 0 64 := by rw [show (sVendor.opened lcQ).sec.nonceDraw = 0 from by decide +kernel]
  have hb : Dev.lcBefore sVendor.fuses (sVendor.opened lcQ) lcQ = rcOK := by
    simp only [Dev.lcBefore, h1, h2, h3, lcQ_nonce, lcQ_zeros 201 3 (by omega), lcQ_zeros 68 133 (by omega), ne_eq, not_true_eq_false, false_or]
    decide +kernel
  have hc : (sVendor.opened lcQ).obj 0xB000 6 = 0 := by decide +kernel
  simp [Dev.lcReply, hb, Dev.certCurrent, hc]
theorem test_lc_request_passes : passesB sVendor lcQ .lcRequest = true := by
  have h0 : checkedB sVendor lcQ .lcRequest = true := by simp only [checkedB, Dev.answers, lcQ_length]; decide +kernel
  have hb : badHeader lcQ = false := by simp only [badHeader, lcQ_length]; decide +kernel
  simp only [passesB, h0, Dev.check, hb]
  decide +kernel

/-- A module in one of the power states. -/
def inState (k : Nat) : Dev := { pwr := { offKind := k, sleptAt := 0, resetLow := k == 7 }, time := 10 }
theorem test_requested_resets_pass : (passesB sMan (wr 0x2000 0x26 1 1) .resetFunction && passesB sMan (wr 0x2000 0x26 1 2) .resetWarm && passesB sVendor (wr 0xF000 1 1 0) .vendor) = true := by
  decide +kernel
theorem test_entries_pass : (let s : State := {}; let f := fun v => s.opened (wr 0x2000 0x21 1 v)
  passesB s (wr 0x2000 0x21 1 2) .psSleep && (f 2).entryClear [1, 3, 6] true && passesB s (wr 0x2000 0x21 1 3) .psDeep && (f 3).entryClear (if (f 3).obj 0x2000 0x22 = 1 then [6] else []) false &&
  passesB s (wr 0x2000 0x21 1 4) .psOff && (f 4).entryClear [] false && passesB { dev := inState 2 } (wr 0x2000 0x21 1 0 false) .psRun) = true := by decide +kernel
theorem test_idle_ready : (let d : Dev := { pwr := { idleSince := some 0 }, time := 1000000000 }; d.noteIdle.pwr.idleSince == some 0 &&
  decide (0 + d.noteIdle.obj 0x2000 0x25 * 1000 ≤ d.noteIdle.time)) = true := by decide +kernel
theorem test_wakes_ready : ([2, 3].all fun k => let d := (inState k).setObj 0x2000 0x23 5; d.obj 0x2000 0x23 != 0 && decide (d.pwr.sleptAt + d.obj 0x2000 0x23 ≤ d.time) && d.pwr.offKind == k) = true := by decide +kernel
theorem test_reset_pin_ready : ([0, 2, 8, 9].all fun k => !(inState k).pwr.resetLow && (inState k).pwr.refclk) = true := by decide +kernel
theorem test_starts_ready : ([4, 6, 7, 8].all fun k => (inState k).pwr.offKind == k && (k == 7 || !(inState k).pwr.resetLow)) = true := by decide +kernel

/-! ### Messages, power and heat (b05) -/

def mm (kcl : Bool) (bs : List Nat) : MctpMsg := { kcl := kcl, data := bs.map byteOf }
def controlB (m : MctpMsg) (cmd n : Nat) : Bool := (Dev.mctpTakes {} m) && msgAsks m && msgByte m 1 == cmd && decide (2 + n ≤ m.data.length)
theorem test_control_asked : ([false, true].all fun k =>
  controlB (mm k [0x80, 1, 0, 9]) 1 2 && decide (8 ≤ msgByte (mm k [0x80, 1, 0, 9]) 3) && controlB (mm k [0x81, 2]) 2 0 && controlB (mm k [0x80, 4, 0xFF]) 4 1 && controlB (mm k [0x80, 4, 0]) 4 1 &&
  controlB (mm k [0x80, 5]) 5 0 && controlB (mm k [0x80, 6, 0]) 6 1 && msgByte (mm k [0x80, 6, 0]) 2 == 0) = true := by decide +kernel
def pldmB (m : MctpMsg) (typ cmd n : Nat) : Bool := (Dev.mctpTakes {} m) && msgAsks m && msgByte m 1 % 64 == typ && msgByte m 2 == cmd && decide (3 + n ≤ m.data.length)
theorem test_pldm_asked : ([false, true].all fun k =>
  pldmB (mm k [0x80, 0, 2]) 0 2 0 && pldmB (mm k [0x80, 0, 4]) 0 4 0 && pldmB (mm k [0x80, 0, 3, 0, 0, 0, 0, 0, 2]) 0 3 6 && msgByte (mm k [0x80, 0, 3, 0, 0, 0, 0, 0, 2]) 8 == 2 &&
  ([0, 2].all fun t => pldmB (mm k [0x80, 0, 5, t, 0, 0, 0, 0]) 0 5 5 && msgByte (mm k [0x80, 0, 5, t, 0, 0, 0, 0]) 3 == t) && pldmB (mm k ([0x80, 2, 0x51] ++ List.replicate 13 0)) 2 0x51 13 &&
  pldmB (mm k [0x80, 2, 0x11, 1, 0, 0]) 2 0x11 3 && (Dev.sensorReading {} {} (msgNum (mm k [0x80, 2, 0x11, 1, 0, 0]) 3 2)).isSome) = true := by decide +kernel

def spdmDev : Dev := { sec := { spdm := [(8, 3)] } }
def spdmB (m : MctpMsg) (code need : Nat) : Bool := (spdmDev.mctpTakes m) && decide (4 ≤ m.data.length) && msgByte m 1 == code && !(spdmDev.restarting 0) && msgByte m 0 == 0x13 &&
  decide (need ≤ tblGet 0 (spdmDev.bump 0x6000 0x14 1).sec.spdm (msgFrom m))
theorem test_spdm_asked : (([(0xE1, 1), (0xE3, 2), (0x81, 3), (0x82, 3), (0x83, 3), (0xE0, 3)].all fun p => spdmB (mm false ([0x13, p.1, 0, 0] ++ List.replicate 60 0)) p.1 p.2) && attests {} &&
  (let m := mm false ([0x13, 0xE3, 0, 0, 0, 0, 1, 0, 0, 1, 0, 0, 4, 0, 0, 0] ++ List.replicate 60 0); spdmB m 0xE3 2 && bit (msgNum m 8 4) 8 && bit (msgNum m 12 4) 2 && bit (msgByte m 6) 0) &&
  (let m := mm false [0x10, 0x84, 0, 0]; msgByte m 1 == 0x84 && spdmDev.mctpTakes m)) = true := by decide +kernel
theorem test_certificate_portion : msgNum (mm false [0x13, 0x82, 0, 0, 0, 0, 0xFF, 0xFF]) 4 2 < (Dev.certChain {} spdmDev).length := by
  have h : msgNum (mm false [0x13, 0x82, 0, 0, 0, 0, 0xFF, 0xFF]) 4 2 = 0 := by decide +kernel
  rw [h]; simp [Dev.certChain, natLe]
theorem test_no_attestation : ([0, 4].all fun l => !(attests { lcState := l, uds := false })) = true := by decide +kernel

/-- A module whose 100-µs period is due. -/
def warm : Dev := { time := 1000000000000, pwr := { onNs := 90000000000000 } }
theorem test_governor_due : (let d := warm; !(d.restarting 1) && decide (d.pwr.governedAt + 100000 ≤ d.time) && !d.pwr.throttleLow) = true := by decide +kernel
theorem test_limits_ready : (let d := warm.setObj 0x2000 0x0B 16; decide (11 * (d.powerCap * 1000) < 10 * (d.powerCap * 2000)) && decide (1 < d.obj 0x2000 0x0B)) = true := by decide +kernel
theorem test_cap_unattainable_ready : (let d := ({ warm with pwr := { warm.pwr with overSince := some 0 } } : Dev).setObj 0x2000 8 7 |>.setObj 0x2000 0x0B 1
  d.pwr.overSince == some 0 && d.obj 0x2000 8 == 7 && d.obj 0x2000 0x0B == 1 && decide (0 + 100000000 ≤ d.time) && d.obj 0x2000 0x0C == 0) = true := by decide +kernel
theorem test_throttle_ready : (!warm.pwr.throttleLow && warm.powered && warm.pwr.offKind == 0) = true := by decide +kernel
theorem test_e2_end_ready : (let d : Dev := { warm with pwr := { warm.pwr with e2 := true, e2Gone := some 0 } }; d.pwr.e2 && !(d.junctionAt (celsius 105)) && decide (0 + 1000000 ≤ d.time)) = true := by decide +kernel
theorem test_droop_ready : ((((tblGet [] warm.pwr.droops 3).filter fun t => decide (warm.time < t + 1000000)) ++ [warm.time]).length ≤ 1000) := by decide +kernel
theorem test_trim_ready : (let w : Dev := { warm with pwr := { warm.pwr with trimAt := [(3, 90000000000000 - 1)], trimWaiting := [0] } }
  w.trimFree 0 && !(w.trimFree 3) && w.pwr.trimWaiting.contains 0) = true := by decide +kernel
theorem test_sensors_ready : ([(false, 67), (true, 31)].all fun p => warm.powered && !(warm.junctionAt (celsius 105)) && decide (celsius 94 < celsius 95) && decide (celsius 95 ≤ celsius 95) &&
  decide (tblGet 200 (if p.1 then warm.pwr.stackTemps else warm.pwr.temps) p.2 < celsius 95) && decide ((if p.1 then celsius 105 else celsius 115) ≤ celsius 115)) = true := by decide +kernel
theorem test_page_ready : ((warm.pwr.pageHour + 1) * 3600000000000 ≤ warm.pwr.onNs) := by decide +kernel

/-! ### Failures and firmware (b06) -/

theorem test_row_check_ready : ([some 999999999999, some 0, none].all fun t => let d : Dev := match t with | some v => warm.setPhysCore 0 0 { checks := [(255, v)] } | none => warm
  let x := d.physCore 0 0
  c0.exists && d.realCore c0 == c0 && d.phys c0 == 0 && !(x.failed.contains 255) && !(bit x.arraysOff 0) && !(d.cmp.heldFaults.contains (c0.key, some (0, 255))) && tblFind x.checks 255 == t && !(d.restarting 3) &&
  (match t with | some 0 => decide (0 + 1000000000 < d.time) | some v => decide (d.time ≤ v + 1000000000) | none => true)) = true := by decide +kernel
theorem test_row_test_ready : (let x := warm.physCore 0 11; !(warm.inUseCore 0 11) && !(warm.lentCore 0 11) && x.tested.isNone && warm.logicalOf 0 11 == 15 &&
  !((Dev.physCore (warm.setPhysCore 0 11 { x with tested := some warm.pwr.onNs }) 0 11).failed.contains (3 * 512 + 259))) = true := by decide +kernel
theorem test_spare_switch_ready : (let d := warm.setPhysCore 0 0 { arraysOff := 1 }; d.realCore c0 == c0 && d.phys c0 == 0 && (d.physCore 0 0).arraysOff == 1 && !(d.restarting 3) && !d.safe &&
  d.cmp.heldFaults == [] && (d.freeSpare 0).isSome && ((d.disableCore 0 (d.phys c0)).freeSpare 0).isSome && (d.core c0).list.isNone && !((d.fault 0x0104 none (d.coreDetail c0)).restarting 3)) = true := by decide +kernel
theorem test_patrol_ready : ([0, 2 ^ 36 - 64].any fun a => (warm.place a).1 == .hbm && (warm.stackOf a).1 == 0) = true := by decide +kernel
theorem test_decode_ready : (warm.obj 0x8300 3 == 0xFF && ([([] : List Nat), [4], [4, 4, 4], [4, 4, 9], [4, 9, 9]].map fun l =>
    let e : LineErrors := { count := l.length, dies := l, missed := if l == [4, 4, 9] then some (4, [7#8]) else none }
    (e.count, e.dies.eraseDups.length, e.missed.isSome)) == [(0, 0, false), (1, 1, false), (3, 1, false), (3, 2, true), (3, 2, false)]) = true := by decide +kernel
theorem test_sram_ready : ((warm.place 0x050000001000).1 == .hold c0 && (warm.place (quayBase 3)).1 == .quay 3 && warm.pwr.offKind == 0 &&
  [true, false].all fun b => ({ double := b } : LineErrors).spare.isNone) = true := by decide +kernel
theorem test_watchdog_ready : (let d := (warm.coreRestarts 14).fault 0x0501 none (fwDetail 14); !(warm.restarting 14) && (d.fwCore 14).activatedAt == none) = true := by decide +kernel
theorem test_restart_ready : ([1, 2].all fun a => let d := warm.setFw 1 { warm.fwCore 1 with activation := a, restarting := true }
  (d.fwCore 1).restarting && !(d.fwCore 1).stopped && (d.fwCore 1).activation == a && decide ((d.fwCore 1).since + 250000000 ≤ d.time)) = true := by decide +kernel
theorem test_e0_ready : (warm.emergency = 0 ∧ warm.pwr.e0Since + 1000000000 ≤ warm.time) := by decide +kernel

/-! ### The host (b07) -/

def linkB (d : Dev) : Bool := d.host.linkUp && d.obj 0x2000 0x28 == 8 && d.pwr.offKind == 0 && !d.host.retraining && d.host.held == [] && !d.safe
theorem linkServes_of {d : Dev} (h : linkB d = true) : LinkServes d := by
  simp only [linkB, Bool.and_eq_true, beq_iff_eq, Bool.not_eq_true'] at h
  exact ⟨h.1.1.1.1.1, h.1.1.1.1.2, h.1.1.1.2, h.1.1.2, h.1.2, h.2⟩
/-- A module with one region, served by its link, its snoop filter sized as at reset. -/
def sLink (f : Dev → Dev := id) : State := { dev := f (withRegion {}) }
theorem test_companion_reads_ready : ([0x200000, 0x5FFFC0].all fun a => let d := (sLink).dev; let e := d.flitIn
  linkB d && (e.access .companion false a 64).isNone && (e.access .companion true a 64).isNone && !(tblFind e.host.snoop (e.canon a / 64) == some .owned) &&
  !(tblFind e.host.snoop (e.canon a / 64) == some .recalled) && (e.record (e.canon a / 64) .shared).2 && (e.record (e.canon a / 64) .owned).2 && (e.access .companion false (a + 63) 1).isNone) = true := by decide +kernel
/-- A filter of no lines more than the one that is being recalled. -/
theorem test_companion_waits_ready : (let s := sLink fun d => { d.setObj 0x8000 6 0 with host := { d.host with snoop := [(9, .recalled)] } }; let e := s.dev.flitIn
  linkB s.dev && (e.access .companion false 0x200000 64).isNone && (tblFind e.host.snoop (e.canon 0x200000 / 64)).isNone && !(e.record (e.canon 0x200000 / 64) .shared).2) = true := by decide +kernel
theorem test_companion_refused_ready : (linkB (sLink).dev && (sLink).dev.flitIn.access .companion false 0 1 == some stAddress) = true := by decide +kernel
theorem test_companion_writes_ready : (let e := (sLink).dev.flitIn; ((e.place 0x200000).1 != .control) && !(e.pinned 0x200000 64) &&
  ([4, 8].all fun n => (e.access .companion true (0x200000 + n) n).isNone && !(e.pinned (0x200000 + n) n) && leNat (e.read (0x200000 + n) n) == 0)) = true := by decide +kernel
theorem test_writeback_ready : (let s := sLink fun d => { d with host := { d.host with snoop := [(0x8000, .owned)] } }; let e := s.dev.flitIn
  linkB s.dev && tblFind e.host.snoop (e.canon 0x200000 / 64) == some .owned && !(e.pinned 0x200000 64)) = true := by decide +kernel
theorem test_lanes_ready : ((lanesInUse []).contains 31 && lanesInUse ([] ++ [31]) != [] && (lanesInUse [31]).contains 0 && lanesInUse ([31] ++ [0]) != []) = true := by decide +kernel

def ringed (st_ : Nat) : State := sLink fun d => { (((d.setObj 0xD101 2 64).setObj 0xD101 4 64).setRing 1 st_) with time := 5 }
theorem test_doorbells_ready : ([1, 3].all fun k => let e := (ringed k).dev.flitIn.leaveIdle; linkB (ringed k).dev && e.ringState 1 == k &&
  decide ((64 + 2 ^ 32 - e.sqHead 1) % 2 ^ 32 ≤ e.sqDepth 1) && decide (e.sqDepth 1 < (65 + 2 ^ 32 - e.sqHead 1) % 2 ^ 32)) = true := by decide +kernel
def sSvc : State := sLink fun d => (d.setObj 0xC000 2 16).setObj 0xC000 4 16
theorem test_service_page_ready : (let d := sSvc.dev.flitIn.leaveIdle; linkB sSvc.dev && d.svcDepth == 16 && d.svcCqDepth == 16 && !d.host.svcOver &&
  decide ((16 + 2 ^ 32 - d.svcHead) % 2 ^ 32 ≤ d.svcDepth) && decide (d.svcDepth < (17 + 2 ^ 32 - d.svcHead) % 2 ^ 32)) = true := by decide +kernel
def sTok (k : Nat) (cs : Tbl Ctx) : State := sLink fun d => { d.setObj 0xD000 9 k with host := { d.host with token := some 7 }, ctxs := cs }
theorem test_session_ready : ((sLink).dev.flitIn.host.token.isNone && linkB (sTok 0 []).dev && linkB (sTok 2 []).dev && (sTok 2 []).dev.flitIn.hostState == 2 && !((sTok 2 []).dev.flitIn.restarting 2) &&
  (sTok 0 []).dev.flitIn.sessionCtxs == [] && (sTok 0 [(3, { state := 4 })]).dev.flitIn.sessionCtxs == [3] && (sTok 0 []).dev.flitIn.host.token == some (7 % 2 ^ 64)) = true := by
  decide +kernel

theorem test_host_loss_ready : (let d : Dev := { time := 10 ^ 12 }; !(d.restarting 2) && decide (d.host.lastBeat + d.obj 0xD000 0x0A * 1000000 ≤ d.time)) = true := by decide +kernel
theorem test_park_ready : (let d := ({ ctxs := [(0, { state := 4, cores := [0] }), (1, { state := 5 })] } : Dev).setObj 0xD000 9 1
  d.hostState == 1 && d.schReady && (d.ctx 1).state == 5 && (d.ctx 0).state == 4 && d.atBarriers 0 && d.canSave 0) = true := by decide +kernel
theorem test_drain_limit_ready : (let d := ({ time := 10 ^ 15, host := { lossAt := some 0, restAt := some 0 } } : Dev); (d.setObj 0xD000 9 1).hostState == 1 && (d.setObj 0xD000 9 2).hostState == 2 && d.schReady &&
  decide (0 + d.obj 0xD000 0x0B * 1000000 ≤ d.time) && decide (0 + d.obj 0xD000 0x0C * 1000000000 ≤ d.time)) = true := by decide +kernel
theorem test_status_ready : (let d : Dev := { time := 10 ^ 9, net := { statusKind := 3 } }; d.net.statusKind != 0 && decide (d.net.lastStatus + 100000000 ≤ d.time)) = true := by decide +kernel

/-- Context 0 with a service request at 0x300000 and I/O tug 0 for services. -/
def serving (w : Nat) (f : Dev → Dev := id) : State := sLink fun d => f { (((d.setObj 0xC000 1 0x300000).setObj 0xC000 2 16).setObj 0xC000 4 16).setObj 0x8210 1 1 with
  host := { d.host with svcTail := 1 }, ctxs := [(0, { state := 4, cores := [0] })], mem := memWrite [] 0x300000 (natLe 64 w) }
def serviceB (s : State) (w : Nat) : Bool := s.dev.svcRequest == some w && svReserved w && decide (svCtx w < 64) && !((s.dev.svcReads w).any fun r => s.dev.ownedIn r.1 r.2)
theorem serviceAt_of {s : State} {w : Nat} (h : serviceB s w = true) : ServiceAt s.dev w := by
  simp only [serviceB, Bool.and_eq_true, beq_iff_eq, decide_eq_true_eq, Bool.not_eq_true'] at h
  exact ⟨h.1.1.1, h.1.1.2, h.1.2, h.2⟩
def freeB (d : Dev) (ws : List (Nat × Nat)) : Bool := !(ws.any fun r => d.ownedIn r.1 r.2) && !(ws.any fun r => d.pinned r.1 r.2)
theorem writesFree_of {d : Dev} {ws : List (Nat × Nat)} (h : freeB d ws = true) : d.writesFree ws := by simpa [freeB, Dev.writesFree] using h
def svWord (code src dst n stride set_ : Nat) : Nat := code + 5 * 2 ^ 64 + set_ * 2 ^ 128 + stride * 2 ^ 352 + n * 2 ^ 376 + src * 2 ^ 408 + dst * 2 ^ 460
def wCopy : Nat := svWord 2 0x200000 0x400000 4096 0 0
theorem test_copy_ready : (let s := serving wCopy; let d := s.dev.serviceTaken; serviceB s wCopy && freeB s.dev (Dev.copyWrites wCopy s.dev) && svCode wCopy == 2 && svSrc wCopy / 2 ^ 48 == d.midOf 0 && svDst wCopy / 2 ^ 48 == d.midOf 0 &&
  (d.access (.ctx 0) false (svSrc wCopy % 2 ^ 48) (svLen wCopy)).isNone && (d.access (.ctx 0) true (svDst wCopy % 2 ^ 48) (svLen wCopy)).isNone) = true := by decide +kernel
theorem test_unknown_service_ready : (serviceB (serving (svWord 5 0 0 0 0 0)) (svWord 5 0 0 0 0 0) && svCode (svWord 5 0 0 0 0 0) == 5) = true := by decide +kernel
def wJpeg : Nat := svWord 1 0x200000 0x400000 64 8 0
/-- SOI and the frame header of a baseline image of one component, one pixel wide and high. -/
def onePixel : List Byte := [0xFF#8, 0xD8#8, 0xFF#8, 0xC0#8, 0#8, 11#8, 8#8, 0#8, 1#8, 0#8, 1#8, 1#8, 1#8, 0x11#8, 0#8]
theorem test_jpeg_head : (jpegHead onePixel == some { supported := true, width := 1, height := 1, comps := 1 } && jpegHead (onePixel.set 3 0xC2#8) == some {} && jpegHead (onePixel.set 0 0#8) == none) = true := by decide +kernel
theorem test_jpeg_ready : (let s := serving wJpeg fun d => d.write 0x200000 onePixel false; let d := s.dev.serviceTaken; let j : JpegFacts := { planes := [[0x80#8]] }; serviceB s wJpeg && freeB s.dev (Dev.jpegWrites j wJpeg s.dev) && j.intact && svCode wJpeg == 1 && svStride wJpeg % 8 == 0 &&
  (match d.svcSource 0 (svSrc wJpeg) (svLen wJpeg) j.far with
   | .inr x => x.2.2 == d && (match jpegHead x.1 with | some h => h.supported && (Dev.putRows 0 (x.2.1 0 (svLen wJpeg)) j.far.accepted (jpegRows h j (svDst wJpeg) (svStride wJpeg)) d).2 == stOK | none => false)
   | .inl _ => false)) = true := by decide +kernel
def wCheck : Nat := svWord 3 0 0x400000 0 0 2
theorem test_checkpoint_ready : (let s := serving wCheck fun d => d.setSset 0 2 set2; serviceB s wCheck && svCode wCheck == 3 && !(s.dev.snapBusy 0 2) && svSet wCheck == 2 && (s.dev.serviceTaken.sset 0 2).isSome) = true := by
  decide +kernel
def wSubmit : Nat := svWord 4 0x200000 0 0 0 0
theorem test_submit_ready : (let s := serving wSubmit fun d => ((d.setObj 0xD100 1 0x280000).setObj 0xD100 2 64).setRing 0 1; serviceB s wSubmit && freeB s.dev (Dev.submitWrites wSubmit s.dev) && svCode wSubmit == 4 &&
  (match s.dev.serviceTaken.svcSource 0 (svSrc wSubmit) 64 {} with
   | .inr x => let d := x.2.2; d.ringState 0 != 0 && (d.access .firmware true (d.sqBase 0 + 64 * ((d.ctx 0).sqTail % d.sqDepth 0)) 64).isNone
   | .inl _ => false)) = true := by decide +kernel

/-! ### Dockets and scheduling (b08) -/

/-- Context 0 in a state, with a docket at the head of its ring at 0x300000, what it reads at 0x310000, and a region of 16 MB that it owns. -/
def docked (st_ : Nat) (w : Nat) (x : Ctx := {}) (mem : List (Nat × Nat × Nat) := []) (f : Dev → Dev := id) : State :=
  { dev := f { (((({} : Dev).setObj 0xD100 1 0x300000).setObj 0xD100 2 64).setRing 0 1) with
      ctxs := [(0, { x with state := st_, sqTail := 1 })], regions := [(0, { base := 0x200000, size := 0x1000000, owner := 0, enabled := true })],
      mem := (mem ++ [(0x300000, 64, w)]).foldl (fun m (p : Nat × Nat × Nat) => memWrite m p.1 (natLe p.2.1 p.2.2)) [] } }
def docketB (s : State) (w kind : Nat) : Bool :=
  s.dev.headDocket 0 == some w && dkKind w == kind && s.dev.schReady && !(s.dev.ctx 0).seekStart && !((s.dev.docketTaken 0 w).poisonIn (s.dev.headAt 0) 64) && !(dkMalformed w) &&
  dkAccepts kind ((s.dev.docketTaken 0 w).ctx 0).state
theorem docketAt_of {s : State} {w kind : Nat} (h : docketB s w kind = true) : DocketAt s.dev 0 w kind := by
  simp only [docketB, Bool.and_eq_true, beq_iff_eq, Bool.not_eq_true'] at h
  exact ⟨by decide, h.1.1.1.1.1.1, h.1.1.1.1.1.2, h.1.1.1.1.2, h.1.1.1.2, h.1.1.2, h.1.2, h.2⟩
theorem test_dockets_ready : ([(0, 3), (1, 0), (4, 4), (4, 5), (5, 6), (6, 4), (7, 6)].all fun p => docketB (docked p.2 p.1) p.1 p.1) = true := by decide +kernel
theorem test_stop_clauses : ((((docked 5 4).dev.docketTaken 0 4).ctx 0).state == 5 && (((docked 4 4).dev.docketTaken 0 4).ctx 0).state != 5 && (((docked 4 4).dev.docketTaken 0 4).ctx 0).saved == [] &&
  ((docked 6 7).dev.ctx 0).state == 6 && !((((docked 6 7).dev.docketTaken 0 7).coresOf 0).any fun k => (((docked 6 7).dev.docketTaken 0 7).core k).list.isSome)) = true := by decide +kernel
/-- A descriptor of core 0 alone, its save area at 0x200000. -/
def descOk : Nat := 2 ^ 32 + 2 ^ 64 + 0x200000 * 2 ^ 512 + 12582912 * 2 ^ 576
def wAdmit : Nat := 2 + 0x310000 * 2 ^ 128
theorem test_admit_ready : (let s := docked 1 wAdmit {} [(0x310000, 128, descOk)]; let d := s.dev.docketTaken 0 wAdmit; let g : Fuses := {}
  docketB s wAdmit 2 && ((s.dev.admitReads (dkArg wAdmit)).all fun p => !(s.dev.ownedIn p.1 p.2)) && g.mayMeet &&
  (match d.fwRead (dkArg wAdmit) 128 with
   | .inr bs => leNat bs == descOk && d.descriptorOk 0 (leNat bs) &&
     (match d.fwTables 0 (leNat bs) with
      | .inr t => d.tablesOk 0 t && (d.admitConflict t).isNone && (d.unreachedMember t).isNone && !((tabSets t).any fun p => p.2.mirror)
      | .inl _ => false)
   | .inl _ => false)) = true := by decide +kernel
def wLaunch : Nat := 3 + 0x310000 * 2 ^ 128 + 2 ^ 176
def sLaunch (p : Bool := false) : State := docked 3 wLaunch { cores := [0], pilotable := p } [(0x310000, 8, 0x320000), (0x320000, 32, 4)]
theorem test_launch_ready : (docketB (sLaunch) wLaunch 3 && (match (sLaunch).dev.headPlan 0 with | some (.go ls) => ls.length == 1 | _ => false)) = true := by decide +kernel
theorem test_pilot_ready : (let e := (sLaunch true).dev.setObj 0xD000 4 1; let d : Dev := { e with host := { e.host with pilotLast := 0 } }
  e.obj 0xD000 4 == 1 && !(e.ctx 0).seekStart && e.pilotPick 0 && d.headDocket 0 == some wLaunch && (match d.headPlan 0 with | some (.go _) => true | _ => false)) = true := by decide +kernel

theorem test_list_done_ready : (let d : Dev := { ctxs := [(0, { state := 4, cores := [0] })], cmp := { cores := [(0, { armed := some 0, list := some { addr := 0, count := 4, repeats := 1, cadence := false, reports := 0, depth := 0, rep := 1 } })] } }
  c0.exists && (d.core c0).armed == some 0 && (d.core c0).list.isSome && d.listDone c0 0) = true := by decide +kernel
/-- Context 0 runs on core 0; context 1, saved from it, wants it back. -/
def rivals (p q : Nat) : Dev :=
  { time := 10 ^ 12, ctxs := [(0, { state := 4, cores := [0], prio := p, runSince := some 0 }), (1, { state := 5, cores := [0], prio := q, saved := [{ key := 0, st := {} }] })], cmp := { cores := [(0, { armed := some 0 })] } }
theorem test_preempt_ready : ((rivals 2 1).schReady && (rivals 2 1).preemptible 0 && (rivals 1 1).contended 0 (fun q => q == ((rivals 1 1).ctx 0).prio) &&
  decide ((rivals 1 1).obj 0xD000 2 ≤ (rivals 1 1).ranFor 0) && decide ((rivals 1 1).obj 0xD000 3 ≤ (rivals 1 1).ranFor 0) && (rivals 2 1).contended 0 (fun q => decide (q < 2))) = true := by decide +kernel
theorem test_save_ready : (let d := (rivals 2 1).modCtx 0 fun x => { x with saveWanted := true }; let e := d.gangStep 0
  e.schReady && (e.ctx 0).saveAsked && (e.ctx 0).state == 4 && !(e.holdsOwned (e.ctx 0).cores) && e.canSave 0 && !(e.ctx 0).stopWanted && !(e.ctx 0).parkWanted) = true := by decide +kernel
theorem test_restore_ready : (let d := { rivals 2 1 with cmp := {} }; d.schReady && !d.safe && d.canRestore (d.ctx 1) 1 &&
  !(d.ctxs.any fun p => p.1 != 1 && d.canRestore p.2 p.1 && goesBefore p.2 (d.ctx 1)) && !(d.holdsOwned ((d.ctx 1).saved.map SavedCore.key))) = true := by decide +kernel
theorem test_gang_ready : (let d : Dev := { time := 10 ^ 9, ctxs := [(0, { state := 3, members := [0, 9], gangSize := 2 }), (1, { state := 2, members := [0, 9], admitting := some { seq := 0, since := 0, needs := [9] } })] }
  d.rank == 0 && (d.ctx 0).members.contains 9 && (d.ctx 0).resident && (match (d.ctx 1).admitting with
    | some a => decide (a.since + 100000000 ≤ d.time) && (a.needs.find? fun r => !(d.sessionOpen (some 1) r)) == some 9 | none => false)) = true := by decide +kernel

/-! ### Packets (b09) -/

/-- A module whose basin ports are PLANNED and that has an OPEN session, number 5, with rank 1. -/
def netDev (x : Session := { ctx := none, peer := 1, mine := 5, state := 1 }) (f : Dev → Dev := id) : Dev :=
  f { withRegion {} with time := 10 ^ 12, net := { halves := (List.range 14).map fun i => (2 * i, { state := 4 }), sessions := [(5, x)] } }
def mySession : Session := { ctx := none, peer := 1, mine := 5, state := 1 }
def packetB (d : Dev) (p : Packet) (x : Session) : Bool :=
  p.dst == d.rank && d.pwr.offKind == 0 && (d.rxFrame p.port).headerFine p && (d.rxFrame p.port).carries p && !(d.rxFrame p.port).safe && (d.rxFrame p.port).session p.session == some x &&
  x.takes p && p.enc && x.peer == p.src && x.epochOk p && d.takesIn p
/-- A packet with the tag that a session's key gives it. -/
def sealPkt (x : Session) (p : Packet) : Packet := { p with tag := (gcm (x.rxKey p) (natBe 4 p.session ++ natBe 8 p.txn) (headerBytes p) p.payload).2 }
theorem opens_sealPkt (x : Session) (p : Packet) : x.opens (sealPkt x p) = true := by
  have h : ∀ t, headerBytes { p with tag := t } = headerBytes p := fun _ => rfl
  have k : ∀ t, x.rxKey { p with tag := t } = x.rxKey p := fun _ => rfl
  simp only [Session.opens, sealPkt, h, k, beq_self_eq_true]
theorem packetFor_of {d : Dev} {p : Packet} {x : Session} (h : packetB d (sealPkt x p) x = true) : PacketFor d (sealPkt x p) x := by
  simp only [packetB, Bool.and_eq_true, beq_iff_eq, Bool.not_eq_true'] at h
  obtain ⟨⟨⟨⟨⟨⟨⟨⟨⟨⟨h1, h2⟩, h3⟩, h4⟩, h5⟩, h6⟩, h7⟩, h8⟩, h10⟩, h11⟩, h12⟩ := h
  exact ⟨h1, h2, h12, h3, h4, fun _ => h5, h6, h7, h8, opens_sealPkt x p, h10, h11⟩
def pkt (op : Nat) (addr : Nat := 0) (payload : List Byte := []) : Packet := { session := 5, src := 1, op := op, addr := addr, payload := payload }
theorem test_packets_ready : (([0x1, 0x2, 0x3, 0x4, 0x10, 0x11, 0x20, 0x21, 0x22, 0x23, 0x30, 0x41, 0x60].all fun op => packetB (netDev) (sealPkt mySession (pkt op)) mySession) &&
  ([0, 1, 2, 3, 4].all fun k => packetB (netDev) (sealPkt mySession (pkt 0x40 (k * 2 ^ 48))) mySession && stepKind (pkt 0x40 (k * 2 ^ 48)) == k)) = true := by decide +kernel
theorem test_order_ready : (let r : RxClass := {}; let d := netDev; let q : Packet := { pkt 1 with psn := 3 }
  psnAfter (pkt 1).psn r.next == 0 && decide (0 < psnAfter q.psn r.next) && decide (psnAfter q.psn r.next < 2 ^ 31) && !(r.held.any fun h => h.psn == q.psn) && decide (psnAfter q.psn r.next < d.obj 0x3100 6) &&
  !((mySession.rxc 0).accept q (d.obj 0x3100 6) d.time).2 && decide (3 ≤ psnAfter q.psn r.next)) = true := by decide +kernel
/-- The device in which a packet is applied. -/
def applied (p : Packet) (x : Session := mySession) (f : Dev → Dev := id) : Option Dev := (netDev x f).applyPkt 5 x p
theorem test_received_ready : ([0, 16].all fun n => let x : Session := { mySession with rx := [(0, { fresh := n })] }; let p := pkt 1 0x200000 [1#8]; let d := netDev x
  let r := (x.rxc 0).accept p (d.obj 0x3100 6) d.time
  !r.2 && (match (Dev.drainRx 5 0 r.1.stalled.length (d.leaveIdle.setSession 5 { x with rx := tblSet x.rx 0 r.1 })).session 5 with
    | some y => (n == 0) == decide ((y.rxc 0).fresh < 16) | none => false)) = true := by decide +kernel
theorem test_drain_one_ready : (let x : Session := { mySession with rx := [(0, { stalled := [pkt 1 0x200000 [1#8]] })] }; let d := netDev x
  match (x.rxc 0).stalled with
  | p :: rest => (match d.applyPkt 5 { x with rx := tblSet x.rx 0 { x.rxc 0 with stalled := rest } } p with
      | some e => (match e.session 5 with | some y => (y.rxc 0).stalled == rest | none => false) | none => false)
  | [] => false) = true := by decide +kernel
theorem test_memory_packets_ready : (let d := netDev; let p := pkt 1 0x200000 [1#8]; d.addressHere p.addr && (d.access .peer true (p.addr % 2 ^ 48) p.payload.length).isNone && !(d.pinned (p.addr % 2 ^ 48) 1) &&
  !(d.ownedIn (p.addr % 2 ^ 48) 1) && d.access .peer true ((pkt 1 0 [1#8]).addr % 2 ^ 48) 1 == some stAddress && (d.access .peer false 0x200000 64).isNone && d.canSend 5 clResp &&
  mySession.badWrite == 0 && leNat (slice (pkt 2 0x200000 (natLe 3 64)).payload 0 3) == 64) = true := by decide +kernel
/-- A packet comes next in its class, and the device that has accepted it. -/
def nextB (d : Dev) (p : Packet) (x : Session) : Bool :=
  packetB d p x && decide (p.port < 20) && decide (p.half < 2) && p.typ == 0 && psnAfter p.psn (x.rxc p.cls).next == 0 && (x.rxc p.cls).held == [] && (x.rxc p.cls).stalled == []
def tookDev (d : Dev) (p : Packet) (x : Session) : Dev := (d.rxFrame p.port).leaveIdle.setSession p.session (x.took p d.time [p])
theorem dataNext_of {d : Dev} {p q : Packet} {x : Session} (hq : q = sealPkt x p) (h : nextB d q x = true) :
    DataNext { dev := d } q x (tookDev d q x) (x.took q d.time []) := by
  simp only [nextB, Bool.and_eq_true, beq_iff_eq, decide_eq_true_eq] at h
  obtain ⟨⟨⟨⟨⟨⟨h1, h2⟩, h3⟩, h4⟩, h5⟩, h6⟩, h7⟩ := h
  have hp : PacketFor d q x := by subst hq; exact packetFor_of h1
  exact ⟨h2, h3, h4, hp, h5, h6, h7, rfl, rfl⟩
/-- The state in which a remote descriptor of 64 bytes has sent everything. -/
def remoteItem : TugItem := { tag := ⟨c0, 0, 0, 0, 0, 0x20, 0⟩, desc := desc 0 0x200000 1 0x400000 0, remote := 1, sess := 5, txn := 9, sent := 1 }
theorem test_done_ready : (let d := netDev mySession fun d => { d with cmp := { tugs := [(1, [remoteItem])] } }
  (match d.findTug (fun i => i.remote == 1 && i.sess == 5 && i.txn == field (pkt 4 9).addr 31 0) with | some (_, t, pos, i) => t == 1 && pos == 0 && d.tugAllSent i && mySession.flush.isNone | none => false)) = true := by decide +kernel
def conv0 : Conveyor := { quay := false, ring := 0x1000, prod := 0, cons := 0, slot := 64, depth := 4, credits := 4 }
theorem test_conveyor_packets_ready : (let d := netDev mySession fun d => d.setConv 0 0 conv0; (d.sibling 0).isNone && d.conv 0 0 == some conv0 && epMid conv0.cons == d.midOf 0 && epMid conv0.prod == d.midOf 0 &&
  (d.ctx 0).saved == [] && !(d.ownedIn (conv0.slotAt conv0.visible) conv0.slot) && !(d.pinned (conv0.slotAt conv0.visible) conv0.slot)) = true := by decide +kernel
theorem test_barrier_packets_ready : (let b : Barrier := { home := 1, count := 2, gangpoint := false, fast := false }; let d := netDev mySession fun d => d.setBar 0 3 b; d.bar 0 3 == some b && b.home != (d.ctx 0).gangRank && !b.poisoned &&
  !(genDone 0 b.gen) && (d.ctx 0).remap == [] && (d.sibling 0).isNone && field (pkt 0x20 1).addr 15 0 != 0) = true := by decide +kernel
theorem test_mooring_packets_ready : (let d := (((netDev).setObj 0xA000 1 1).setObj 0xA000 2 2).setObj 0xA000 3 1; d.partner == 1 && d.moorMode == 2 && d.pairState == 1 && d.partner != 0xFFFF && !d.safe &&
  decide (d.net.heartbeatSent + 100000 ≤ d.time) && d.reachable d.partner && decide (d.net.heartbeatSeen + d.obj 0xA000 4 ≤ d.time)) = true := by decide +kernel
theorem test_mirror_ready : (let d := { (netDev).setSset 0 2 set2 with ctxs := [(0, { state := 10, standbyFor := some 1 })] }; let addr := 64; let ch := 2
  (d.sset (field ch 9 4) (field ch 3 0)).isSome && (d.ctx (field ch 9 4)).state == 10 && (d.ctx (field ch 9 4)).standbyFor == some 1 && decide (field addr 39 0 + [0#8].length ≤ set2.size) && field ch 15 10 == 0 &&
  field addr 50 40 == 0 && !(d.pinned (set2.bank0 + 64) 1) && !(d.ownedIn (set2.bank0 + 64) 1) && (d.access .firmware true (set2.bank0 + 64) 1).isNone) = true := by decide +kernel
/-- A session of context 0. -/
def ctxSession : Session := { mySession with ctx := some 0 }
theorem test_next_memory : (let x := mySession; let w := sealPkt x { pkt 1 0x200000 [1#8] with last := true }; let r := sealPkt x (pkt 2 0x200000 (natLe 3 64)); let d := tookDev netDev w x
  nextB netDev w x && nextB netDev r x && w.last && !(d.rankSaved x w.addr) && d.addressHere w.addr && (d.access .peer true 0x200000 1).isNone && !(d.pinned 0x200000 1) && !(d.ownedIn 0x200000 1) &&
  (let e := tookDev netDev r x; leNat (slice r.payload 0 3) == 64 && (e.access .peer false 0x200000 64).isNone && !(e.ownedIn 0x200000 64) && e.canSend 5 clResp && e.addressHere r.addr && !(e.rankSaved x r.addr))) = true := by decide +kernel
theorem test_next_answers : (let x : Session := { mySession with reads := [{ tag := 7, id := 9, src := 0x600000, dst := 0x200000, len := 64 }] }
  let f := fun (d : Dev) => { d with cmp := { tugs := [(1, [{ remoteItem with remote := 2 }])] } }; let p := sealPkt x { pkt 3 0x600000 [1#8] with channel := 7 }; let d := tookDev (netDev x f) p x
  nextB (netDev x f) p x && (match x.reads.find? fun r => r.tag == p.channel with
    | some r => !r.desc && (match d.readTug 5 r with
      | some w => !(d.pinned (r.dst + (p.addr - r.src)) 1) && !(d.ownedIn (r.dst + (p.addr - r.src)) 1) && (d.access (.ctx w.2.2.2.tag.ctx) true r.dst r.len).isNone | none => false) | none => false) &&
  (let f := fun (d : Dev) => { d with cmp := { tugs := [(1, [remoteItem])] } }; let q := sealPkt mySession (pkt 4 9); let e := tookDev (netDev mySession f) q mySession
    nextB (netDev mySession f) q mySession && (match e.findTug (fun i => i.remote == 1 && i.sess == 5 && i.txn == field q.addr 31 0) with | some (_, _, _, i) => e.tugAllSent i | none => false))) = true := by decide +kernel
theorem test_next_conveyors : ([0x10, 0x11].all fun op => let x := ctxSession; let f := fun (d : Dev) => d.setConv 0 0 conv0; let p := sealPkt x (pkt op); let d := tookDev (netDev x f) p x
  nextB (netDev x f) p x && (d.sibling 0).isNone && d.conv 0 p.channel == some conv0 && epMid conv0.cons == d.midOf 0 && epMid conv0.prod == d.midOf 0 && (d.ctx 0).saved == [] && !(bit p.addr 16) &&
  !(d.ownedIn (conv0.slotAt conv0.visible) conv0.slot) && !(d.pinned (conv0.slotAt conv0.visible) conv0.slot)) = true := by decide +kernel
theorem test_next_barriers : ([(0x20, 1), (0x21, 0), (0x22, 0), (0x23, 0), (0x40, 0), (0x40, 2 ^ 48), (0x40, 4 * 2 ^ 48)].all fun q => let x := ctxSession; let b : Barrier := { home := 1, count := 2, gangpoint := false, fast := false }
  let f := fun (d : Dev) => d.setBar 0 3 b; let p := sealPkt x { pkt q.1 q.2 with channel := 3 }; let d := tookDev (netDev x f) p x
  nextB (netDev x f) p x && (d.sibling 0).isNone && (d.ctx 0).remap == [] && (q.1 != 0x20 || field p.addr 15 0 != 0) && (q.1 == 0x40 || d.bar 0 p.channel == some b) && b.home != (d.ctx 0).gangRank && !b.poisoned &&
  !(genDone (field p.addr 31 0) b.gen) && ((d.poisonBar 0 p.channel).coresWhere fun k => k.armed == some 0 && tblGet [] k.acksDue p.channel != []) == [] && decide (field p.addr 46 44 ≤ 3) && d.cmp.outcomes == [] &&
  !((d.ctx 0).hasApplied { ctx := 0, bar := field p.addr 41 32, gen := field p.addr 31 0, mask := p.channel, outcome := field p.addr 46 44 })) = true := by decide +kernel
theorem test_next_collect : (let x := ctxSession; let f := fun (d : Dev) => { (d.setGroup 0 3 { members := [0, 1], root := 0, driver := c0, basinFirst := false }) with ctxs := [(0, { members := [0, 1], gangSize := 2 })] }; let p := sealPkt x { pkt 0x30 with channel := 3 }; let d := tookDev (netDev x f) p x
  nextB (netDev x f) p x && (d.sibling 0).isNone && (match d.group 0 3 with
    | some g => g.flights == [] && g.early == [] && ((List.range g.members.length).find? fun r => d.gangDevice 0 (nth 0 g.members r) == p.src && nth 0 g.members r != (d.ctx 0).gangRank) == some 1
    | none => false)) = true := by decide +kernel
theorem test_next_device : (let x := mySession; let f := fun (d : Dev) => { (((d.setObj 0xA000 1 1).setObj 0xA000 2 2).setObj 0xA000 3 1).setSset 0 2 set2 with ctxs := [(0, { state := 10, standbyFor := some 1 })] }
  ([(0x41, 64, 2), (0x60, 3 * 2 ^ 48, 0), (0x40, 2 * 2 ^ 48, 0), (0x40, 3 * 2 ^ 48, 0)].all fun q => let p := sealPkt x { pkt q.1 q.2.1 [9#8] with channel := q.2.2 }; let d := tookDev (netDev x f) p x
    nextB (netDev x f) p x && p.src == d.partner && d.moorMode == 2 && d.pairState == 1 && leNat (slice p.payload 0 2) != d.rank && (q.1 != 0x60 || field p.addr 51 48 == 3) &&
    (q.1 != 0x41 || (match d.mirrorPlace p.src p.channel p.addr p.payload.length with | some r => !(d.pinned r.1 r.2) && !(d.ownedIn r.1 r.2) | none => false)))) = true := by decide +kernel
theorem test_acks_ready : (packetB (netDev) (sealPkt mySession { pkt 0 with typ := 1 }) mySession && packetB (netDev) (sealPkt mySession { pkt 0 with typ := 2 }) mySession && (let x : Session := { mySession with state := 0, stage := hsConfirm }
  packetB (netDev x) (sealPkt x { pkt 0 with typ := 1 }) x && (((((netDev x).rxFrame 0).covered 5 x 0 0 0 (some 0) false).pushClass 5 0).session 5).isSome)) = true := by decide +kernel
theorem test_transit_ready : (let p : Packet := { pkt 1 with dst := 2, src := 1 }; let d := (netDev).rxFrame 0; p.dst != d.rank && (d.half 0 0).state == 4 && d.inBasin 2 && !d.safe && p.frameOk && p.typ != 3 && d.role 0 0 == 1 && (d.directUnit (p.dst % 8) 0).isSome && (netDev).takesIn p) = true := by
  decide +kernel
theorem test_laser_clauses : (let d : Dev := {}; let e := d.setObjAt 0x3040 1 10 0xFE; let g := e.setObjAt 0x3040 1 11 0xFE; d.laserMap 0 10 == 0xFF && decide (g.laserMap 0 0 < 0xFE) && ((g.setObjAt 0x3040 1 0 0xFE).spareLaser 0).isNone) = true := by decide +kernel
/-- Context 0 mirrors its set 2, of which some granules are dirty, to rank 1. -/
def mirroring (dirty : List Nat) : Dev :=
  netDev mySession fun d => { (((d.setObj 0xA000 1 1).setObj 0xA000 2 2).setObj 0xA000 3 1).setObj 0x8210 1 3 with ctxs := [(0, { standbyAt := some 4 })], cmp := { sets := [(2, { set2 with mirror := true, dirty := dirty, sending := 1 })] } }
theorem test_mirror_sync_ready : ([[], [0]].all fun g => let d := mirroring g; match d.maskSets 0 0xFFFF with
  | [(n, x)] => n == 2 && !d.safe && (d.ctx 0).standbyAt == some 4 && d.sessionTo none (d.obj 0xA000 1) == some 5 && x.mirror && d.mirrorState x != 3 && x.dirty == g && d.mirrorKept 0 2 == 0 && d.canSend 5 clReq &&
    !(d.ownedIn ((if (granule x 0).1 = 0 then x.bank0 else x.bank1) + (granule x 0).2.1) (granule x 0).2.2)
  | _ => false) = true := by decide +kernel
theorem test_timers_ready : (let x : Session := { mySession with rx := [(3, { ackSince := some 0, gapSince := some 0 })] }; let d := netDev x; d.session 5 == some x && decide (0 + 1000 ≤ d.time) && decide (0 + d.gapWait 1 ≤ d.time) &&
  (x.rxc 3).ackSince == some 0 && (x.rxc 3).gapSince == some 0) = true := by decide +kernel

/-! ### The network (b10) -/

/-- A SESSION packet of one part for this module, with its message, sender, and the session of the receiver. -/
def hs (msg sender peer : Nat) : Packet :=
  { typ := 4, cls := clCtl, enc := false, src := 1, payload := natLe 4 (msg + 2 ^ 16) ++ natLe 4 sender ++ natLe 4 peer ++ natLe 4 0 ++ natLe 32 77 ++ List.replicate 268 0#8 }
def hsB (d : Dev) (p : Packet) (msg : Nat) : Bool := p.typ == 4 && hsMsg p == msg && p.dst == d.rank && (d.bump (0x3010 + p.port) 0x10 1).handshakeFrame p && ((d.bump (0x3010 + p.port) 0x10 1).notePart p).2
theorem handshakeFor_of {d : Dev} {p : Packet} {msg : Nat} (h : hsB d p msg = true) (h1 : p.port < 20) (h2 : p.half < 2) :
    HandshakeFor d p msg ((d.bump (0x3010 + p.port) 0x10 1).notePart p).1 := by
  simp only [hsB, Bool.and_eq_true, beq_iff_eq] at h
  exact ⟨h1, h2, h.1.1.1.1, h.1.1.1.2, h.1.1.2, h.1.2, by rw [← h.2]⟩
/-- A module of rank 2, to which rank 1 may send an OFFER. -/
def rank2 (x : Session := mySession) : Dev := { netDev x with pwr := { strapMid := 2 } }
def heard (d : Dev) (p : Packet) : Dev := ((d.bump (0x3010 + p.port) 0x10 1).notePart p).1
theorem test_offer_frame_ready : (let d := rank2; let p := { hs hsOffer 9 0 with dst := d.rank }; let e := heard d p
  d.rank == 2 && hsB d p hsOffer && decide (p.src < e.rank) && (hsOwner p).isNone && (e.net.sessions.find? fun q => q.2.peer == p.src && q.2.theirs == hsSender p && q.2.ctx == hsOwner p && q.2.state != 2).isNone &&
  e.uncheckedTime.addressable p.src && !e.uncheckedTime.sessionsFull) = true := by decide +kernel
/-- A module whose port 0 heard the HELLO of rank 1, with an identity of zeros. -/
def greeted (d : Dev) : Dev := { d.setBlob 0x3010 6 (List.replicate 32 0#8) with net := { d.net with halves := [(0, { state := 4, peerRank := 1 })] } }
/-- What SEC finds of a peer that is met: its owner's digest is this module's, and its identity the one its plan and directory name. -/
def met : PeerProof := { lcState := 1, owner := [] }
theorem test_peer_met : (let d := greeted rank2; let p := { hs hsOffer 9 0 with dst := d.rank }; Dev.peerOk {} (heard d p).uncheckedTime p { met with lcState := ({} : Fuses).lcState } &&
  !(Dev.peerOk {} (heard d p).uncheckedTime p { met with sigOk := false })) = true := by decide +kernel
theorem test_accept_ready : (let x : Session := { mySession with state := 0, stage := hsOffer }; let d := greeted (netDev x); let p := hs hsAccept 9 5; hsB d p hsAccept && (heard d p).session (hsPeer p) == some x &&
  Dev.peerOk {} (heard d p).uncheckedTime p met && x.initiator && x.stage != hsConfirm) = true := by decide +kernel
theorem test_confirm_ready : (let x : Session := { mySession with state := 0, initiator := false }; let d := rank2 x; let p := { hs hsConfirm 9 5 with dst := 2 }; hsB d p hsConfirm && (heard d p).session (hsPeer p) == some x) = true := by
  decide +kernel
theorem test_rekey_ready : (let x := mySession; let d := netDev x; let p := hs hsRekey 9 5; let y : Session := { x with rekeying := true }; hsB d p hsRekey && (heard d p).session (hsPeer p) == some x && !x.rekeying && x.peerNonce != hsNonce p &&
  hsB (netDev y) (hs hsRekeyAck 9 5) hsRekeyAck && (heard (netDev y) (hs hsRekeyAck 9 5)).session 5 == some y && x.retryAt == 0 && decide (x.rekeyAt + d.obj 0x6000 0x0E * 1000000000 ≤ ({ d with time := 10 ^ 14 } : Dev).time)) = true := by decide +kernel
theorem test_refuse_ready : (let x : Session := { mySession with state := 0 }; let p := hs hsRefuse 9 5; hsB (netDev x) p hsRefuse && (heard (netDev x) p).session (hsPeer p) == some x) = true := by decide +kernel
theorem test_resend_ready : ([0, 20].all fun n => let x : Session := { mySession with stage := hsOffer, resent := n }; (netDev x).session 5 == some x && decide (x.lastSent + 1000000 ≤ (netDev x).time)) = true := by decide +kernel

/-- A module whose port 0, half 0, is in a state since power-on. -/
def portDev (h : PortHalf) : Dev := { time := 10 ^ 12, net := { halves := [(0, h)] } }
theorem test_discovery_ready : ([1, 2, 3, 5, 8].all fun k => let d := portDev { state := k }; (d.half 0 0).state == k && decide ((d.half 0 0).since + 1000000000 ≤ d.time) && !(d.splitPort 0) && (d.portSt 0).failed != 3 && ((d.setPort 0 { failed := 3 }).portSt 0).failed == 3) = true := by
  decide +kernel
theorem test_identifying_ready : (entryRole (planEntry (portDev {}).plan 0) == 1 && entryRole (planEntry (portDev {}).plan 14) != 1 && (portDev { state := 3, lldpSeen := true }).half 0 0 == { state := 3, lldpSeen := true }) = true := by decide +kernel
/-- The HELLO that the plan expects on port 0. -/
def helloPkt : Packet :=
  let e := planEntry (portDev {}).plan 0
  { typ := 3, enc := false, payload := natLe 8 (planBasinId (portDev {}).plan) ++ natLe 2 1 ++ natLe 1 (entryMid e 0) ++ natLe 1 (entryPort e 0) ++ List.replicate 52 0#8 }
theorem test_hello_ready : (let d := (portDev { state := 3 }).rxFrame 0; d.headerFine helloPkt && helloOk helloPkt && helloBasin helloPkt == planBasinId d.plan && helloMid helloPkt == entryMid (planEntry d.plan 0) 0 &&
  helloPort helloPkt == entryPort (planEntry d.plan 0) 0 && (d.half 0 0).state == 3 && d.role 0 0 == 1 && d.role 14 0 != 1 &&
  helloBasin { helloPkt with payload := natLe 8 (planBasinId d.plan + 1) ++ helloPkt.payload.drop 8 } != planBasinId d.plan) = true := by decide +kernel
theorem test_neighbours_ready : (let h : PortHalf := { state := 4 }; let d := portDev h; decide (h.lastHello + 1000000000 ≤ d.time) && decide (h.lastLldp + 1000000000 ≤ d.time) && d.lit 0 0 && d.litPort 0 && d.role 0 0 == 1 && (d.rxFrame 0).carrying 0) = true := by decide +kernel
theorem test_roadstead_ready : (let d : Dev := { net := { halves := [(28, { state := 4 })] } }; let e := (d.setObj 0x3000 0x0A 14).rxFrame 14; d.litPort 14 && (d.rxFrame 14).role 14 0 == 2 && (d.rxFrame 14).carrying 14 && e.carrying 14 && ((d.rxFrame 14).portSt 14).learned == 0 && e.obj 0x3000 0x0A == 14 && e.net.lastPtp.isNone) = true := by
  decide +kernel
theorem test_losses_ready : (let d := portDev { state := 4 }; d.unit 0 1 == 0 && (d.half 0 0).lossAt.isNone && (let e := portDev { state := 4, lossAt := some 0 }; decide (0 + 10000 ≤ e.time)) &&
  (let e : Dev := { portDev { state := 4, lossAt := some 9 } with time := 10 }; decide (e.time < 9 + 10000) && (e.half 0 (e.unit 0 0)).lossAt == some 9)) = true := by decide +kernel
theorem test_retrains_ready : (let d := (portDev { state := 8 }).setPort 0 { failed := 1 }; (d.half 0 0).state == 8 && !(d.splitPort 0) && (d.portSt 0).failed != 0 && !(bit (d.portSt 0).failed 1) &&
  (let e := (portDev { state := 4 }).setHalves 0 1; (e.portSt 0).draining.isNone && e.halves 0 != 3 && (let e := (e.setPort 0 { failed := 0 }); e.halfFed 0 0 && e.halfFed 0 1) && (e.portSt 0).failed == 0) &&
  (let e := (portDev { state := 4 }).setPort 0 { draining := some 0 }; (e.portSt 0).draining == some 0 && decide (0 + 1000000 ≤ e.time))) = true := by decide +kernel
theorem test_lasers_ready : (Dev.laserMap ((portDev {}).laserFails 0 11) 0 11 == 0xFE && (portDev {}).laserMap 0 11 != 0xFE) = true := by decide +kernel
theorem test_rto_ready : ([0, 15].all fun n => let k : TxPkt := { pkt := { pkt 1 with dst := 1 }, path := 0, sentAt := some 0 }; let x : Session := { mySession with tx := [(0, { kept := [k] })] }; let d := (netDev x).setPath 1 0 { rtoRun := n }
  d.session 5 == some x && ((x.txc 0).kept.find? fun k => k.pkt.psn == 0) == some k && k.overdue d.time && x.state != 2 && d.reachable 1 && (d.pathSt 1 0).rtoRun == n && !(d.pathSt 1 0).down) = true := by decide +kernel
theorem test_probe_ready : (let x : PathSt := { down := true }; let d := (netDev).setPath 1 0 x; d.pathSt 1 0 == x && decide (x.lastProbe + 1000000 ≤ d.time) && ((d.setPath 1 0 { x with down := false, lastProbe := d.time, probes := [(⟨(8 * d.time) % 2 ^ 64, d.time, d.rto 1 0, false⟩ : Probe)] }).outUnit 1 0 0).isSome) = true := by
  decide +kernel
theorem test_probed_ready : ([1, 2].all fun n => let x : PathSt := { down := true, probes := (List.range n).map (fun i => (⟨i, 0, 0, true⟩ : Probe)) ++ [⟨7, 10 ^ 12, 1, false⟩] }; let d := (netDev).setPath 1 3 x; let p : Packet := { typ := 5, enc := false, src := 1, txn := 7 }
  ((List.range 8).find? fun i => (d.pathSt p.src i).probes.any fun q => q.txn == p.txn) == some 3 && threeBack (x.probes.map fun q => q.answered 7 d.time) == (n == 2) && d.headerFine p && d.carries p && p.dst == d.rank) = true := by decide +kernel
theorem test_rate_ready : (let x : PathSt := { limit := (1, 2) }; let d := (netDev).setPath 1 0 x; d.pathSt 1 0 == x && decide (x.lastCe + 20000 ≤ d.time) && decide (x.limit.1 < x.limit.2)) = true := by decide +kernel
theorem test_path_lost_ready : (let d := { netDev with net := { (netDev).net with lost := [(1, 0)] } }; tblFind d.net.lost 1 == some 0 && decide (0 + 10000000 ≤ d.time)) = true := by decide +kernel

/-! ### What leaves a port (b13) -/

/-- A packet with a value of its own in every field of its header. -/
def fullPkt : Packet :=
  { ver := 5, typ := 3, cls := 2, epoch := 3, enc := true, last := true, ceEcho := true, op := 0xAB, tries := 0xCD, channel := 0x1234, session := 0x89ABCDEF, src := 0x4321, dst := 0x8765,
    psn := 0xDEADBEEF, ackPsn := 0x01020304, txn := 0x1122334455667788, addr := 0xFEDCBA9876543, path := 9, reserved := 0x5A, payload := [1#8, 2#8, 3#8] }
/-- The bytes that R245's table gives those fields. -/
theorem test_header_places : headerBytes fullPkt = [0x53#8, 0xBB#8, 0xAB#8, 0xCD#8, 0x12#8, 0x34#8, 0x89#8, 0xAB#8, 0xCD#8, 0xEF#8, 0x43#8, 0x21#8, 0x87#8, 0x65#8, 0xDE#8, 0xAD#8, 0xBE#8, 0xEF#8, 1#8, 2#8,
    3#8, 4#8, 0#8, 3#8, 0x11#8, 0x22#8, 0x33#8, 0x44#8, 0x55#8, 0x66#8, 0x77#8, 0x88#8, 0xFE#8, 0xDC#8, 0xBA#8, 0x98#8, 0x76#8, 0x54#8, 0x39#8, 0x5A#8] := by decide +kernel
theorem test_header_read : (let bs := (List.range 40).map fun i => BitVec.ofNat 8 (37 * i + 11); bs.length == 40 && headerBytes (readHeader bs (List.replicate (headerLen bs) 0#8)) == bs) = true := by decide +kernel
/-- A port with a control packet and a request packet that wait. -/
def portQ : PortQ := { ctl := [{ pkt := { cls := 3, typ := 1 }, wire := {} }], rest := [(0, [{ pkt := { cls := 0 }, wire := {} }])] }
theorem test_control_first_ready : (let d : Dev := {}; match portQ.ctl.find? d.mayLeave with
  | some e => decide (((portQ.ctlSent.filter fun x => decide (d.time < x.1 + 10000)).map Prod.snd).sum + frameCost e.pkt e.wire ≤ 500 * d.lineRate 0) && decide (portQ.turn < 3) && (d.nextOut 0 portQ).isSome
  | none => false) = true := by decide +kernel
/-- Control has had its share of the last 10 µs: the request goes first. -/
theorem test_control_waits : (({} : Dev).nextOut 0 { portQ with ctlSent := [(0, 50000)] }).map (fun x => x.1.pkt.cls) = some 0 := by decide +kernel
/-- The conditions of the statement on the network's and the link's commands, each met. -/
theorem test_network_ready : (let d := netDev; let e := portDev { state := 4 }; !(d.restarting 0) && d.pwr.offKind == 0 && e.lit 0 0 && (e.rxFrame 0).carrying 0 && ((e.rxFrame 0).portSt 0).learned == 0 &&
  ((portDev { state := 8, retried := true }).half 0 0).retried && (e.half 0 0).lossAt.isNone) = true := by decide +kernel

/-! ### What holds of every command, and numbers (b11, b12) -/

theorem test_general_ready : (passesB sMan (rd 0x4000 2) .read && decide (({} : Fuses).lcState ≤ 4) && ({} : Dev).powered && ({} : Dev).obj 0x4000 1 == 2 && (({} : Dev).setObj 0x4000 1 5).obj 0x4000 1 == 5) = true := by decide +kernel
theorem test_notice_ready : ((faultSource 0x0101).2 == 0 && (faultSource 0x0602).2 == 0 && (faultSource 0x0404).2 == 4 && (faultSource 0x0203).2 == 2) = true := by decide +kernel
theorem test_fault_pin_falls : (let d : Dev := { faults := [(1, { isOpen := true, level := 2 })] }; d.faultLow && !({ d with faults := [(1, { isOpen := true, level := 1 })] } : Dev).faultLow) = true := by decide +kernel
theorem test_a_floor_rises : (let s : State := { sOwner with dev := { sOwner.dev with fw := (List.range 15).map fun k => (k, { image := { bundle := 5 } }) }, pending := [.raiseFloor (wr 0x6000 0x0D 2 3)] }
  match step s with | .next t => t.fuses.floor == 3 | _ => false) = true := by decide +kernel
theorem test_memory_canonical : (memWf [] && memWf (memWrite [] 7 [1#8, 0#8]) && memRead (memWrite [] 7 [1#8, 0#8]) 7 2 == [1#8, 0#8]) = true := by decide +kernel
/-- Two passes of one activation and one column, split between two tiles. -/
def twoPasses : List (List Val × List (List Val)) := [([.fin false 3 0], [[.fin false 5 0]]), ([.fin true 1 0], [[.fin false 7 0]])]
theorem test_split_ready : (let r : TileRow := {}; r.whole && r.cells == [] && (r.feedAll false twoPasses).whole && (r.feedAll false (twoPasses.take 1)).whole && (r.feedAll false (twoPasses.drop 1)).whole &&
  ((r.feedAll false twoPasses).cells.map Acc.ent) == [.fin 8]) = true := by decide +kernel
theorem test_combine_ready : (let x : W64 := ⟨Header.ofWord (2 ^ 16 + 2 ^ 25), [.fin 5]⟩; x.h.agrees x.h && decide (x.h.parts ≤ 65535)) = true := by decide +kernel
theorem test_rounding_ready : ([fFP32, fBF16, fE4M3, fE5M2].all fun f => ([Rnd.nearest, .zero].all fun m => (convFloat f m true 0 (.fin true 17 (-4))).cnt == {}) && (decodeFloat f 1).isFinite) = true := by decide +kernel
theorem test_truncation_ready : (offGrid (-2) [(false, 3, -3), (true, 1, 0)] == 1 && offGrid (-3) [(false, 3, -3)] == 0 &&
  List.zipWith Val.mul [.fin false 3 0] [.fin true 5 (-3)] == [(true, 15, -3)].map (fun p => Val.fin p.1 p.2.1 p.2.2)) = true := by decide +kernel

/-! ### A command that names what the KC9 lacks is refused, one for each check -/

theorem test_ill_formed :
    [Instr.pass ⟨8, 0⟩, .pass ⟨0, 11⟩, .tugDescriptorComplete 8 0 0 {}, .tugDescriptorComplete 0 4 0 {}, .creditReturn 64 0, .creditReturn 0 4096, .collectiveComplete 64 0, .collectiveComplete 0 256,
     .gezalWrite { port := 20 }, .gezalWrite { half := 2 }, .lldpSend 20 0, .lldpSend 0 2, .plannedRetrain 20, .ackTimer 0 4, .rtoExpiry 0 4 0, .probeTimer 16384 0, .probeTimer 0 8, .laserFailed 4 0, .laserFailed 0 12,
     .pathLostTimer 16384, .restore 64, .kclLaneFailure 32, .watchdogExpiry 15, .regionFillDone 1024].all (fun i => !(wellFormed i)) = true := by decide +kernel
theorem test_ill_formed_stops : exec (.restore 64) {} = .fault .noSuchUnit := rfl

/-! ### Worked examples of the spec -/

/-- Below R53: 464 converts to E4M3 as 448 and is in range, 470 is beyond; toward zero 479 gives 448. -/
theorem test_e4m3_edge : ((convFloat fE4M3 .nearest false 0 (.fin false 464 0)) == ⟨0x7E, {}⟩ && (convFloat fE4M3 .zero false 0 (.fin false 479 0)) == ⟨0x7E, {}⟩ &&
  (convFloat fE4M3 .nearest false 0 (.fin false 470 0)).cnt.finiteSat == 1) = true := by decide +kernel
/-- Chapter 02, "Splitting 0.7 into an E4M3 pair". -/
theorem test_pair_split : (let r := convPairBlock [decodeFloat fFP32 0x3F333333]; r.1.take 2 == [0x76#8, 0x7B#8] && r.2.1.take 2 == [0x70#8, 0x7D#8]) = true := by decide +kernel
/-- Chapter 04, "A split that agrees": the two cores' entries, their combine and its FP32. -/
def col (ps : List (Nat × Nat)) : Ent := (columnSum (-6) (ps.map fun p => decodeFloat fE4M3 p.1) (ps.map fun p => decodeFloat fE4M3 p.2) {}).ent
theorem test_split_agrees : (col [(0x39, 0x2A), (0xB6, 0x2E)] == .fin (-2) && col [(0x3E, 0x33), (0xB1, 0x25)] == .fin 70 && combineEnts 0 0 [.fin (-2)] [.fin 70] == ([.fin 68], 0) &&
  (convFloat fFP32 .nearest false 0 (.fin false 68 (-6))).bits == 0x3F880000) = true := by decide +kernel
/-- Chapter 05, "An update below the ulp", updates 1, 4 and 5. -/
theorem test_padds : ([(0, 0x32800000, 0x3F800000, 0x32800000), (0x33400000, 0x32800000, 0x3F800000, 0x33800000), (0x33800000, 0x32800000, 0x3F800001, 0xB3400000)].all fun p =>
  (pairResBits false (padds (decodeFloat fFP32 0x3F800000) (decodeFloat fFP32 p.1) (decodeFloat fFP32 p.2.1))).bits == pairBits p.2.2.1 p.2.2.2) = true := by decide +kernel
/-- Chapter 07, "Locating two lines". -/
theorem test_locating : (({} : Dev).stackOf 0x01234A00 == (13, 0x91A00, 9) && ({} : Dev).stackOf 0x020000004A00 == (1, 0x000C00000800, 4)) = true := by decide +kernel
/-- Chapter 10, "One element, three answers": the flat fold, the two basins' folds, and the W64 sum. -/
def fp (xs : List Nat) : List Nat := (foldRows (foldStep 0) (xs.map fun x => [x])).1
theorem test_three_answers : (fp [0x3F800000, 0x33800000, 0x33800000, 0xBF800000] == [0] && fp (fp [0x3F800000, 0x33800000] ++ fp [0x33800000, 0xBF800000]) == [0x33800000] &&
  fp [0x33800000, 0xBF800000] == [0xBF7FFFFF]) = true := by decide +kernel
/-- The block's own queue: a step runs the command at its front with the rest of the queue (the heartbeat of the host moves its time). -/
theorem test_step_takes_the_front : step { dev := { time := 9 }, pending := [.hostHeartbeat 1, .schReady] } = exec (.hostHeartbeat 1) { dev := { time := 9 }, pending := [.schReady] } := rfl
/-- SHA-512 of "abc" (a published value). -/
theorem test_sha512 : (sha512 [0x61#8, 0x62#8, 0x63#8]).take 4 = [0xDD#8, 0xAF#8, 0x35#8, 0xA1#8] := by decide +kernel

end Sys2Proof.Tests
end

section
/-! Proofs of the statements of chapter 00: the one way in which a command stops, and that no command touches the queue. -/

namespace Sys2Proof.Machine

/-! ### A command whose unit the KC9 lacks -/

theorem onDev_stops {ok : Bool} {f : Dev → Dev} {s : State} (h : ok = false) : onDev ok f s = .fault .noSuchUnit := by simp [onDev, h]
theorem onDevF_stops {ok : Bool} {f : Fuses → Dev → Dev} {s : State} (h : ok = false) : onDevF ok f s = .fault .noSuchUnit := by simp [onDevF, h]
theorem onFuses_stops {ok : Bool} {f : Fuses → Dev → Fuses × Dev} {s : State} (h : ok = false) : onFuses ok f s = .fault .noSuchUnit := by simp [onFuses, h]
theorem onKcl_stops {ok : Bool} {f : Dev → Dev} {s : State} (h : ok = false) : onKcl ok f s = .fault .noSuchUnit := by rw [onKcl, onDev_stops h]

/-! ### Manifest requests that are answered later -/

/-- Run again, a command that carries a request acts as it did, and every other one (FLOOR and LC_REQUEST too, log 101) does nothing. -/
theorem manifestAgain_cases (i : Instr) :
    (∃ q f, ∀ s, manifestAgain i s = onReq i q f s) ∨ ∀ s, manifestAgain i s = .next s := by
  cases i with
  | fwStage | discardStaged | fwActivate | manifestRead | manifestWrite | manifestDescribe | manifestClose | rangeClear | accClear | cadenceSource
  | snapPeriod | ioTugUse | portUse | retainUse | berthPlan | evalSlot | classConfirm | powerCap | ringState | regionEnable | regionDisable
  | regionFrozen | ackClass | classClear | alertCause | roleProof | calendar | vendorServiceWrite | pstateRequestRun | pstateRequestSleep
  | pstateRequestDeep | pstateRequestOff | resetRequestFunction | resetRequestWarm => exact .inl ⟨_, _, fun _ => by rw [manifestAgain]; rfl⟩
  | _ => exact .inr fun _ => rfl

theorem manifestAgain_keeps {i : Instr} {s t : State} (h : manifestAgain i s = .next t) : t.fuses = s.fuses ∧ t.pending = s.pending := by
  obtain ⟨q, f, hf⟩ | hn := manifestAgain_cases i
  · rw [hf, onReq] at h
    obtain ⟨-, -, hfuses, hpending⟩ := onDevF_next h
    exact ⟨hfuses, hpending⟩
  · rw [hn] at h
    cases h
    exact ⟨rfl, rfl⟩

theorem againGo_keeps (n : Nat) (s : State) : (State.againGo n s).fuses = s.fuses ∧ (State.againGo n s).pending = s.pending := by
  induction n generalizing s with
  | zero => exact ⟨rfl, rfl⟩
  | succ n ih =>
    rw [State.againGo]
    split
    · exact ⟨rfl, rfl⟩
    · split
      · exact ⟨rfl, rfl⟩
      · dsimp only
        split
        · next ht =>
          obtain ⟨hfuses, hpending⟩ := manifestAgain_keeps ht
          exact ⟨(ih _).1.trans hfuses, (ih _).2.trans hpending⟩
        · exact ⟨rfl, rfl⟩

/-- Requests that are answered at last burn no fuse. -/
@[simp] theorem State.again_fuses (s : State) : s.again.fuses = s.fuses := (againGo_keeps _ _).1
/-- Nor do they touch the queue. -/
@[simp] theorem State.again_pending (s : State) : s.again.pending = s.pending := (againGo_keeps _ _).2

theorem onKcl_runs {ok : Bool} {f : Dev → Dev} {s : State} (h : ok = true) : onKcl ok f s = .next (s.withDev (f s.dev)).again := by rw [onKcl, onDev_runs h]

/-! ### What a command can be -/

/-- The shared operations through which a command may act; each stops the command where `wellFormed` refuses it. Fuses are within reach
of RAISE_FLOOR and LC_REQUEST alone (R435, R448). -/
inductive ActsThrough (i : Instr) : Prop where
  | dev (f : Dev → Dev) (h : ∀ s, exec i s = onDev (wellFormed i) f s)
  | devF (f : Fuses → Dev → Dev) (h : ∀ s, exec i s = onDevF (wellFormed i) f s)
  | req (q : ManifestReq) (f : Fuses → Dev → Dev) (h : ∀ s, exec i s = onReq i q f s)
  | kcl (f : Dev → Dev) (h : ∀ s, exec i s = onKcl (wellFormed i) f s)
  | fuses (f : Fuses → Dev → Fuses × Dev) (h : ∀ s, exec i s = onFuses (wellFormed i) f s) (burns : (∃ q, i = .raiseFloor q) ∨ ∃ q v, i = .lcRequest q v)

/-- Named are the two commands that burn fuses, those that may end a request's wait, those that read the fuses and those that carry a
Manifest request; all others act on the device alone. -/
theorem exec_actsThrough (i : Instr) : ActsThrough i := by
  cases i with
  | raiseFloor q => exact .fuses _ (fun _ => by rw [exec]; rfl) (.inl ⟨q, rfl⟩)
  | lcRequest q v => exact .fuses _ (fun _ => by rw [exec]; rfl) (.inr ⟨q, v, rfl⟩)
  | kclWriteback | kclLaneFailure | kclTagFailures | kclTraining => exact .kcl _ fun _ => by rw [exec]; rfl
  | gezalHello | gezalProbe | offer | accept | confirm | rekey | rekeyAck | helloSend | rtoExpiry | probeTimer | lossDetection | portDown
  | linkGlitch | halfRetrain | laserFailed | plannedRetrain | portRetry | lightDetect | darkTimeout | pcsFecLock | linkingTimeout
  | identifyingTimeout | pathLostTimer | rekeyTimer | docketAdmit | getsensorreading | spdmGetDigests | spdmGetCertificate | spdmChallenge
  | spdmGetMeasurements | firmwareRestartEnd | memberDigest | resetN | refclkPresent | resetNHigh => exact .devF _ fun _ => by rw [exec]; rfl
  | fwStage | discardStaged | fwActivate | manifestRead | manifestWrite | manifestDescribe | manifestClose | rangeClear | accClear | cadenceSource
  | snapPeriod | ioTugUse | portUse | retainUse | berthPlan | evalSlot | classConfirm | powerCap | ringState | regionEnable | regionDisable
  | regionFrozen | ackClass | classClear | alertCause | roleProof | calendar | vendorServiceWrite | pstateRequestRun | pstateRequestSleep
  | pstateRequestDeep | pstateRequestOff | resetRequestFunction | resetRequestWarm => exact .req _ _ fun _ => by rw [exec]; rfl
  | _ => exact .dev _ fun _ => by rw [exec]; rfl

theorem exec_stops {i : Instr} (h : wellFormed i = false) (s : State) : exec i s = .fault .noSuchUnit := by
  cases exec_actsThrough i with
  | dev f hf => rw [hf, onDev_stops h]
  | devF f hf => rw [hf, onDevF_stops h]
  | req q f hf => rw [hf, onReq, onDevF_stops h]
  | kcl f hf => rw [hf, onKcl_stops h]
  | fuses f hf _ => rw [hf, onFuses_stops h]

theorem exec_runs {i : Instr} (h : wellFormed i = true) (s : State) : ∃ t, exec i s = .next t ∧ t.pending = s.pending := by
  cases exec_actsThrough i with
  | dev f hf => exact ⟨_, (hf s).trans (onDev_runs h), rfl⟩
  | devF f hf => exact ⟨_, (hf s).trans (onDevF_runs h), rfl⟩
  | req q f hf => exact ⟨_, (hf s).trans (onDevF_runs h), rfl⟩
  | kcl f hf => exact ⟨_, (hf s).trans (onKcl_runs h), State.again_pending _⟩
  | fuses f hf _ => exact ⟨_, (hf s).trans (onFuses_runs h), rfl⟩

/-- Settles O40: every command acts through one of the shared operations, each of which stops where `wellFormed` says so and keeps the queue elsewhere. -/
theorem unknownUnitsStopAndTheRestRuns : Obligations.UnknownUnitsStopAndTheRestRuns :=
  ⟨fun _ s h => exec_stops h s, fun _ s h => exec_runs h s⟩

end Sys2Proof.Machine
end

section
/-! Proofs of the statements of chapter 01: a step on an empty queue, and what the module does of its own when its time has come. -/

namespace Sys2Proof.Machine

/-! ### A step on an empty queue -/

theorem step_of_pending_nil {s : State} (h : s.pending = []) : step s = .next (s.withDev (Dev.idle s.fuses s.dev)) := by
  simp only [step, h, State.withDev]

/-! ### A nanosecond of the timebase moves clocks alone (R24, R427) -/

@[simp] theorem Dev.tick_time (d : Dev) : d.tick.time = d.time + 1 := rfl
@[simp] theorem Dev.tick_mem (d : Dev) : d.tick.mem = d.mem := rfl
@[simp] theorem Dev.tick_ctxs (d : Dev) : d.tick.ctxs = d.ctxs := rfl
@[simp] theorem Dev.tick_cmp (d : Dev) : d.tick.cmp = d.cmp := rfl
@[simp] theorem Dev.tick_net (d : Dev) : d.tick.net = d.net := rfl

/-! ### What the module does of its own, by the code of what is due (log 106) -/

/-- The module with nothing due: what has come due is taken off before it is done. -/
def Dev.withoutDue (d : Dev) : Dev := { d with pwr := { d.pwr with due := none } }

/-- The module back on its default berth plan, as the reset after a life-cycle transition has it (R269, R452). -/
def Dev.withoutPlan (d : Dev) : Dev := { d with blobs := d.blobs.filter fun p => p.1 != objKey 0x3000 1 0 }

section
variable {f : Fuses} {d : Dev} {k t : Nat} (hdue : d.pwr.due = some (k, t))
include hdue

theorem Dev.ownTime_before (ht : d.time < t) : Dev.ownTime f d = d := by
  simp only [Dev.ownTime, hdue, if_pos ht]

variable (ht : t ≤ d.time)
include ht

theorem Dev.ownTime_isolates (h2 : 2 ≤ k) (h4 : k ≤ 4) : Dev.ownTime f d = d.withoutDue.isolated k := by
  simp only [Dev.ownTime, hdue, if_neg (Nat.not_lt.mpr ht), if_neg (show k ≠ 1 by omega), if_pos h4, Dev.withoutDue]

/-- Beyond the isolations a code stands for the reset of its number less 16. -/
theorem Dev.ownTime_resets (h4 : 4 < k) (h20 : k ≠ 20) : Dev.ownTime f d = Dev.reset f d.withoutDue (k - 16) := by
  simp only [Dev.ownTime, hdue, if_neg (Nat.not_lt.mpr ht), if_neg (show k ≠ 1 by omega), if_neg (Nat.not_le.mpr h4), if_neg h20, Dev.withoutDue]

end

/-- The reset of a life-cycle transition. -/
theorem Dev.ownTime_transition {f : Fuses} {d : Dev} {t : Nat} (hdue : d.pwr.due = some (20, t)) (ht : t ≤ d.time) :
    Dev.ownTime f d = Dev.reset f d.withoutDue.withoutPlan 2 := by
  simp only [Dev.ownTime, hdue, if_neg (Nat.not_lt.mpr ht), if_neg (show (20 : Nat) ≠ 1 by decide), if_neg (show ¬ (20 : Nat) ≤ 4 by decide),
    if_true, Dev.withoutDue, Dev.withoutPlan]

/-- Settles O44: before its time a due event leaves the module as it is, and at its time its code says which isolation or reset comes. -/
theorem anEmptyQueueLetsTimePass : Obligations.AnEmptyQueueLetsTimePass := by
  refine ⟨fun _ => step_of_pending_nil, fun d => ⟨d.tick_time, d.tick_mem, d.tick_ctxs, d.tick_cmp, d.tick_net⟩,
    fun _ _ _ _ => Dev.ownTime_before, ?_⟩
  rintro f d _ k t hdue ht rfl
  refine ⟨Dev.ownTime_isolates hdue ht, ?_, ?_, ?_⟩
  · rintro rfl
    exact Dev.ownTime_resets (k := 18) hdue ht (by decide) (by decide)
  · rintro rfl
    exact Dev.ownTime_resets (k := 19) hdue ht (by decide) (by decide)
  · rintro rfl
    exact Dev.ownTime_transition hdue ht

end Sys2Proof.Machine
end

section
/-! Proofs of the statements of chapter 02: what decoding, rounding and encoding do to a number, read off in rational numbers, and the writes of the Manifest that
clear counters, set timers and assign uses. -/

namespace Sys2Proof.Machine

/-! ### Exact values as rational numbers -/

/-- 2^e as a rational number. -/
def exp2 (e : Int) : Rat := 2 ^ e

theorem exp2_pos (e : Int) : 0 < exp2 e := Rat.zpow_pos (by decide)

theorem exp2_add (a b : Int) : exp2 (a + b) = exp2 a * exp2 b := Rat.zpow_add (by decide) a b

/-- The model's powers of two are those of the rational numbers. -/
theorem pow2_cast {n : Int} (h : 0 ≤ n) : ((pow2 n : Nat) : Rat) = exp2 n := by
  obtain ⟨k, rfl⟩ := Int.eq_ofNat_of_zero_le h
  rw [pow2, Int.toNat_natCast, exp2, Rat.zpow_natCast, Rat.natCast_pow]
  rfl

/-- The magnitude m × 2^e as a rational number. -/
def magnitude (m : Nat) (e : Int) : Rat := m * exp2 e

/-- The sign of a number as a factor. -/
def signFactor (neg : Bool) : Rat := if neg then -1 else 1

theorem magnitude_zero (e : Int) : magnitude 0 e = 0 := Rat.zero_mul _

theorem magnitude_nonneg (m : Nat) (e : Int) : 0 ≤ magnitude m e := Rat.mul_nonneg Rat.natCast_nonneg (Rat.le_of_lt (exp2_pos e))

/-- A magnitude counted in smaller units. -/
theorem magnitude_shift (m : Nat) {e e0 : Int} (h : e0 ≤ e) : magnitude (m * pow2 (e - e0)) e0 = magnitude m e := by
  rw [magnitude, magnitude, Rat.natCast_mul, pow2_cast (by omega), Rat.mul_assoc, ← exp2_add, Int.sub_add_cancel]

theorem magnitude_lt_iff_same (m1 m2 : Nat) (e : Int) : magnitude m1 e < magnitude m2 e ↔ m1 < m2 := by
  rw [magnitude, magnitude, Rat.mul_lt_mul_right (exp2_pos e), Rat.natCast_lt_natCast]

theorem magnitude_le_iff_same (m1 m2 : Nat) (e : Int) : magnitude m1 e ≤ magnitude m2 e ↔ m1 ≤ m2 := by
  rw [← Rat.not_lt, magnitude_lt_iff_same, Nat.not_lt]

theorem magnitude_add_one (n : Nat) (u : Int) : magnitude (n + 1) u = magnitude n u + exp2 u := by
  rw [magnitude, magnitude, Rat.natCast_add, Rat.add_mul]
  exact congrArg _ (Rat.one_mul _)

theorem magnitude_succ (m : Nat) (e : Int) : magnitude m (e + 1) = magnitude (m * 2) e := by
  rw [← magnitude_shift m (show e ≤ e + 1 by omega), show e + 1 - e = 1 by omega]
  rfl

theorem magnitude_two_pow (k : Nat) (e : Int) : magnitude (2 ^ k) e = exp2 ((k : Int) + e) := by
  rw [magnitude, exp2_add, ← pow2_cast (Int.natCast_nonneg k), pow2, Int.toNat_natCast]

theorem exp2_le {a b : Int} (h : a ≤ b) : exp2 a ≤ exp2 b := by
  have hone : magnitude 1 a ≤ magnitude (1 * pow2 (b - a)) a := (magnitude_le_iff_same _ _ _).2 (by rw [Nat.one_mul]; exact Nat.two_pow_pos _)
  rw [magnitude_shift 1 h] at hone
  simpa only [magnitude, Rat.natCast_ofNat, Rat.one_mul] using hone

theorem magLe_iff (m1 : Nat) (e1 : Int) (m2 : Nat) (e2 : Int) : magLe m1 e1 m2 e2 = true ↔ magnitude m1 e1 ≤ magnitude m2 e2 := by
  rw [magLe, decide_eq_true_iff, ← magnitude_le_iff_same _ _ (min e1 e2), magnitude_shift _ (Int.min_le_left _ _), magnitude_shift _ (Int.min_le_right _ _)]

theorem smant_cast (neg : Bool) (m : Nat) : ((smant neg m : Int) : Rat) = signFactor neg * m := by
  cases neg
  · exact (Rat.one_mul _).symm
  · exact (Rat.intCast_neg _).trans (by rw [Rat.intCast_natCast, signFactor, if_pos rfl, Rat.neg_mul, Rat.one_mul])

/-- The number a finite value stands for, brought to a smaller unit. -/
theorem smant_shift (neg : Bool) (m : Nat) {e e0 : Int} (h : e0 ≤ e) :
    ((smant neg (m * pow2 (e - e0)) : Int) : Rat) * exp2 e0 = signFactor neg * magnitude m e := by
  rw [smant_cast, Rat.mul_assoc, ← magnitude, magnitude_shift _ h]

theorem signFactor_not (neg : Bool) : signFactor (!neg) = -signFactor neg := by
  cases neg <;> rfl

theorem abs_signFactor_mul (neg : Bool) (x : Rat) : (signFactor neg * x).abs = x.abs := by
  cases neg
  · exact congrArg Rat.abs (Rat.one_mul x)
  · exact (congrArg Rat.abs ((Rat.neg_mul 1 x).trans (by rw [Rat.one_mul]))).trans Rat.abs_neg

theorem abs_mul_exp2 (x : Rat) (e : Int) : (x * exp2 e).abs = x.abs * exp2 e := by
  have hpos := Rat.le_of_lt (exp2_pos e)
  rcases Rat.le_total (a := 0) (b := x) with h | h
  · rw [Rat.abs_of_nonneg h, Rat.abs_of_nonneg (Rat.mul_nonneg h hpos)]
  · have hneg : 0 ≤ -x * exp2 e := Rat.mul_nonneg (by grind) hpos
    rw [Rat.abs_of_nonpos h, Rat.abs_of_nonpos (by grind), Rat.neg_mul]

theorem magnitude_natAbs (s e : Int) : magnitude s.natAbs e = ((s : Rat) * exp2 e).abs := by
  rw [magnitude, abs_mul_exp2]
  congr 1
  rcases Int.le_total 0 s with h | h
  · rw [Rat.abs_of_nonneg (Rat.intCast_nonneg.2 h), ← Rat.intCast_natCast, Int.natAbs_of_nonneg h]
  · rw [Rat.abs_of_nonpos (Rat.intCast_nonpos.2 h), ← Rat.intCast_natCast, Int.ofNat_natAbs_of_nonpos h, Rat.intCast_neg]

/-- What lies between two finite values is the distance of their numbers. -/
theorem magnitude_apart (n1 n2 : Bool) (m1 m2 : Nat) (e1 e2 : Int) :
    magnitude ((Val.fin n1 m1 e1).apart (.fin n2 m2 e2)).1 ((Val.fin n1 m1 e1).apart (.fin n2 m2 e2)).2 =
      (signFactor n1 * magnitude m1 e1 - signFactor n2 * magnitude m2 e2).abs := by
  have hsum : ((smant n1 (m1 * pow2 (e1 - min e1 e2)) + smant (!n2) (m2 * pow2 (e2 - min e1 e2)) : Int) : Rat) * exp2 (min e1 e2) =
      signFactor n1 * magnitude m1 e1 - signFactor n2 * magnitude m2 e2 := by
    rw [Rat.intCast_add, Rat.add_mul, smant_shift _ _ (Int.min_le_left _ _), smant_shift _ _ (Int.min_le_right _ _), signFactor_not, Rat.neg_mul, ← Rat.sub_eq_add_neg]
  rw [← hsum]
  simp only [Val.apart, Val.sub, Val.neg, Val.add, finAdd]
  generalize smant n1 (m1 * pow2 (e1 - min e1 e2)) + smant (!n2) (m2 * pow2 (e2 - min e1 e2)) = d
  by_cases hd : d = 0
  · rw [if_pos hd, hd, Rat.intCast_zero, Rat.zero_mul, Rat.abs_zero, magnitude_zero]
  · rw [if_neg hd, magnitude_natAbs]

theorem noFarther_iff (n0 n1 n2 : Bool) (m0 m1 m2 : Nat) (e0 e1 e2 : Int) :
    Val.noFarther (.fin n0 m0 e0) (.fin n1 m1 e1) (.fin n2 m2 e2) ↔
      (signFactor n0 * magnitude m0 e0 - signFactor n1 * magnitude m1 e1).abs ≤ (signFactor n0 * magnitude m0 e0 - signFactor n2 * magnitude m2 e2).abs := by
  rw [Val.noFarther, magLe_iff, magnitude_apart, magnitude_apart]

theorem fin_lt_iff (n1 n2 : Bool) (m1 m2 : Nat) (e1 e2 : Int) :
    (Val.fin n1 m1 e1).lt (.fin n2 m2 e2) = true ↔ signFactor n1 * magnitude m1 e1 < signFactor n2 * magnitude m2 e2 := by
  rw [Val.lt, decide_eq_true_iff, ← smant_shift n1 m1 (Int.min_le_left e1 e2), ← smant_shift n2 m2 (Int.min_le_right e1 e2),
    Rat.mul_lt_mul_right (exp2_pos _), Rat.intCast_lt_intCast]

/-- Finite values are equal as numbers where their rational numbers are. -/
theorem fin_eqv_iff (n1 n2 : Bool) (m1 m2 : Nat) (e1 e2 : Int) :
    (Val.fin n1 m1 e1).eqv (.fin n2 m2 e2) = true ↔ signFactor n1 * magnitude m1 e1 = signFactor n2 * magnitude m2 e2 := by
  have heqv : (Val.fin n1 m1 e1).eqv (.fin n2 m2 e2) = (!(Val.fin n1 m1 e1).lt (.fin n2 m2 e2) && !(Val.fin n2 m2 e2).lt (.fin n1 m1 e1)) := rfl
  rw [heqv, Bool.and_eq_true, Bool.not_eq_true', Bool.not_eq_true', ← Bool.not_eq_true, ← Bool.not_eq_true, fin_lt_iff, fin_lt_iff, Rat.not_lt, Rat.not_lt,
    and_comm, ← Rat.le_antisymm_iff]

/-! ### The finite numbers of a float format -/

/-- The four float formats of the statements. -/
def floatFormats : List FloatFmt := [fFP32, fBF16, fE4M3, fE5M2]

theorem mem_floatFormats {f : FloatFmt} : f ∈ floatFormats ↔ f = fFP32 ∨ f = fBF16 ∨ f = fE4M3 ∨ f = fE5M2 := by
  simp only [floatFormats, List.mem_cons, List.not_mem_nil, or_false]

/-- How the numbers of a format fit together: the largest finite value lies in a binade of its own numbers, within reach of its exponent field. -/
structure FloatFmt.Regular (f : FloatFmt) : Prop where
  fraction : 0 < f.manBits
  above : f.umin ≤ f.maxE
  leading : 2 ^ f.manBits ≤ f.maxM
  below : f.maxM < 2 ^ (f.manBits + 1)
  exponent : (f.maxE - f.umin + 1).toNat < 2 ^ f.expBits

theorem FloatFmt.regular {f : FloatFmt} (hf : f ∈ floatFormats) : f.Regular := by
  rcases mem_floatFormats.1 hf with rfl | rfl | rfl | rfl <;> constructor <;> decide

/-- m × 2^e does not exceed the format's largest finite value, where it is written with the spacing of its binade. -/
def FloatFmt.inTop (f : FloatFmt) (m : Nat) (e : Int) : Prop := e < f.maxE ∨ e = f.maxE ∧ m ≤ f.maxM

/-- m × 2^e is written with the spacing of its binade: e is the least spacing, or m has its leading bit (R36, R37, R39). -/
structure FloatFmt.Spaced (f : FloatFmt) (m : Nat) (e : Int) : Prop where
  fits : m < 2 ^ (f.manBits + 1)
  low : f.umin ≤ e
  normal : e ≠ f.umin → 2 ^ f.manBits ≤ m

/-- The magnitude that an exponent field and a fraction stand for. -/
def FloatFmt.fieldValue (f : FloatFmt) (ex man : Nat) : Nat × Int :=
  if ex = 0 then (man, f.umin) else (man + 2 ^ f.manBits, f.umin + (ex : Int) - 1)

/-- An encoding is that of a finite number unless its fields stand for more than the format's largest: in each of the four formats the codes beyond that value
are those of the infinities and NaN (R36, R37, R39). -/
theorem decodeFloat_eq_fin_iff {f : FloatFmt} (hf : f ∈ floatFormats) (b : Nat) (neg : Bool) (m : Nat) (e : Int) :
    decodeFloat f b = .fin neg m e ↔ bit b (f.expBits + f.manBits) = neg ∧ f.fieldValue (b / 2 ^ f.manBits % 2 ^ f.expBits) (b % 2 ^ f.manBits) = (m, e) ∧
      f.inTop m e := by
  have hman : b % 2 ^ f.manBits < 2 ^ f.manBits := Nat.mod_lt _ (Nat.two_pow_pos _)
  have hex : b / 2 ^ f.manBits % 2 ^ f.expBits < 2 ^ f.expBits := Nat.mod_lt _ (Nat.two_pow_pos _)
  unfold decodeFloat FloatFmt.fieldValue FloatFmt.inTop
  generalize bit b (f.expBits + f.manBits) = s
  generalize b % 2 ^ f.manBits = man at *
  generalize b / 2 ^ f.manBits % 2 ^ f.expBits = ex at *
  rcases mem_floatFormats.1 hf with rfl | rfl | rfl | rfl
  all_goals
    simp only [fFP32, fBF16, fE4M3, fE5M2] at *
    grind

section
variable {f : FloatFmt} {m : Nat} {e : Int}

/-- The fields of a number's exponent and fraction, side by side below the sign. -/
def FloatFmt.code (f : FloatFmt) (m : Nat) (e : Int) : Nat :=
  if m < 2 ^ f.manBits then m else (e - f.umin + 1).toNat * 2 ^ f.manBits + (m - 2 ^ f.manBits)

theorem FloatFmt.Spaced.encodeFinite (h : f.Spaced m e) (neg : Bool) : encodeFinite f neg m e = signBit f neg + f.code m e := by
  rw [Machine.encodeFinite, if_neg (Nat.ne_of_lt h.fits), if_neg (Nat.ne_of_lt h.fits), FloatFmt.code]

theorem FloatFmt.spaced_fieldValue (f : FloatFmt) (ex : Nat) {man : Nat} (hman : man < 2 ^ f.manBits) :
    f.Spaced (f.fieldValue ex man).1 (f.fieldValue ex man).2 := by
  have hpow : 2 ^ (f.manBits + 1) = 2 ^ f.manBits * 2 := Nat.pow_succ _ _
  unfold FloatFmt.fieldValue
  split
  · exact ⟨by dsimp only; omega, Int.le_refl _, fun h => absurd rfl h⟩
  · exact ⟨by dsimp only; omega, by dsimp only; omega, fun _ => by dsimp only; omega⟩

theorem FloatFmt.code_fieldValue (f : FloatFmt) (ex : Nat) {man : Nat} (hman : man < 2 ^ f.manBits) :
    f.code (f.fieldValue ex man).1 (f.fieldValue ex man).2 = ex * 2 ^ f.manBits + man := by
  unfold FloatFmt.code FloatFmt.fieldValue
  by_cases h : ex = 0
  · rw [if_pos h, if_pos hman, h, Nat.zero_mul, Nat.zero_add]
  · rw [if_neg h, if_neg (by dsimp only; omega), show (f.umin + (ex : Int) - 1 - f.umin + 1).toNat = ex by omega]
    dsimp only; omega

/-- A number spaced as its format has it stands in the fields of its code. -/
theorem FloatFmt.Spaced.fieldValue_code (h : f.Spaced m e) : f.fieldValue (f.code m e / 2 ^ f.manBits) (f.code m e % 2 ^ f.manBits) = (m, e) := by
  have hpow : 2 ^ (f.manBits + 1) = 2 ^ f.manBits * 2 := Nat.pow_succ _ _
  obtain ⟨hfits, hlow, hnormal⟩ := h
  by_cases hlt : m < 2 ^ f.manBits
  · have hleast : e = f.umin := Decidable.byContradiction fun hne => absurd (hnormal hne) (by omega)
    rw [FloatFmt.code, if_pos hlt, Nat.div_eq_of_lt hlt, Nat.mod_eq_of_lt hlt, FloatFmt.fieldValue, if_pos rfl, hleast]
  · have hrest : m - 2 ^ f.manBits < 2 ^ f.manBits := by omega
    rw [FloatFmt.code, if_neg hlt, Nat.mul_comm, Nat.mul_add_div (Nat.two_pow_pos _), Nat.mul_add_mod, Nat.div_eq_of_lt hrest, Nat.mod_eq_of_lt hrest, FloatFmt.fieldValue,
      if_neg (by omega), Prod.mk.injEq]
    omega

theorem FloatFmt.Spaced.code_lt (h : f.Spaced m e) (hf : f.Regular) (htop : f.inTop m e) : f.code m e < 2 ^ (f.expBits + f.manBits) := by
  have hpow : 2 ^ (f.manBits + 1) = 2 ^ f.manBits * 2 := Nat.pow_succ _ _
  obtain ⟨hfits, hlow, -⟩ := h
  have hex : (e - f.umin + 1).toNat + 1 ≤ 2 ^ f.expBits := by
    have := hf.exponent
    rcases htop with h | ⟨h, -⟩ <;> omega
  have hmul : ((e - f.umin + 1).toNat + 1) * 2 ^ f.manBits ≤ 2 ^ f.expBits * 2 ^ f.manBits := Nat.mul_le_mul_right _ hex
  have hone : 1 * 2 ^ f.manBits ≤ ((e - f.umin + 1).toNat + 1) * 2 ^ f.manBits := Nat.mul_le_mul_right _ (by omega)
  rw [Nat.pow_add, FloatFmt.code]
  rw [Nat.add_mul] at hmul hone
  split <;> omega

theorem bit_signBit_add {f : FloatFmt} (neg : Bool) {c : Nat} (hc : c < 2 ^ (f.expBits + f.manBits)) : bit (signBit f neg + c) (f.expBits + f.manBits) = neg := by
  cases neg
  · simp only [bit, signBit, Bool.false_eq_true, if_false, Nat.zero_add, Nat.div_eq_of_lt hc]
    rfl
  · simp only [bit, signBit, if_true, Nat.add_div_left _ (Nat.two_pow_pos _), Nat.div_eq_of_lt hc]
    rfl

/-- An encoding is its sign above the fields of exponent and fraction. -/
theorem signBit_add_fields (f : FloatFmt) {b : Nat} (hb : b < 2 ^ (1 + f.expBits + f.manBits)) :
    signBit f (bit b (f.expBits + f.manBits)) + (b / 2 ^ f.manBits % 2 ^ f.expBits * 2 ^ f.manBits + b % 2 ^ f.manBits) = b := by
  have hcode : b / 2 ^ f.manBits % 2 ^ f.expBits * 2 ^ f.manBits + b % 2 ^ f.manBits = b % 2 ^ (f.expBits + f.manBits) := by
    rw [Nat.add_comm f.expBits, Nat.pow_add, Nat.mod_mul, Nat.mul_comm, Nat.add_comm]
  have hsign : signBit f (bit b (f.expBits + f.manBits)) = 2 ^ (f.expBits + f.manBits) * (b / 2 ^ (f.expBits + f.manBits)) := by
    have hlt : b / 2 ^ (f.expBits + f.manBits) < 2 := Nat.div_lt_of_lt_mul (by rwa [Nat.add_assoc, Nat.pow_add, Nat.pow_one, Nat.mul_comm] at hb)
    unfold signBit bit
    rcases Nat.eq_zero_or_pos (b / 2 ^ (f.expBits + f.manBits)) with h | h
    · rw [h]; rfl
    · rw [Nat.le_antisymm (Nat.le_of_lt_succ hlt) h, Nat.mul_one]; rfl
  rw [hcode, hsign, Nat.div_add_mod]

theorem decodeFloat_spaced (hf : f ∈ floatFormats) {b : Nat} {neg : Bool} (h : decodeFloat f b = .fin neg m e) : f.Spaced m e ∧ f.inTop m e := by
  obtain ⟨-, hval, htop⟩ := (decodeFloat_eq_fin_iff hf b neg m e).1 h
  have hs := f.spaced_fieldValue (b / 2 ^ f.manBits % 2 ^ f.expBits) (man := b % 2 ^ f.manBits) (Nat.mod_lt _ (Nat.two_pow_pos _))
  rw [hval] at hs
  exact ⟨hs, htop⟩

/-- The finite number an encoding stands for is encoded the same. -/
theorem encodeFinite_of_decodeFloat (hf : f ∈ floatFormats) {b : Nat} {neg : Bool} (hb : b < 2 ^ (1 + f.expBits + f.manBits)) (h : decodeFloat f b = .fin neg m e) :
    encodeFinite f neg m e = b := by
  obtain ⟨hneg, hval, -⟩ := (decodeFloat_eq_fin_iff hf b neg m e).1 h
  have hcode := f.code_fieldValue (b / 2 ^ f.manBits % 2 ^ f.expBits) (man := b % 2 ^ f.manBits) (Nat.mod_lt _ (Nat.two_pow_pos _))
  rw [hval] at hcode
  rw [(decodeFloat_spaced hf h).1.encodeFinite, hcode, ← hneg, signBit_add_fields f hb]

theorem signBit_multiple (f : FloatFmt) (neg : Bool) : ∃ k, signBit f neg = 2 ^ f.manBits * (2 ^ f.expBits * k) := by
  cases neg
  · exact ⟨0, rfl⟩
  · exact ⟨1, by rw [signBit, if_pos rfl, Nat.mul_one, Nat.add_comm, Nat.pow_add]⟩

/-- The encoding of a number of the format stands for that number. -/
theorem decodeFloat_encodeFinite (hf : f ∈ floatFormats) (neg : Bool) (h : f.Spaced m e) (htop : f.inTop m e) : decodeFloat f (encodeFinite f neg m e) = .fin neg m e := by
  have hcode := h.code_lt (FloatFmt.regular hf) htop
  rw [h.encodeFinite, decodeFloat_eq_fin_iff hf]
  refine ⟨bit_signBit_add neg hcode, ?_, htop⟩
  obtain ⟨k, hk⟩ := signBit_multiple f neg
  have hlt : f.code m e / 2 ^ f.manBits < 2 ^ f.expBits := Nat.div_lt_of_lt_mul (by rwa [← Nat.pow_add, Nat.add_comm])
  rw [hk, Nat.mul_add_div (Nat.two_pow_pos _), Nat.mul_add_mod, Nat.mul_add_mod, Nat.mod_eq_of_lt hlt, h.fieldValue_code]

/-- The judgement of R53, of rational numbers. -/
theorem beyondMax_eq_false_iff (f : FloatFmt) (n : Nat) (u : Int) : beyondMax f n u = false ↔ magnitude n u ≤ magnitude f.maxM f.maxE := by
  rw [beyondMax, Bool.not_eq_false', magLe_iff]

/-- Of two numbers in different binades the one spaced more widely is the larger. -/
theorem magnitude_lt_of_spacing {k m1 m2 : Nat} {e1 e2 : Int} (h1 : m1 < 2 ^ (k + 1)) (h2 : 2 ^ k ≤ m2) (he : e1 < e2) : magnitude m1 e1 < magnitude m2 e2 := by
  have htwo : 2 ^ 1 ≤ pow2 (e2 - e1) := Nat.pow_le_pow_right (by decide) (by omega)
  rw [← magnitude_shift m2 (Int.le_of_lt he), magnitude_lt_iff_same]
  exact Nat.lt_of_lt_of_le h1 (Nat.mul_le_mul h2 htwo)

/-- The judgement of R53 on a number that is written with the spacing of its binade. -/
theorem FloatFmt.Spaced.beyondMax_eq_false_iff (h : f.Spaced m e) (hf : f.Regular) : beyondMax f m e = false ↔ f.inTop m e := by
  rw [Machine.beyondMax_eq_false_iff, FloatFmt.inTop]
  rcases Int.lt_trichotomy e f.maxE with hlt | rfl | hgt
  · exact iff_of_true (Rat.le_of_lt (magnitude_lt_of_spacing h.fits hf.leading hlt)) (.inl hlt)
  · rw [magnitude_le_iff_same]
    exact ⟨fun hle => .inr ⟨rfl, hle⟩, fun htop => htop.elim (absurd · (Int.lt_irrefl _)) (·.2)⟩
  · have habove := hf.above
    have hlarger := magnitude_lt_of_spacing hf.below (h.normal (by omega)) hgt
    exact iff_of_false (Rat.not_le.2 hlarger) (by omega)

end

/-! ### Conversions of values that the target holds (R47, R55) -/

section
variable {f : FloatFmt} {m : Nat} {e : Int}

/-- Where the spacing of the target is no wider than the value's own there is nothing to round, in any mode. -/
theorem roundMag_exact (mode : Rnd) (r m : Nat) {e u : Int} (h : u ≤ e) : roundMag mode r m e u = m * pow2 (e - u) := by rw [roundMag, if_pos h]

theorem roundMag_self (mode : Rnd) (r m : Nat) (u : Int) : roundMag mode r m u u = m := by
  rw [roundMag_exact mode r m (Int.le_refl u), Int.sub_self]
  exact Nat.mul_one m

theorem convFloat_zero (f : FloatFmt) (mode : Rnd) (range : Bool) (r : Nat) (neg : Bool) (e : Int) : convFloat f mode range r (.fin neg 0 e) = ⟨signBit f neg, {}⟩ := by
  rw [convFloat, if_pos rfl]

/-- A conversion counts nothing exactly where what it rounds to is in range (R53), and then writes its encoding. -/
theorem convFloat_fin {u : Int} {n : Nat} {mode : Rnd} {r : Nat} (hm : m ≠ 0) (hu : ulpExp f m e = u) (hn : roundMag mode r m e u = n) (range neg : Bool) :
    convFloat f mode range r (.fin neg m e) = if beyondMax f n u then convBeyond f range neg else ⟨encodeFinite f neg n u, {}⟩ := by
  subst hu hn
  rw [convFloat, if_neg hm]

/-- A number spaced as the format has it keeps its spacing. -/
theorem FloatFmt.Spaced.ulpExp (h : f.Spaced m e) (hm : m ≠ 0) : ulpExp f m e = e := by
  obtain ⟨hfits, hlow, hnormal⟩ := h
  have hle : m.log2 < f.manBits + 1 := (Nat.log2_lt hm).2 hfits
  have hge : e ≠ f.umin → f.manBits ≤ m.log2 := fun hne => (Nat.le_log2 hm).2 (hnormal hne)
  rw [Machine.ulpExp]
  omega

/-- A conversion of a value that is written as the target's numbers are writes its encoding and counts nothing, in any mode. -/
theorem convFloat_spaced (hf : f.Regular) (h : f.Spaced m e) (htop : f.inTop m e) (mode : Rnd) (range : Bool) (r : Nat) (neg : Bool) :
    convFloat f mode range r (.fin neg m e) = ⟨encodeFinite f neg m e, {}⟩ := by
  by_cases hm : m = 0
  · rw [h.encodeFinite, FloatFmt.code, hm, if_pos (Nat.two_pow_pos _), Nat.add_zero, convFloat_zero]
  · rw [convFloat_fin hm (h.ulpExp hm) (roundMag_self mode r m e), (h.beyondMax_eq_false_iff hf).2 htop, if_neg Bool.false_ne_true]

end

/-- Settles O52: an encoding's number is written with the spacing of its binade, so that no mode finds anything to round. -/
theorem conversionKeepsRepresentableValues : Obligations.ConversionKeepsRepresentableValues := by
  intro f hf b hb hfin mode range r
  cases hdec : decodeFloat f b with
  | fin neg m e =>
    obtain ⟨hspaced, htop⟩ := decodeFloat_spaced hf hdec
    rw [convFloat_spaced (FloatFmt.regular hf) hspaced htop, encodeFinite_of_decodeFloat hf hb hdec]
  | inf neg => rw [hdec] at hfin; cases hfin
  | nan => rw [hdec] at hfin; cases hfin

/-! ### The binade of a value -/

section
variable {f : FloatFmt} {m : Nat} {e : Int}

/-- A value lies below the top of the binade whose spacing rounds it. -/
theorem magnitude_lt_of_ulpExp (f : FloatFmt) (m : Nat) (e : Int) : magnitude m e < magnitude (2 ^ (f.manBits + 1)) (ulpExp f m e) := by
  have hlog : magnitude m e < magnitude (2 ^ (m.log2 + 1)) e := (magnitude_lt_iff_same _ _ _).2 Nat.lt_log2_self
  have htop : magnitude (2 ^ (m.log2 + 1)) e ≤ magnitude (2 ^ (f.manBits + 1)) (ulpExp f m e) := by
    rw [magnitude_two_pow, magnitude_two_pow]
    exact exp2_le (by rw [ulpExp]; omega)
  grind

/-- And at or above its bottom, where a wider spacing than the least rounds it. -/
theorem magnitude_ge_of_ulpExp (hm : m ≠ 0) (hu : ulpExp f m e ≠ f.umin) : magnitude (2 ^ f.manBits) (ulpExp f m e) ≤ magnitude m e := by
  have hbottom : magnitude (2 ^ f.manBits) (ulpExp f m e) = magnitude (2 ^ m.log2) e := by
    rw [magnitude_two_pow, magnitude_two_pow]
    congr 1
    rw [ulpExp] at hu ⊢
    omega
  rw [hbottom, magnitude_le_iff_same]
  exact Nat.log2_self_le hm

theorem umin_le_ulpExp (f : FloatFmt) (m : Nat) (e : Int) : f.umin ≤ ulpExp f m e := Int.le_max_left _ _

/-- A value counted in the spacing that rounds it, to less than one: the count has the leading bit or the spacing is the least. -/
theorem leading_le_of_count {n : Nat} (hm : m ≠ 0) (hn : magnitude m e < magnitude n (ulpExp f m e) + exp2 (ulpExp f m e)) (hu : ulpExp f m e ≠ f.umin) :
    2 ^ f.manBits ≤ n := by
  have hbottom := magnitude_ge_of_ulpExp hm hu
  rw [← magnitude_add_one] at hn
  exact Nat.le_of_lt_succ ((magnitude_lt_iff_same _ _ (ulpExp f m e)).1 (by grind))

/-- And the count has no more digits than the fraction, but where it reached the next binade. -/
theorem count_le_of_lt {n : Nat} (hn : magnitude n (ulpExp f m e) < magnitude m e + exp2 (ulpExp f m e)) : n ≤ 2 ^ (f.manBits + 1) := by
  have htop := magnitude_lt_of_ulpExp f m e
  refine Nat.le_of_lt_succ ((magnitude_lt_iff_same _ _ (ulpExp f m e)).1 ?_)
  rw [Nat.succ_eq_add_one, magnitude_add_one]
  grind

theorem FloatFmt.Regular.spaced_zero (hf : f.Regular) : f.Spaced 0 f.umin ∧ f.inTop 0 f.umin :=
  ⟨⟨Nat.two_pow_pos _, Int.le_refl _, fun h => absurd rfl h⟩, (Int.lt_or_eq_of_le hf.above).imp id fun h => ⟨h, Nat.zero_le _⟩⟩

/-- A value with no more digits than the target has, of which none lies below its least spacing, converts exactly where it is in range. -/
theorem convFloat_exact (hf : f ∈ floatFormats) (hfits : m < 2 ^ (f.manBits + 1)) (hlow : f.umin ≤ e) (hmax : magnitude m e ≤ magnitude f.maxM f.maxE) (mode : Rnd) (range : Bool)
    (r : Nat) (neg : Bool) : (convFloat f mode range r (.fin neg m e)).cnt = {} ∧
      (decodeFloat f (convFloat f mode range r (.fin neg m e)).bits).eqv (.fin neg m e) = true := by
  by_cases hm : m = 0
  · obtain ⟨hspaced, htop⟩ := (FloatFmt.regular hf).spaced_zero
    subst hm
    rw [convFloat_zero, ← convFloat_zero f mode range r neg f.umin, convFloat_spaced (FloatFmt.regular hf) hspaced htop]
    refine ⟨rfl, ?_⟩
    rw [decodeFloat_encodeFinite hf neg hspaced htop, fin_eqv_iff, magnitude_zero, magnitude_zero]
  · have hu : ulpExp f m e ≤ e := by
      have := (Nat.log2_lt hm).2 hfits
      rw [ulpExp]; omega
    have hn := magnitude_shift m hu
    have hpos := exp2_pos (ulpExp f m e)
    have hlt := magnitude_lt_of_ulpExp f m e
    have hspaced : f.Spaced (m * pow2 (e - ulpExp f m e)) (ulpExp f m e) :=
      ⟨(magnitude_lt_iff_same _ _ (ulpExp f m e)).1 (by rwa [hn]), umin_le_ulpExp f m e, leading_le_of_count hm (by grind)⟩
    have hbeyond := (beyondMax_eq_false_iff f _ (ulpExp f m e)).2 (by rwa [hn])
    rw [convFloat_fin hm rfl (roundMag_exact _ _ _ hu), hbeyond, if_neg Bool.false_ne_true]
    refine ⟨rfl, ?_⟩
    rw [decodeFloat_encodeFinite hf neg hspaced ((hspaced.beyondMax_eq_false_iff (FloatFmt.regular hf)).1 hbeyond), fin_eqv_iff, hn]

/-! ### The two modes of R48 -/

/-- A value and a count of spacings, apart in the units of the value. -/
theorem magnitude_sub (m n : Nat) {e u : Int} (h : e ≤ u) : magnitude m e - magnitude n u = (((m : Int) - n * pow2 (u - e) : Int) : Rat) * exp2 e := by
  rw [← magnitude_shift n h, magnitude, magnitude, Rat.intCast_sub, Rat.intCast_mul, Rat.intCast_natCast, Rat.intCast_natCast, Rat.intCast_natCast, Rat.natCast_mul]
  grind

/-- Rounded toward zero, a value lies less than a spacing above its count. -/
theorem roundMag_zero_bounds (r m : Nat) (e u : Int) :
    magnitude (roundMag .zero r m e u) u ≤ magnitude m e ∧ magnitude m e < magnitude (roundMag .zero r m e u) u + exp2 u := by
  by_cases h : u ≤ e
  · have hpos := exp2_pos u
    rw [roundMag_exact _ _ _ h, magnitude_shift m h]
    grind
  · have hle : e ≤ u := by omega
    rw [roundMag, if_neg h, ← magnitude_add_one, ← magnitude_shift _ hle, ← magnitude_shift (m / _ + 1) hle, magnitude_le_iff_same, magnitude_lt_iff_same]
    exact ⟨Nat.div_mul_le_self _ _, Nat.lt_mul_of_div_lt (Nat.lt_succ_self _) (Nat.two_pow_pos _)⟩

/-- The count nearest to m / d lies within half of it, and is even where it lies a whole half off. -/
theorem nearest_count {m d : Nat} (n : Nat) (hd : 0 < d)
    (hn : n = if d < 2 * (m % d) then m / d + 1 else if 2 * (m % d) = d then m / d + m / d % 2 else m / d) :
    (-(d : Int) ≤ 2 * ((m : Int) - n * d) ∧ 2 * ((m : Int) - n * d) ≤ d) ∧
      (2 * ((m : Int) - n * d) = d ∨ 2 * ((m : Int) - n * d) = -(d : Int) → n % 2 = 0) := by
  have hm : (m : Int) = d * (m / d : Nat) + (m % d : Nat) := by exact_mod_cast (Nat.div_add_mod m d).symm
  have hlt := Nat.mod_lt m hd
  generalize m / d = q at *
  generalize m % d = rem at *
  have down : n = q → (m : Int) - n * d = rem := by rintro rfl; rw [hm, Int.mul_comm]; omega
  have up : n = q + 1 → (m : Int) - n * d = rem - d := by rintro rfl; rw [hm, Int.natCast_add, Int.add_mul, Int.mul_comm]; omega
  by_cases hmore : d < 2 * rem
  · rw [if_pos hmore] at hn
    rw [up hn]; omega
  · rw [if_neg hmore] at hn
    by_cases htie : 2 * rem = d
    · rw [if_pos htie] at hn
      rcases Nat.mod_two_eq_zero_or_one q with heven | hodd
      · rw [down (by omega)]; omega
      · rw [up (by omega)]; omega
    · rw [if_neg htie] at hn
      rw [down hn]; omega

theorem scaled_le_iff (a b e : Int) : (a : Rat) * exp2 e ≤ b * exp2 e ↔ a ≤ b := by
  rw [← Rat.not_lt, Rat.mul_lt_mul_right (exp2_pos e), Rat.intCast_lt_intCast, Int.not_lt]

theorem scaled_eq_iff (a b e : Int) : (a : Rat) * exp2 e = b * exp2 e ↔ a = b := by
  rw [Rat.le_antisymm_iff, scaled_le_iff, scaled_le_iff]
  omega

/-- The multiple n w lies within half of w from x, and n is even where it lies a whole half off. -/
structure NearestMultiple (x w : Rat) (n : Nat) : Prop where
  above : -w ≤ 2 * (x - n * w)
  below : 2 * (x - n * w) ≤ w
  tie : 2 * (x - n * w) = w ∨ 2 * (x - n * w) = -w → n % 2 = 0

/-- Rounded to nearest, a value moves by half a spacing at most, and by a whole half to an even count alone. -/
theorem roundMag_nearest (r m : Nat) (e u : Int) : NearestMultiple (magnitude m e) (exp2 u) (roundMag .nearest r m e u) := by
  by_cases h : u ≤ e
  · have hpos := exp2_pos u
    have hzero : 2 * (magnitude m e - (roundMag .nearest r m e u : Nat) * exp2 u) = 0 := by
      rw [roundMag_exact _ _ _ h, ← magnitude, magnitude_shift m h]; grind
    exact ⟨by grind, by grind, by grind⟩
  · obtain ⟨⟨habove, hbelow⟩, htie⟩ := nearest_count (m := m) (d := pow2 (u - e)) (roundMag .nearest r m e u) (Nat.two_pow_pos _) (by rw [roundMag, if_neg h])
    have hunit : exp2 u = ((pow2 (u - e) : Int) : Rat) * exp2 e := by rw [Rat.intCast_natCast, pow2_cast (by omega), ← exp2_add, Int.sub_add_cancel]
    have hminus : -exp2 u = ((-(pow2 (u - e) : Int) : Int) : Rat) * exp2 e := by rw [Rat.intCast_neg, Rat.neg_mul, ← hunit]
    have hoff : 2 * (magnitude m e - (roundMag .nearest r m e u : Nat) * exp2 u) =
        ((2 * ((m : Int) - (roundMag .nearest r m e u : Nat) * (pow2 (u - e) : Nat)) : Int) : Rat) * exp2 e := by
      rw [← magnitude, magnitude_sub _ _ (show e ≤ u by omega), Rat.intCast_mul, Rat.mul_assoc]
      rfl
    constructor
    · rw [hoff, hminus, scaled_le_iff]; exact habove
    · rw [hoff, hunit, scaled_le_iff]; exact hbelow
    · rw [hoff, hminus, hunit, scaled_eq_iff, scaled_eq_iff]; exact htie

/-! ### What a rounded count is encoded as -/

/-- A count that reached the next binade is the least number of it: it is encoded, and stands for the same, with twice the spacing. -/
theorem decodeFloat_encodeFinite_count (hf : f ∈ floatFormats) (neg : Bool) {n : Nat} {u : Int} (hlow : f.umin ≤ u) (hle : n ≤ 2 ^ (f.manBits + 1))
    (hnormal : u ≠ f.umin → 2 ^ f.manBits ≤ n) (hmax : beyondMax f n u = false) :
    ∃ m' e', decodeFloat f (encodeFinite f neg n u) = .fin neg m' e' ∧ magnitude m' e' = magnitude n u := by
  have hreg := FloatFmt.regular hf
  have hpow : 2 ^ f.manBits < 2 ^ (f.manBits + 1) := Nat.pow_lt_pow_right (by decide) (Nat.lt_succ_self _)
  rcases Nat.lt_or_eq_of_le hle with hlt | heq
  · have hspaced : f.Spaced n u := ⟨hlt, hlow, hnormal⟩
    exact ⟨n, u, decodeFloat_encodeFinite hf neg hspaced ((hspaced.beyondMax_eq_false_iff hreg).1 hmax), rfl⟩
  · have hnext : encodeFinite f neg n u = encodeFinite f neg (2 ^ f.manBits) (u + 1) := by
      rw [encodeFinite, encodeFinite, if_pos heq, if_pos heq, if_neg (Nat.ne_of_lt hpow), if_neg (Nat.ne_of_lt hpow)]
    have hsame : magnitude (2 ^ f.manBits) (u + 1) = magnitude n u := by rw [magnitude_succ, heq, Nat.pow_succ]
    have hspaced : f.Spaced (2 ^ f.manBits) (u + 1) := ⟨hpow, by omega, fun _ => Nat.le_refl _⟩
    have hrange : beyondMax f (2 ^ f.manBits) (u + 1) = false := by rwa [beyondMax_eq_false_iff, hsame, ← beyondMax_eq_false_iff]
    exact ⟨_, _, hnext ▸ decodeFloat_encodeFinite hf neg hspaced ((hspaced.beyondMax_eq_false_iff hreg).1 hrange), hsame⟩

/-- The last bit of an encoding is that of the count. -/
theorem encodeFinite_parity (hf : f.Regular) (neg : Bool) (n : Nat) (u : Int) : encodeFinite f neg n u % 2 = n % 2 := by
  have hman : 2 ∣ 2 ^ f.manBits := Nat.pow_dvd_pow 2 hf.fraction
  have hnext : 2 ∣ 2 ^ (f.manBits + 1) := Nat.pow_dvd_pow 2 (Nat.succ_pos _)
  have hsign : 2 ∣ signBit f neg := by
    obtain ⟨k, hk⟩ := signBit_multiple f neg
    rw [hk]
    exact Nat.dvd_mul_right_of_dvd hman _
  have hcount : (if n = 2 ^ (f.manBits + 1) then 2 ^ f.manBits else n) % 2 = n % 2 := by split <;> omega
  rw [encodeFinite]
  generalize (if n = 2 ^ (f.manBits + 1) then 2 ^ f.manBits else n) = n' at *
  generalize (if n = 2 ^ (f.manBits + 1) then u + 1 else u) = u'
  have hexp : 2 ∣ (u' - f.umin + 1).toNat * 2 ^ f.manBits := Nat.dvd_mul_left_of_dvd hman _
  split <;> omega

theorem convBeyond_counts (f : FloatFmt) (range neg : Bool) : (convBeyond f range neg).cnt ≠ {} := by
  rw [convBeyond]
  cases range with
  | true =>
    rw [if_pos rfl]
    by_cases h : f = fE4M3
    · rw [if_pos h]; show ({ nfNan := 1 } : Counts) ≠ {}; decide
    · rw [if_neg h]; show ({ nfInf := 1 } : Counts) ≠ {}; decide
  | false => rw [if_neg Bool.false_ne_true]; show ({ finiteSat := 1 } : Counts) ≠ {}; decide

/-- A conversion that counts nothing wrote a count within one spacing of the value. -/
theorem convFloat_rounded (hf : f ∈ floatFormats) (hm : m ≠ 0) {mode : Rnd} {r n : Nat} {u : Int} (hu : ulpExp f m e = u) (hn : roundMag mode r m e u = n)
    (habove : magnitude n u < magnitude m e + exp2 u) (hbelow : magnitude m e < magnitude n u + exp2 u) (range neg : Bool)
    (hc : (convFloat f mode range r (.fin neg m e)).cnt = {}) :
    ∃ m' e', decodeFloat f (convFloat f mode range r (.fin neg m e)).bits = .fin neg m' e' ∧ magnitude m' e' = magnitude n u ∧
      (convFloat f mode range r (.fin neg m e)).bits % 2 = n % 2 := by
  rw [convFloat_fin hm hu hn] at hc ⊢
  subst hu
  cases hmax : beyondMax f n (ulpExp f m e) with
  | true =>
    rw [hmax, if_pos rfl] at hc
    exact absurd hc (convBeyond_counts f range neg)
  | false =>
    rw [if_neg Bool.false_ne_true]
    obtain ⟨m', e', hdec, hsame⟩ := decodeFloat_encodeFinite_count hf neg (umin_le_ulpExp f m e) (count_le_of_lt (m := m) (e := e) habove) (leading_le_of_count hm hbelow) hmax
    exact ⟨m', e', hdec, hsame, encodeFinite_parity (FloatFmt.regular hf) neg n _⟩

/-! ### Where the numbers of a format lie -/

/-- Every number of a format is a multiple of a given spacing, or lies below the numbers that have their leading bit with it. -/
theorem multiple_or_below (hfits : m < 2 ^ (f.manBits + 1)) (e u : Int) :
    (∃ k : Nat, magnitude m e = magnitude k u) ∨ e < u ∧ magnitude m e < magnitude (2 ^ f.manBits) u := by
  by_cases h : u ≤ e
  · exact .inl ⟨_, (magnitude_shift m h).symm⟩
  · have hlt : e < u := by omega
    exact .inr ⟨hlt, magnitude_lt_of_spacing hfits (Nat.le_refl _) hlt⟩

theorem abs_cases (x : Rat) : x.abs = x ∧ 0 ≤ x ∨ x.abs = -x ∧ x ≤ 0 := by
  rcases Rat.le_total (a := 0) (b := x) with h | h
  · exact .inl ⟨Rat.abs_of_nonneg h, h⟩
  · exact .inr ⟨Rat.abs_of_nonpos h, h⟩

/-- Different multiples of w lie at least w apart. -/
theorem multiples_apart {w : Rat} (hw : 0 < w) {k n : Int} (h : k ≠ n) : w ≤ n * w - k * w ∨ w ≤ k * w - n * w := by
  have step : ∀ {a b : Int}, a < b → w ≤ b * w - a * w := fun {a b} hab => by
    have hle : ((a + 1 : Int) : Rat) * w ≤ b * w := Rat.mul_le_mul_of_nonneg_right (Rat.intCast_le_intCast.2 hab) (Rat.le_of_lt hw)
    have hone : ((a + 1 : Int) : Rat) * w = a * w + w := by rw [Rat.intCast_add, Rat.add_mul]; exact congrArg _ (Rat.one_mul w)
    grind
  rcases Int.lt_or_gt_of_ne h with hlt | hgt
  · exact .inl (step hlt)
  · exact .inr (step hgt)

/-- The nearest multiple lies no farther than any other, and another as near leaves its count even. -/
theorem NearestMultiple.noFarther {x w : Rat} {n : Nat} (h : NearestMultiple x w n) (hw : 0 < w) (k : Int) :
    (x - n * w).abs ≤ (x - k * w).abs ∧ ((x - k * w).abs ≤ (x - n * w).abs → (k : Rat) * w ≠ n * w → n % 2 = 0) := by
  obtain ⟨habove, hbelow, htie⟩ := h
  by_cases hk : k = n
  · subst hk
    exact ⟨Rat.le_refl, fun _ hne => absurd rfl hne⟩
  · have hapart := multiples_apart hw hk
    rw [Rat.intCast_natCast] at hapart
    have hx := abs_cases (x - n * w)
    have hz := abs_cases (x - k * w)
    exact ⟨by grind, fun hclose _ => htie (by grind)⟩

/-- Nothing below a multiple that the value reaches lies as near. -/
theorem NearestMultiple.nearer {x z w : Rat} {n l : Nat} (h : NearestMultiple x w n) (hw : 0 < w) (hz : z.abs < l * w) (hx : l * w ≤ x) :
    (x - n * w).abs < (x - z).abs := by
  have hl := (h.noFarther hw l).1
  rw [Rat.intCast_natCast, Rat.abs_of_nonneg (x := x - l * w) (by grind)] at hl
  have hzero := abs_cases z
  have hfar := abs_cases (x - z)
  grind

/-- A number's sign against another's, and that other sign, make its own. -/
theorem signFactor_mul_cancel (neg n2 : Bool) (z : Rat) : signFactor neg * (signFactor (neg != n2) * z) = signFactor n2 * z := by
  cases neg
  · rw [Bool.false_bne]
    exact Rat.one_mul _
  · rw [Bool.true_bne, signFactor_not, signFactor, if_pos rfl]
    grind

theorem signFactor_mul_self (neg : Bool) (z : Rat) : signFactor (neg != neg) * z = z := by
  rw [bne_self_eq_false]
  exact Rat.one_mul z

/-- The distance of two numbers, with the sign of the first taken off both. -/
theorem abs_signFactor_sub (neg n2 : Bool) (x z : Rat) : (signFactor neg * x - signFactor n2 * z).abs = (x - signFactor (neg != n2) * z).abs := by
  rw [← abs_signFactor_mul neg (x - signFactor (neg != n2) * z), ← signFactor_mul_cancel neg n2 z]
  congr 1
  grind

/-- No number of the format lies nearer to a value than its rounded count, and another as near leaves the count even (R48). -/
theorem nearest_count_of_format (hm : m ≠ 0) {n : Nat} {u : Int} (hu : ulpExp f m e = u) (h : NearestMultiple (magnitude m e) (exp2 u) n) {m2 : Nat} {e2 : Int}
    (hs : f.Spaced m2 e2) (neg : Bool) :
    (magnitude m e - magnitude n u).abs ≤ (magnitude m e - signFactor neg * magnitude m2 e2).abs ∧
      ((magnitude m e - signFactor neg * magnitude m2 e2).abs ≤ (magnitude m e - magnitude n u).abs → signFactor neg * magnitude m2 e2 ≠ magnitude n u → n % 2 = 0) := by
  have hw := exp2_pos u
  rcases multiple_or_below hs.fits e2 u with ⟨k, hk⟩ | ⟨hlt, hbelow⟩
  · have hmultiple : signFactor neg * magnitude m2 e2 = ((smant neg k : Int) : Rat) * exp2 u := by rw [hk, smant_cast, Rat.mul_assoc, magnitude]
    rw [hmultiple]
    exact h.noFarther hw (smant neg k)
  · have hnormal : ulpExp f m e ≠ f.umin := by have := hs.low; omega
    have hleading := magnitude_ge_of_ulpExp hm hnormal
    rw [hu] at hleading
    have hnearer := h.nearer (l := 2 ^ f.manBits) hw (z := signFactor neg * magnitude m2 e2)
      (by rwa [abs_signFactor_mul, Rat.abs_of_nonneg (magnitude_nonneg _ _)]) hleading
    exact ⟨Rat.le_of_lt hnearer, fun hclose _ => absurd hclose (Rat.not_le.2 hnearer)⟩

/-- A number of the format that is no larger than a value is no larger than the value's whole count of spacings (R48). -/
theorem le_count_of_format (hm : m ≠ 0) {n : Nat} {u : Int} (hu : ulpExp f m e = u) (hn : magnitude m e < magnitude n u + exp2 u) {m2 : Nat} {e2 : Int}
    (hs : f.Spaced m2 e2) (hle : magnitude m2 e2 ≤ magnitude m e) : magnitude m2 e2 ≤ magnitude n u := by
  rcases multiple_or_below hs.fits e2 u with ⟨k, hk⟩ | ⟨hlt, hbelow⟩
  · rw [← magnitude_add_one] at hn
    rw [hk] at hle ⊢
    exact (magnitude_le_iff_same _ _ _).2 (Nat.le_of_lt_succ ((magnitude_lt_iff_same _ _ u).1 (by grind)))
  · subst hu
    have hnormal : ulpExp f m e ≠ f.umin := by have := hs.low; omega
    exact Rat.le_trans (Rat.le_of_lt hbelow) ((magnitude_le_iff_same _ _ _).2 (leading_le_of_count hm hn hnormal))

end

/-- Settles O54: the count of spacings a value is rounded to lies within half a spacing of it, or a whole one below, and every number of the format is a multiple
of that spacing or lies below the value's binade. -/
theorem roundingChoosesTheNearest : Obligations.RoundingChoosesTheNearest := by
  intro f hf neg m e range r hpos
  have hm : m ≠ 0 := Nat.ne_of_gt hpos
  have hw := exp2_pos (ulpExp f m e)
  constructor
  · rintro c rfl hc
    have hnearest := roundMag_nearest r m e (ulpExp f m e)
    have habove := hnearest.above
    have hbelow := hnearest.below
    rw [← magnitude] at habove hbelow
    obtain ⟨m', e', hdec, hsame, hparity⟩ := convFloat_rounded hf hm rfl rfl (by grind) (by grind) range neg hc
    refine ⟨m', e', hdec, fun b n2 m2 e2 hb => ?_⟩
    obtain ⟨hnear, heven⟩ := nearest_count_of_format hm rfl hnearest (decodeFloat_spaced hf hb).1 (neg != n2)
    rw [noFarther_iff, noFarther_iff, abs_signFactor_sub, abs_signFactor_sub neg n2, signFactor_mul_self, hsame, hparity]
    refine ⟨hnear, fun hclose hne => heven hclose fun heq => ?_⟩
    rw [(fin_eqv_iff n2 neg m2 m' e2 e').2 (by rw [hsame, ← heq, signFactor_mul_cancel])] at hne
    cases hne
  · rintro c rfl hc
    obtain ⟨hbelow, habove⟩ := roundMag_zero_bounds r m e (ulpExp f m e)
    obtain ⟨m', e', hdec, hsame, -⟩ := convFloat_rounded hf hm rfl rfl (by grind) habove range neg hc
    refine ⟨m', e', hdec, (magLe_iff _ _ _ _).2 (hsame ▸ hbelow), fun b n2 m2 e2 hb hle => ?_⟩
    rw [magLe_iff, hsame]
    exact le_count_of_format hm rfl habove (decodeFloat_spaced hf hb).1 ((magLe_iff _ _ _ _).1 hle)

/-! ### Widening conversions (R55) -/

/-- Every finite number of one format has digits, spacing and range that the other has too. -/
structure FloatFmt.Within (f g : FloatFmt) : Prop where
  digits : f.manBits ≤ g.manBits
  spacing : g.umin ≤ f.umin
  range : magLe f.maxM f.maxE g.maxM g.maxE = true

theorem decodeFloat_le_max {f : FloatFmt} (hf : f ∈ floatFormats) {b : Nat} {neg : Bool} {m : Nat} {e : Int} (h : decodeFloat f b = .fin neg m e) :
    magnitude m e ≤ magnitude f.maxM f.maxE := by
  obtain ⟨hspaced, htop⟩ := decodeFloat_spaced hf h
  exact (beyondMax_eq_false_iff f m e).1 ((hspaced.beyondMax_eq_false_iff (FloatFmt.regular hf)).2 htop)

theorem convFloat_decodeFloat_within {f g : FloatFmt} (hf : f ∈ floatFormats) (hg : g ∈ floatFormats) (h : f.Within g) {b : Nat} (hfin : (decodeFloat f b).isFinite = true)
    (mode : Rnd) (range : Bool) (r : Nat) : (convFloat g mode range r (decodeFloat f b)).cnt = {} ∧
      (decodeFloat g (convFloat g mode range r (decodeFloat f b)).bits).eqv (decodeFloat f b) = true := by
  cases hdec : decodeFloat f b with
  | fin neg m e =>
    obtain ⟨hspaced, -⟩ := decodeFloat_spaced hf hdec
    exact convFloat_exact hg (Nat.lt_of_lt_of_le hspaced.fits (Nat.pow_le_pow_right (by decide) (Nat.succ_le_succ h.digits))) (Int.le_trans h.spacing hspaced.low)
      (Rat.le_trans (decodeFloat_le_max hf hdec) ((magLe_iff _ _ _ _).1 h.range)) mode range r neg
  | inf neg => rw [hdec] at hfin; cases hfin
  | nan => rw [hdec] at hfin; cases hfin

/-- An integer of `w` bits converts to its two's complement, in any mode (R40). -/
theorem convInt_ofInt {w : Nat} (hw : 0 < w) {i : Int} (hlow : -(2 ^ (w - 1)) ≤ i) (hhigh : i < 2 ^ (w - 1)) (mode : Rnd) (r : Nat) :
    ∃ b, convInt w mode r (.ofInt i) = ⟨b, {}⟩ ∧ signed w b = i := by
  have hround : (if i.natAbs = 0 then 0 else roundMag mode r i.natAbs 0 0) = i.natAbs := by
    rw [roundMag_self]
    split <;> omega
  have hpow : 2 ^ w = 2 ^ (w - 1) * 2 := by rw [← Nat.pow_succ, Nat.succ_eq_add_one, Nat.sub_add_cancel hw]
  have hcast : ((2 ^ (w - 1) : Nat) : Int) = 2 ^ (w - 1) := Int.natCast_pow 2 _
  rw [Val.ofInt, convInt, hround]
  rw [← hcast] at hlow hhigh
  unfold signed
  generalize 2 ^ (w - 1) = half at *
  rw [hpow]
  by_cases hneg : i < 0
  · refine ⟨half * 2 - i.natAbs, ?_, ?_⟩
    · rw [if_pos (decide_eq_true hneg), if_neg (by omega), Nat.mod_eq_of_lt (by omega)]
    · rw [Nat.mod_eq_of_lt (by omega), if_neg (by omega)]; omega
  · refine ⟨i.natAbs, ?_, ?_⟩
    · rw [decide_eq_false hneg, if_neg Bool.false_ne_true, if_neg (by omega)]
    · rw [Nat.mod_eq_of_lt (by omega), if_pos (by omega)]; omega

/-- Settles O53: each target has all the digits, the spacing and the range of its source, so that nothing is rounded and nothing counted. -/
theorem wideningConversionsAreExact : Obligations.WideningConversionsAreExact := by
  refine ⟨fun p hp b _ hfin mode range r => ?_, fun i hlow hhigh mode range r => ?_, fun p hp i hlow hhigh mode r => ?_⟩
  · obtain ⟨hf, hg, hwithin⟩ : p.1 ∈ floatFormats ∧ p.2 ∈ floatFormats ∧ p.1.Within p.2 := by
      simp only [List.mem_cons, List.not_mem_nil, or_false] at hp
      rcases hp with rfl | rfl | rfl | rfl <;> exact ⟨by decide, by decide, by decide, by decide, by decide⟩
    exact convFloat_decodeFloat_within hf hg hwithin hfin mode range r
  · have hmax : magnitude 128 0 ≤ magnitude fFP32.maxM fFP32.maxE := (magLe_iff _ _ _ _).1 (by decide)
    have hle : i.natAbs ≤ 128 := by omega
    exact convFloat_exact (by decide) (Nat.lt_of_le_of_lt hle (by decide)) (by decide) (Rat.le_trans ((magnitude_le_iff_same _ _ _).2 hle) hmax) mode range r _
  · obtain ⟨hpos, hwide⟩ : 0 < p.2 ∧ (2 : Int) ^ (p.1 - 1) ≤ 2 ^ (p.2 - 1) := by
      simp only [List.mem_cons, List.not_mem_nil, or_false] at hp
      rcases hp with rfl | rfl | rfl <;> decide
    exact convInt_ofInt hpos (by omega) (by omega) mode r

/-! ### Manifest writes that are granted -/

section
variable {s : State} {q : ManifestReq} {row : ManifestRow} {r : ObjRow} {i : Instr} {d : Dev}

/-- A granted request of a row gives the next state: the row's effect and the reply OK, with what they change of the module's make-up. -/
theorem onReq_rowDone_yes (h : Passes s q row r) (hi : wellFormed i = true) {run : ObjRow → Dev → Answer} (ha : run r (s.opened q) = d.yes) :
    onReq i q (fun f d => Dev.rowDone f d q row run) s = .next (s.withDev ((d.replied q).audit s.dev)) := by
  obtain ⟨_, hchecked⟩ := h
  rw [onReq_first hchecked.first, onDevF_runs hi, Dev.rowDone, onRow_yes ⟨_, hchecked⟩ _ ha]

/-- The same of a row that accounts for the change of the make-up itself. -/
theorem onReq_onRow_yes (h : Passes s q row r) (hi : wellFormed i = true) {run : Fuses → ObjRow → Dev → Answer} (ha : run s.fuses r (s.opened q) = d.yes) :
    onReq i q (fun f d => (Dev.onRow f d q row (run f)).1) s = .next (s.withDev (d.replied q)) := by
  obtain ⟨_, hchecked⟩ := h
  rw [onReq_first hchecked.first, onDevF_runs hi, onRow_yes ⟨_, hchecked⟩ _ ha]

end

/-! ### When each write is granted -/

section
variable {d : Dev} {r : ObjRow} {v : Nat}

theorem writeCadence_yes (hrange : outside r v = false) (hne : v ≠ d.obj 0xD300 1) (htimer : ¬(v = 1 ∧ d.obj 0xA000 8 ≠ 0)) (hsync : v = 2 → d.syncHolder = none) :
    d.writeCadence r v = (d.setCadence v).yes := by
  have hholder : (if v = 2 ∧ d.cadenceHolds 2 = false then d.syncHolder else none) = none := by
    split
    · next h => exact hsync h.1
    · rfl
  simp only [Dev.writeCadence, hrange, Bool.false_eq_true, if_false, if_neg hne, if_neg htimer, hholder]

theorem writeSnapPeriod_yes (hrange : v = 0 ∨ (1000000 ≤ v ∧ v ≤ 100000000000)) (hne : v ≠ d.obj 0xA000 8) (hfree : ¬(v ≠ 0 ∧ d.cadenceHolds 1 = true)) :
    d.writeSnapPeriod v = (d.setSnapPeriod v).yes := by
  rw [Dev.writeSnapPeriod, if_neg (by omega), if_neg hne, if_neg hfree]

theorem writeIoUse_yes {idx : Nat} (hrange : outside r v = false) (hidle : d.ioWork (d.obj idx 1) = false) (hne : v ≠ d.obj idx 1) (hfree : d.obj idx 1 = 0 ∨ v = 0)
    (hlast : ¬(d.obj idx 1 = 3 ∧ ((List.range 8).filter fun t => d.obj (0x8210 + t) 1 == 3).length = 1)) : d.writeIoUse r idx v = (d.setObj idx 1 v).yes := by
  have hbusy : d.ioBusy (d.obj idx 1) = (false, d) := by rw [Dev.ioBusy, hidle, if_neg Bool.false_ne_true]
  have hconflict : ¬(d.obj idx 1 ≠ 0 ∧ v ≠ 0) := by omega
  simp only [Dev.writeIoUse, hbusy, hlast, hrange, Bool.false_eq_true, or_self, and_false, if_false, if_neg hne, if_neg hconflict]

theorem writePortUse_yes (f : Fuses) {idx : Nat} (hrange : outside r v = false) (hne : v ≠ d.obj idx 3) (hfree : d.obj idx 3 = 0 ∨ v = 0) :
    Dev.writePortUse f d r idx v = (Dev.netAudit f (d.setObj idx 3 v) d).yes := by
  have hconflict : ¬(d.obj idx 3 ≠ 0 ∧ v ≠ 0) := by omega
  simp only [Dev.writePortUse, hrange, Bool.false_eq_true, if_false, if_neg hne, if_neg hconflict]

theorem writeRetain_yes {cl : Nat} (hrange : outside r v = false) (hring : ¬(v = 0 ∧ d.ringIn cl = true)) (hne : v ≠ d.obj (0x8320 + cl) 1)
    (hfree : d.obj (0x8320 + cl) 1 = 0 ∨ v = 0) : d.writeRetain r cl v = (d.setObj (0x8320 + cl) 1 v).yes := by
  have hconflict : ¬(d.obj (0x8320 + cl) 1 ≠ 0 ∧ v ≠ 0) := by omega
  simp only [Dev.writeRetain, if_neg hring, hrange, Bool.false_eq_true, if_false, if_neg hne, if_neg hconflict]

theorem writePlan_yes (f : Fuses) {plan : List Byte} (hbasin : planBasinId d.plan = planBasinId plan ∧ planBasin d.plan = planBasin plan ∨ d.noneResident = true)
    (hfree : ∀ p ∈ d.planChanges plan, d.portUse p = 0 ∧ d.carriesSession p = false) (hfine : planFine plan d.mid = true) :
    Dev.writePlan f d plan = (Dev.netAudit f ((d.planChanges plan).foldl (Dev.rediscover f) (d.setPlan plan)) d).yes := by
  have hmoves : ((d.planChanges plan).any fun p => d.portUse p != 0 || d.carriesSession p) = false := by
    rw [List.any_eq_false]
    intro p hp
    obtain ⟨huse, hcarries⟩ := hfree p hp
    rw [huse, hcarries]
    decide
  have hstate : ¬((planBasinId d.plan ≠ planBasinId plan ∨ planBasin d.plan ≠ planBasin plan) ∧ d.noneResident = false) := by
    rintro ⟨hother, hresident⟩
    rcases hbasin with ⟨hid, hbase⟩ | hnone
    · exact hother.elim (· hid) (· hbase)
    · rw [hnone] at hresident; cases hresident
  simp only [Dev.writePlan, hmoves, hstate, hfine, Bool.false_eq_true, or_self, if_false, reduceCtorEq]

end

section
variable {d : Dev} {cl v : Nat} (hbusy : d.slotBusy cl = false) (hne : v ≠ d.evalSlot cl)
include hbusy hne

theorem writeSlot_lends (hfree : 10 < d.evalSlot cl) {p : Nat} (hv : v = 10) (hspare : d.freeSpare cl = some p) : d.writeSlot cl v = (d.lend cl p).yes := by
  have hfilled : ¬(v ≤ 10 ∧ d.evalSlot cl ≤ 10) := by omega
  simp only [Dev.writeSlot, hne, hbusy, hfilled, false_and, Bool.false_eq_true, if_false, if_pos hv, hspare]

theorem writeSlot_empties (hv : v = 0xFF) : d.writeSlot cl v = (((d.leaveSlot cl).setObj (0xA600 + cl) 1 0xFF).setObj (0xA600 + cl) 2 0xFF).yes := by
  have hfilled : ¬(v ≤ 10 ∧ d.evalSlot cl ≤ 10) := by omega
  simp only [Dev.writeSlot, hne, hbusy, hfilled, false_and, Bool.false_eq_true, if_false, if_neg (show v ≠ 10 by omega), if_pos hv]

theorem writeSlot_takes (hfree : 10 < d.evalSlot cl) (hv : v < 10) (huser : d.coreUser cl v = none) :
    d.writeSlot cl v = (((d.leaveSlot cl).setObj (0xA600 + cl) 1 v).setObj (0xA600 + cl) 2 0xFF).yes := by
  have hfilled : ¬(v ≤ 10 ∧ d.evalSlot cl ≤ 10) := by omega
  simp only [Dev.writeSlot, hne, hbusy, hfilled, false_and, Bool.false_eq_true, if_false, if_neg (show v ≠ 10 by omega), if_neg (show v ≠ 0xFF by omega),
    if_neg (show ¬10 < v by omega), huser]

end

/-- Settles O14: each row grants its write under the conditions named for it, and a granted request gives the next state. -/
theorem countersTimersAndUsesAreWritten : Obligations.CountersTimersAndUsesAreWritten := by
  refine ⟨fun s q r h hrange => ?_, fun s q r h hrange => ?_, fun s q r h hrange hne htimer hsync => ?_, fun s q r h hrange hne hfree => ?_,
    fun s q r h hrange hidle hne hfree hlast => ?_, fun s q r h hrange hne hfree => ?_, fun s q r h hrange hring hne hfree => ?_,
    fun s q r h hbasin hfree hfine => ?_, fun s q r cl h hcl hbusy hne hfree => ?_⟩
  · rw [exec_rangeClear, execRangeClear]
    exact onReq_rowDone_yes h rfl (by rw [hrange, if_neg Bool.false_ne_true])
  · rw [exec_accClear, execAccClear]
    exact onReq_rowDone_yes h rfl (by rw [hrange, if_neg Bool.false_ne_true])
  · rw [exec_cadenceSource, execCadenceSource]
    exact onReq_rowDone_yes h rfl (writeCadence_yes hrange hne htimer hsync)
  · rw [exec_snapPeriod, execSnapPeriod]
    exact onReq_rowDone_yes h rfl (writeSnapPeriod_yes hrange hne hfree)
  · rw [exec_ioTugUse, execIoTugUse]
    exact onReq_rowDone_yes h rfl (writeIoUse_yes hrange hidle hne hfree hlast)
  · rw [exec_portUse, execPortUse]
    exact onReq_onRow_yes h rfl (writePortUse_yes s.fuses hrange hne hfree)
  · rw [exec_retainUse, execRetainUse]
    exact onReq_rowDone_yes h rfl (writeRetain_yes hrange hring hne hfree)
  · rw [exec_berthPlan, execBerthPlan]
    exact onReq_onRow_yes h rfl (writePlan_yes s.fuses hbasin hfree hfine)
  · rw [exec_evalSlot, execEvalSlot, ← hcl]
    exact ⟨fun p hv hspare => onReq_rowDone_yes h rfl (writeSlot_lends hbusy hne (by omega) hv hspare), fun hv => onReq_rowDone_yes h rfl (writeSlot_empties hbusy hne hv),
      fun hv huser => onReq_rowDone_yes h rfl (writeSlot_takes hbusy hne (by omega) hv huser)⟩

end Sys2Proof.Machine
end

section
/-! SUPPORT. What sending, ending orders, aborting contexts and recording faults leave of the compute side: the transport touches none of it, and none of them points a
logical core at another physical one. -/

namespace Sys2Proof.Machine

/-! ### Sending leaves the compute side as it is -/

@[simp] theorem Dev.bumpFree_cmp (d : Dev) (idx sub : Nat) : (d.bumpFree idx sub).cmp = d.cmp := by rw [Dev.bumpFree, Dev.bump_cmp]

@[simp] theorem Dev.refused_cmp (d : Dev) (st : Nat) : (d.refused st).cmp = d.cmp := by unfold Dev.refused; split <;> simp

@[simp] theorem Dev.noteSent_cmp (d : Dev) (e : QPkt) : (d.noteSent e).cmp = d.cmp := by
  unfold Dev.noteSent
  split
  · rfl
  · dsimp only
    split <;> simp

@[simp] theorem Dev.portSends_cmp (unit n : Nat) (d : Dev) : (Dev.portSends unit n d).cmp = d.cmp := by
  induction n generalizing d with
  | zero => rfl
  | succ n ih =>
    rw [Dev.portSends]
    dsimp only
    split
    · rfl
    · split
      · rfl
      · rw [ih, Dev.bump_cmp, Dev.send_cmp, Dev.noteSent_cmp]
        rfl

@[simp] theorem Dev.enqueue_cmp (d : Dev) (unit : Nat) (e : QPkt) (again : Bool) : (d.enqueue unit e again).cmp = d.cmp := by
  rw [Dev.enqueue, Dev.portSends_cmp]
  rfl

@[simp] theorem Dev.placePkt_cmp (d : Dev) (key cls : Nat) (s : Session) (t : TxClass) (k : TxPkt) (path use : Nat) :
    (d.placePkt key cls s t k path use).cmp = d.cmp := by
  unfold Dev.placePkt
  split
  · rfl
  · dsimp only
    rw [Dev.enqueue_cmp]
    split <;> simp

@[simp] theorem Dev.pickPath_cmp (d : Dev) (t : TxClass) (rank use : Nat) (ups : List Nat) : (d.pickPath t rank use ups).2.2.cmp = d.cmp := by
  unfold Dev.pickPath
  split <;> rfl

@[simp] theorem Dev.pushGo_cmp (key cls n : Nat) (d : Dev) : (Dev.pushGo key cls n d).cmp = d.cmp := by
  induction n generalizing d with
  | zero => rfl
  | succ n ih =>
    rw [Dev.pushGo]
    split
    · rfl
    · dsimp only
      split
      · rfl
      · split
        · rfl
        · rw [ih, Dev.placePkt_cmp]
          split <;> simp

@[simp] theorem Dev.pushClass_cmp (d : Dev) (key cls : Nat) : (d.pushClass key cls).cmp = d.cmp := by unfold Dev.pushClass; split <;> simp

@[simp] theorem Dev.sendData_cmp (d : Dev) (key : Nat) (b : Payload) : (d.sendData key b).cmp = d.cmp := by
  unfold Dev.sendData
  split
  · rfl
  · dsimp only
    rw [Dev.pushClass_cmp, Dev.setSession_cmp]
    split <;> simp

@[simp] theorem Dev.sendTo_cmp (d : Dev) (ctx : Option Nat) (rank : Nat) (b : Payload) : (d.sendTo ctx rank b).cmp = d.cmp := by
  unfold Dev.sendTo
  split
  · split
    · rfl
    · split <;> simp
  · split <;> simp

/-! ### What a loop keeps -/

/-- Rounds that bind no core make a loop that binds none. -/
theorem Dev.foldl_cmp_bound {β : Type} {f : Dev → β → Dev} (hf : ∀ d b, (f d b).cmp.bound = d.cmp.bound) (l : List β) (d : Dev) :
    (l.foldl f d).cmp.bound = d.cmp.bound := by
  induction l generalizing d with
  | nil => rfl
  | cons b l ih => rw [List.foldl_cons, ih, hf]

@[simp] theorem Dev.setStatus_cmp_bound (d : Dev) (kind subject : Nat) : (d.setStatus kind subject).cmp.bound = d.cmp.bound :=
  Dev.foldl_cmp_bound (fun d r => by simp) _ _

@[simp] theorem Dev.enterSafe_cmp_bound (d : Dev) : d.enterSafe.cmp.bound = d.cmp.bound := d.setStatus_cmp_bound 4 d.rank

/-! ### Ending orders and waits binds no core -/

@[simp] theorem Dev.write_cmp_bound (d : Dev) (a : Nat) (bs : List Byte) (bad : Bool) : (d.write a bs bad).cmp.bound = d.cmp.bound := rfl

@[simp] theorem Dev.putRecord_cmp_bound (d : Dev) (a : Nat) (bs : List Byte) : (d.putRecord a bs).cmp.bound = d.cmp.bound := by unfold Dev.putRecord; split <;> simp

@[simp] theorem Dev.endOrder_cmp_bound (d : Dev) (t : OrderTag) (status : Nat) (stops : Bool) : (d.endOrder t status stops).cmp.bound = d.cmp.bound := by
  unfold Dev.endOrder; split <;> simp

@[simp] theorem Dev.report_cmp_bound (d : Dev) (t : OrderTag) (status detail count : Nat) : (d.report t status detail count).cmp.bound = d.cmp.bound := by
  unfold Dev.report
  split
  · rfl
  · split
    · dsimp only
      split <;> simp
    · rfl

@[simp] theorem Dev.complete_cmp_bound (d : Dev) (t : OrderTag) (status detail count : Nat) (stops : Bool) :
    (d.complete t status detail count stops).cmp.bound = d.cmp.bound := by rw [Dev.complete, Dev.report_cmp_bound, Dev.endOrder_cmp_bound]

@[simp] theorem Dev.releaseAll_cmp_bound (d : Dev) (ctx n g : Nat) (ws : List Waiter) (fast : Bool) (status : Nat) :
    (d.releaseAll ctx n g ws fast status).cmp.bound = d.cmp.bound := by
  unfold Dev.releaseAll
  dsimp only
  split
  · rfl
  · exact Dev.foldl_cmp_bound (fun d r => by simp) _ _

@[simp] theorem Dev.endWait_cmp_bound (d : Dev) (c : CoreRef) (status : Nat) (stops : Bool) : (d.endWait c status stops).cmp.bound = d.cmp.bound := by
  unfold Dev.endWait
  split
  · rfl
  · dsimp only
    rw [Dev.complete_cmp_bound]
    split <;> simp

@[simp] theorem Dev.tellWait_cmp (d : Dev) (t : OrderTag) (n kind target : Nat) : (d.tellWait t n kind target).cmp = d.cmp := by
  unfold Dev.tellWait
  split
  · rfl
  · split <;> simp

@[simp] theorem Dev.waitExpires_cmp_bound (d : Dev) (c : CoreRef) : (d.waitExpires c).cmp.bound = d.cmp.bound := by
  unfold Dev.waitExpires
  split
  · rfl
  · dsimp only
    rw [Dev.endWait_cmp_bound, Dev.bump_cmp]
    split
    · split <;> simp
    · rfl

@[simp] theorem Dev.waitEnds_cmp_bound (d : Dev) (c : CoreRef) : (d.waitEnds c).cmp.bound = d.cmp.bound := by
  unfold Dev.waitEnds
  split
  · rfl
  · split <;> simp

@[simp] theorem Dev.releaseHits_cmp_bound (d : Dev) (r : ReleaseF) : (d.releaseHits r).cmp.bound = d.cmp.bound := by
  unfold Dev.releaseHits
  split
  · rfl
  · split <;> split <;> simp

@[simp] theorem Dev.releasesFirst_cmp_bound (d : Dev) (ctx : Nat) : (d.releasesFirst ctx).cmp.bound = d.cmp.bound :=
  Dev.foldl_cmp_bound Dev.releaseHits_cmp_bound _ d

@[simp] theorem Dev.modBar_cmp_bound (d : Dev) (ctx n : Nat) (f : Barrier → Barrier) : (d.modBar ctx n f).cmp.bound = d.cmp.bound := by
  unfold Dev.modBar; split <;> simp

@[simp] theorem Dev.poisonBar_cmp_bound (d : Dev) (ctx n : Nat) : (d.poisonBar ctx n).cmp.bound = d.cmp.bound := by
  unfold Dev.poisonBar
  split
  · rfl
  · split
    · rfl
    · dsimp only
      rw [Dev.foldl_cmp_bound fun d (c : CoreRef) => d.endWait_cmp_bound c stPoisoned true, Dev.releaseAll_cmp_bound]
      split <;> simp

/-! ### The abort of a context binds no core -/

@[simp] theorem Dev.reportAborted_cmp_bound (d : Dev) (c : CoreRef) : (d.reportAborted c).cmp.bound = d.cmp.bound := by
  have hdrains : ∀ (js : List DrainJob) (header : DrainJob → Nat), (js.foldl (fun d j => d.report j.tag stAborted (header j) j.sent) d).cmp.bound = d.cmp.bound :=
    fun js header => Dev.foldl_cmp_bound (fun d j => by simp) js d
  cases hwait : (d.core c).wait with
  | none => simp only [Dev.reportAborted, hwait, hdrains]
  | some w =>
    by_cases hreports : reports w.tag.op = true
    · simp only [Dev.reportAborted, hwait, if_pos hreports, Dev.report_cmp_bound, hdrains]
    · simp only [Dev.reportAborted, hwait, if_neg hreports, hdrains]

@[simp] theorem Dev.tugsAborted_cmp_bound (d : Dev) (is : List (Nat × TugItem)) : (d.tugsAborted is).cmp.bound = d.cmp.bound :=
  Dev.foldl_cmp_bound (fun d p => by simp) is d

@[simp] theorem Dev.abortSaved_cmp_bound (d : Dev) (ctx : Nat) : (d.abortSaved ctx).cmp.bound = d.cmp.bound :=
  Dev.foldl_cmp_bound (fun d v => by simp) _ d

@[simp] theorem Dev.abortTugs_cmp_bound (d : Dev) (ctx : Nat) : (d.abortTugs ctx).cmp.bound = d.cmp.bound := by rw [Dev.abortTugs, Dev.tugsAborted_cmp_bound]

@[simp] theorem Dev.endCollectives_cmp_bound (d : Dev) (ctx status : Nat) : (d.endCollectives ctx status).cmp.bound = d.cmp.bound := by
  unfold Dev.endCollectives
  dsimp only
  rw [Dev.foldl_cmp_bound fun d f => by simp]

@[simp] theorem Dev.svcFlushGo_cmp_bound (n : Nat) (d : Dev) : (Dev.svcFlushGo n d).cmp.bound = d.cmp.bound := by
  induction n generalizing d with
  | zero => rfl
  | succ n ih =>
    rw [Dev.svcFlushGo]
    split
    · rfl
    · dsimp only
      split
      · rfl
      · split
        · rfl
        · rw [ih]
          dsimp only
          split <;> simp

@[simp] theorem Dev.svcDone_cmp_bound (d : Dev) (ctx kind tag status : Nat) : (d.svcDone ctx kind tag status).cmp.bound = d.cmp.bound := by
  unfold Dev.svcDone Dev.svcFlush
  dsimp only
  rw [Dev.svcFlushGo_cmp_bound]
  dsimp only
  split <;> simp

@[simp] theorem Dev.svcSnapDone_cmp_bound (d : Dev) (s : Snap) (status : Nat) : (d.svcSnapDone s status).cmp.bound = d.cmp.bound := by
  unfold Dev.svcSnapDone; split <;> simp

@[simp] theorem Dev.abortSnaps_cmp_bound (d : Dev) (ctx : Nat) : (d.abortSnaps ctx).cmp.bound = d.cmp.bound :=
  Dev.foldl_cmp_bound (fun d s => by split <;> simp) _ _

@[simp] theorem Dev.closeSessions_cmp (d : Dev) (f : Session → Bool) : (d.closeSessions f).cmp = d.cmp := rfl
@[simp] theorem Dev.runOff_cmp (d : Dev) (ctx : Nat) : (d.runOff ctx).cmp = d.cmp := by unfold Dev.runOff; split <;> simp
@[simp] theorem Dev.blame_cmp (d : Dev) (ctx : Nat) (c : CoreRef) : (d.blame ctx c).cmp = d.cmp := rfl

@[simp] theorem Dev.abortCtx_cmp_bound (d : Dev) (ctx : Nat) (at_ : Option CoreRef) : (d.abortCtx ctx at_).cmp.bound = d.cmp.bound := by
  have hcores : ∀ (cs : List CoreRef) (d : Dev), (cs.foldl (fun d c => (d.reportAborted c).modCore c CoreSt.abort) d).cmp.bound = d.cmp.bound :=
    fun cs => Dev.foldl_cmp_bound (fun d c => by simp) cs
  have hbars : ∀ (ns : List Nat) (d : Dev), (ns.foldl (fun d n => d.poisonBar ctx n) d).cmp.bound = d.cmp.bound :=
    fun ns => Dev.foldl_cmp_bound (fun d n => by simp) ns
  have htold : ∀ (gs : List Nat) (d : Dev), (gs.foldl (fun d g => d.send (.gangNotice (d.gangDevice ctx g) ctx 0 [])) d).cmp.bound = d.cmp.bound :=
    fun gs => Dev.foldl_cmp_bound (fun d g => by simp) gs
  unfold Dev.abortCtx
  dsimp only
  split
  · rfl
  · rw [Dev.modCtx_cmp]
    split <;> simp only [Dev.blame_cmp, Dev.runOff_cmp, Dev.closeSessions_cmp, htold, Dev.abortSnaps_cmp_bound, Dev.endCollectives_cmp_bound, Dev.abortTugs_cmp_bound, hbars,
      Dev.abortSaved_cmp_bound, hcores, Dev.releasesFirst_cmp_bound]

/-! ### Faults and wear records bind no core -/

@[simp] theorem Dev.stopGangs_cmp_bound (d : Dev) : d.stopGangs.cmp.bound = d.cmp.bound :=
  Dev.foldl_cmp_bound (fun d c => by split <;> simp) _ d

@[simp] theorem Dev.quarantine_cmp_bound (d : Dev) : d.quarantine.cmp.bound = d.cmp.bound := by rw [Dev.quarantine, Dev.stopGangs_cmp_bound, Dev.setStatus_cmp_bound]

/-- The abort that a level brings to the context of a fault binds no core. -/
theorem Dev.react_cmp_bound (d : Dev) (level : Nat) (ctx : Option Nat) (wasQ : Bool) : (d.react level ctx wasQ).cmp.bound = d.cmp.bound := by
  have hsafe : ∀ d : Dev, (if 4 ≤ level ∧ d.safe = false then d.enterSafe else d).cmp.bound = d.cmp.bound := fun d => by split <;> simp
  have hgangs : ∀ d : Dev, (if 3 ≤ level then (if wasQ then d.stopGangs else d.quarantine) else d).cmp.bound = d.cmp.bound := fun d => by
    split
    · split <;> simp
    · rfl
  have habort : ∀ (c : Nat) (d : Dev), (if 2 ≤ level then d.abortCtx c none else d).cmp.bound = d.cmp.bound := fun c d => by split <;> simp
  unfold Dev.react
  dsimp only
  rw [hsafe, hgangs]
  cases ctx with
  | none => dsimp only; split <;> simp
  | some c => dsimp only; rw [habort]; split <;> simp

@[simp] theorem Dev.fault_cmp_bound (d : Dev) (src : Nat) (ctx : Option Nat) (detail : Nat) : (d.fault src ctx detail).cmp.bound = d.cmp.bound := by
  unfold Dev.fault
  dsimp only
  split
  · simp
  · rw [Dev.react_cmp_bound]
    split <;> simp

@[simp] theorem Dev.writePage_cmp (d : Dev) : d.writePage.cmp = d.cmp := by unfold Dev.writePage; dsimp only; split <;> rfl

@[simp] theorem Dev.logWear_cmp (d : Dev) (typ src detail : Nat) : (d.logWear typ src detail).cmp = d.cmp := by
  unfold Dev.logWear
  rw [Dev.writePage_cmp]
  split <;> rfl

end Sys2Proof.Machine
end

section
/-! Proofs of the statement of chapter 03 on split reductions: a row that never overflows holds the plain sum of its column sums, which is free of order and grouping. -/

namespace Sys2Proof.Machine

/-! ### The state sum of R62 is free of order and grouping -/

theorem Ent.plus_comm (a b : Ent) : a.plus b = b.plus a := by
  cases a <;> cases b <;> grind [Ent.plus]

theorem Ent.plus_assoc (a b c : Ent) : (a.plus b).plus c = a.plus (b.plus c) := by
  cases a <;> cases b <;> cases c <;> grind [Ent.plus]

@[simp] theorem Ent.zero_plus (a : Ent) : (Ent.fin 0).plus a = a := by cases a <;> simp [Ent.plus]

/-- Entries added place by place; where one list ends the other goes on, as on a cleared row (R94). -/
def addEnts : List Ent → List Ent → List Ent
  | a :: as, b :: bs => a.plus b :: addEnts as bs
  | [], bs => bs
  | as, [] => as

@[simp] theorem nil_addEnts (bs : List Ent) : addEnts [] bs = bs := by cases bs <;> rfl
@[simp] theorem addEnts_nil (as : List Ent) : addEnts as [] = as := by cases as <;> rfl
@[simp] theorem cons_addEnts_cons (a b : Ent) (as bs : List Ent) : addEnts (a :: as) (b :: bs) = a.plus b :: addEnts as bs := rfl

theorem addEnts_comm (as bs : List Ent) : addEnts as bs = addEnts bs as := by
  induction as generalizing bs with
  | nil => simp
  | cons a as ih => cases bs <;> simp [ih, a.plus_comm]

theorem addEnts_assoc (as bs cs : List Ent) : addEnts (addEnts as bs) cs = addEnts as (addEnts bs cs) := by
  induction as generalizing bs cs with
  | nil => simp
  | cons a as ih => cases bs <;> cases cs <;> simp [ih, a.plus_assoc]

theorem foldl_addEnts_assoc (as bs : List Ent) (rows : List (List Ent)) : rows.foldl addEnts (addEnts as bs) = addEnts as (rows.foldl addEnts bs) := by
  induction rows generalizing bs with
  | nil => rfl
  | cons c rows ih => rw [List.foldl_cons, addEnts_assoc, ih, List.foldl_cons]

/-- The rows of two parts, in any order, add up to the sum of the two parts' sums. -/
theorem foldl_addEnts_split {rows ra rb : List (List Ent)} (h : rows.Perm (ra ++ rb)) :
    rows.foldl addEnts [] = addEnts (ra.foldl addEnts []) (rb.foldl addEnts []) := by
  have hcomm : ∀ x ∈ rows, ∀ y ∈ rows, ∀ z, addEnts (addEnts z x) y = addEnts (addEnts z y) x := fun x _ y _ z => by
    rw [addEnts_assoc, addEnts_comm x y, addEnts_assoc]
  rw [h.foldl_eq' hcomm, List.foldl_append, ← foldl_addEnts_assoc, addEnts_nil]

/-! ### Entries that no overflow has touched -/

/-- An entry as R94 keeps it while nothing overflows: not saturated, and within its 56 bits when finite. -/
structure Acc.Fine (a : Acc) : Prop where
  live : a.sat = false
  small : ∀ x, a.ent = .fin x → -accMax ≤ x ∧ x ≤ accMax

theorem Acc.fine_cleared : Acc.Fine {} := ⟨rfl, fun x h => by cases h; decide⟩

/-- An accumulate that does not overflow is the state sum. -/
theorem Acc.step_fine {last : Bool} {a : Acc} {c : ColSum} (h : a.Fine) (hover : (a.step false last c).2 = false) :
    (a.step false last c).1.Fine ∧ (a.step false last c).1.ent = a.ent.plus c.ent := by
  cases hsum : a.ent.plus c.ent with
  | fin sum =>
    simp only [Acc.step, hsum, h.live, Bool.false_eq_true, if_false] at hover ⊢
    split at hover
    · cases hover
    · next hsmall =>
      rw [if_neg hsmall]
      simp only [Bool.or_eq_true, decide_eq_true_eq, not_or, Int.not_lt] at hsmall
      obtain ⟨⟨-, hupper⟩, hlower⟩ := hsmall
      refine ⟨⟨rfl, ?_⟩, rfl⟩
      rintro x ⟨⟩
      exact ⟨hlower, hupper⟩
  | inf n => simp only [Acc.step, hsum]; exact ⟨⟨rfl, nofun⟩, trivial⟩
  | nan => simp only [Acc.step, hsum]; exact ⟨⟨rfl, nofun⟩, trivial⟩

/-- The column sums of one activation row. -/
def rowSums (g : Int) (act : List Val) (cols : List (List Val)) : List Ent := cols.map fun w => (columnSum g act w {}).ent

theorem accRow_fine {last : Bool} {g : Int} {act : List Val} {cols : List (List Val)} {cells : List Acc} (hlen : cells.length ≤ cols.length)
    (h : ∀ x ∈ cells, x.Fine) (hover : (accRow false last g act cols cells).2 = false) :
    (∀ x ∈ (accRow false last g act cols cells).1, x.Fine) ∧
      (accRow false last g act cols cells).1.map Acc.ent = addEnts (cells.map Acc.ent) (rowSums g act cols) := by
  induction cols generalizing cells with
  | nil =>
    obtain rfl : cells = [] := List.eq_nil_of_length_eq_zero (Nat.le_zero.mp hlen)
    exact ⟨nofun, rfl⟩
  | cons w cols ih =>
    cases cells with
    | nil =>
      simp only [accRow, Bool.or_eq_false_iff, List.drop_nil] at hover ⊢
      obtain ⟨hfine, hent⟩ := Acc.step_fine Acc.fine_cleared hover.1
      obtain ⟨hrest, hents⟩ := ih (Nat.zero_le _) (by simp) hover.2
      exact ⟨List.forall_mem_cons.mpr ⟨hfine, hrest⟩, by simp [hent, hents, rowSums]⟩
    | cons x cells =>
      simp only [accRow, Bool.or_eq_false_iff, List.drop_succ_cons, List.drop_zero] at hover ⊢
      obtain ⟨hx, hcells⟩ := List.forall_mem_cons.mp h
      obtain ⟨hfine, hent⟩ := Acc.step_fine hx hover.1
      obtain ⟨hrest, hents⟩ := ih (Nat.le_of_succ_le_succ hlen) hcells hover.2
      exact ⟨List.forall_mem_cons.mpr ⟨hfine, hrest⟩, by simp [hent, hents, rowSums]⟩

theorem accRow_length {isInt last : Bool} {g : Int} {act : List Val} {cols : List (List Val)} {cells : List Acc} :
    (accRow isInt last g act cols cells).1.length = cols.length := by
  induction cols generalizing cells with
  | nil => rfl
  | cons w cols ih => simp [accRow, ih]

/-! ### Rows that stay whole -/

/-- A row of at most `n` entries, each of them fine. -/
structure TileRow.Fine (r : TileRow) (n : Nat) : Prop where
  fits : r.cells.length ≤ n
  cells : ∀ x ∈ r.cells, x.Fine

/-- A row that is whole after a pass was whole before it, and the pass did not overflow. -/
theorem TileRow.feed_whole {isInt : Bool} {r : TileRow} {act : List Val} {cols : List (List Val)} (h : (r.feed isInt act cols).whole = true) :
    r.whole = true ∧ (accRow isInt r.exhausted r.g act cols r.cells).2 = false ∧
      r.feed isInt act cols = { r with cells := (accRow isInt r.exhausted r.g act cols r.cells).1 } := by
  by_cases habandoned : r.abandoned = true
  · simp [TileRow.feed, TileRow.whole, habandoned] at h
  · simp only [TileRow.feed, if_neg habandoned] at h ⊢
    split at h
    · simp [TileRow.whole] at h
    · next hgoes =>
      simp only [TileRow.whole, Bool.and_eq_true, Bool.not_eq_true', Bool.or_eq_false_iff] at h
      obtain ⟨-, hsat, hover⟩ := h
      rw [if_neg hgoes]
      refine ⟨by simp [TileRow.whole, habandoned, hsat], hover, ?_⟩
      simp only [hover, Bool.or_false]

theorem TileRow.feedAll_whole {isInt : Bool} {r : TileRow} {ps : List (List Val × List (List Val))} (h : (r.feedAll isInt ps).whole = true) : r.whole = true := by
  induction ps generalizing r with
  | nil => exact h
  | cons p ps ih => exact (TileRow.feed_whole (ih h)).1

/-- A row that stays whole holds what it held and the column sums of its passes. -/
theorem TileRow.feedAll_ents {r : TileRow} {n : Nat} {ps : List (List Val × List (List Val))} (h : r.Fine n) (hn : ∀ p ∈ ps, p.2.length = n)
    (hw : (r.feedAll false ps).whole = true) :
    (r.feedAll false ps).Fine n ∧
      (r.feedAll false ps).cells.map Acc.ent = (ps.map fun p => rowSums r.g p.1 p.2).foldl addEnts (r.cells.map Acc.ent) := by
  induction ps generalizing r with
  | nil => exact ⟨h, rfl⟩
  | cons p ps ih =>
    obtain ⟨hp, hps⟩ := List.forall_mem_cons.mp hn
    obtain ⟨-, hover, hfeed⟩ := TileRow.feed_whole (TileRow.feedAll_whole (r := r.feed false p.1 p.2) hw)
    obtain ⟨hcells, hents⟩ := accRow_fine (hp ▸ h.fits) h.cells hover
    have hfine : (r.feed false p.1 p.2).Fine n := by
      rw [hfeed]
      exact ⟨Nat.le_of_eq (accRow_length.trans hp), hcells⟩
    obtain ⟨hall, hsum⟩ := ih hfine hps hw
    refine ⟨hall, hsum.trans ?_⟩
    rw [hfeed, List.map_cons, List.foldl_cons, ← hents]

/-! ### The combine of two whole rows -/

@[simp] theorem Ent.align_zero (a : Ent) : a.align 0 = a := by
  cases a with
  | fin x => simp only [Ent.align, truncShift, smant, Nat.pow_zero, Nat.div_one]; grind
  | _ => rfl

/-- Two entries of 56 bits combine without a clamp (R111 rule 4). -/
theorem Acc.Fine.combine {a b : Acc} (ha : a.Fine) (hb : b.Fine) : a.ent.combine b.ent = (a.ent.plus b.ent, false) := by
  cases hx : a.ent with
  | fin x =>
    cases hy : b.ent with
    | fin y =>
      have hxs := ha.small x hx
      have hys := hb.small y hy
      simp only [accMax] at hxs hys
      simp only [Ent.combine, Ent.plus]
      rw [if_neg (by omega), if_neg (by omega)]
    | _ => rfl
  | inf m =>
    cases b.ent with
    | inf k => simp only [Ent.combine, Ent.plus]
    | _ => rfl
  | nan => cases b.ent <;> rfl

theorem combineEnts_fine {as bs : List Acc} (ha : ∀ x ∈ as, x.Fine) (hb : ∀ x ∈ bs, x.Fine) :
    combineEnts 0 0 (as.map Acc.ent) (bs.map Acc.ent) = (addEnts (as.map Acc.ent) (bs.map Acc.ent), 0) := by
  induction as generalizing bs with
  | nil => simp [combineEnts]
  | cons a as ih =>
    cases bs with
    | nil => simp [combineEnts]
    | cons b bs =>
      obtain ⟨ha, has⟩ := List.forall_mem_cons.mp ha
      obtain ⟨hb, hbs⟩ := List.forall_mem_cons.mp hb
      simp [combineEnts, ha.combine hb, ih has hbs, b2n]

/-- Settles O55: a row that stays whole holds the sum of its column sums, and sums of parts add up to the sum of the whole. -/
theorem splitReductionsCombineToTheSameBits : Obligations.SplitReductionsCombineToTheSameBits := by
  rintro r u a b l la lb n hclear - hn hperm - - rfl rfl rfl hu ha hb
  have hr : r.Fine n := ⟨by simp [hclear], by simp [hclear]⟩
  have hna : ∀ p ∈ la, p.2.length = n := fun p hp => hn p (hperm.mem_iff.mpr (List.mem_append_left _ hp))
  have hnb : ∀ p ∈ lb, p.2.length = n := fun p hp => hn p (hperm.mem_iff.mpr (List.mem_append_right _ hp))
  obtain ⟨-, hu⟩ := TileRow.feedAll_ents hr hn hu
  obtain ⟨hfa, ha⟩ := TileRow.feedAll_ents hr hna ha
  obtain ⟨hfb, hb⟩ := TileRow.feedAll_ents hr hnb hb
  rw [combineEnts_fine hfa.cells hfb.cells, hu, ha, hb, hclear, List.map_nil]
  have hrows := hperm.map fun p => rowSums r.g p.1 p.2
  rw [List.map_append] at hrows
  rw [foldl_addEnts_split hrows]

end Sys2Proof.Machine
end

section
/-! Proofs of the statement of chapter 03 on the arrays' orders: the turn of each order where its operands stand open. -/

namespace Sys2Proof.Machine

/-! ### Turns of orders whose operands stand open -/

@[simp] theorem Gate.turn_go (bad : Bool) (w : Waiting) (go : Bool → Turn) : (Gate.go bad).turn w go = go bad := rfl

/-- The hold ranges a WLOAD reads: its arrays' sets, and in pair form their residual sets (R73, R140). -/
def wlReads (w : Nat) : List (Nat × Nat) :=
  (wlArrays w).map (fun a => (wlBase w a, weightSetSize (field w 91 88))) ++
    (if bit w 8 then (wlArrays w).map fun a => (wlBase2 w a, weightSetSize (field w 91 88)) else [])

/-- A core with one array's sets loaded by a WLOAD (R69, R73). -/
def Dev.loadArray (d : Dev) (w : Waiting) (x : CoreSt) (a : Nat) : CoreSt :=
  if bit w.word 8 then
    { x with shadow := tblSet x.shadow a (d.loadSet w.tag.core (field w.word 91 88) (wlBase2 w.word a)),
             active := tblSet x.active a (d.loadSet w.tag.core (field w.word 91 88) (wlBase w.word a)) }
  else { x with shadow := tblSet x.shadow a (d.loadSet w.tag.core (field w.word 91 88) (wlBase w.word a)) }

theorem Dev.loadArray_loads (d : Dev) (w : Waiting) (as : List Nat) (x : CoreSt) : (as.foldl (d.loadArray w) x).loads = x.loads := by
  induction as generalizing x with
  | nil => rfl
  | cons a as ih => rw [List.foldl_cons, ih, Dev.loadArray]; split <;> rfl

/-- A core with every array that a WLOAD names loaded, and the load under way (R70). -/
def Dev.loaded (d : Dev) (w : Waiting) (x : CoreSt) : CoreSt :=
  let y := (wlArrays w.word).foldl (d.loadArray w) x
  { y with loads := y.loads ++ [⟨w.tag, bit w.word 8⟩] }

theorem runWload_done {d : Dev} {w : Waiting} (hok : wlOk w.word = true) (hgate : d.gate w.tag (wlReads w.word) [] = .go false) :
    runWload w d = .done (d.modCore w.tag.core (d.loaded w)) := by
  rw [wlReads] at hgate
  simp only [runWload, if_pos hok, hgate, Gate.turn_go, Bool.false_eq_true, if_false]
  refine congrArg (fun f => Turn.done (d.modCore w.tag.core f)) (funext fun x => ?_)
  delta Dev.loaded Dev.loadArray
  cases bit w.word 8 <;> rfl

/-- The hold offsets of the residual rows of a PAIRPASS (R73). -/
def lowOffs (pair : Bool) (w : Nat) : List Nat := if pair then (List.range (field w 79 72)).map fun m => field w 143 120 + m * field w 71 56 else []

/-- Nothing stands between a pass with its rows and its issue: its tile and sets fit (R91, R507), its operands stand open (R159), and its core is neither quiet
nor waking (R396, R399). -/
structure PassOpen (d : Dev) (w : Waiting) (pair : Bool) (r : PassRows) : Prop where
  fits : passFits ((d.core w.tag.core).swapped (psSwap w.word)) pair w.word r.offs.length = true
  gate : d.gate w.tag ((r.offs ++ lowOffs pair w.word).map fun o => (o, actRowSize (field w.word 83 80))) [] = .go false
  loud : d.quiet w.tag.core = false
  awake : (d.core w.tag.core).wakeAt ≤ d.time

theorem PassOpen.passGo {d : Dev} {w : Waiting} {pair : Bool} {r : PassRows} (h : PassOpen d w pair r) (k : Dev → Dev) :
    d.passGo w pair r k = .done ((k d).issuePass w pair r) := by
  have hgate := h.gate
  have hruns : ¬(d.quiet w.tag.core = true ∨ d.time < (d.core w.tag.core).wakeAt) := by simp [h.loud, h.awake]
  rw [lowOffs] at hgate
  simp only [Dev.passGo, if_pos h.fits, hgate, Gate.turn_go, Bool.false_eq_true, if_false, if_neg hruns]

/-- A flagged PASS that finds rows has its conveyor. -/
theorem passConv_isSome_of_passRows {d : Dev} {t : OrderTag} {w : Nat} {r : PassRows} (hrows : d.passRows t w = some r) :
    (psFlagged w && (d.passConv t w).isNone) = false := by
  cases hflagged : psFlagged w with
  | false => rfl
  | true =>
    cases hconv : d.passConv t w with
    | none => simp [Dev.passRows, hflagged, hconv] at hrows
    | some v => rfl

theorem runPass_done {d : Dev} {w : Waiting} {r : PassRows} (hok : passBitsOk false w.word = true) (hplain : psAccrete w.word = false)
    (hfree : (d.core w.tag.core).passWaits false (psSwap w.word) = false) (hrows : d.passRows w.tag w.word = some r) (hopen : PassOpen d w false r) :
    runPass w d = .done (d.issuePass w false r) := by
  have hopen : PassOpen d { w with gated := false } false r := ⟨hopen.fits, hopen.gate, hopen.loud, hopen.awake⟩
  simp only [runPass, if_pos hok, passConv_isSome_of_passRows hrows, hfree, hplain, hrows, Bool.false_eq_true, if_false, hopen.passGo]
  rfl

theorem runPass_accrete_done {d : Dev} {w : Waiting} {v : Conveyor} {n : Nat} {late : Bool} {r : PassRows} (hok : passBitsOk false w.word = true)
    (haccrete : psAccrete w.word = true) (hfree : (d.core w.tag.core).passWaits false (psSwap w.word) = false)
    (hconv : d.passConv w.tag w.word = some v) (hwindow : v.windowRows d.time = some (n, late))
    (hrows : (d.setConv w.tag.ctx (sync w.word) (d.takeBatch w.tag.core v n)).passRows w.tag w.word = some r) (hopen : PassOpen d w false r) :
    runPass w d = .done ((((d.setConv w.tag.ctx (sync w.word) (d.takeBatch w.tag.core v n)).bump (d.coreIdx 0x1200 w.tag.core) 0x0A 1).bump
      (d.coreIdx 0x1200 w.tag.core) 0x0B (if late then 1 else 0)).issuePass w false r) := by
  have hopen : PassOpen d { w with gated := false } false r := ⟨hopen.fits, hopen.gate, hopen.loud, hopen.awake⟩
  simp only [runPass, if_pos hok, hconv, Option.isNone_some, Bool.and_false, hfree, haccrete, hwindow, hrows, Bool.false_eq_true, if_false, if_true, hopen.passGo]
  rfl

theorem runPairpass_done {d : Dev} {w : Waiting} {r : PassRows} (hok : passBitsOk true w.word = true)
    (hfree : (d.core w.tag.core).passWaits true (psSwap w.word) = false) (hrows : d.passRows w.tag w.word = some r) (hopen : PassOpen d w true r) :
    runPairpass w d = .done (d.issuePass w true r) := by
  have hopen : PassOpen d { w with gated := false } true r := ⟨hopen.fits, hopen.gate, hopen.loud, hopen.awake⟩
  simp only [runPairpass, if_pos hok, hfree, hrows, Bool.false_eq_true, if_false, hopen.passGo]
  rfl

/-- A core whose bank in use has flipped, with a reading of the other one queued (R102, R143). -/
def Dev.drainQueued (d : Dev) (w : Waiting) : Dev :=
  d.modCore w.tag.core fun x =>
    { x with cur := !x.cur,
             drains := x.drains ++ [{ tag := w.tag, word := w.word, bank := x.cur, srSeed := d.obj (0x7300 + w.tag.ctx) 8, srCounter := d.obj (0x7300 + w.tag.ctx) 9 }] }

theorem runDrain_done_of_tile {d : Dev} {w : Waiting} {t : Tile} (hfirst : ((d.core w.tag.core).drains.any fun j => j.bank == (d.core w.tag.core).cur) = false)
    (htile : (d.core w.tag.core).bank (d.core w.tag.core).cur = some t) (hok : drainOk w.word t.rows.length = true) (hconv : d.drainConvOk w.tag w.word = true)
    (hagrees : d.epiAgrees w.tag.core w.word t = true) (hw64 : (t.batch.isSome && (drCvt w.word).fmt == cW64) = false) :
    runDrain w d = .done (d.drainQueued w) := by
  simp only [runDrain, hfirst, htile, hok, hconv, hagrees, hw64, Bool.false_eq_true, if_false, Bool.or_true, Bool.not_false, Bool.and_true, if_true]
  rfl

theorem runDrain_done_of_empty {d : Dev} {w : Waiting} (hempty : (d.core w.tag.core).bank (d.core w.tag.core).cur = none) (hok : drainOk w.word 0 = true)
    (hconv : d.drainConvOk w.tag w.word = true) : runDrain w d = .done (d.drainQueued w) := by
  simp only [runDrain, hempty, ite_self, hok, hconv, Bool.and_true, if_true]
  rfl

/-- Settles O2: each order's turn ends with its own effect, and an order whose turn ends issues. -/
theorem arithmeticOrdersIssue : Obligations.ArithmeticOrdersIssue := by
  refine ⟨fun s c w h hop hok hgate => ?_, fun s c w r h hop hok hplain hfree hrows hfits hgate hquiet hawake => ?_,
    fun s c w v n late r h hop hok haccrete hfree hconv hwindow hrows hfits hgate hquiet hawake => ?_,
    fun s c w r h hop hok hfree hrows hfits hgate hquiet hawake => ?_,
    fun s c w t h hop hfirst htile hok hconv hagrees hw64 => ?_, fun s c w h hop hempty hok hconv => ?_⟩
  · refine ⟨_, order_done h hop h.core (runWload_done hok hgate), congrArg (s.dev.modCore w.tag.core) (funext fun x => ?_)⟩
    simp only [Dev.loaded, Dev.loadArray_loads]
    rfl
  · rw [← List.append_nil r.offs] at hgate
    exact order_done h hop h.core (runPass_done hok hplain hfree hrows ⟨hfits, hgate, hquiet, hawake⟩)
  · rw [← List.append_nil r.offs] at hgate
    exact order_done h hop h.core (runPass_accrete_done hok haccrete hfree hconv hwindow hrows ⟨hfits, hgate, hquiet, hawake⟩)
  · exact order_done h hop h.core (runPairpass_done hok hfree hrows ⟨hfits, hgate, hquiet, hawake⟩)
  · exact order_done h hop h.core (runDrain_done_of_tile hfirst htile hok hconv hagrees hw64)
  · exact order_done h hop h.core (runDrain_done_of_empty hempty hok hconv)

end Sys2Proof.Machine
end

section
/-! Proofs of the statement of chapter 03 on the events of the arrays: replays, windows, loads and the readings of drains. -/

namespace Sys2Proof.Machine

theorem Dev.tileReplay_runs {d : Dev} {c : CoreRef} (hsafe : d.safe = false) (hpending : (d.core c).replayPending = true) :
    d.tileReplay c = ((d.replayBank c false).replayBank c true).retryCore c := by
  simp [Dev.tileReplay, hsafe, hpending]

/-- The replay of a bank whose tile was abandoned and whose tally reads sound lines (R95, R96). -/
theorem Dev.replayBank_replays {d : Dev} {c : CoreRef} {b : Bool} {t : Tile} {ctx n : Nat} (htile : (d.core c).bank b = some t) (harmed : (d.core c).armed = some ctx)
    (hpending : t.replayPending = true) (hsound : d.tallyPoisoned c t = false)
    (hn : n = if t.batch.isSome then (t.rows.filter TileRow.abandoned).length else 1) :
    d.replayBank c b = ((((d.modCore c fun x => x.setBank b (some (d.replayTile c t))).bump (0x7400 + ctx) 1 n).bump (0x7400 + ctx) 2 (n * t.tally.length)).bump 0xB000 7 n).noteSat
      ⟨c, ctx, 0, 0, 0, 0, (d.core c).stamp⟩ t (d.replayTile c t) := by
  subst hn
  simp only [Dev.replayBank, htile, harmed, if_pos hpending, hsound, Bool.false_eq_true, if_false]

/-- A waiting order of a core that may run, tried again, goes on where its turn ends it. -/
theorem Dev.retryCore_done {d d' : Dev} {c : CoreRef} {w : Waiting} (hwait : (d.core c).wait = some w) (hrun : d.mayRun c = true)
    (hturn : runWaiting w d = .done d') : d.retryCore c = d'.modCore w.tag.core fun x => { x with wait := none } := by
  simp [Dev.retryCore, Dev.attempt, Dev.settle, hwait, hrun, hturn]

theorem Dev.windowExpires_issues {d d' : Dev} {c : CoreRef} {w : Waiting} (hwait : (d.core c).wait = some w) (hop : w.tag.op = 0x02)
    (haccrete : psAccrete w.word = true) (hrun : d.mayRun c = true) (hturn : runPass w d = .done d') :
    d.windowExpires c = d'.modCore w.tag.core fun x => { x with wait := none } := by
  have hturn : runWaiting w d = .done d' := by simp only [runWaiting, hop, hturn]
  simp only [Dev.windowExpires, hwait, hop, haccrete, and_self, if_true, Dev.retryCore_done hwait hrun hturn]

theorem Dev.loadCompletes_runs {d : Dev} (c : CoreRef) (hsafe : d.safe = false) :
    d.loadCompletes c = (d.modCore c fun x => { x with loads := x.loads.drop 1 }).retryCore c := by
  simp [Dev.loadCompletes, hsafe]

/-! ### Readings of drains -/

/-- A core that no failure has stopped reads its oldest drain, outside the safe state. -/
theorem drainRead_reads {s : State} {c : CoreRef} (hc : c.exists = true) (hsafe : s.dev.safe = false) (hgoing : (s.dev.core c).stopped = false) :
    exec (.drainRead c) s = .next (s.withDev (s.dev.drainRead c).retry) := by
  have hgoes : ¬(s.dev.safe = true ∨ (s.dev.core c).stopped = true) := by simp [hsafe, hgoing]
  rw [exec_drainRead, execDrainRead, onDev_runs (show wellFormed (.drainRead c) = true from hc), Dev.drainStep, if_neg hgoes]

theorem Dev.drainRead_empty {d : Dev} {c : CoreRef} {j : DrainJob} {js : List DrainJob} (hdrains : (d.core c).drains = j :: js) (hempty : (d.core c).bank j.bank = none) :
    d.drainRead c = (d.modCore c fun x => { x with drains := x.drains.drop 1 }).report j.tag stOK emptyHeader.word 0 := by
  simp only [Dev.drainRead, hdrains, hempty]

/-- The oldest drain of a core reads tile `t`, which is whole, and nothing holds it back (R98, R104, R159); `d` is the device once the tile's own pins are released. -/
structure DrainOpen (d0 : Dev) (c : CoreRef) (j : DrainJob) (t : Tile) (d : Dev) : Prop where
  oldest : ∃ js, (d0.core c).drains = j :: js
  tile : (d0.core c).bank j.bank = some t
  whole : t.replayPending = false
  released : d = d0.modCore c fun x => x.setBank j.bank (some { t with tally := [] })
  agrees : d.epiAgrees c j.word t = true
  target : (t.batch.isSome && (drCvt j.word).fmt == cW64) = false
  unpinned : ((drainWrites j.word t.rows.length t.batch.isSome).any fun p => d.pinned (holdAt c p.1) p.2) = false
  unowned : ((drainReads j.word t.rows.length ++ drainWrites j.word t.rows.length t.batch.isSome).any fun p => d.ownedIn (holdAt c p.1) p.2) = false
  sound : ((drainReads j.word t.rows.length).any fun p => d.poisonIn (holdAt c p.1) p.2) = false

/-- To the hold a drain writes every row and ends (R105, R107). -/
theorem DrainOpen.stores {d0 d : Dev} {c : CoreRef} {j : DrainJob} {t : Tile} (h : DrainOpen d0 c j t d) (hhold : drConvey j.word = false) :
    d0.drainRead c = (d.drainStore c j.word (d.drainOut c j t) t.tags false).drainEnd j t (d.drainOut c j t) false := by
  obtain ⟨⟨js, hdrains⟩, htile, hwhole, rfl, hagrees, htarget, hunpinned, hunowned, hsound⟩ := h
  simp only [Dev.drainRead, hdrains, htile, hwhole, hagrees, htarget, hunpinned, hunowned, hsound, hhold, Bool.not_true, Bool.or_self, Bool.false_eq_true, if_false]

/-- Under CONVEY a drain that finds credit for all its rows sends them and ends (R144). -/
theorem DrainOpen.sends {d0 d r : Dev} {c : CoreRef} {j : DrainJob} {t : Tile} (h : DrainOpen d0 c j t d) (hconvey : drConvey j.word = true)
    (hsent : Dev.drainSend j.tag j.word (d.drainOut c j t).rows (t.rows.map TileRow.tag) false (t.rows.length - j.sent) j.sent d = (r, t.rows.length)) :
    d0.drainRead c = (r.count j.tag.ctx ((d.drainOut c j t).between j.sent t.rows.length)).drainEnd j t { d.drainOut c j t with counts := Counts.zero } false := by
  obtain ⟨⟨js, hdrains⟩, htile, hwhole, rfl, hagrees, htarget, hunpinned, hunowned, hsound⟩ := h
  simp only [Dev.drainRead, hdrains, htile, hwhole, hagrees, htarget, hunpinned, hunowned, hsound, hconvey, hsent, Nat.lt_irrefl, Bool.not_true, Bool.or_self,
    Bool.false_eq_true, if_false, if_true]

/-- Settles O7: each event does its own part, and what waits for it is tried again. -/
theorem arrayEventsHappen : Obligations.ArrayEventsHappen := by
  refine ⟨fun s c hc hsafe hpending => ?_, fun d c b t ctx htile harmed hpending hsound => ?_, fun s c w d hc hwait hop haccrete hrun hturn => ?_, fun s c hc hsafe => ?_,
    fun s c j js hc hsafe hgoing hdrains hempty => ?_,
    fun s c j js t d hc hsafe hgoing hdrains htile hwhole hd hagrees htarget hhold hunpinned hunowned hsound => ?_,
    fun s c j js t d r hc hsafe hgoing hdrains htile hwhole hd hagrees htarget hconvey hunpinned hunowned hsound hsent => ?_⟩
  · rw [exec_tileReplay, execTileReplay, onDev_runs (show wellFormed (.tileReplay c) = true from hc), Dev.tileReplay_runs hsafe hpending]
  · exact ⟨_, _, rfl, rfl, Dev.replayBank_replays htile harmed hpending hsound rfl⟩
  · rw [exec_accWaitExpiry, execAccWaitExpiry, onDev_runs (show wellFormed (.accWaitExpiry c) = true from hc), Dev.windowExpires_issues hwait hop haccrete hrun hturn]
  · rw [exec_wloadComplete, execWloadComplete, onDev_runs (show wellFormed (.wloadComplete c) = true from hc), Dev.loadCompletes_runs c hsafe]
  · rw [drainRead_reads hc hsafe hgoing, Dev.drainRead_empty hdrains hempty]
  · have hopen : DrainOpen s.dev c j t d := ⟨⟨js, hdrains⟩, htile, hwhole, hd, hagrees, htarget, hunpinned, hunowned, hsound⟩
    rw [drainRead_reads hc hsafe hgoing, hopen.stores hhold]
  · have hopen : DrainOpen s.dev c j t d := ⟨⟨js, hdrains⟩, htile, hwhole, hd, hagrees, htarget, hunpinned, hunowned, hsound⟩
    rw [drainRead_reads hc hsafe hgoing, hopen.sends hconvey hsent]

end Sys2Proof.Machine
end

section
/-! Proofs of the statement of chapter 03 on failing rows and cores: checks, row tests, switches and faults, and what mends them. -/

namespace Sys2Proof.Machine

/-! ### Failed checks of a row (R416) -/

/-- A failed check counts against a row of a core: the module runs, the core has a physical one, the row has not failed before, its array works, and no failure of it
waits for a decision. -/
structure RowChecked (d : Dev) (c : CoreRef) (array row p : Nat) (x : PhysCore) : Prop where
  real : d.realCore c = c
  phys : p = d.phys c
  core : x = d.physCore c.cl p
  there : p ≠ 0xFF
  runs : d.pwr.offKind = 0
  sound : x.failed.contains (array * 512 + row) = false
  works : bit x.arraysOff array = false
  undecided : d.cmp.heldFaults.contains (c.key, some (array, row)) = false

/-- What a first failed check does: it is recorded with its time, and the open tiles are replayed. -/
def Dev.checkNoted (d : Dev) (c : CoreRef) (array row p : Nat) (x : PhysCore) : Dev :=
  ((d.setPhysCore c.cl p { x with checks := tblSet x.checks (array * 512 + row) d.time }).fault 0x0101 none (d.rowDetail c array row)).rowReplay c

section
variable {d : Dev} {c : CoreRef} {array row p : Nat} {x : PhysCore} (h : RowChecked d c array row p x)
include h

theorem RowChecked.counts : ¬(p = 0xFF ∨ d.pwr.offKind ≠ 0 ∨ x.failed.contains (array * 512 + row) = true ∨ bit x.arraysOff array = true ∨
    d.cmp.heldFaults.contains (c.key, some (array, row)) = true) := by
  rintro (hnone | hoff | hfailed | hbroken | hheld)
  · exact h.there hnone
  · exact hoff h.runs
  · exact absurd hfailed (by rw [h.sound]; decide)
  · exact absurd hbroken (by rw [h.works]; decide)
  · exact absurd hheld (by rw [h.undecided]; decide)

/-- A second failed check within 1 s: the row has failed. -/
theorem RowChecked.mends {t : Nat} (hlast : tblFind x.checks (array * 512 + row) = some t) (hsoon : d.time ≤ t + 1000000000)
    (hfree : d.restarting (3 + c.cl) = false) : d.rowCheck c array row = d.mendRow c array row := by
  have hcounts := h.counts
  have hreal := h.real
  obtain rfl := h.phys
  obtain rfl := h.core
  simp only [Dev.rowCheck, hreal, if_neg hcounts, hlast, decide_eq_true hsoon, hfree, Bool.false_eq_true, if_false, if_true]

/-- A failed check with none within the 1 s before it is taken as transient. -/
theorem RowChecked.notes (hrow : row < 256) (hlast : ∀ t, tblFind x.checks (array * 512 + row) = some t → t + 1000000000 < d.time) :
    d.rowCheck c array row = d.checkNoted c array row p x := by
  have hcounts := h.counts
  have hreal := h.real
  obtain rfl := h.phys
  obtain rfl := h.core
  have hordinary : ∀ P : Prop, ¬(256 ≤ row ∧ P) := fun P hp => absurd hp.1 (Nat.not_le.mpr hrow)
  cases hfound : tblFind (d.physCore c.cl (d.phys c)).checks (array * 512 + row) with
  | none => simp only [Dev.rowCheck, hreal, if_neg hcounts, hfound, if_neg (hordinary _), Bool.false_eq_true, if_false, Dev.checkNoted]
  | some t =>
    have hlate : ¬d.time ≤ t + 1000000000 := Nat.not_le.mpr (hlast t hfound)
    simp only [Dev.rowCheck, hreal, if_neg hcounts, hfound, decide_eq_false hlate, if_neg (hordinary _), Bool.false_eq_true, if_false, Dev.checkNoted]

end

/-! ### The row test (R416) -/

/-- Rows that fail change no logical number. -/
theorem Dev.rowFails_cmp_bound (d : Dev) (cl k p array row : Nat) : (d.rowFails cl k p array row).cmp.bound = d.cmp.bound := by
  unfold Dev.rowFails
  dsimp only
  split
  · split <;> simp
  · simp

theorem Dev.logicalOf_congr {d e : Dev} (h : d.cmp.bound = e.cmp.bound) (cl p : Nat) : d.logicalOf cl p = e.logicalOf cl p := by rw [Dev.logicalOf, Dev.logicalOf, h]

/-- The row test of a physical core is due: the module runs, the core is a spare neither in use nor lent, and 24 power-on hours have passed since its last test. -/
structure RowTestDue (d : Dev) (cl p : Nat) (x : PhysCore) : Prop where
  core : x = d.physCore cl p
  runs : d.pwr.offKind = 0
  unused : d.inUseCore cl p = false
  unlent : d.lentCore cl p = false
  rested : ∀ t, x.tested = some t → t + trimGap ≤ d.pwr.onNs

/-- The device once a core's test is noted. -/
def Dev.testNoted (d : Dev) (cl p : Nat) (x : PhysCore) : Dev := d.setPhysCore cl p { x with tested := some d.pwr.onNs }

/-- One row that a test finds failed, as `Dev.rowTest` marks it. -/
def Dev.testFinds (d : Dev) (cl p : Nat) (r : Nat × Nat) : Dev :=
  if (d.physCore cl p).failed.contains (r.1 * 512 + r.2) ∨ 4 ≤ r.1 ∨ 260 ≤ r.2 then d
  else
    let d := d.rowFails cl (d.logicalOf cl p) p r.1 r.2
    if (d.physCore cl p).arraysOff ≠ 0 ∧ d.logicalOf cl p ≠ 15 then d.halt ⟨cl, d.logicalOf cl p⟩ true else d

theorem RowTestDue.runs_test {d : Dev} {cl p : Nat} {x : PhysCore} (h : RowTestDue d cl p x) (rows : List (Nat × Nat)) :
    d.rowTest cl p rows = rows.foldl (fun d r => d.testFinds cl p r) (d.testNoted cl p x) := by
  obtain ⟨rfl, hruns, hunused, hunlent, hrested⟩ := h
  cases htested : (d.physCore cl p).tested with
  | none => simp only [Dev.rowTest, htested, hruns, hunused, hunlent]; rfl
  | some t =>
    simp only [Dev.rowTest, htested, hruns, hunused, hunlent, decide_eq_true (hrested t htested)]
    rfl

/-- A row found on a spare that stands for no logical number fails, and halts no core. -/
theorem Dev.testFinds_spare {d : Dev} {cl p a r : Nat} (ha : a < 4) (hr : r < 260) (hsound : (d.physCore cl p).failed.contains (a * 512 + r) = false)
    (hspare : d.logicalOf cl p = 15) : d.testFinds cl p (a, r) = d.rowFails cl 15 p a r := by
  have hfresh : ¬((d.physCore cl p).failed.contains (a * 512 + r) = true ∨ 4 ≤ a ∨ 260 ≤ r) := by
    rw [hsound]
    simp only [Bool.false_eq_true, false_or]
    omega
  have hstill : (d.rowFails cl 15 p a r).logicalOf cl p = 15 := (Dev.logicalOf_congr (d.rowFails_cmp_bound cl 15 p a r) cl p).trans hspare
  simp only [Dev.testFinds, if_neg hfresh, hspare, hstill, ne_eq, not_true_eq_false, and_false, if_false]

/-! ### Spare cores (R417 to R419) -/

/-- A core with a disabled array that a free spare replaces. -/
theorem Dev.switchCore_switches {d : Dev} {c : CoreRef} {q : Nat} (hreal : d.realCore c = c) (hthere : d.phys c ≠ 0xFF)
    (hbroken : (d.physCore c.cl (d.phys c)).arraysOff ≠ 0) (hfree : d.restarting (3 + c.cl) = false) (hruns : d.pwr.offKind = 0) (hsafe : d.safe = false)
    (hheld : d.cmp.heldFaults = []) (hspare : d.freeSpare c.cl = some q) :
    d.switchCore c = (((((d.disableCore c.cl (d.phys c)).setPhysCore c.cl q { d.physCore c.cl q with hold := [], marks := [] }).pointAt c q).halt c false).rowReplay c).retryCore c := by
  have hgoes : ¬(d.phys c = 0xFF ∨ (d.physCore c.cl (d.phys c)).arraysOff = 0 ∨ d.restarting (3 + c.cl) = true ∨ d.pwr.offKind ≠ 0 ∨ d.safe = true) := by
    simp [hthere, hbroken, hfree, hruns, hsafe]
  simp only [Dev.switchCore, hreal, hheld, List.contains_nil, Bool.false_eq_true, false_and, if_false, if_neg hgoes, Dev.takeSpare, hspare]

theorem Dev.coreFault_mends {d : Dev} {c : CoreRef} (hreal : d.realCore c = c) (hthere : d.phys c ≠ 0xFF) (hruns : d.pwr.offKind = 0) (hsafe : d.safe = false)
    (hheld : d.cmp.heldFaults = []) (hfree : (d.fault 0x0104 none (d.coreDetail c)).restarting (3 + c.cl) = false) :
    d.coreFault c = (d.fault 0x0104 none (d.coreDetail c)).mendCore c := by
  have hgoes : ¬(d.phys c = 0xFF ∨ d.pwr.offKind ≠ 0 ∨ d.safe = true ∨ d.cmp.heldFaults.contains (c.key, none) = true) := by
    simp [hthere, hruns, hsafe, hheld]
  simp only [Dev.coreFault, hreal, if_neg hgoes, hfree, Bool.false_eq_true, if_false]

/-- A faulty core without a list is replaced, and no context rewinds or aborts. -/
theorem Dev.mendCore_of_no_list {d : Dev} {c : CoreRef} {q : Nat} (hspare : Dev.freeSpare (d.disableCore c.cl (d.phys c)) c.cl = some q) (hlist : (d.core c).list = none) :
    d.mendCore c = ((((d.disableCore c.cl (d.phys c)).stowHold c (d.phys c)).showHold c q).pointAt c q).halt c false := by
  cases harmed : (d.core c).armed <;>
    simp only [Dev.mendCore, Dev.takeSpare, hspare, hlist, harmed, Option.isSome_none, Bool.false_eq_true, if_false]

/-- Settles O22: each failure is answered as its row says, and what it changes is audited. -/
theorem failuresAreMended : Obligations.FailuresAreMended := by
  refine ⟨fun s c array row p x hc harray hrow hreal hp hx hthere hruns hsound hworks hundecided => ?_,
    fun s cl p x hcl hp hx hruns hunused hunlent hrested => ?_,
    fun s c q hc hreal hthere hbroken hfree hruns hsafe hheld hspare => ?_,
    fun s c hc hreal hthere hfree hruns hsafe hheld hafter => ?_, fun d c q hspare hlist => Dev.mendCore_of_no_list hspare hlist⟩
  · have h : RowChecked s.dev c array row p x := ⟨hreal, hp, hx, hthere, hruns, hsound, hworks, hundecided⟩
    have hwf : wellFormed (.rowCheck c array row) = true := by
      show (c.exists && decide (array < 4) && decide (row < 260)) = true
      rw [hc, decide_eq_true harray, decide_eq_true (by omega), Bool.and_self, Bool.and_self]
    rw [exec_rowCheck, execRowCheck, onDev_runs hwf]
    refine ⟨fun t hlast hsoon hfree => ?_, fun t hlast hlate => ?_, fun hlast => ?_⟩
    · rw [h.mends hlast hsoon hfree]
    · rw [h.notes hrow fun u hu => by rw [hlast] at hu; cases hu; exact hlate]
      rfl
    · rw [h.notes hrow fun u hu => by rw [hlast] at hu; cases hu]
      rfl
  · have h : RowTestDue s.dev cl p x := ⟨hx, hruns, hunused, hunlent, hrested⟩
    have hwf : ∀ rows, wellFormed (.rowTest cl p rows) = true := fun rows => by
      show (decide (cl < 8) && decide (p < 12)) = true
      rw [decide_eq_true hcl, decide_eq_true hp, Bool.and_self]
    refine ⟨?_, fun a r ha hr hsound hspare => ?_⟩
    · rw [exec_rowTest, execRowTest, onDev_runs (hwf _), h.runs_test]
      rfl
    · rw [exec_rowTest, execRowTest, onDev_runs (hwf _), h.runs_test, List.foldl_cons, List.foldl_nil,
        Dev.testFinds_spare (d := s.dev.testNoted cl p x) ha hr hsound hspare]
      rfl
  · rw [exec_spareCoreSwitch, execSpareCoreSwitch, onDev_runs (show wellFormed (.spareCoreSwitch c) = true from hc),
      Dev.switchCore_switches hreal hthere hbroken hfree hruns hsafe hheld hspare]
  · rw [exec_coreFault, execCoreFault, onDev_runs (show wellFormed (.coreFault c) = true from hc), Dev.coreFault_mends hreal hthere hruns hsafe hheld hafter]

end Sys2Proof.Machine
end

section
/-! Proofs of the statement of chapter 04 on the combine: on one grid and without a clamp it adds entries place by place, and a sum of tiles is free of order and grouping. -/

namespace Sys2Proof.Machine

/-! ### Entries within a bound -/

/-- An entry that is below `m` in magnitude when it is finite. -/
def Ent.Within (m : Int) (e : Ent) : Prop := ∀ a, e = .fin a → -m < a ∧ a < m

theorem Ent.Within.mono {m n : Int} (hmn : m ≤ n) {e : Ent} (h : e.Within m) : e.Within n := fun a ha => by
  have := h a ha
  omega

theorem Ent.Within.plus {m n : Int} {a b : Ent} (ha : a.Within m) (hb : b.Within n) : (a.plus b).Within (m + n) := by
  intro z hz
  cases a with
  | fin x =>
    cases b with
    | fin y =>
      have hx := ha x rfl
      have hy := hb y rfl
      cases hz
      omega
    | _ => cases hz
  | inf s => cases b <;> grind [Ent.plus]
  | nan => cases b <;> cases hz

/-- Entries whose bounds add up to no more than 2^62 combine without a clamp (R111 rule 4). -/
theorem Ent.Within.combine {m n : Int} (hmn : m + n ≤ 2 ^ 62) {a b : Ent} (ha : a.Within m) (hb : b.Within n) : a.combine b = (a.plus b, false) := by
  cases a with
  | fin x =>
    cases b with
    | fin y =>
      have hx := ha x rfl
      have hy := hb y rfl
      simp only [Ent.combine, Ent.plus]
      rw [if_neg (by omega), if_neg (by omega)]
    | _ => rfl
  | inf s =>
    cases b with
    | inf t => simp only [Ent.combine, Ent.plus]
    | _ => rfl
  | nan => cases b <;> rfl

/-! ### Entries of tiles on one grid -/

/-- Entries of one grid that combine without a clamp are added place by place (R111 rules 3 and 4). -/
theorem combineEnts_within {m n : Int} (hmn : m + n ≤ 2 ^ 62) {as bs : List Ent} (ha : ∀ e ∈ as, e.Within m) (hb : ∀ e ∈ bs, e.Within n) :
    combineEnts 0 0 as bs = (addEnts as bs, 0) := by
  induction as generalizing bs with
  | nil => simp [combineEnts, funext Ent.align_zero]
  | cons a as ih =>
    cases bs with
    | nil => simp [combineEnts, funext Ent.align_zero]
    | cons b bs =>
      obtain ⟨ha, has⟩ := List.forall_mem_cons.mp ha
      obtain ⟨hb, hbs⟩ := List.forall_mem_cons.mp hb
      simp [combineEnts, ha.combine hmn hb, ih has hbs, b2n]

theorem addEnts_within {m n : Int} (hm : 0 ≤ m) (hn : 0 ≤ n) {as bs : List Ent} (ha : ∀ e ∈ as, e.Within m) (hb : ∀ e ∈ bs, e.Within n) :
    ∀ e ∈ addEnts as bs, e.Within (m + n) := by
  induction as generalizing bs with
  | nil => exact fun e he => (hb e (by simpa using he)).mono (by omega)
  | cons a as ih =>
    cases bs with
    | nil => exact fun e he => (ha e he).mono (by omega)
    | cons b bs =>
      obtain ⟨ha, has⟩ := List.forall_mem_cons.mp ha
      obtain ⟨hb, hbs⟩ := List.forall_mem_cons.mp hb
      exact List.forall_mem_cons.mpr ⟨ha.plus hb, ih has hbs⟩

/-- Whether a tile holds an entry that is not finite (R107). -/
def anyNonfinite (es : List Ent) : Bool := es.any fun e => !e.isFinite

@[simp] theorem Ent.plus_isFinite (a b : Ent) : (a.plus b).isFinite = (a.isFinite && b.isFinite) := by
  cases a with
  | inf s => cases b <;> grind [Ent.plus, Ent.isFinite]
  | _ => cases b <;> rfl

/-- A sum is finite where both its terms are: nothing turns an infinity or NaN finite again (R62). -/
@[simp] theorem anyNonfinite_addEnts (as bs : List Ent) : anyNonfinite (addEnts as bs) = (anyNonfinite as || anyNonfinite bs) := by
  induction as generalizing bs with
  | nil => simp [anyNonfinite]
  | cons a as ih =>
    cases bs with
    | nil => simp [anyNonfinite]
    | cons b bs =>
      have := ih bs
      simp only [anyNonfinite, cons_addEnts_cons, List.any_cons, Ent.plus_isFinite, Bool.not_and] at this ⊢
      rw [this]
      ac_rfl

/-! ### Sums of tiles -/

/-- The sum of two tiles of one grid of which no entry is clamped (R111). -/
def W64.sum (x y : W64) : W64 :=
  ⟨{ x.h with parts := min 65535 (x.h.parts + y.h.parts), replays := max x.h.replays y.h.replays, accSat := x.h.accSat || y.h.accSat,
              satOut := x.h.satOut || y.h.satOut, mismatch := x.h.mismatch || y.h.mismatch,
              nonfinite := x.h.nonfinite || y.h.nonfinite || anyNonfinite (addEnts x.es y.es) }, addEnts x.es y.es⟩

/-- A combine on one grid without a clamp is that sum, and counts nothing. -/
theorem W64.combine_eq_sum {m n : Int} (hmn : m + n ≤ 2 ^ 62) {x y : W64} (hg : x.h.g = y.h.g) (hx : ∀ e ∈ x.es, e.Within m) (hy : ∀ e ∈ y.es, e.Within n) :
    x.combine y = (x.sum y, 0) := by
  simp [W64.combine, W64.sum, ← hg, combineEnts_within hmn hx hy, anyNonfinite]

theorem W64.sum_comm {x y : W64} (hg : x.h.g = y.h.g) (hagrees : x.h.agrees y.h = true) : x.sum y = y.sum x := by
  obtain ⟨⟨hrows, hwidth⟩, hkind⟩ : (x.h.rows = y.h.rows ∧ x.h.width = y.h.width) ∧ x.h.kind = y.h.kind := by simpa [Header.agrees] using hagrees
  simp only [W64.sum, hg, hrows, hwidth, hkind, addEnts_comm x.es, Nat.add_comm x.h.parts, Nat.max_comm x.h.replays, Bool.or_comm x.h.accSat,
    Bool.or_comm x.h.satOut, Bool.or_comm x.h.mismatch, Bool.or_comm x.h.nonfinite]

theorem W64.sum_assoc (x y z : W64) : (x.sum y).sum z = x.sum (y.sum z) := by
  have hparts : min 65535 (min 65535 (x.h.parts + y.h.parts) + z.h.parts) = min 65535 (x.h.parts + min 65535 (y.h.parts + z.h.parts)) := by omega
  have hnonfinite : ((x.h.nonfinite || y.h.nonfinite || (anyNonfinite x.es || anyNonfinite y.es)) || z.h.nonfinite ||
      (anyNonfinite x.es || (anyNonfinite y.es || anyNonfinite z.es))) =
      (x.h.nonfinite || (y.h.nonfinite || z.h.nonfinite || (anyNonfinite y.es || anyNonfinite z.es)) ||
        (anyNonfinite x.es || (anyNonfinite y.es || anyNonfinite z.es))) := by grind
  simp only [W64.sum, anyNonfinite_addEnts, hparts, hnonfinite, addEnts_assoc, Nat.max_assoc, Bool.or_assoc x.h.accSat,
    Bool.or_assoc x.h.satOut, Bool.or_assoc x.h.mismatch]

/-- Settles O56: each of the four combines is a sum of tiles, and sums of tiles commute and associate. -/
theorem combiningIsFreeOfOrder : Obligations.CombiningIsFreeOfOrder := by
  rintro x y z hxy hyz hagrees - - - hsmall
  have hwithin : ∀ t ∈ [x, y, z], ∀ e ∈ t.es, e.Within (2 ^ 60) := fun t ht e he a ha => (hsmall t ht).1 a (ha ▸ he)
  have hx := hwithin x (by simp)
  have hy := hwithin y (by simp)
  have hz := hwithin z (by simp)
  have hxsy : ∀ e ∈ (x.sum y).es, e.Within (2 ^ 60 + 2 ^ 60) := addEnts_within (by decide) (by decide) hx hy
  have hysz : ∀ e ∈ (y.sum z).es, e.Within (2 ^ 60 + 2 ^ 60) := addEnts_within (by decide) (by decide) hy hz
  rw [W64.combine_eq_sum (by decide) hxy hx hy, W64.combine_eq_sum (by decide) hxy.symm hy hx, W64.combine_eq_sum (by decide) hyz hy hz,
    W64.combine_eq_sum (x := x.sum y) (by decide) (hxy.trans hyz) hxsy hz, W64.combine_eq_sum (y := y.sum z) (by decide) hxy hx hysz]
  exact ⟨by rw [W64.sum_comm hxy hagrees], W64.sum_assoc x y z, rfl, rfl⟩

end Sys2Proof.Machine
end

section
/-! Proofs of the statement of chapter 04 on truncation: what each cut product loses, and that a column adds up the cut products. -/

namespace Sys2Proof.Machine

/-! ### One product cut to the grid -/

/-- A finite product as R88 cuts it toward zero to a count of 2^g. -/
def cutProduct (g : Int) (p : Bool × Nat × Int) : Int := smant p.1 (if g ≤ p.2.2 then p.2.1 * pow2 (p.2.2 - g) else p.2.1 / pow2 (g - p.2.2))

theorem gridProduct_fin (g : Int) (p : Bool × Nat × Int) : gridProduct g (.fin p.1 p.2.1 p.2.2) = .fin (cutProduct g p) := rfl

/-- Whether a finite product is no multiple of 2^g. -/
def isOffGrid (g : Int) (p : Bool × Nat × Int) : Bool := decide (p.2.2 < g) && p.2.1 % pow2 (g - p.2.2) != 0

theorem pow2_mul_pow2 {a b : Int} (ha : 0 ≤ a) (hb : 0 ≤ b) : pow2 a * pow2 b = pow2 (a + b) := by
  rw [pow2, pow2, pow2, ← Nat.pow_add, Int.toNat_add ha hb]

theorem pow2_pos (n : Int) : 0 < pow2 n := Nat.two_pow_pos _

theorem natAbs_smant (neg : Bool) (m : Nat) : (smant neg m).natAbs = m := by cases neg <;> simp [smant]

theorem smant_mul (neg : Bool) (m k : Nat) : smant neg m * k = smant neg (m * k) := by
  cases neg with
  | true => simp only [smant, if_true, Int.natCast_mul, Int.neg_mul]
  | false => rfl

/-- The sign stays, so that a magnitude cut by `r` is wrong by `r`. -/
theorem smant_add_sub (neg : Bool) (m r : Nat) : smant neg (m + r) - smant neg m = smant neg r := by
  cases neg <;> grind [smant]

/-- What the cut takes from a product, as a count of 2^e0: nothing of a multiple of 2^g, and less than 2^g of any other (R88). -/
theorem cutProduct_error {g e0 : Int} (hg : e0 ≤ g) {p : Bool × Nat × Int} (hp : e0 ≤ p.2.2) :
    (smant p.1 (p.2.1 * pow2 (p.2.2 - e0)) - cutProduct g p * pow2 (g - e0)).natAbs ≤ if isOffGrid g p then pow2 (g - e0) - 1 else 0 := by
  obtain ⟨neg, m, e⟩ := p
  change e0 ≤ e at hp
  by_cases hge : g ≤ e
  · have hexact : cutProduct g (neg, m, e) * pow2 (g - e0) = smant neg (m * pow2 (e - e0)) := by
      simp only [cutProduct, if_pos hge, smant_mul, Nat.mul_assoc]
      rw [pow2_mul_pow2 (by omega) (by omega), show e - g + (g - e0) = e - e0 by omega]
    rw [hexact, Int.sub_self]
    exact Nat.zero_le _
  · have hstep : pow2 (g - e0) = pow2 (g - e) * pow2 (e - e0) := by
      rw [pow2_mul_pow2 (by omega) (by omega), show g - e + (e - e0) = g - e0 by omega]
    have hsplit : m * pow2 (e - e0) = m / pow2 (g - e) * pow2 (g - e0) + m % pow2 (g - e) * pow2 (e - e0) := by
      rw [hstep, ← Nat.mul_assoc, ← Nat.add_mul, Nat.mul_comm (m / _), Nat.div_add_mod]
    have herror : smant neg (m * pow2 (e - e0)) - cutProduct g (neg, m, e) * pow2 (g - e0) = smant neg (m % pow2 (g - e) * pow2 (e - e0)) := by
      simp only [cutProduct, if_neg hge, smant_mul]
      rw [hsplit, smant_add_sub]
    rw [herror, natAbs_smant]
    by_cases hrem : m % pow2 (g - e) = 0
    · rw [hrem, Nat.zero_mul]
      exact Nat.zero_le _
    · have hoff : isOffGrid g (neg, m, e) = true := by simp [isOffGrid, hrem]; omega
      rw [if_pos hoff, hstep]
      exact Nat.le_sub_one_of_lt (Nat.mul_lt_mul_of_pos_right (Nat.mod_lt _ (pow2_pos _)) (pow2_pos _))

/-! ### Sums of products -/

@[simp] theorem exactSum_nil (e0 : Int) : exactSum e0 [] = 0 := rfl
@[simp] theorem exactSum_cons (e0 : Int) (p : Bool × Nat × Int) (ps) : exactSum e0 (p :: ps) = smant p.1 (p.2.1 * pow2 (p.2.2 - e0)) + exactSum e0 ps := rfl
@[simp] theorem gridSum_nil (g : Int) : gridSum g [] = 0 := rfl
@[simp] theorem gridSum_cons (g : Int) (p : Bool × Nat × Int) (ps) : gridSum g (p :: ps) = cutProduct g p + gridSum g ps := rfl
@[simp] theorem offGrid_nil (g : Int) : offGrid g [] = 0 := rfl
@[simp] theorem offGrid_cons (g : Int) (p : Bool × Nat × Int) (ps) : offGrid g (p :: ps) = (if isOffGrid g p then 1 else 0) + offGrid g ps := by
  cases hoff : isOffGrid g p <;> rw [isOffGrid] at hoff <;> simp [offGrid, hoff, Nat.add_comm]

/-- Each product off the grid takes at most the last count below one step of it from the sum (R90). -/
theorem gridSum_error {g e0 : Int} (hg : e0 ≤ g) {ps : List (Bool × Nat × Int)} (hps : ∀ p ∈ ps, e0 ≤ p.2.2) :
    (exactSum e0 ps - gridSum g ps * pow2 (g - e0)).natAbs ≤ offGrid g ps * (pow2 (g - e0) - 1) := by
  induction ps with
  | nil => simp
  | cons p ps ih =>
    obtain ⟨hp, hps⟩ := List.forall_mem_cons.mp hps
    have hsplit : exactSum e0 (p :: ps) - gridSum g (p :: ps) * pow2 (g - e0) =
        (smant p.1 (p.2.1 * pow2 (p.2.2 - e0)) - cutProduct g p * pow2 (g - e0)) + (exactSum e0 ps - gridSum g ps * pow2 (g - e0)) := by
      rw [exactSum_cons, gridSum_cons, Int.add_mul]
      omega
    calc (exactSum e0 (p :: ps) - gridSum g (p :: ps) * pow2 (g - e0)).natAbs
      _ ≤ (if isOffGrid g p then pow2 (g - e0) - 1 else 0) + offGrid g ps * (pow2 (g - e0) - 1) := by
        rw [hsplit]
        exact Nat.le_trans (Int.natAbs_add_le _ _) (Nat.add_le_add (cutProduct_error hg hp) (ih hps))
      _ = offGrid g (p :: ps) * (pow2 (g - e0) - 1) := by
        rw [offGrid_cons, Nat.add_mul]
        split <;> simp

/-! ### Columns -/

theorem ColSum.add_fin (c : ColSum) (a : Int) : (c.add (.fin a)).ent = c.ent.plus (.fin a) := rfl

/-- A column whose products are finite adds their cuts to what it holds (R88). -/
theorem columnSum_ent {g : Int} {as ws : List Val} {ps : List (Bool × Nat × Int)} (hlen : as.length = ws.length)
    (hps : List.zipWith Val.mul as ws = ps.map fun p => Val.fin p.1 p.2.1 p.2.2) {acc : ColSum} {x : Int} (hacc : acc.ent = .fin x) :
    (columnSum g as ws acc).ent = .fin (x + gridSum g ps) := by
  induction as generalizing ws ps acc x with
  | nil =>
    obtain rfl : ps = [] := by simpa using hps.symm
    rw [columnSum, hacc, gridSum_nil, Int.add_zero]
  | cons a as ih =>
    obtain ⟨w, ws, rfl⟩ := List.exists_cons_of_length_eq_add_one hlen.symm
    obtain ⟨p, ps, rfl, hp, hps⟩ := List.map_eq_cons_iff.mp hps.symm
    have hstep : (acc.add (gridProduct g (a.mul w))).ent = .fin (x + cutProduct g p) := by
      rw [← hp, gridProduct_fin, ColSum.add_fin, hacc]
      rfl
    rw [columnSum, ih (Nat.succ.inj hlen) hps.symm hstep, gridSum_cons, Int.add_assoc]

/-- Settles O57: the cuts of a column's products together take less than one step for each product off the grid. -/
theorem truncationStaysWithinItsBound : Obligations.TruncationStaysWithinItsBound := by
  refine ⟨fun g e0 ps hg hps => ⟨fun hnone => ?_, fun hsome => ?_⟩, fun g as ws ps hlen hps => ?_⟩
  · have herror := gridSum_error hg hps
    rw [hnone, Nat.zero_mul] at herror
    omega
  · exact Nat.lt_of_le_of_lt (gridSum_error hg hps) (Nat.mul_lt_mul_of_pos_left (Nat.sub_one_lt (Nat.ne_of_gt (pow2_pos _))) hsome)
  · rw [columnSum_ent hlen hps (acc := {}) rfl, Int.zero_add]

end Sys2Proof.Machine
end

section
/-! Proofs of the statement of chapter 04 on the vector unit's orders: the turn of each order where its operands stand open. -/

namespace Sys2Proof.Machine

/-! ### VEC -/

/-- The results of a VEC at DST, and L of an E4M3 pair at operand b (R145). -/
def Dev.vecWritten (d : Dev) (w : Waiting) : Dev :=
  let e := d.placeAt w.tag.core (vDst w.word) (vCvt w.word).fmt (d.vecResult w.tag w.word).1 false
  if (vCvt w.word).fmt = cPair43 then e.write (holdAt w.tag.core (formAddr (field w.word 155 128))) (d.vecResult w.tag w.word).2.1 false else e

/-- A VEC's range and non-finite counts added, and its elements counted: those of the opcodes from 0x30 on in a second counter too. -/
def Dev.vecCounted (d : Dev) (w : Waiting) (c : Counts) : Dev :=
  let e := (d.count w.tag.ctx c).bump (d.coreIdx 0x1300 w.tag.core) 1 (vN w.word)
  if 0x30 ≤ vOp w.word then e.bump (e.coreIdx 0x1300 w.tag.core) 2 (vN w.word) else e

theorem runVec_done {d : Dev} {w : Waiting} (hok : vecOk w.word = true) (hop : vOp w.word ≠ 0x2B)
    (hheader : vOfW64 w.word = true → headerOk (leNat (d.read (holdAt w.tag.core (formAddr (field w.word 127 100))) 32)) = true)
    (hgate : d.gate w.tag ((vecReadSpans w.word).map spanNat) ((vecWriteSpans w.word).map spanNat) = .go false) :
    runVec w d = .done ((d.vecWritten w).vecCounted w (d.vecResult w.tag w.word).2.2) := by
  have hgoes : (vOfW64 w.word && !(headerOk (leNat (d.read (holdAt w.tag.core (formAddr (field w.word 127 100))) 32)))) = false := by
    cases hw64 : vOfW64 w.word with
    | false => rfl
    | true => rw [hheader hw64]; rfl
  simp only [runVec, if_pos hok, hgate, Gate.turn_go, if_neg hop, hgoes, Bool.false_eq_true, if_false]
  rfl

/-- The device after a W64ADD of two tiles: the combined tile with its header, its counts, and a mismatch of grids (R111, R146). -/
def Dev.w64Added (d : Dev) (w : Waiting) (a b : W64) : Dev :=
  let r := a.combine b
  ((d.write (holdAt w.tag.core (formAddr (vDst w.word))) (r.1.h.bytes ++ entBytes r.1.es) false).count w.tag.ctx
    ((nonfiniteCounts r.1.es).add { finiteSat := r.2 })).bump (0x7400 + w.tag.ctx) 4 (b2n (a.h.g != b.h.g))

theorem runVec_w64add_done {d : Dev} {w : Waiting} {a b : Nat × W64} (hok : vecOk w.word = true) (hop : vOp w.word = 0x2B)
    (hgate : d.gate w.tag ((vecReadSpans w.word).map spanNat) ((vecWriteSpans w.word).map spanNat) = .go false)
    (ha : d.tileAt w.tag.core (formAddr (field w.word 127 100)) (vN w.word) = a) (hb : d.tileAt w.tag.core (formAddr (field w.word 155 128)) (vN w.word) = b)
    (hheaders : headerOk a.1 = true ∧ headerOk b.1 = true) (hagrees : a.2.h.agrees b.2.h = true) :
    runVec w d = .done ((d.w64Added w a.2 b.2).bump ((d.w64Added w a.2 b.2).coreIdx 0x1300 w.tag.core) 1 (vN w.word)) := by
  simp only [runVec, if_pos hok, hgate, Gate.turn_go, if_pos hop, Dev.w64add, ha, hb, hheaders, hagrees, Bool.and_self, if_true, Bool.false_eq_true, if_false]
  rfl

/-! ### VREDUCE -/

/-- The results of a VREDUCE other than WSUM at DST. -/
def Dev.reduceWritten (d : Dev) (w : Waiting) : Dev := d.write (holdAt w.tag.core (vrDst w.word)) (d.reduceResult w.tag w.word).1 false

theorem runVreduce_done {d : Dev} {w : Waiting} (hok : vreduceOk w.word = true) (hrop : vrRop w.word ≠ 2)
    (hgate : d.gate w.tag [spanNat (vrReadSpan w.word)] [spanNat (vrWriteSpan w.word 0 0)] = .go false) :
    runVreduce w d = .done (((d.reduceWritten w).count w.tag.ctx (d.reduceResult w.tag w.word).2).bump ((d.reduceWritten w).coreIdx 0x1300 w.tag.core) 3
      (vrLines w.word)) := by
  simp only [runVreduce, if_pos hok, if_neg hrop, hgate, Gate.turn_go, Bool.false_eq_true, if_false]
  rfl

theorem runVreduce_wsum {d : Dev} {w : Waiting} (hok : vreduceOk w.word = true) (hrop : vrRop w.word = 2)
    (hgate : d.gate w.tag [spanNat (vrReadSpan w.word)] [] = .go false) : runVreduce w d = d.wsum w false := by
  simp only [runVreduce, if_pos hok, if_pos hrop, hgate, Gate.turn_go]

/-- Settles O3: each order's turn ends with its results written and counted, and an order whose turn ends issues. -/
theorem vectorOrdersWriteTheirResults : Obligations.VectorOrdersWriteTheirResults := by
  refine ⟨fun s c w h hsel hok hop hheader hgate => ?_, fun s c w a b h hsel hok hop hgate ha hb hheaderA hheaderB hagrees => ?_,
    fun s c w h hsel hok hrop hgate => ?_, fun s c w d h hsel hok hrop hgate hdone => ?_⟩
  · exact ⟨_, _, _, _, rfl, rfl, rfl, rfl, order_done h hsel h.core (runVec_done hok hop hheader hgate)⟩
  · exact ⟨_, rfl, order_done h hsel h.core (runVec_w64add_done hok hop hgate ha hb ⟨hheaderA, hheaderB⟩ hagrees)⟩
  · exact ⟨_, rfl, order_done h hsel h.core (runVreduce_done hok hrop hgate)⟩
  · exact order_done h hsel h.core ((runVreduce_wsum hok hrop hgate).trans hdone)

end Sys2Proof.Machine
end

section
/-! Proofs of the statement of chapter 05 on the orders of tugs and conveyors: the turn of each order where it need not wait. -/

namespace Sys2Proof.Machine

/-- A TUG's descriptor that stands readable goes to the tug's queue (R148). -/
theorem Dev.tugGo_readable {d : Dev} {w : Waiting} {p : Option Nat} (hgate : d.tugGate w.tag (tugDesc w.word) p = .go false) :
    d.tugGo w (some p) = d.tugQueue w := by
  rw [Dev.tugGo, hgate]
  rfl

/-- A tug's queue with a place takes the descriptor's 64 bytes as they stand (R128). -/
theorem Dev.tugQueue_done {d : Dev} {w : Waiting} {t : Nat} (ht : d.pickTug w.tag.core.cl (field w.word 10 8) = t) (hroom : (d.tugQ w.tag.core.cl t).length < 32) :
    d.tugQueue w = .done (d.setTugQ w.tag.core.cl t (d.tugQ w.tag.core.cl t ++ [{ tag := w.tag, desc := leNat (d.read (tugDesc w.word) 64) }])) := by
  rw [Dev.tugQueue, ht, if_neg (Nat.not_le.mpr hroom)]

theorem runTug_done {d : Dev} {w : Waiting} {p : Option Nat} {t : Nat} (hplace : d.tugPlace w.tag.core w.word = some p)
    (hgate : d.tugGate w.tag (tugDesc w.word) p = .go false) (ht : d.pickTug w.tag.core.cl (field w.word 10 8) = t) (hroom : (d.tugQ w.tag.core.cl t).length < 32) :
    runTug w d = .done (d.setTugQ w.tag.core.cl t (d.tugQ w.tag.core.cl t ++ [{ tag := w.tag, desc := leNat (d.read (tugDesc w.word) 64) }])) := by
  rw [runTug, hplace, Dev.tugGo_readable hgate, Dev.tugQueue_done ht hroom]

/-- A CONVEY_PUT that finds credits and room for all its messages sends them (R149). -/
theorem runPut_done {d r : Dev} {w : Waiting} {v : Conveyor} {b : Bool} (hconv : d.putConv w.tag w.word = some v)
    (hgate : d.gate w.tag [(putSrc w.word 0, (putCount w.word - 1) * field w.word 127 104 + putLen w.word)] [] = .go b)
    (hsent : Dev.putGo w.tag w.word (putCount w.word - w.done) w.done d = (r, putCount w.word)) : runPut w d = .done r := by
  simp only [runPut, hconv, hgate, Gate.turn_go, hsent, Nat.lt_irrefl, if_false]

/-- A take that finds its messages visible marks them taken (R150). -/
theorem runTake_done {d : Dev} {w : Waiting} {v : Conveyor} (hconv : d.getConv w.tag w.word = some v) (hcome : getCount w.word ≤ v.visible - v.taken) :
    runTake w d = .done (d.setConv w.tag.ctx (sync w.word) (d.takeMsgs v (getCount w.word))) := by
  simp only [runTake, hconv, if_neg (Nat.not_lt.mpr hcome)]

/-- A release needs nothing beyond its well-formed order (R150). -/
theorem runRelease_done {d : Dev} {w : Waiting} {v : Conveyor} (hconv : d.getConv w.tag w.word = some v) :
    runRelease w d = .done (d.freeSlots w.tag.ctx (sync w.word) v (getCount w.word)) := by
  simp only [runRelease, hconv]

/-- The GETs that stand at a ring once a COPY of a core has come to it: those of a quay ring alone are kept in order (R169). -/
def Dev.copyQueue (d : Dev) (w : Waiting) (v : Conveyor) : List CoreRef := if v.quay then d.getQueue w.tag.ctx (sync w.word) v w.tag.core else []

/-- The device after a COPY, whose place in the ring's queue it has noted: slots copied, messages taken and freed, and the queue moved on (R150, R169). -/
def Dev.copied (d : Dev) (w : Waiting) (v : Conveyor) (q : List CoreRef) : Dev :=
  ((List.range (getCount w.word)).foldl (fun d i => d.copySlot w.tag.core w.word v i) d).freeSlots w.tag.ctx (sync w.word)
    { d.takeMsgs v (getCount w.word) with getters := q.drop 1 } (getCount w.word)

theorem runCopy_done {d d' : Dev} {w : Waiting} {v : Conveyor} {b : Bool} (hconv : d.getConv w.tag w.word = some v) (hcome : getCount w.word ≤ v.visible - v.taken)
    (hturn : ((d.copyQueue w v).drop 1).contains w.tag.core = false) (hnoted : d' = d.setConv w.tag.ctx (sync w.word) { v with getters := d.copyQueue w v })
    (hfree : (((List.range (getCount w.word)).map fun i => v.slotAt (v.taken + i)).any fun a => d'.ownedIn a v.slot) = false)
    (hgate : d'.gate w.tag [] [(field w.word 71 48, (getCount w.word - 1) * field w.word 87 72 + v.slot)] = .go b) :
    runCopy w d = .done (d'.copied w v (d.copyQueue w v)) := by
  subst hnoted
  have hgoes : ¬(v.visible - v.taken < getCount w.word ∨ ((d.copyQueue w v).drop 1).contains w.tag.core = true) :=
    not_or_intro (Nat.not_lt.mpr hcome) (ne_true_of_eq_false hturn)
  simp only [Dev.copyQueue] at hgoes hfree hgate
  simp only [runCopy, hconv, if_neg hgoes, hfree, hgate, Bool.false_eq_true, if_false, Gate.turn_go, Dev.copied, Dev.copyQueue]

/-- Settles O4: each order's turn ends with its own effect, and an order whose turn ends issues. -/
theorem tugAndConveyorOrdersIssue : Obligations.TugAndConveyorOrdersIssue := by
  refine ⟨fun s c w p h hsel hplace hgate hroom => ?_, fun s c w v b r h hsel hconv hgate hsent => ?_, fun s c w v h hsel hconv hcome => ?_,
    fun s c w v h hsel hconv => ?_, fun s c w v b q d h hsel hconv hcome hq hturn hnoted hfree hgate => ?_⟩
  · exact order_done h hsel h.core (runTug_done hplace hgate rfl hroom)
  · exact order_done h hsel h.core (runPut_done hconv hgate hsent)
  · exact order_done h hsel h.core (runTake_done hconv hcome)
  · exact order_done h hsel h.core (runRelease_done hconv)
  · subst hq
    exact order_done h hsel h.core (runCopy_done hconv hcome hturn hnoted hfree hgate)

end Sys2Proof.Machine
end

section
/-! Proofs of the statement of chapter 05 on what completes of its own: descriptors of tugs, messages, credits, snapshots and collectives. -/

namespace Sys2Proof.Machine

/-! ### Descriptors of tugs -/

/-- Descriptor `i` at a place of a tug's queue has its turn: it stands there as read, the module runs, the queue's order lets it, its checks let the runs of `g`
through with that status, and nothing holds those back (R129, R130, R133, R159). -/
structure TugTurn (d : Dev) (cl tug pos : Nat) (i : TugItem) (g : List (Nat × Nat) × Nat) : Prop where
  queued : (d.tugQ cl tug)[pos]? = some i
  safe : d.safe = false
  powered : d.pwr.offKind = 0
  ordered : tugMayRun (d.tugQ cl tug) pos = true
  fetched : i.fetch = none
  formed : d.tgMalformed i.tag.ctx i.desc = false
  runs : d.tgGood i.tag.ctx i.desc (tgRuns i.desc) = g
  free : d.tgHeld i.tag i.desc g.1 = none

/-- The end of a descriptor that has moved the runs of `g`: the status of a refused run, else POISON where it moved a poisoned line (R134). -/
def TugItem.moved (i : TugItem) (cl tug pos : Nat) (g : List (Nat × Nat) × Nat) (x : Dev × Bool) : Dev :=
  x.1.tugFinish cl tug pos i (g.1.length * tgLen i.desc) (if g.2 ≠ stOK then g.2 else if x.2 then stPoison else stOK)

theorem TugItem.moved_of_ok {i : TugItem} {cl tug pos : Nat} {g : List (Nat × Nat) × Nat} (x : Dev × Bool) (hok : g.2 = stOK) :
    i.moved cl tug pos g x = x.1.tugFinish cl tug pos i (g.1.length * tgLen i.desc) (if x.2 then stPoison else stOK) := by
  rw [TugItem.moved, if_neg (not_not_intro hok)]

/-- Where the companion refuses run `k`, those before it are accepted and the status is ADDRESS (R188). -/
theorem companionGood_refused {ext : External} {k : Nat} {g : List (Nat × Nat) × Nat} (hrefused : companionRefuses ext = some k) (hk : k < g.1.length) :
    companionGood ext g = (g.1.take k, stAddress) := by
  simp only [companionGood, hrefused, if_pos hk]

theorem companionGood_accepted {ext : External} (g : List (Nat × Nat) × Nat) (haccepted : companionRefuses ext = none) : companionGood ext g = g := by
  simp only [companionGood, haccepted]

section
variable {d : Dev} {cl tug pos : Nat} {i : TugItem} {g : List (Nat × Nat) × Nat} (h : TugTurn d cl tug pos i g)
include h

theorem TugTurn.begins : ¬(d.safe = true ∨ d.pwr.offKind ≠ 0 ∨ tugMayRun (d.tugQ cl tug) pos = false) :=
  not_or_intro (ne_true_of_eq_false h.safe) (not_or_intro (not_not_intro h.powered) (ne_false_of_eq_true h.ordered))

/-- Between units of this module, or as a FILL of it, a descriptor needs no answer from outside (R131). -/
theorem TugTurn.moves_local (ext : External) (hdst : tgDstDev i.desc = d.midOf i.tag.ctx) (hsrc : tgFill i.desc = true ∨ tgSrcDev i.desc = d.midOf i.tag.ctx) :
    d.tugRun cl tug pos ext = i.moved cl tug pos g (d.moveLocal i.desc g.1) := by
  simp only [Dev.tugRun, h.queued, if_neg h.begins, h.fetched, h.formed, h.runs, h.free, Bool.false_eq_true, if_false, if_pos (And.intro hdst hsrc)]
  rfl

/-- To the companion a descriptor moves the runs that are accepted there (R188). -/
theorem TugTurn.moves_out (ext : External) (hdst : tgDstDev i.desc = 15) (hmid : d.midOf i.tag.ctx ≠ 15) :
    d.tugRun cl tug pos ext = i.moved cl tug pos (companionGood ext g) (d.moveOut i.tag.ctx i.desc (companionGood ext g).1) := by
  have hfar : ¬(tgDstDev i.desc = d.midOf i.tag.ctx ∧ (tgFill i.desc = true ∨ tgSrcDev i.desc = d.midOf i.tag.ctx)) := fun hnear => hmid (hnear.1.symm.trans hdst)
  simp only [Dev.tugRun, h.queued, if_neg h.begins, h.fetched, h.formed, h.runs, h.free, Bool.false_eq_true, if_false, if_neg hfar, if_pos hdst]
  rfl

/-- From the companion a descriptor moves what the answer holds of the runs that are accepted there (R188). -/
theorem TugTurn.moves_in (ext : External) (hdst : tgDstDev i.desc = d.midOf i.tag.ctx) (hcopy : tgFill i.desc = false) (hsrc : tgSrcDev i.desc = 15)
    (hmid : d.midOf i.tag.ctx ≠ 15) :
    d.tugRun cl tug pos ext = i.moved cl tug pos (companionGood ext g) (d.moveIn i.tag.ctx i.desc (companionGood ext g).1 ext) := by
  have hfar : ¬(tgDstDev i.desc = d.midOf i.tag.ctx ∧ (tgFill i.desc = true ∨ tgSrcDev i.desc = d.midOf i.tag.ctx)) := fun hnear =>
    hnear.2.elim (ne_true_of_eq_false hcopy) fun hhere => hmid (hhere.symm.trans hsrc)
  have hhere : tgDstDev i.desc ≠ 15 := fun hout => hmid (hdst.symm.trans hout)
  simp only [Dev.tugRun, h.queued, if_neg h.begins, h.fetched, h.formed, h.runs, h.free, Bool.false_eq_true, if_false, if_neg hfar, if_neg hhere,
    if_pos (And.intro hdst hsrc)]
  rfl

end

theorem tugDescriptorComplete_runs {s : State} {cl tug : Nat} (pos : Nat) (ext : External) (hcl : cl < 8) (htug : tug < 4) :
    exec (.tugDescriptorComplete cl tug pos ext) s = .next (s.withDev (s.dev.tugRun cl tug pos ext).retry) := by
  rw [exec_tugDescriptorComplete, execTugDescriptorComplete, onDev_runs (by simp [wellFormed, hcl, htug])]

/-! ### Messages and credits -/

theorem Dev.messageArrives_delivers {d : Dev} {ctx n : Nat} {v : Conveyor} {m : Msg} {rest : List Msg} (hconv : d.conv ctx n = some v)
    (hflying : v.flying = m :: rest) (hunpinned : d.pinned (v.slotAt m.seq) v.slot = false) (hunowned : d.ownedIn (v.slotAt m.seq) v.slot = false) :
    d.messageArrives ctx n = (d.leaveIdle.deliver ctx n { v with flying := rest } m.seq m.tag m.bytes m.poison).retry := by
  simp only [Dev.messageArrives, hconv, hflying, hunpinned, hunowned, Bool.false_eq_true, if_false]

theorem Dev.creditArrives_returns {d : Dev} {ctx n : Nat} {v : Conveyor} (hconv : d.conv ctx n = some v) (hreturning : 0 < v.returning) :
    d.creditArrives ctx n = (d.setConv ctx n { v with returning := v.returning - 1, credits := v.credits + 1 }).retry := by
  simp only [Dev.creditArrives, hconv, if_neg (Nat.ne_of_gt hreturning)]

/-! ### Snapshots -/

/-- Snapshot `sn` stands at a place of the queue, the module runs, and its bytes can be read and have where to go (R324). -/
structure SnapTurn (d : Dev) (job : Nat) (sn : Snap) (a size : Nat) : Prop where
  queued : d.cmp.snaps[job]? = some sn
  safe : d.safe = false
  powered : d.pwr.offKind = 0
  length : size = d.snapSize sn
  address : a = sn.dst % 2 ^ 48
  device : basinDev (sn.dst / 2 ^ 48) = true
  fits : a + size ≤ 2 ^ 48
  readable : d.access (.ctx sn.ctx) false sn.bank size = none
  unowned : d.ownedIn sn.bank size = false

/-- The status of a snapshot that has copied its bytes: POISON where a line of them is poisoned. -/
def Dev.snapStatus (d : Dev) (sn : Snap) (size : Nat) : Nat := if d.poisonIn sn.bank size then stPoison else stOK

section
variable {d : Dev} {job a size : Nat} {sn : Snap} (h : SnapTurn d job sn a size)
include h

theorem SnapTurn.begins : ¬(d.safe = true ∨ d.pwr.offKind ≠ 0) := not_or_intro (ne_true_of_eq_false h.safe) (not_not_intro h.powered)

theorem SnapTurn.addressed : ¬(basinDev (sn.dst / 2 ^ 48) = false ∨ 2 ^ 48 < a + size) := not_or_intro (ne_false_of_eq_true h.device) (Nat.not_lt.mpr h.fits)

theorem SnapTurn.copies_local (ext : External) (hdst : sn.dst / 2 ^ 48 = d.midOf sn.ctx) (hwritable : d.access (.ctx sn.ctx) true a size = none)
    (hunpinned : d.pinned a size = false) (hunowned : d.ownedIn a size = false) :
    d.snapRun job ext = (d.copyRun sn.bank a size).1.snapEnd job sn size (d.snapStatus sn size) := by
  simp only [Dev.snapRun, h.queued, ← h.length, ← h.address, if_neg h.begins, if_neg h.addressed, h.readable, h.unowned, if_pos hdst, hwritable, hunpinned, hunowned,
    Bool.false_eq_true, if_false]
  rfl

theorem SnapTurn.copies_out {ext : External} (hdst : sn.dst / 2 ^ 48 = 15) (hmid : d.midOf sn.ctx ≠ 15) (haccepted : ext.accepted = true) :
    d.snapRun job ext =
      (d.devWrites sn.ctx a (d.read sn.bank size) fun o k => d.poisonIn (sn.bank + o) k).snapEnd job sn size (d.snapStatus sn size) := by
  have hfar : sn.dst / 2 ^ 48 ≠ d.midOf sn.ctx := fun hhere => hmid (hhere.symm.trans hdst)
  simp only [Dev.snapRun, h.queued, ← h.length, ← h.address, if_neg h.begins, if_neg h.addressed, h.readable, h.unowned, if_neg hfar, if_pos hdst,
    haccepted, Bool.false_eq_true, if_false, if_true]
  rfl

end

/-! ### Collectives -/

/-- What collective `f` writes stands open for it on `d`: its moved tiles stay clear of SRC (R287), DST is its context's to write (R510), and no line of it is
pinned or owned by the companion. -/
structure WritesOpen (d : Dev) (ctx : Nat) (g : Group) (f : Coll) (ws : List CollWrite) : Prop where
  apart : d.tilesMeet ctx g f.word ws = false
  writable : (ws.findSome? fun p => d.access (.ctx ctx) true p.1 p.2.1.length) = none
  unpinned : (ws.any fun p => d.pinned p.1 p.2.1.length) = false
  unowned : (ws.any fun p => d.ownedIn p.1 p.2.1.length) = false

/-- Collective `f` has started and agrees with its members (R298); folded, it is `x`, which owes nothing more and whose parts all others have accepted (R293). -/
structure CollReady (d : Dev) (ctx grp : Nat) (g : Group) (f : Coll) (x : CollRun) : Prop where
  group : d.group ctx grp = some g
  started : f.started = true
  agrees : (f.frags.any fun p => p.shape != 0 && p.shape != clShape f.word) = false
  folded : x = CollRun.folds { d := d, f := f } ctx g
  sound : x.bad = none
  goes : x.f.started = true
  done : x.duties ctx g = true
  accepted : x.d.collAccepted ctx grp f.seq (clReduces f.word) = true

theorem CollReady.ends {d : Dev} {ctx grp : Nat} {g : Group} {f : Coll} {x : CollRun} {ws : List CollWrite} {n : Counts} (h : CollReady d ctx grp g f x)
    (houtput : x.output ctx g = some (ws, n)) (hopen : WritesOpen (x.d.putFlight ctx grp x.f) ctx g f ws) :
    d.collStep ctx grp f true = (x.d.putFlight ctx grp x.f).collEnds ctx grp x.f ws n := by
  obtain ⟨hgroup, hstarted, hagrees, rfl, hsound, hgoes, hdone, haccepted⟩ := h
  simp only [Dev.collStep, hgroup, hagrees, hstarted, Bool.false_eq_true, if_false, Option.isSome_none, Bool.or_false, if_true, hsound, hgoes, hdone, haccepted,
    Bool.and_self, houtput, hopen.apart, hopen.writable, hopen.unpinned, hopen.unowned]

/-- A group with a single collective in flight moves that one on. -/
theorem Dev.collGroup_single {d : Dev} {ctx grp : Nat} {g : Group} {f : Coll} (finish : Bool) (hgroup : d.group ctx grp = some g) (hflights : g.flights = [f]) :
    d.collGroup ctx grp finish = d.collStep ctx grp f finish := by
  simp [Dev.collGroup, hgroup, hflights]

/-- Settles O8: each completion does its own part, and what waits for it is tried again. -/
theorem dataMovementCompletes : Obligations.DataMovementCompletes := by
  refine ⟨fun s cl tug pos ext i hcl htug hqueued hsafe hpowered hordered hfetched hformed hfree hok => ?_,
    fun s ctx n v m rest hctx hn hconv hflying hunpinned hunowned => ?_, fun s ctx n v hctx hn hconv hreturning => ?_,
    fun s job ext sn size a hqueued hsafe hpowered hsize haddress hdevice hfits hreadable hunowned => ?_,
    fun s ctx grp g f x ws n hctx hgrp hsafe hgroup hflights hstarted hagrees hfolded hsound hgoes hdone _ haccepted houtput hapart hwritable hunpinned hunowned => ?_⟩
  · have hturn : TugTurn s.dev cl tug pos i (s.dev.tgGood i.tag.ctx i.desc (tgRuns i.desc)) := ⟨hqueued, hsafe, hpowered, hordered, hfetched, hformed, rfl, hfree⟩
    rw [tugDescriptorComplete_runs pos ext hcl htug]
    refine ⟨fun hdst hsrc => ⟨_, rfl, ?_⟩, fun k hdst hmid hrefused hk => ?_, fun hdst hmid haccepted => ⟨_, rfl, ?_⟩,
      fun hdst hcopy hsrc hmid haccepted => ⟨_, rfl, ?_⟩⟩
    · rw [hturn.moves_local ext hdst hsrc, TugItem.moved_of_ok _ hok]
    · rw [hturn.moves_out ext hdst hmid, companionGood_refused hrefused hk]
      rfl
    · rw [hturn.moves_out ext hdst hmid, companionGood_accepted _ haccepted, TugItem.moved_of_ok _ hok]
    · rw [hturn.moves_in ext hdst hcopy hsrc hmid, companionGood_accepted _ haccepted, TugItem.moved_of_ok _ hok]
  · rw [exec_conveyMessageVisible, execConveyMessageVisible, onDev_runs (by simp [wellFormed, hctx, hn]),
      Dev.messageArrives_delivers hconv hflying hunpinned hunowned]
  · rw [exec_creditReturn, execCreditReturn, onDev_runs (by simp [wellFormed, hctx, hn]), Dev.creditArrives_returns hconv hreturning]
  · have hturn : SnapTurn s.dev job sn a size := ⟨hqueued, hsafe, hpowered, hsize, haddress, hdevice, hfits, hreadable, hunowned⟩
    rw [exec_snapshotComplete, execSnapshotComplete, onDev_runs (show wellFormed (.snapshotComplete job ext) = true from rfl)]
    refine ⟨fun hdst hwritable hunpinned hfree => ?_, fun hdst hmid haccepted => ?_⟩
    · rw [hturn.copies_local ext hdst hwritable hunpinned hfree]
      rfl
    · rw [hturn.copies_out hdst hmid haccepted]
      rfl
  · have hready : CollReady s.dev ctx grp g f x := ⟨hgroup, hstarted, hagrees, hfolded, hsound, hgoes, hdone, haccepted⟩
    have hends := hready.ends houtput ⟨hapart, hwritable, hunpinned, hunowned⟩
    rw [exec_collectiveComplete, execCollectiveComplete, onDev_runs (by simp [wellFormed, hctx, hgrp]), hsafe, if_neg Bool.false_ne_true,
      Dev.collGroup_single true hgroup hflights, hends]

end Sys2Proof.Machine
end

section
/-! Proofs of the statement of chapter 06 on the orders of barriers: the turn of ARRIVE, WAIT, ARRIVE_WAIT, FENCE and HINT where each has its own effect. -/

namespace Sys2Proof.Machine

/-! ### Arrivals and FENCE -/

theorem runFence_done {d : Dev} {w : Waiting} (hfields : onlyFields w.word common = true) (hsync : sync w.word = 0xFFFF) (hfenced : d.fenced w.tag = true) :
    runFence w d = .done d := by
  simp [runFence, hfields, hsync, hfenced]

section
variable {d : Dev} {w : Waiting} (hok : d.arriveOk w = true) (hsettled : d.settled w.tag = true)
  (hroom : d.arrivalRoom w.tag.ctx (sync w.word) clReq = true)
include hok hsettled hroom

/-- An ARRIVE has no timeout (R151), and its arrival leaves once earlier work is visible (R217). -/
theorem runArrive_done (htimeout : waitTimeoutNs w.word = 0) :
    runArrive w d = .done (d.sendArrival w.tag (sync w.word) (waitWeight w.word) 0 none) := by
  simp [runArrive, hok, htimeout, hsettled, hroom]

/-- An ARRIVE_WAIT that has sent its arrival waits for its target (R214). -/
theorem runArriveWait_arrives (htarget : w.target = none) (hphase : w.phase = 0) :
    runArriveWait w d = .wait (d.sendArrival w.tag (sync w.word) (waitWeight w.word) 0 none) { w with phase := 1, start := d.time } := by
  simp [runArriveWait, hok, htarget, hphase, hsettled, hroom]

end

/-! ### Waits -/

/-- A sound barrier that does not hold generation `g` for a save, at which an order has not yet joined the waiter set (R214, R225). -/
structure WaitOpen (d : Dev) (w : Waiting) (n g : Nat) (b : Barrier) : Prop where
  bar : d.bar w.tag.ctx n = some b
  sound : b.poisoned = false
  first : w.phase = 0
  unheld : b.holds g = false

/-- The barrier once a core waits there for generation `g`: it stands in the waiter set once. -/
def Barrier.joinedBy (b : Barrier) (who : GangCore) (g : Nat) : Barrier := { b with waiters := (b.waiters.filter fun v => v.who != who) ++ [⟨who, g⟩] }

section
variable {d : Dev} {w : Waiting} {n g : Nat} {b : Barrier} (h : WaitOpen d w n g b)
include h

theorem WaitOpen.ends (hdone : genDone g b.gen = true) (hearly : w.late d.time = false) : d.waitOn w n g = .done (d.report w.tag stOK g 0) := by
  simp [Dev.waitOn, h.bar, h.sound, h.first, h.unheld, hdone, hearly]

theorem WaitOpen.joins (hgoes : genDone g b.gen = false) :
    d.waitOn w n g = .wait ((d.setBar w.tag.ctx n (b.joinedBy (d.here w.tag.ctx w.tag.core) g)).tellWait w.tag n 6 g) { w with target := some g, phase := 2 } := by
  simp [Dev.waitOn, h.bar, h.sound, h.first, h.unheld, hgoes, Barrier.joinedBy]

end

/-- The target of a WAIT (R214): the generation of the core's latest arrival at the barrier, else the one in progress where its home is here. -/
inductive WaitTarget (d : Dev) (w : Waiting) (b : Barrier) : Nat → Prop where
  | arrived {g : Nat} (h : tblFind (d.core w.tag.core).joined (sync w.word) = some g) : WaitTarget d w b g
  | current (h : tblFind (d.core w.tag.core).joined (sync w.word) = none) (here : b.fast = true ∨ b.home = (d.ctx w.tag.ctx).gangRank) : WaitTarget d w b b.gen

/-- A well-formed WAIT whose arrivals are acknowledged waits for its target. -/
theorem runWait_waitOn {d : Dev} {w : Waiting} {b : Barrier} {g : Nat} (hbar : d.bar w.tag.ctx (sync w.word) = some b) (hfields : onlyFields w.word barFields = true)
    (hweight : waitWeight w.word = 0) (hnumber : sync w.word < 1024) (hfresh : w.target = none)
    (hacked : tblGet [] (d.core w.tag.core).acksDue (sync w.word) = []) (htarget : WaitTarget d w b g) :
    runWait w d = d.waitOn w (sync w.word) g := by
  cases htarget with
  | arrived hjoined => simp [runWait, hbar, hfields, hweight, hnumber, hfresh, hacked, hjoined]
  | current hnone hhere =>
    have hknown : (b.fast || b.poisoned || b.home == (d.ctx w.tag.ctx).gangRank) = true := by
      rcases hhere with hfast | hhome
      · simp [hfast]
      · simp [hhome]
    simp [runWait, hbar, hfields, hweight, hnumber, hfresh, hacked, hnone, hknown]

/-- Settles O5: each order's turn ends or waits with its own effect, and so does the order. -/
theorem barrierOrdersArriveAndWait : Obligations.BarrierOrdersArriveAndWait := by
  refine ⟨fun s c w h hsel hok htimeout hsettled hroom => ?_, fun s c w b g h hsel hbar hfields hweight hnumber hfresh hphase hsound hacked htarget hunheld => ?_,
    fun s c w h hsel hok hfresh hphase hsettled hroom => ?_, fun s c w h hsel hfields hsync hfenced => ?_, fun s c w h hsel hok => ?_, fun s c w h hsel hok => ?_⟩
  · exact order_done h hsel h.core (runArrive_done hok hsettled hroom htimeout)
  · have hopen : WaitOpen s.dev w (sync w.word) g b := ⟨hbar, hsound, hphase, hunheld⟩
    have htarget : WaitTarget s.dev w b g := by
      rcases htarget with hjoined | ⟨hnone, rfl, hhere⟩
      · exact .arrived hjoined
      · exact .current hnone hhere
    have hruns := runWait_waitOn hbar hfields hweight hnumber hfresh hacked htarget
    exact ⟨fun hdone hearly => order_done h hsel h.core (hruns.trans (hopen.ends hdone hearly)),
      fun hgoes => order_wait h hsel h.core (hruns.trans (hopen.joins hgoes))⟩
  · exact order_wait h hsel h.core (runArriveWait_arrives hok hsettled hroom hfresh hphase)
  · exact order_done h hsel h.core (runFence_done hfields hsync hfenced)
  · exact order_done h hsel h.core (by rw [runHint, if_pos hok])
  · exact order_done h hsel h.core (by rw [runHintEnd, if_pos hok])

end Sys2Proof.Machine
end

section
/-! Proofs of the statement of chapter 06 on COMMIT, SNAPSHOT and COLLECT: the turn of each where it votes, starts its copy or starts its collective. -/

namespace Sys2Proof.Machine

/-- A fenced COMMIT with its mirrored sets in sync votes and waits for the outcome (R313, R316, R330). -/
theorem runCommit_votes {d : Dev} {w : Waiting} (hok : d.commitOk w.tag w.word = true) (hphase : w.phase = 0) (hfenced : d.fenced w.tag = true)
    (hsynced : d.mirrorSynced w.tag.ctx = true) (hroom : d.arrivalRoom w.tag.ctx (sync w.word) clCtl = true) :
    runCommit w d = .wait (d.sendArrival w.tag (sync w.word) 1 4 (some (commitMask w.word, d.obj (0xA100 + w.tag.ctx) 3 == 1)))
      { w with phase := 2, start := d.time } := by
  simp [runCommit, hok, hphase, hfenced, hsynced, hroom]

/-- A SNAPSHOT whose core's orders are done starts copying a set that has none in flight (R324). -/
theorem runSnapshot_starts {d : Dev} {w : Waiting} {x : StateSet} (hnumber : snapSet w.word ≤ 15) (hset : d.sset w.tag.ctx (snapSet w.word) = some x)
    (hfields : onlyFields w.word snapFields = true) (hsync : sync w.word = 0xFFFF ∨ d.ownsBarrier w.tag.ctx (sync w.word) = true)
    (hdone : d.ordersDone w.tag.core w.tag.stamp = true) (hfree : d.snapBusy w.tag.ctx (snapSet w.word) = false) :
    runSnapshot w d = .done { d with cmp := { d.cmp with snaps := d.cmp.snaps ++
      [{ ctx := w.tag.ctx, set_ := snapSet w.word, bank := x.snapBank, dst := field w.word 115 64, abandon := bit w.word 8, bar := sync w.word, tag := some w.tag }] } } := by
  have hwf : (onlyFields w.word snapFields && (sync w.word == 0xFFFF || d.ownsBarrier w.tag.ctx (sync w.word))) = true := by
    simpa [hfields] using hsync
  simp only [runSnapshot, if_pos hnumber, hset, if_pos hwf, hdone, hfree, Bool.not_false, Bool.and_self, if_true]

/-- The group once a COLLECT has taken its next number: its flights joined by one with the fragments that came early (R284, R293). -/
def Group.launched (g : Group) (t : OrderTag) (word : Nat) : Group :=
  { g with next := (g.next + 1) % 2 ^ 16,
           flights := g.flights ++ [{ tag := t, seq := g.next, word := word, frags := (g.early.filter fun e => e.1 == g.next).map Prod.snd }],
           early := g.early.filter fun e => e.1 != g.next }

theorem runCollect_launches {d : Dev} {w : Waiting} {g : Group} (hok : d.clOk w.tag w.word = some g) (hfew : g.flights.length < 4) :
    runCollect w d = .done (d.setGroup w.tag.ctx (clGroup w.word) (g.launched w.tag w.word)) := by
  simp only [runCollect, hok, if_neg (Nat.not_le.mpr hfew), Group.launched]

/-- Settles O6: each order's turn ends or waits with its own effect; the six rows of COLLECT differ in the kind they take alone. -/
theorem trainingAndCollectiveOrdersIssue : Obligations.TrainingAndCollectiveOrdersIssue := by
  refine ⟨fun s c w h hsel hok hphase hfenced hsynced hroom => ?_, fun s c w x h hsel hnumber hset hfields hsync hdone hfree => ?_,
    fun s c w g k h hsel hok hfew => ?_⟩
  · exact order_wait h hsel h.core (runCommit_votes hok hphase hfenced hsynced hroom)
  · exact order_done h hsel h.core (runSnapshot_starts hnumber hset hfields hsync hdone hfree)
  · have hissues := order_done (run := runCollect) h hsel h.core (runCollect_launches hok hfew)
    refine ⟨_, rfl, ?_, ?_, ?_, ?_, ?_, ?_⟩ <;> (rintro rfl; exact hissues)

end Sys2Proof.Machine
end

section
/-! Proofs of the statement of chapter 06 on the board line and the timers: what SYNC_IO, the cadence timer, the external trigger and the snapshot timer do when they are due. -/

namespace Sys2Proof.Machine

/-! ### The board fast barrier (R222) -/

theorem Dev.fastHigh_completes {d : Dev} {c n : Nat} {b : Barrier} (hline : d.fastBar = some (c, n)) (hbar : d.bar c n = some b) (hsound : b.poisoned = false)
    (hstopped : b.pulling = false) (hunseen : b.sawHigh = none) :
    d.fastHigh = (d.completeGen c n { b with sawHigh := some d.time, lastKind := 5, lastTime := d.time } (b.arrived - b.count)).bump 0x9000 8 1 := by
  simp [Dev.fastHigh, hline, hbar, hsound, hstopped, hunseen]

theorem Dev.fastRepull_pulls {d : Dev} {c n t : Nat} {b : Barrier} (hline : d.fastBar = some (c, n)) (hbar : d.bar c n = some b) (hseen : b.sawHigh = some t)
    (hdue : t + 200 ≤ d.time) :
    d.fastRepull = d.setBar c n { b with sawHigh := none, pulling := (decide (b.arrived < b.count) || (d.ctx c).gangUnnoted != []) && !b.poisoned } := by
  simp only [Dev.fastRepull, hline, hbar, hseen, if_pos hdue]

/-! ### Ticks (R170, R171, R326) -/

/-- The device with its timer set to its next tick. -/
def Dev.timerAt (d : Dev) (t : Nat) : Dev := { d with cmp := { d.cmp with timer := some t } }

section
variable {d : Dev} {t : Nat} (htimer : d.cmp.timer = some t) (hdue : t ≤ d.time)
include htimer hdue

theorem Dev.cadenceTick_ticks (hsource : d.obj 0xD300 1 = 1) : d.cadenceTick = (d.timerAt (t + d.obj 0xD300 2)).tickLists t := by
  simp only [Dev.cadenceTick, htimer, if_pos (And.intro hsource hdue), Dev.timerAt]

theorem Dev.snapTimer_ticks (hperiod : d.obj 0xA000 8 ≠ 0) : d.snapTimer = (d.timerAt (t + d.obj 0xA000 8)).snapTick := by
  simp only [Dev.snapTimer, htimer, if_pos (And.intro hperiod hdue), Dev.timerAt]

end

/-- A tick gives a CADENCE list that has repetitions left its next one, holds one pending, or is dropped (R171). -/
theorem ListRun.ticked_of_more {l : ListRun} (hcadence : l.cadence = true) (hgoing : l.stop = false) (hleft : l.repeats = 0 ∨ l.rep < l.repeats) :
    l.ticked = if l.ready = false then ({ l with ready := true }, false) else if l.tick then (l, true) else ({ l with tick := true }, false) := by
  have hmore : (!l.cadence || l.stop || (l.repeats != 0 && decide (l.repeats ≤ l.rep))) = false := by
    rcases hleft with hendless | hbelow
    · simp [hcadence, hgoing, hendless]
    · simp [hcadence, hgoing, Nat.not_le.mpr hbelow]
  rw [ListRun.ticked, hmore, if_neg Bool.false_ne_true]
  cases l.ready <;> rfl

/-- A tick of the periodic snapshots starts one of a set that has none in flight (R326). -/
theorem Dev.snapTick_starts {d : Dev} {x : StateSet} (hperiod : d.obj 0xA000 8 ≠ 0) (hlast : (d.cmp.snaps.any fun s => s.tag.isNone && s.svc.isNone) = false)
    (hset : d.sset (d.obj 0xA000 9) (d.obj 0xA000 0x0A) = some x) (hfree : d.snapBusy (d.obj 0xA000 9) (d.obj 0xA000 0x0A) = false) :
    d.snapTick = { d with cmp := { d.cmp with snaps := d.cmp.snaps ++
      [{ ctx := d.obj 0xA000 9, set_ := d.obj 0xA000 0x0A, bank := x.snapBank, dst := d.obj 0xA000 0x0B, abandon := d.obj 0xA000 0x0C == 1, bar := 0xFFFF, tag := none }] } } := by
  simp only [Dev.snapTick, if_neg hperiod, hlast, hset, hfree, Bool.false_eq_true, if_false]

/-- Settles O10: each event that is due does its own part. -/
theorem lineAndTickEventsHappen : Obligations.LineAndTickEventsHappen := by
  refine ⟨fun s c n b hline hbar hsound hstopped hunseen => ?_, fun s c n b t hline hbar hseen hdue => ?_, fun s t htimer hsource hdue => ?_,
    fun s hsource => ?_, fun s t htimer hperiod hdue => ?_, fun l hcadence hgoing hleft => ListRun.ticked_of_more hcadence hgoing hleft, ?_⟩
  · rw [exec_fastLineHigh, execFastLineHigh, onDev_runs (show wellFormed .fastLineHigh = true from rfl), Dev.fastHigh_completes hline hbar hsound hstopped hunseen]
  · rw [exec_fastLineRepull, execFastLineRepull, onDev_runs (show wellFormed .fastLineRepull = true from rfl), Dev.fastRepull_pulls hline hbar hseen hdue]
  · rw [exec_cadenceTick, execCadenceTick, onDev_runs (show wellFormed .cadenceTick = true from rfl), Dev.cadenceTick_ticks htimer hdue hsource]
    rfl
  · rw [exec_syncIoRisingEdge, execSyncIoRisingEdge, onDev_runs (show wellFormed .syncIoRisingEdge = true from rfl), if_pos hsource]
  · rw [exec_snapTick, execSnapTick, onDev_runs (show wellFormed .snapTick = true from rfl), Dev.snapTimer_ticks htimer hdue hperiod]
    rfl
  · rintro d _ _ x hperiod hlast rfl rfl hset hfree
    exact Dev.snapTick_starts hperiod hlast hset hfree

end Sys2Proof.Machine
end

section
/-! Proofs of the statement of chapter 06 on scheduling: lists that complete, contexts that are saved and restored, pilot dispatch, and what gangs hear of their members. -/

namespace Sys2Proof.Machine

/-! ### Lists (R160) -/

/-- The list of a core completes for context `ctx`: the core is free, its LAUNCH hears of the outcome, and a save that waited for it is tried. -/
def Dev.listEnded (d : Dev) (c : CoreRef) (ctx : Nat) (l : ListRun) : Dev :=
  ((((d.modCore c fun x => { x with list := none, acksDue := [] }).listResult ctx c.key l.outcome).idleCtx ctx).settleRuns ctx).trySave ctx

theorem orderListComplete_completes {s : State} {c : CoreRef} {ctx : Nat} {l : ListRun} (hc : c.exists = true) (harmed : (s.dev.core c).armed = some ctx)
    (hlist : (s.dev.core c).list = some l) (hdone : s.dev.listDone c ctx = true) :
    exec (.orderListComplete c) s = .next (s.withDev (s.dev.listEnded c ctx l)) := by
  rw [exec_orderListComplete, execOrderListComplete, onDev_runs (show wellFormed (.orderListComplete c) = true from hc)]
  simp only [harmed, hdone, if_true, Dev.listCompletes, hlist, Dev.listEnded]

/-! ### Saving and restoring (R359, R360) -/

theorem Dev.preempt_asks {d : Dev} {ctx : Nat} (hready : d.schReady = true) (hdue : d.preemptible ctx = true) : d.preempt ctx = (d.askSave ctx).trySave ctx := by
  rw [Dev.preempt, if_pos hready, if_pos hdue]

/-- A save asked for by pre-emption alone is made at the boundary, and counted. -/
theorem Dev.trySave_saves {d e : Dev} {ctx : Nat} (hstep : e = d.gangStep ctx) (hready : e.schReady = true) (hasked : (e.ctx ctx).saveAsked = true)
    (hstate : (e.ctx ctx).state = 3 ∨ (e.ctx ctx).state = 4) (hunowned : e.holdsOwned (e.ctx ctx).cores = false) (hcan : e.canSave ctx = true)
    (hstop : (e.ctx ctx).stopWanted = false) (hpark : (e.ctx ctx).parkWanted = false) : d.trySave ctx = (e.saveCtx ctx 5).bump 0xD000 7 1 := by
  simp only [Dev.trySave, ← hstep, hready, hasked, hstate, hunowned, hcan, hstop, hpark, and_self, Bool.false_eq_true, and_false, if_false, if_true]

section
variable {s : State} {ctx : Nat} (hctx : ctx < 64) (hready : s.dev.schReady = true) (hruns : (s.dev.ctx ctx).state = 4) (hquantum : s.dev.obj 0xD000 3 ≤ s.dev.ranFor ctx)
include hctx hready hruns hquantum

/-- A running context that has used up its TIMESLICE gives way to one of its priority. -/
theorem timesliceExpiry_asks (hslice : s.dev.obj 0xD000 2 ≤ s.dev.ranFor ctx) (hwanted : s.dev.contended ctx (fun q => q == (s.dev.ctx ctx).prio) = true) :
    exec (.timesliceExpiry ctx) s = .next (s.withDev ((s.dev.askSave ctx).trySave ctx)) := by
  rw [exec_timesliceExpiry, execTimesliceExpiry, onDev_runs (show wellFormed (.timesliceExpiry ctx) = true from decide_eq_true hctx)]
  simp only [hready, hruns, hwanted, Nat.max_le.mpr ⟨hslice, hquantum⟩, beq_self_eq_true, decide_true, Bool.and_self, if_true]

/-- A running context that has used up its quantum gives way to a higher priority. -/
theorem minQuantumExpiry_asks (hwanted : s.dev.contended ctx (fun q => decide (q < (s.dev.ctx ctx).prio)) = true) :
    exec (.minQuantumExpiry ctx) s = .next (s.withDev ((s.dev.askSave ctx).trySave ctx)) := by
  rw [exec_minQuantumExpiry, execMinQuantumExpiry, onDev_runs (show wellFormed (.minQuantumExpiry ctx) = true from decide_eq_true hctx)]
  simp only [hready, hruns, hwanted, hquantum, beq_self_eq_true, decide_true, Bool.and_self, if_true]

end

theorem Dev.restore_restores {d : Dev} {ctx : Nat} (hready : d.schReady = true) (hsafe : d.safe = false) (hcan : d.canRestore (d.ctx ctx) ctx = true)
    (hbest : (d.ctxs.any fun p => p.1 != ctx && d.canRestore p.2 p.1 && goesBefore p.2 (d.ctx ctx)) = false)
    (hunowned : d.holdsOwned ((d.ctx ctx).saved.map SavedCore.key) = false) : d.restore ctx = d.restoreCtx ctx := by
  simp only [Dev.restore, hready, hsafe, hcan, hbest, hunowned, Bool.not_false, Bool.and_self, Bool.false_eq_true, if_false, if_true]

/-! ### Pilot dispatch (R363) -/

/-- The device once pilot dispatch has given a ring its turn. -/
def Dev.pilotTurn (d : Dev) (ctx : Nat) : Dev := { d with host := { d.host with pilotLast := ctx } }

/-- A ring that pilot dispatch takes next has a docket at its head. -/
theorem Dev.headDocket_ne_none_of_pilotPick {d : Dev} {ctx : Nat} (hpick : d.pilotPick ctx = true) : d.headDocket ctx ≠ none := by
  intro hnone
  simp [Dev.pilotPick, Dev.pilotable, hnone] at hpick

/-- The ring whose turn it is hands off the LAUNCH at its head, which is counted. -/
theorem Dev.pilot_launches {d : Dev} {ctx w : Nat} {ls : List (CoreRef × Nat × Nat)} (hon : d.obj 0xD000 4 = 1) (hseek : (d.ctx ctx).seekStart = false)
    (hpick : d.pilotPick ctx = true) (hhead : (d.pilotTurn ctx).headDocket ctx = some w) (hplan : (d.pilotTurn ctx).headPlan ctx = some (.go ls)) :
    d.pilot ctx = ((d.pilotTurn ctx).startDocket ctx w fun r d => d.launch ctx r (.go ls)).bump 0xD000 6 1 := by
  have hstands : ¬(d.obj 0xD000 4 = 1 ∧ (d.ctx ctx).pilotable = true ∧ d.headDocket ctx = none) := fun h => Dev.headDocket_ne_none_of_pilotPick hpick h.2.2
  rw [Dev.pilotTurn] at hhead hplan
  simp only [Dev.pilot, seekHead_none hseek, if_neg hstands, if_pos (And.intro hon hpick), hhead, hplan, Dev.pilotTurn]

/-! ### What gangs hear of their members -/

/-- A member's abort ends the context here too, and with it a collective that it names (R361, R298). -/
theorem gangAbort_aborts {s : State} {ctx rank : Nat} (coll : Option (Nat × Nat)) (hctx : ctx < 64) (hrank : rank < 16384) (hother : rank ≠ s.dev.rank)
    (hmember : rank ∈ (s.dev.ctx ctx).members) :
    exec (.gangAbort ctx rank coll) s = .next (s.withDev (((s.dev.collTold ctx coll).abortCtx ctx none).settleRuns ctx)) := by
  have hwf : wellFormed (.gangAbort ctx rank coll) = true := by simp [wellFormed, hctx, hrank]
  rw [exec_gangAbort, execGangAbort, onDev_runs hwf, if_pos (And.intro hother hmember)]

theorem memberDigest_runs {s : State} {ctx rank : Nat} (n : Notice) (hctx : ctx < 64) (hrank : rank < 16384) :
    exec (.memberDigest ctx rank n) s = .next (s.withDev ((Dev.memberDigest s.fuses s.dev ctx rank n).audit s.dev)) := by
  have hwf : wellFormed (.memberDigest ctx rank n) = true := by simp [wellFormed, hctx, hrank]
  rw [exec_memberDigest, execMemberDigest, onDevF_runs hwf]

theorem gangFprChanged_notes {s : State} {ctx rank : Nat} (hctx : ctx < 64) (hrank : rank < 16384) (hresident : (s.dev.ctx ctx).resident = true)
    (hmember : rank ∈ (s.dev.ctx ctx).members) (hother : rank ≠ s.dev.rank) :
    exec (.gangFprChanged ctx rank) s = .next (s.withDev (s.dev.setObj (0x7100 + ctx) 4 1)) := by
  have hwf : wellFormed (.gangFprChanged ctx rank) = true := by simp [wellFormed, hctx, hrank]
  rw [exec_gangFprChanged, execGangFprChanged, onDev_runs hwf, if_pos (And.intro hresident (And.intro hmember hother))]

/-- An admission that misses a member for 100 ms is refused, and names it (R250). -/
theorem Dev.sessionTimeout_refuses {d : Dev} {ctx r : Nat} {a : Admitting} (hadmitting : (d.ctx ctx).admitting = some a) (hlate : a.since + 100000000 ≤ d.time)
    (habsent : d.absentMember ctx a = some r) : d.sessionTimeout ctx = d.unadmit ctx stMemberAbsent (d.gangOf ctx r) := by
  simp only [Dev.sessionTimeout, hadmitting, if_neg (Nat.not_lt.mpr hlate), habsent]

/-- Settles O31: each row does its own part where its conditions hold. -/
theorem schedulingHappens : Obligations.SchedulingHappens := by
  refine ⟨fun s c ctx l hc harmed hlist hdone => orderListComplete_completes hc harmed hlist hdone, fun s ctx hctx hready hdue => ?_,
    fun d e ctx hstep hready hasked hstate hunowned hcan hstop hpark => Dev.trySave_saves hstep hready hasked hstate hunowned hcan hstop hpark,
    fun s ctx hctx hready hruns hslice hquantum hwanted => timesliceExpiry_asks hctx hready hruns hquantum hslice hwanted,
    fun s ctx hctx hready hruns hquantum hwanted => minQuantumExpiry_asks hctx hready hruns hquantum hwanted,
    fun s ctx hctx hready hsafe hcan hbest hunowned => ?_, fun s hoff => ?_, fun s hup => ?_, fun s ctx d w ls hctx hon hseek hpick hd hhead hplan => ?_,
    fun s ctx rank hctx hrank hother hmember => ⟨gangAbort_aborts none hctx hrank hother hmember, fun grp seq => gangAbort_aborts (some (grp, seq)) hctx hrank hother hmember⟩,
    fun s ctx rank v fpr hctx hrank hstate => ?_, fun s ctx rank step hctx hrank hstate hmember hother => ?_,
    fun s ctx rank hctx hrank hresident hmember hother => gangFprChanged_notes hctx hrank hresident hmember hother, fun s ctx a r hctx hadmitting hlate habsent => ?_⟩
  · rw [exec_preemption, execPreemption, onDev_runs (show wellFormed (.preemption ctx) = true from decide_eq_true hctx), Dev.preempt_asks hready hdue]
  · rw [exec_restore, execRestore, onDev_runs (show wellFormed (.restore ctx) = true from decide_eq_true hctx), Dev.restore_restores hready hsafe hcan hbest hunowned]
  · rw [exec_decisionBudgetExpiry, execDecisionBudgetExpiry, onDev_runs (show wellFormed .decisionBudgetExpiry = true from rfl), Dev.pilotOn, if_neg hoff]
  · rw [exec_schReady, execSchReady, onDev_runs (show wellFormed .schReady = true from rfl), hup, if_neg Bool.false_ne_true]
  · subst hd
    rw [exec_pilotDispatch, execPilotDispatch, onDev_runs (show wellFormed (.pilotDispatch ctx) = true from decide_eq_true hctx),
      Dev.pilot_launches hon hseek hpick hhead hplan]
    rfl
  · rw [memberDigest_runs _ hctx hrank, Dev.memberDigest, if_pos hstate]
  · rw [memberDigest_runs _ hctx hrank, Dev.memberDigest, if_pos ⟨hstate, hmember, hother⟩]
  · rw [exec_sessionOpenTimeout, execSessionOpenTimeout, onDev_runs (show wellFormed (.sessionOpenTimeout ctx) = true from decide_eq_true hctx),
      Dev.sessionTimeout_refuses hadmitting hlate habsent]

end Sys2Proof.Machine
end

section
/-! SUPPORT. A DATA packet that comes next in its class: it is accepted alone, and what follows is what its operation does. -/

namespace Sys2Proof.Machine

theorem tblSet_tblSet_same {α : Type} (t : Tbl α) (k : Nat) (v w : α) : tblSet (tblSet t k v) k w = tblSet t k w := by
  induction t with
  | nil => simp [tblSet]
  | cons h t ih =>
    obtain ⟨a, u⟩ := h
    by_cases hlt : k < a
    · simp [tblSet, hlt]
    · by_cases heq : a = k
      · simp [tblSet, heq]
      · simp [tblSet, hlt, heq, ih]

/-! ### Acceptance (R252, R253) -/

@[simp] theorem Dev.rxFrame_time (d : Dev) (port : Nat) : (d.rxFrame port).time = d.time := d.bump_time _ _ _

/-- A class in which nothing is held or waits takes the packet it expects, and nothing else. -/
theorem RxClass.accept_next {r : RxClass} {p : Packet} (hnext : psnAfter p.psn r.next = 0) (hheld : r.held = []) (hwaits : r.stalled = []) (window time : Nat) :
    r.accept p window time = (r.took p time [p], false) := by
  simp [RxClass.accept, RxClass.took, hnext, hheld, hwaits, takeRun]

@[simp] theorem Session.rxc_took (x : Session) (p : Packet) (time : Nat) (left : List Packet) :
    (x.took p time left).rxc p.cls = (x.rxc p.cls).took p time left := by
  rw [Session.rxc, Session.took, tblGet_set_same]

/-- What of an accepted packet still waits is all that its application changes of the class. -/
theorem Session.took_stalled (x : Session) (p : Packet) (time : Nat) (left left' : List Packet) :
    { x.took p time left with rx := tblSet (x.took p time left).rx p.cls { (x.rxc p.cls).took p time left with stalled := left' } } = x.took p time left' := by
  simp only [Session.took, tblSet_tblSet_same, RxClass.took]

/-! ### What follows a packet that has been applied (R253, R255) -/

/-- The session once a packet that waited alone in its class has been applied. -/
def Session.drained (z : Session) (p : Packet) : Session :=
  if (z.rxc p.cls).stalled = [p] then { z with rx := tblSet z.rx p.cls { z.rxc p.cls with stalled := [] } } else z

/-- A class is acknowledged after 16 packets. -/
def Dev.ackFull (d : Dev) (key cls : Nat) : Dev :=
  match d.session key with
  | some z => if 16 ≤ (z.rxc cls).fresh then d.sendAck key cls else d
  | none => d

theorem Dev.dataDone_of_none {e : Dev} {p : Packet} (hgone : e.session p.session = none) : e.dataDone p = (e.ackFull p.session p.cls).retry := by
  simp only [Dev.dataDone, Dev.ackFull, hgone]

theorem Dev.dataDone_of_some {e f : Dev} {p : Packet} {z : Session} (hleft : e.session p.session = some z)
    (hf : f = Dev.drainRx p.session p.cls 1 (e.setSession p.session (z.drained p))) : e.dataDone p = (f.ackFull p.session p.cls).retry := by
  rw [Session.drained] at hf
  cases hend : f.session p.session <;> simp only [Dev.dataDone, Dev.ackFull, hleft, ← hf, hend]

/-! ### A packet that comes next (R252) -/

section
variable {s : State} {p : Packet} {x y : Session} {d e : Dev} (h : DataNext s p x d y)
include h

theorem DataNext.session_eq : d.session p.session = some (x.took p s.dev.time [p]) := by
  rw [h.device, Dev.session_setSession]

/-- Nothing of a session but its classes takes part in the acceptance of a packet. -/
theorem DataNext.keeps : y.ctx = x.ctx ∧ y.badWrite = x.badWrite ∧ y.reads = x.reads := by
  rw [h.session]
  exact ⟨rfl, rfl, rfl⟩

/-- A packet that comes next is received by applying what waits, and acknowledging it where that is due. -/
theorem DataNext.recvData_drains : (s.dev.rxFrame p.port).recvData p.session x p = ((Dev.drainRx p.session p.cls 2 d).ackFull p.session p.cls).retry := by
  have haccept := RxClass.accept_next h.next h.held h.waits ((s.dev.rxFrame p.port).obj 0x3100 6) s.dev.time
  have hwaits : ((x.rxc p.cls).took p s.dev.time [p]).stalled = [p] := rfl
  have hdevice : d = (s.dev.rxFrame p.port).leaveIdle.setSession p.session { x with rx := tblSet x.rx p.cls ((x.rxc p.cls).took p s.dev.time [p]) } := h.device
  cases hend : (Dev.drainRx p.session p.cls 2 d).session p.session <;>
    simp only [Dev.recvData, Dev.rxFrame_time, haccept, ← hdevice, Bool.false_eq_true, if_false, hwaits, List.length_singleton, Nat.reduceAdd, Dev.ackFull, hend]

section
variable (happly : d.applyPkt p.session y p = some e)
include happly

/-- The session with which the drain applies the packet is the one in which it waits no longer. -/
theorem DataNext.applyPkt_drained : d.applyPkt p.session { x.took p s.dev.time [p] with
    rx := tblSet (x.took p s.dev.time [p]).rx p.cls { (x.rxc p.cls).took p s.dev.time [p] with stalled := [] } } p = some e := by
  rw [Session.took_stalled, ← h.session, happly]

theorem DataNext.drainRx_ends (hgone : e.session p.session = none) (fuel : Nat) : Dev.drainRx p.session p.cls (fuel + 1) d = e := by
  have hwaits : ((x.rxc p.cls).took p s.dev.time [p]).stalled = [p] := rfl
  simp only [Dev.drainRx, h.session_eq, Session.rxc_took, hwaits, h.applyPkt_drained happly, hgone]

theorem DataNext.drainRx_goes_on {z : Session} (hleft : e.session p.session = some z) (fuel : Nat) :
    Dev.drainRx p.session p.cls (fuel + 1) d = Dev.drainRx p.session p.cls fuel (e.setSession p.session (z.drained p)) := by
  have hwaits : ((x.rxc p.cls).took p s.dev.time [p]).stalled = [p] := rfl
  simp only [Dev.drainRx, h.session_eq, Session.rxc_took, hwaits, h.applyPkt_drained happly, hleft, Session.drained]

/-- The packet is applied on the device that has accepted it, and what its application leaves is done with it. -/
theorem DataNext.recvData_applies : (s.dev.rxFrame p.port).recvData p.session x p = e.dataDone p := by
  rw [h.recvData_drains]
  cases hleft : e.session p.session with
  | none => rw [h.drainRx_ends happly hleft 1, Dev.dataDone_of_none hleft]
  | some z => rw [h.drainRx_goes_on happly hleft 1, Dev.dataDone_of_some hleft rfl]

end

theorem DataNext.dataRow_applies {op : Nat} (hop : p.op = op) (happly : d.applyPkt p.session y p = some e) : s.dev.dataRow p op = e.dataDone p := by
  rw [Dev.dataRow, if_pos ⟨h.data, hop⟩, gezalIn_for h.comes, h.recvData_applies happly]

/-- The rows of packets name a port and a half that exist. -/
theorem DataNext.unitsExist : (decide (p.port < 20) && decide (p.half < 2)) = true := by
  rw [decide_eq_true h.port, decide_eq_true h.half, Bool.and_self]

/-- A row of one operation completes with what its packet does. -/
theorem DataNext.row_completes {i : Instr} {op : Nat} (hrow : exec i s = onDev (wellFormed i) (fun d => d.dataRow p op) s) (hwf : wellFormed i = true) (hop : p.op = op)
    (happly : d.applyPkt p.session y p = some e) : exec i s = .next (s.withDev (e.dataDone p)) := by
  rw [hrow, onDev_runs hwf, h.dataRow_applies hop happly]

/-- A row of one KIND of STEP does so too. -/
theorem DataNext.step_completes {i : Instr} {kind : Nat} (hrow : exec i s = onDev (wellFormed i) (fun d => d.stepRow p kind) s) (hwf : wellFormed i = true)
    (hop : p.op = 0x40) (hkind : stepKind p = kind) (happly : d.applyPkt p.session y p = some e) : exec i s = .next (s.withDev (e.dataDone p)) := by
  rw [hrow, onDev_runs hwf, Dev.stepRow, if_pos hkind, h.dataRow_applies hop happly]

end

end Sys2Proof.Machine
end

section
/-! Proofs of the statement of chapter 06 on what the operations of packets do: memory, conveyors, barriers, collectives, steps and mirrors. -/

namespace Sys2Proof.Machine

/-! ### Memory operations (R247, R256) -/

section
variable {d : Dev} {key : Nat} {x : Session} {p : Packet}

/-- What a WRITE asks of the module before it looks at the rights (R134, R335): no earlier WRITE of its message was refused, its rank is not saved, and its address
is here. -/
structure WriteComes (d : Dev) (x : Session) (p : Packet) : Prop where
  sound : x.badWrite = 0
  placed : d.rankSaved x p.addr = false
  here : d.addressHere p.addr = true

/-- The rights of a peer over the whole run of which a WRITE carries a part. -/
def Dev.writeAccess (d : Dev) (p : Packet) : Option Nat := d.access .peer true (p.addr % 2 ^ 48 - p.runBefore) (p.runBefore + p.payload.length + p.runAfter)

/-- A WRITE that is allowed, and whose lines nothing holds. -/
structure WriteOpen (d : Dev) (x : Session) (p : Packet) : Prop extends WriteComes d x p where
  allowed : d.writeAccess p = none
  unpinned : d.pinned (p.addr % 2 ^ 48) p.payload.length = false
  unowned : d.ownedIn (p.addr % 2 ^ 48) p.payload.length = false

theorem WriteComes.judged (h : WriteComes d x p) : (if d.addressHere p.addr then d.writeAccess p else some stAddress) = d.writeAccess p := if_pos h.here

theorem WriteOpen.applies (h : WriteOpen d x p) : d.applyWrite key x p =
    some (if p.last then ((d.write (p.addr % 2 ^ 48) p.payload p.poison).setSession key { x with wrote := 0 }).sendData key { cls := clResp, op := 0x04, addr := p.psn }
      else (d.write (p.addr % 2 ^ 48) p.payload p.poison).setSession key { x with wrote := x.wrote + p.payload.length }) := by
  have hjudged := h.judged.trans h.allowed
  rw [Dev.writeAccess] at hjudged
  simp only [Dev.applyWrite, if_neg (not_not_intro h.sound), h.placed, hjudged, h.unpinned, h.unowned, Bool.false_eq_true, if_false]
  cases p.last <;> rfl

theorem WriteComes.refused {st : Nat} (h : WriteComes d x p) (hrefused : d.writeAccess p = some st) :
    d.applyWrite key x p = some ((d.refused st).refuseWrite key x p st) := by
  have hjudged := h.judged.trans hrefused
  rw [Dev.writeAccess] at hjudged
  simp only [Dev.applyWrite, if_neg (not_not_intro h.sound), h.placed, hjudged, Bool.false_eq_true, if_false]

theorem Dev.applyRead_responds {n : Nat} (hn : n = leNat (slice p.payload 0 3)) (hplaced : d.rankSaved x p.addr = false) (hhere : d.addressHere p.addr = true)
    (hsome : n ≠ 0) (hallowed : d.access .peer false (p.addr % 2 ^ 48) n = none) (hunowned : d.ownedIn (p.addr % 2 ^ 48) n = false)
    (hroom : d.canSend key clResp = true) :
    d.applyRead key x p = some ((List.range (ceilDiv n d.payloadMax)).foldl (fun e i => e.respond key p (p.addr % 2 ^ 48) n d.payloadMax i) d) := by
  have hjudged : (d.addressHere p.addr && n != 0) = true := by simp [hhere, hsome]
  simp only [Dev.applyRead, ← hn, hplaced, if_pos hjudged, hallowed, hunowned, hroom, Bool.false_eq_true, reduceCtorEq, or_self, if_false]

/-- READ_RESP data is written at its place, where its descriptor waits for it and nothing holds it back. -/
theorem Dev.applyReadResp_writes {r : ReadReq} {w : Nat × Nat × Nat × TugItem} (hread : (x.reads.find? fun r => r.tag == p.channel) = some r) (hok : p.refusal = 0)
    (hdata : r.desc = false) (htug : d.readTug key r = some w) (hunpinned : d.pinned (r.dst + (p.addr - r.src)) p.payload.length = false)
    (hunowned : d.ownedIn (r.dst + (p.addr - r.src)) p.payload.length = false) (hallowed : d.access (.ctx w.2.2.2.tag.ctx) true r.dst r.len = none) :
    d.applyReadResp key x p = some (d.readData key x r p w) := by
  simp only [Dev.applyReadResp, hread, hok, hdata, htug, hunpinned, hunowned, hallowed, ne_eq, not_true_eq_false, Bool.false_eq_true, or_self, if_false]

/-- The descriptor whose last WRITE a DONE names ends with what the DONE tells, where the session waits for no flush of that number. -/
theorem Dev.applyDone_ends {cl t pos : Nat} {i : TugItem}
    (htug : (d.findTug fun i => i.remote == 1 && i.sess == key && i.txn == field p.addr 31 0) = some (cl, t, pos, i)) (hsent : d.tugAllSent i = true)
    (hflush : ∀ y, d.session key = some y → y.flush ≠ some (field p.addr 31 0)) :
    d.applyDone key p = if p.refusal ≠ 0 then d.tugFails cl t pos i (p.before / tgLen i.desc * tgLen i.desc) p.refusal else d.tugRemoteDone cl t pos i := by
  cases hsession : d.session key with
  | none => simp only [Dev.applyDone, hsession, htug, hsent, if_true]
  | some y => simp only [Dev.applyDone, hsession, if_neg (hflush y hsession), htug, hsent, if_true]

end

/-! ### One rank of a gang on this module (R335) -/

theorem getD_find?_singleton {α : Type} (a : α) (q : α → Bool) : ([a].find? q).getD a = a := by
  cases hq : q a <;> simp [hq]

section
variable {d : Dev} {c : Nat}

/-- The arrival that an ARRIVE packet brings for a context. -/
def Dev.arrivalOf (d : Dev) (p : Packet) (c : Nat) : ArrivalF :=
  { ctx := c, bar := p.channel, weight := field p.addr 15 0, kind := field p.addr 35 32, who := ⟨d.gangOf c p.src, epCore (field p.addr 31 16)⟩ }

/-- The commit arrival that a VOTE packet brings for a context (R315). -/
def Dev.voteOf (d : Dev) (p : Packet) (c : Nat) : ArrivalF :=
  { ctx := c, bar := field p.addr 41 32, weight := 1, kind := 4, who := ⟨d.gangOf c p.src, epCore (leNat (slice p.payload 0 2))⟩,
    vote := some (p.channel, bit p.addr 47) }

/-- The device once the last piece of a message has come: the whole of it is delivered into the next slot. -/
def Dev.conveyed (d : Dev) (p : Packet) (c : Nat) (v : Conveyor) : Dev :=
  d.deliver c p.channel { v with pieces := [], piecesBad := false } v.visible (field p.addr 15 0) ((v.pieces ++ p.payload).take (v.slot - 8)) (v.piecesBad || p.poison)

theorem Dev.senderRank_of_unmapped (hremap : (d.ctx c).remap = []) (src ep : Nat) : d.senderRank c src ep = d.gangOf c src := by
  simp [Dev.senderRank, hremap]

variable (halone : d.sibling c = none)
include halone

theorem Dev.ranksHere_alone : d.ranksHere c = [c] := by rw [Dev.ranksHere, halone]

theorem Dev.homeCtx_alone (n : Nat) : d.homeCtx c n = c := by
  rw [Dev.homeCtx, Dev.ranksHere_alone halone, getD_find?_singleton]

theorem Dev.midCtx_alone (mid : Nat) : d.midCtx c mid = c := by
  rw [Dev.midCtx, Dev.ranksHere_alone halone, getD_find?_singleton]

/-! ### Conveyors (R165, R168) -/

theorem Dev.convHere_alone {n : Nat} {v : Conveyor} (hconv : d.conv c n = some v) (hcons : epMid v.cons = d.midOf c) : d.convHere c n = some (c, v) := by
  simp [Dev.convHere, Dev.ranksHere_alone halone, hconv, hcons]

/-- A piece of a message is kept, and its last one delivers the whole of it into the next slot (log 86). -/
theorem Dev.applyConvey_delivers {p : Packet} {v : Conveyor} (hconv : d.conv c p.channel = some v) (hcons : epMid v.cons = d.midOf c) (hback : (d.ctx c).saved = [])
    (hunowned : d.ownedIn (v.slotAt v.visible) v.slot = false) (hunpinned : d.pinned (v.slotAt v.visible) v.slot = false) :
    d.applyConvey c p = some (if bit p.addr 16 then d.setConv c p.channel { v with pieces := v.pieces ++ p.payload, piecesBad := v.piecesBad || p.poison }
      else d.conveyed p c v) := by
  simp only [Dev.applyConvey, Dev.convHere_alone halone hconv hcons, hback, hunowned, hunpinned, ne_eq, not_true_eq_false, Bool.false_eq_true, or_self, if_false]
  split <;> rfl

theorem Dev.applyCredit_returns {p : Packet} {v : Conveyor} (hconv : d.conv c p.channel = some v) (hprod : epMid v.prod = d.midOf c) :
    d.applyCredit c p = d.setConv c p.channel { v with credits := v.credits + field p.addr 15 0 } := by
  simp [Dev.applyCredit, Dev.ranksHere_alone halone, hconv, hprod]

/-! ### Barriers (R213, R218, R228) -/

/-- An arrival with weight is counted; one of weight 0 is what a wait says (log 96). -/
theorem Dev.applyArrive_counts {p : Packet} (hremap : (d.ctx c).remap = []) (hweight : field p.addr 15 0 ≠ 0) :
    d.applyArrive c p = d.countArrival (d.arrivalOf p c) := by
  simp only [Dev.applyArrive, Dev.homeCtx_alone halone, if_neg hweight, Dev.senderRank_of_unmapped hremap, Dev.arrivalOf]

theorem Dev.applyArriveAck_tells (p : Packet) :
    d.applyArriveAck c p = d.acknowledge c p.channel (epCore (field p.addr 47 32)) (some (field p.addr 31 0)) := by
  simp only [Dev.applyArriveAck, Dev.midCtx_alone halone]

theorem Dev.applyVote_counts {p : Packet} (hremap : (d.ctx c).remap = []) : d.applyVote c p = d.countArrival (d.voteOf p c) := by
  simp only [Dev.applyVote, Dev.homeCtx_alone halone, Dev.senderRank_of_unmapped hremap, Dev.voteOf]

end

/-- A copy of a barrier on another module than its home once generation `g` is released; a gang pre-emption point holds nothing any more. -/
def Dev.copyReleased (d : Dev) (n g c : Nat) (b : Barrier) : Dev :=
  if b.gangpoint then (d.setBar c n { b with gen := (g + 1) % 2 ^ 32 }).modCtx c fun x => { x with gangHeld := false, gangSaid := false }
  else d.setBar c n { b with gen := (g + 1) % 2 ^ 32 }

/-- A RELEASE moves a sound copy on, and ends the waits for its generation. -/
theorem Dev.releaseHere_releases {d : Dev} {n g c : Nat} {b : Barrier} (hbar : d.bar c n = some b) (hfar : b.home ≠ (d.ctx c).gangRank) (hsound : b.poisoned = false)
    (hgoes : genDone g b.gen = false) :
    d.releaseHere n g c = ((d.copyReleased n g c b).coresWhere (releasedBy c n g)).foldl Dev.waitEnds (d.copyReleased n g c b) := by
  simp only [Dev.releaseHere, hbar, hfar, hsound, hgoes, Bool.false_eq_true, or_self, if_false, Dev.copyReleased]

/-- A poisoned copy whose arrivals here are all acknowledged ends no order. -/
theorem Dev.poisonHere_of_acknowledged {d e : Dev} {n c : Nat} (he : e = d.poisonBar c n)
    (hacked : (e.coresWhere fun k => k.armed == some c && tblGet [] k.acksDue n != []) = []) : d.poisonHere n c = e := by
  simp only [Dev.poisonHere, ← he, hacked, List.foldl_nil]

/-! ### Collectives and steps (R284, R295, R315, R316) -/

/-- The fragment that a COLLECT packet brings, of rank `r` of its group. -/
def fragmentOf (p : Packet) (r : Nat) : Frag :=
  { phase := field p.addr 51 50, rank := r, offset := field p.addr 33 0, bytes := p.payload, poison := p.poison, shape := p.shape }

/-- The first fragment of a group is one of the first rank of its sender. -/
theorem Dev.collectHere_arrives {d : Dev} {p : Packet} {c r : Nat} {g : Group} (hgroup : d.group c p.channel = some g) (hflights : g.flights = []) (hearly : g.early = [])
    (hrank : ((List.range g.members.length).find? fun r => d.gangDevice c (nth 0 g.members r) == p.src && nth 0 g.members r != (d.ctx c).gangRank) = some r) :
    d.collectHere p c = (d.collArrives c p.channel (field p.addr 49 34) (fragmentOf p r)).collGroup c p.channel false := by
  simp only [Dev.collectHere, hgroup, hflights, hearly, List.filter_nil, List.map_nil, List.flatten_nil, List.append_nil, List.any_nil, Bool.not_false, List.find?_filter,
    and_true, Bool.decide_eq_true, hrank, fragmentOf]

/-- The outcome that an OUTCOME packet brings for a context. -/
def outcomeOf (p : Packet) (c : Nat) : OutcomeF :=
  { ctx := c, bar := field p.addr 41 32, gen := field p.addr 31 0, mask := p.channel, outcome := field p.addr 46 44 }

/-- The first outcome of a generation joins those on hand, of which the next takes effect. -/
theorem Dev.outcomeHere_joins {d : Dev} {p : Packet} {c : Nat} (hknown : (outcomeOf p c).outcome ≤ 3) (hnew : (d.ctx c).hasApplied (outcomeOf p c) = false)
    (hfirst : (d.cmp.outcomes.any fun q => q.ctx == c && q.bar == (outcomeOf p c).bar && q.gen == (outcomeOf p c).gen) = false) :
    d.outcomeHere p c = ({ d with cmp := { d.cmp with outcomes := d.cmp.outcomes ++ [outcomeOf p c] } } : Dev).outcomeDue false := by
  rw [outcomeOf] at hknown hnew hfirst
  simp only [Dev.outcomeHere, hnew, hfirst, decide_eq_false (Nat.not_lt.mpr hknown), Bool.or_self, Bool.false_eq_true, if_false, outcomeOf]

/-! ### The pair (R330, R332, R334) -/

/-- The reconciliation of a member that a RECONCILE packet asks for in a context. -/
def reconcileOf (p : Packet) (c : Nat) : MirrorDue :=
  .reconcile p.src { ctx := c, bar := field p.addr 41 32, gen := field p.addr 31 0, outcome := field p.addr 46 44, mask := p.channel }

theorem Dev.onHeartbeat_sees {d : Dev} {src : Nat} (hsrc : src = d.partner) (hmode : d.moorMode ≠ 0) (hpair : d.pairState = 1) :
    d.onHeartbeat src = { d with net := { d.net with heartbeatSeen := d.time } } := by
  have hstands : ({ d with net := { d.net with heartbeatSeen := d.time } } : Dev).pairState ≠ 0 := by
    show d.pairState ≠ 0
    rw [hpair]
    decide
  simp only [Dev.onHeartbeat, if_pos (And.intro hsrc hmode), if_neg hstands]

/-- The partner's quarantine or safe state declares it lost. -/
theorem Dev.onNodeStatus_loses {d : Dev} {src addr : Nat} (hsrc : src = d.partner) (hkind : field addr 51 48 = 3 ∨ field addr 51 48 = 4) :
    d.onNodeStatus src addr = d.partnerLost false := by
  simp only [Dev.onNodeStatus, if_pos (And.intro hsrc hkind)]

theorem Dev.applyMirror_writes {d : Dev} {p : Packet} {r : Nat × Nat} (hplace : d.mirrorPlace p.src p.channel p.addr p.payload.length = some r)
    (hunpinned : d.pinned r.1 r.2 = false) (hunowned : d.ownedIn r.1 r.2 = false) : d.applyMirror p = some (d.mirrorWrite r.1 p.payload p.poison) := by
  simp only [Dev.applyMirror, hplace, hunpinned, hunowned, Bool.false_eq_true, or_self, if_false]

/-- A MIRROR packet of the member that a standby here stands for has its place in a bank of the named set. -/
theorem Dev.mirrorPlace_of_standby {d : Dev} {src channel addr n : Nat} {x : StateSet} (hset : d.sset (field channel 9 4) (field channel 3 0) = some x)
    (hstandby : (d.ctx (field channel 9 4)).state = 10) (hfor : (d.ctx (field channel 9 4)).standbyFor = some src) (hfits : field addr 39 0 + n ≤ x.size)
    (hchannel : field channel 15 10 = 0) (haddr : field addr 50 40 = 0) :
    d.mirrorPlace src channel addr n = some ((if bit addr 51 then x.bank1 else x.bank0) + field addr 39 0, n) := by
  simp only [Dev.mirrorPlace, hset, hstandby, hfor, hfits, hchannel, haddr, and_self, if_true]

/-! ### The operation of a packet (R247) -/

section
variable {d : Dev} {key c : Nat} {x : Session} {p : Packet}

theorem Dev.applyPkt_write (hop : p.op = 0x01) : d.applyPkt key x p = d.applyWrite key x p := by simp [Dev.applyPkt, hop]
theorem Dev.applyPkt_read (hop : p.op = 0x02) : d.applyPkt key x p = d.applyRead key x p := by simp [Dev.applyPkt, hop]
theorem Dev.applyPkt_readResp (hop : p.op = 0x03) : d.applyPkt key x p = d.applyReadResp key x p := by simp [Dev.applyPkt, hop]
theorem Dev.applyPkt_done (hop : p.op = 0x04) : d.applyPkt key x p = some (d.applyDone key p) := by simp [Dev.applyPkt, hop]

/-- An operation from 0x10 on of a context's session is one of the context's. -/
theorem Dev.applyPkt_ctx (hctx : x.ctx = some c) (hop : 0x10 ≤ p.op) : d.applyPkt key x p = d.applyCtx c p := by
  simp only [Dev.applyPkt, hctx, if_neg (show p.op ≠ 0x01 by omega), if_neg (show p.op ≠ 0x02 by omega), if_neg (show p.op ≠ 0x03 by omega),
    if_neg (show p.op ≠ 0x04 by omega)]

/-- One of a device session mirrors, or is the device's. -/
theorem Dev.applyPkt_device (hctx : x.ctx = none) (hop : 0x10 ≤ p.op) :
    d.applyPkt key x p = if p.op = 0x41 then d.applyMirror p else some (d.applyDevice p) := by
  simp only [Dev.applyPkt, hctx, if_neg (show p.op ≠ 0x01 by omega), if_neg (show p.op ≠ 0x02 by omega), if_neg (show p.op ≠ 0x03 by omega),
    if_neg (show p.op ≠ 0x04 by omega)]

/-! What a context's session brings. -/

theorem Dev.applyCtx_convey (hop : p.op = 0x10) : d.applyCtx c p = d.applyConvey c p := by simp [Dev.applyCtx, hop]
theorem Dev.applyCtx_credit (hop : p.op = 0x11) : d.applyCtx c p = some (d.applyCredit c p) := by simp [Dev.applyCtx, hop]
theorem Dev.applyCtx_arrive (hop : p.op = 0x20) : d.applyCtx c p = some (d.applyArrive c p) := by simp [Dev.applyCtx, hop]
theorem Dev.applyCtx_arriveAck (hop : p.op = 0x21) : d.applyCtx c p = some (d.applyArriveAck c p) := by simp [Dev.applyCtx, hop]
theorem Dev.applyCtx_step (hop : p.op = 0x40) : d.applyCtx c p = some (d.applyStep (some c) p) := by simp [Dev.applyCtx, hop]

theorem Dev.applyStep_vote (hkind : stepKind p = 0) : d.applyStep (some c) p = d.applyVote c p := by simp only [Dev.applyStep, hkind]
theorem Dev.applyStep_heartbeat (hkind : stepKind p = 2) : d.applyStep none p = d.onHeartbeat p.src := by simp only [Dev.applyStep, hkind]
theorem Dev.applyStep_takeover (hkind : stepKind p = 3) : d.applyStep none p = d.onTakeover (leNat (slice p.payload 0 2)) (leNat (slice p.payload 2 2)) := by
  simp only [Dev.applyStep, hkind]

section
variable (halone : d.sibling c = none)
include halone

theorem Dev.applyCtx_release (hop : p.op = 0x22) : d.applyCtx c p = some (d.releaseHere p.channel (field p.addr 31 0) c) := by
  simp [Dev.applyCtx, hop, Dev.ranksHere_alone halone]

theorem Dev.applyCtx_poison (hop : p.op = 0x23) : d.applyCtx c p = some (d.poisonHere p.channel c) := by
  simp [Dev.applyCtx, hop, Dev.ranksHere_alone halone]

theorem Dev.applyCtx_collect (hop : p.op = 0x30) : d.applyCtx c p = some (d.collectHere p c) := by
  simp [Dev.applyCtx, hop, Dev.ranksHere_alone halone]

theorem Dev.applyStep_outcome (hkind : stepKind p = 1) : d.applyStep (some c) p = d.outcomeHere p c := by
  simp only [Dev.applyStep, hkind, Dev.ranksHere_alone halone, List.foldl_cons, List.foldl_nil]

theorem Dev.applyStep_reconcile (hkind : stepKind p = 4) : d.applyStep (some c) p = d.mirrorLater (reconcileOf p c) := by
  simp only [Dev.applyStep, hkind, Dev.ranksHere_alone halone, List.foldl_cons, List.foldl_nil, reconcileOf]

end

/-! What a device session brings. -/

theorem Dev.applyDevice_step (hop : p.op = 0x40) : d.applyDevice p = d.applyStep none p := by rw [Dev.applyDevice, if_pos hop]
theorem Dev.applyDevice_nodeStatus (hop : p.op = 0x60) : d.applyDevice p = d.onNodeStatus p.src p.addr := by simp [Dev.applyDevice, hop]

end

/-! ### Packets that come next -/

section
variable {s : State} {p : Packet} {x y : Session} {d : Dev} (h : DataNext s p x d y)
include h

/-! Memory. -/

theorem DataNext.write_answers (hop : p.op = 0x01) (hlast : p.last = true) (hopen : WriteOpen d y p) : exec (.gezalWrite p) s = .next (s.withDev (Dev.dataDone
    (((d.write (p.addr % 2 ^ 48) p.payload p.poison).setSession p.session { y with wrote := 0 }).sendData p.session { cls := clResp, op := 0x04, addr := p.psn }) p)) :=
  h.row_completes (exec_gezalWrite p s) h.unitsExist hop (by rw [Dev.applyPkt_write hop, hopen.applies, if_pos hlast])

theorem DataNext.read_responds {n : Nat} (hop : p.op = 0x02) (hn : n = leNat (slice p.payload 0 3)) (hplaced : d.rankSaved y p.addr = false)
    (hhere : d.addressHere p.addr = true) (hsome : n ≠ 0) (hallowed : d.access .peer false (p.addr % 2 ^ 48) n = none)
    (hunowned : d.ownedIn (p.addr % 2 ^ 48) n = false) (hroom : d.canSend p.session clResp = true) : exec (.gezalRead p) s = .next (s.withDev (Dev.dataDone
      ((List.range (ceilDiv n d.payloadMax)).foldl (fun e i => e.respond p.session p (p.addr % 2 ^ 48) n d.payloadMax i) d) p)) :=
  h.row_completes (exec_gezalRead p s) h.unitsExist hop ((Dev.applyPkt_read hop).trans (Dev.applyRead_responds hn hplaced hhere hsome hallowed hunowned hroom))

theorem DataNext.readResp_writes {r : ReadReq} {w : Nat × Nat × Nat × TugItem} (hop : p.op = 0x03) (hread : (x.reads.find? fun r => r.tag == p.channel) = some r)
    (hok : p.refusal = 0) (hdata : r.desc = false) (htug : d.readTug p.session r = some w) (hunpinned : d.pinned (r.dst + (p.addr - r.src)) p.payload.length = false)
    (hunowned : d.ownedIn (r.dst + (p.addr - r.src)) p.payload.length = false) (hallowed : d.access (.ctx w.2.2.2.tag.ctx) true r.dst r.len = none) :
    exec (.gezalReadResp p) s = .next (s.withDev (Dev.dataDone (d.readData p.session y r p w) p)) := by
  obtain ⟨-, -, hreads⟩ := h.keeps
  rw [← hreads] at hread
  exact h.row_completes (exec_gezalReadResp p s) h.unitsExist hop
    ((Dev.applyPkt_readResp hop).trans (Dev.applyReadResp_writes hread hok hdata htug hunpinned hunowned hallowed))

theorem DataNext.done_ends {cl t pos : Nat} {i : TugItem} (hop : p.op = 0x04) (hflush : x.flush ≠ some (field p.addr 31 0))
    (htug : (d.findTug fun i => i.remote == 1 && i.sess == p.session && i.txn == field p.addr 31 0) = some (cl, t, pos, i)) (hok : p.refusal = 0)
    (hsent : d.tugAllSent i = true) : exec (.gezalDone p) s = .next (s.withDev (Dev.dataDone (d.tugRemoteDone cl t pos i) p)) := by
  have hnone : ∀ z, d.session p.session = some z → z.flush ≠ some (field p.addr 31 0) := fun z hz => by
    rw [h.session_eq] at hz
    cases hz
    exact hflush
  exact h.row_completes (exec_gezalDone p s) h.unitsExist hop (by rw [Dev.applyPkt_done hop, Dev.applyDone_ends htug hsent hnone, if_neg (not_not_intro hok)])

/-! The context of a session. -/

section
variable {c : Nat} (hc : x.ctx = some c)
include hc

theorem DataNext.applyPkt_ctx (hop : 0x10 ≤ p.op) : d.applyPkt p.session y p = d.applyCtx c p := by
  obtain ⟨hsame, -, -⟩ := h.keeps
  exact Dev.applyPkt_ctx (hsame.trans hc) hop

theorem DataNext.applyPkt_step (hop : p.op = 0x40) : d.applyPkt p.session y p = some (d.applyStep (some c) p) := by
  rw [h.applyPkt_ctx hc (by omega), Dev.applyCtx_step hop]

variable (halone : d.sibling c = none)
include halone

theorem DataNext.convey_delivers {v : Conveyor} (hop : p.op = 0x10) (hconv : d.conv c p.channel = some v) (hcons : epMid v.cons = d.midOf c)
    (hback : (d.ctx c).saved = []) (hlast : bit p.addr 16 = false) (hunowned : d.ownedIn (v.slotAt v.visible) v.slot = false)
    (hunpinned : d.pinned (v.slotAt v.visible) v.slot = false) : exec (.gezalConvey p) s = .next (s.withDev (Dev.dataDone (d.conveyed p c v) p)) :=
  h.row_completes (exec_gezalConvey p s) h.unitsExist hop (by
    rw [h.applyPkt_ctx hc (by omega), Dev.applyCtx_convey hop, Dev.applyConvey_delivers halone hconv hcons hback hunowned hunpinned,
      if_neg (ne_true_of_eq_false hlast)])

theorem DataNext.credit_returns {v : Conveyor} (hop : p.op = 0x11) (hconv : d.conv c p.channel = some v) (hprod : epMid v.prod = d.midOf c) :
    exec (.gezalCredit p) s = .next (s.withDev (Dev.dataDone (d.setConv c p.channel { v with credits := v.credits + field p.addr 15 0 }) p)) :=
  h.row_completes (exec_gezalCredit p s) h.unitsExist hop (by
    rw [h.applyPkt_ctx hc (by omega), Dev.applyCtx_credit hop, Dev.applyCredit_returns halone hconv hprod])

theorem DataNext.arrive_counts (hop : p.op = 0x20) (hremap : (d.ctx c).remap = []) (hweight : field p.addr 15 0 ≠ 0) :
    exec (.gezalArrive p) s = .next (s.withDev (Dev.dataDone (d.countArrival (d.arrivalOf p c)) p)) :=
  h.row_completes (exec_gezalArrive p s) h.unitsExist hop (by
    rw [h.applyPkt_ctx hc (by omega), Dev.applyCtx_arrive hop, Dev.applyArrive_counts halone hremap hweight])

theorem DataNext.arriveAck_tells (hop : p.op = 0x21) : exec (.gezalArriveAck p) s = .next (s.withDev (Dev.dataDone
    (d.acknowledge c p.channel (epCore (field p.addr 47 32)) (some (field p.addr 31 0))) p)) :=
  h.row_completes (exec_gezalArriveAck p s) h.unitsExist hop (by
    rw [h.applyPkt_ctx hc (by omega), Dev.applyCtx_arriveAck hop, Dev.applyArriveAck_tells halone])

theorem DataNext.release_releases {b : Barrier} {e : Dev} (hop : p.op = 0x22) (hbar : d.bar c p.channel = some b) (hfar : b.home ≠ (d.ctx c).gangRank)
    (hsound : b.poisoned = false) (hpoint : b.gangpoint = false) (hgoes : genDone (field p.addr 31 0) b.gen = false)
    (he : e = d.setBar c p.channel { b with gen := (field p.addr 31 0 + 1) % 2 ^ 32 }) : exec (.gezalRelease p) s = .next (s.withDev (Dev.dataDone
      ((e.coresWhere (releasedBy c p.channel (field p.addr 31 0))).foldl Dev.waitEnds e) p)) := by
  have hmoved : d.copyReleased p.channel (field p.addr 31 0) c b = e := by
    rw [he, Dev.copyReleased, hpoint, if_neg Bool.false_ne_true]
  exact h.row_completes (exec_gezalRelease p s) h.unitsExist hop (by
    rw [h.applyPkt_ctx hc (by omega), Dev.applyCtx_release halone hop, Dev.releaseHere_releases hbar hfar hsound hgoes, hmoved])

theorem DataNext.poisonBarrier_poisons {e : Dev} (hop : p.op = 0x23) (he : e = d.poisonBar c p.channel)
    (hacked : (e.coresWhere fun k => k.armed == some c && tblGet [] k.acksDue p.channel != []) = []) :
    exec (.gezalPoisonBarrier p) s = .next (s.withDev (Dev.dataDone e p)) :=
  h.row_completes (exec_gezalPoisonBarrier p s) h.unitsExist hop (by
    rw [h.applyPkt_ctx hc (by omega), Dev.applyCtx_poison halone hop, Dev.poisonHere_of_acknowledged he hacked])

theorem DataNext.collect_arrives {g : Group} {r : Nat} (hop : p.op = 0x30) (hgroup : d.group c p.channel = some g) (hflights : g.flights = []) (hearly : g.early = [])
    (hrank : ((List.range g.members.length).find? fun r => d.gangDevice c (nth 0 g.members r) == p.src && nth 0 g.members r != (d.ctx c).gangRank) = some r) :
    exec (.gezalCollect p) s = .next (s.withDev (Dev.dataDone
      ((d.collArrives c p.channel (field p.addr 49 34) (fragmentOf p r)).collGroup c p.channel false) p)) :=
  h.row_completes (exec_gezalCollect p s) h.unitsExist hop (by
    rw [h.applyPkt_ctx hc (by omega), Dev.applyCtx_collect halone hop, Dev.collectHere_arrives hgroup hflights hearly hrank])

theorem DataNext.vote_counts (hop : p.op = 0x40) (hkind : stepKind p = 0) (hremap : (d.ctx c).remap = []) :
    exec (.gezalVote p) s = .next (s.withDev (Dev.dataDone (d.countArrival (d.voteOf p c)) p)) :=
  h.step_completes (exec_gezalVote p s) h.unitsExist hop hkind (by rw [h.applyPkt_step hc hop, Dev.applyStep_vote hkind, Dev.applyVote_counts halone hremap])

theorem DataNext.outcome_joins (hop : p.op = 0x40) (hkind : stepKind p = 1) (hknown : (outcomeOf p c).outcome ≤ 3) (hnew : (d.ctx c).hasApplied (outcomeOf p c) = false)
    (hfirst : (d.cmp.outcomes.any fun q => q.ctx == c && q.bar == (outcomeOf p c).bar && q.gen == (outcomeOf p c).gen) = false) :
    exec (.gezalOutcome (some p)) s = .next (s.withDev (Dev.dataDone
      (({ d with cmp := { d.cmp with outcomes := d.cmp.outcomes ++ [outcomeOf p c] } } : Dev).outcomeDue false) p)) :=
  h.step_completes (exec_gezalOutcome (some p) s) rfl hop hkind (by
    rw [h.applyPkt_step hc hop, Dev.applyStep_outcome halone hkind, Dev.outcomeHere_joins hknown hnew hfirst])

theorem DataNext.reconcile_follows (hop : p.op = 0x40) (hkind : stepKind p = 4) :
    exec (.gezalReconcile p) s = .next (s.withDev (Dev.dataDone (d.mirrorLater (reconcileOf p c)) p)) :=
  h.step_completes (exec_gezalReconcile p s) h.unitsExist hop hkind (by rw [h.applyPkt_step hc hop, Dev.applyStep_reconcile halone hkind])

end

/-! The device session. -/

section
variable (hc : x.ctx = none)
include hc

theorem DataNext.applyPkt_device (hop : 0x10 ≤ p.op) : d.applyPkt p.session y p = if p.op = 0x41 then d.applyMirror p else some (d.applyDevice p) := by
  obtain ⟨hsame, -, -⟩ := h.keeps
  exact Dev.applyPkt_device (hsame.trans hc) hop

theorem DataNext.applyPkt_deviceStep (hop : p.op = 0x40) : d.applyPkt p.session y p = some (d.applyStep none p) := by
  rw [h.applyPkt_device hc (by omega), if_neg (by omega), Dev.applyDevice_step hop]

theorem DataNext.mirror_writes {r : Nat × Nat} (hop : p.op = 0x41) (hplace : d.mirrorPlace p.src p.channel p.addr p.payload.length = some r)
    (hunpinned : d.pinned r.1 r.2 = false) (hunowned : d.ownedIn r.1 r.2 = false) :
    exec (.gezalMirror p) s = .next (s.withDev (Dev.dataDone (d.mirrorWrite r.1 p.payload p.poison) p)) :=
  h.row_completes (exec_gezalMirror p s) h.unitsExist hop (by
    rw [h.applyPkt_device hc (by omega), if_pos hop, Dev.applyMirror_writes hplace hunpinned hunowned])

theorem DataNext.nodeStatus_loses (hop : p.op = 0x60) (hsrc : p.src = d.partner) (hkind : field p.addr 51 48 = 3 ∨ field p.addr 51 48 = 4) :
    exec (.gezalNodeStatus p) s = .next (s.withDev (Dev.dataDone (d.partnerLost false) p)) :=
  h.row_completes (exec_gezalNodeStatus p s) h.unitsExist hop (by
    rw [h.applyPkt_device hc (by omega), if_neg (by omega), Dev.applyDevice_nodeStatus hop, Dev.onNodeStatus_loses hsrc hkind])

theorem DataNext.heartbeat_sees (hop : p.op = 0x40) (hkind : stepKind p = 2) (hsrc : p.src = d.partner) (hmode : d.moorMode ≠ 0) (hpair : d.pairState = 1) :
    exec (.gezalHeartbeat p) s = .next (s.withDev (Dev.dataDone ({ d with net := { d.net with heartbeatSeen := d.time } } : Dev) p)) :=
  h.step_completes (exec_gezalHeartbeat p s) h.unitsExist hop hkind (by
    rw [h.applyPkt_deviceStep hc hop, Dev.applyStep_heartbeat hkind, Dev.onHeartbeat_sees hsrc hmode hpair])

theorem DataNext.takeover_takes (hop : p.op = 0x40) (hkind : stepKind p = 3) (hother : leNat (slice p.payload 0 2) ≠ d.rank) :
    exec (.gezalTakeover p) s = .next (s.withDev (Dev.dataDone (d.takeover (leNat (slice p.payload 0 2)) (leNat (slice p.payload 2 2))) p)) :=
  h.step_completes (exec_gezalTakeover p s) h.unitsExist hop hkind (by
    rw [h.applyPkt_deviceStep hc hop, Dev.applyStep_takeover hkind, Dev.onTakeover, if_neg hother])

end

end

/-- Settles O33: each operation has its own effect, and a packet that comes next completes its row with it. -/
theorem packetOperationsApply : Obligations.PacketOperationsApply := by
  refine ⟨fun d key x p hplaced hhere hallowed hunpinned hunowned hsound => ?_, fun d key x p st hplaced hhere hsound hrefused => ?_,
    fun d key x p n hn hplaced hhere hsome hallowed hunowned hroom => Dev.applyRead_responds hn hplaced hhere hsome hallowed hunowned hroom,
    fun d key p cl t pos i htug hsent hflush => ?_, fun d c p v halone hconv hcons hback hunowned hunpinned => ?_,
    fun d c p v halone hconv hprod => Dev.applyCredit_returns halone hconv hprod,
    fun d c p halone hremap hweight => Dev.applyArrive_counts halone hremap hweight, fun d c p halone => Dev.applyArriveAck_tells halone p,
    fun d n g c b hbar hfar hsound hgoes => ⟨_, rfl, Dev.releaseHere_releases hbar hfar hsound hgoes⟩,
    fun d c p halone hremap => Dev.applyVote_counts halone hremap, fun d src hsrc hmode hpair => Dev.onHeartbeat_sees hsrc hmode hpair,
    fun d lost taker => ⟨fun hself => if_pos hself, fun hother => if_neg hother⟩, fun d src addr hsrc hkind => Dev.onNodeStatus_loses hsrc hkind,
    fun d p x c a hc hset hstandby hfor hfits hchannel haddr ha hunpinned hunowned hallowed => ?_, fun s p x d y h => ?_⟩
  · have hopen : WriteOpen d x p := ⟨⟨hsound, hplaced, hhere⟩, hallowed, hunpinned, hunowned⟩
    exact ⟨fun hpart => by rw [hopen.applies, hpart]; rfl, fun hlast => by rw [hopen.applies, hlast]; rfl⟩
  · have hcomes : WriteComes d x p := ⟨hsound, hplaced, hhere⟩
    exact ⟨fun hpart => by rw [hcomes.refused hrefused, Dev.refuseWrite, hpart]; rfl, fun hlast => by rw [hcomes.refused hrefused, Dev.refuseWrite, hlast]; rfl⟩
  · rw [Dev.applyDone_ends htug hsent hflush]
    exact ⟨fun hok => if_neg (not_not_intro hok), fun hbad => if_pos hbad⟩
  · rw [Dev.applyConvey_delivers halone hconv hcons hback hunowned hunpinned]
    exact ⟨fun hpiece => by rw [if_pos hpiece], fun hlast => by rw [if_neg (ne_true_of_eq_false hlast), Dev.conveyed]⟩
  · subst hc ha
    rw [Dev.applyMirror_writes (Dev.mirrorPlace_of_standby hset hstandby hfor hfits hchannel haddr) hunpinned hunowned, Dev.mirrorWrite, hallowed]
  · obtain ⟨-, hbad, -⟩ := h.keeps
    refine ⟨fun hop hlast hsound hplaced hhere hallowed hunpinned hunowned =>
        h.write_answers hop hlast ⟨⟨hbad.trans hsound, hplaced, hhere⟩, hallowed, hunpinned, hunowned⟩,
      fun n => h.read_responds, fun r w => h.readResp_writes, fun cl t pos i => h.done_ends, fun c hc halone => ?_, fun hc => ?_⟩
    · refine ⟨fun v => h.convey_delivers hc halone, fun v => h.credit_returns hc halone, h.arrive_counts hc halone, h.arriveAck_tells hc halone,
        fun b e => h.release_releases hc halone, fun e => h.poisonBarrier_poisons hc halone, fun g r => h.collect_arrives hc halone, h.vote_counts hc halone,
        fun o hop hkind ho => ?_, h.reconcile_follows hc halone⟩
      subst ho
      exact h.outcome_joins hc halone hop hkind
    · exact ⟨fun r => h.mirror_writes hc, h.nodeStatus_loses hc, h.heartbeat_sees hc, h.takeover_takes hc⟩

end Sys2Proof.Machine
end

section
/-! Proofs of the statement of chapter 07 on memory: a read sees only the cells within its range, and a write or a zeroed range leaves every other cell. -/

namespace Sys2Proof.Machine

/-! ### The cells that a read sees -/

/-- The cells of memory within a range. -/
def cellsIn (cs : List Host.Cell) (a n : Nat) : List Host.Cell := cs.filter fun c => decide (a ≤ c.1) && decide (c.1 < a + n)

theorem memRead_eq_denseGo (cs : List Host.Cell) (a n : Nat) : memRead cs a n = denseGo n a (cellsIn cs a n) := rfl

/-- Two memories with the same cells within a range read the same there. -/
theorem memRead_congr {cs es : List Host.Cell} {a n : Nat} (h : cellsIn cs a n = cellsIn es a n) : memRead cs a n = memRead es a n := by
  rw [memRead_eq_denseGo, memRead_eq_denseGo, h]

theorem cellsIn_append (cs es : List Host.Cell) (a n : Nat) : cellsIn (cs ++ es) a n = cellsIn cs a n ++ cellsIn es a n := List.filter_append ..

/-- Cells outside a range are none of its cells. -/
theorem cellsIn_eq_nil {cs : List Host.Cell} {a n : Nat} (h : ∀ c ∈ cs, c.1 < a ∨ a + n ≤ c.1) : cellsIn cs a n = [] := by
  refine List.filter_eq_nil_iff.mpr fun c hc => ?_
  have := h c hc
  simp only [Bool.and_eq_true, decide_eq_true_eq]
  omega

/-- Cells within a range are all its cells. -/
theorem cellsIn_eq_self {cs : List Host.Cell} {a n : Nat} (h : ∀ c ∈ cs, a ≤ c.1 ∧ c.1 < a + n) : cellsIn cs a n = cs :=
  List.filter_eq_self.mpr fun c hc => by simp only [h c hc, decide_true, Bool.and_self]

/-- A filter that keeps every cell of a range keeps what the range holds. -/
theorem cellsIn_filter {p : Host.Cell → Bool} {a n : Nat} (h : ∀ c : Host.Cell, a ≤ c.1 → c.1 < a + n → p c = true) (cs : List Host.Cell) :
    cellsIn (cs.filter p) a n = cellsIn cs a n := by
  rw [cellsIn, cellsIn, List.filter_filter]
  refine List.filter_congr fun c _ => ?_
  cases hin : decide (a ≤ c.1) && decide (c.1 < a + n) with
  | false => rfl
  | true =>
    simp only [Bool.and_eq_true, decide_eq_true_eq] at hin
    exact h c hin.1 hin.2

/-- A filter that drops every cell of a range leaves none in it. -/
theorem cellsIn_filter_nil {p : Host.Cell → Bool} {a n : Nat} (h : ∀ c, p c = true → c.1 < a ∨ a + n ≤ c.1) (cs : List Host.Cell) :
    cellsIn (cs.filter p) a n = [] :=
  cellsIn_eq_nil fun c hc => h c (List.mem_filter.1 hc).2

/-! ### The cells after a write and after zeroing -/

theorem cellsIn_memWrite (cs : List Host.Cell) (a : Nat) (bs : List Byte) : cellsIn (memWrite cs a bs) a bs.length = sparse a bs := by
  have hbelow : cellsIn (cs.filter fun c => decide (c.1 < a)) a bs.length = [] := cellsIn_filter_nil (fun _ h => .inl (of_decide_eq_true h)) cs
  have habove : cellsIn (cs.filter fun c => decide (a + bs.length ≤ c.1)) a bs.length = [] := cellsIn_filter_nil (fun _ h => .inr (of_decide_eq_true h)) cs
  have hwritten : cellsIn (sparse a bs) a bs.length = sparse a bs := cellsIn_eq_self fun c hc => ⟨(sparse_mem hc).1, (sparse_mem hc).2.1⟩
  rw [memWrite, cellsIn_append, cellsIn_append, hbelow, habove, hwritten, List.nil_append, List.append_nil]

theorem cellsIn_memWrite_apart {a x n : Nat} {bs : List Byte} (h : x + n ≤ a ∨ a + bs.length ≤ x) (cs : List Host.Cell) :
    cellsIn (memWrite cs a bs) x n = cellsIn cs x n := by
  have hwritten : cellsIn (sparse a bs) x n = [] := cellsIn_eq_nil fun c hc => by
    obtain ⟨hlow, hhigh, -⟩ := sparse_mem hc
    omega
  rw [memWrite, cellsIn_append, cellsIn_append, hwritten, List.append_nil]
  rcases h with hbefore | hafter
  · have hbelow : cellsIn (cs.filter fun c => decide (c.1 < a)) x n = cellsIn cs x n := cellsIn_filter (fun c _ hc => decide_eq_true (by omega)) cs
    have habove : cellsIn (cs.filter fun c => decide (a + bs.length ≤ c.1)) x n = [] :=
      cellsIn_filter_nil (fun c hc => .inr (by have := of_decide_eq_true hc; omega)) cs
    rw [hbelow, habove, List.append_nil]
  · have hbelow : cellsIn (cs.filter fun c => decide (c.1 < a)) x n = [] := cellsIn_filter_nil (fun c hc => .inl (by have := of_decide_eq_true hc; omega)) cs
    have habove : cellsIn (cs.filter fun c => decide (a + bs.length ≤ c.1)) x n = cellsIn cs x n := cellsIn_filter (fun c hc _ => decide_eq_true (by omega)) cs
    rw [hbelow, habove, List.nil_append]

theorem cellsIn_memZero (cs : List Host.Cell) (a n : Nat) : cellsIn (memZero cs a n) a n = [] := cellsIn_filter_nil (fun _ h => by simpa using h) cs

theorem cellsIn_memZero_apart {a n x k : Nat} (h : x + k ≤ a ∨ a + n ≤ x) (cs : List Host.Cell) : cellsIn (memZero cs a n) x k = cellsIn cs x k :=
  cellsIn_filter (fun c hlow hhigh => by simp only [Bool.or_eq_true, decide_eq_true_eq]; omega) cs

/-! ### From cells to bytes -/

theorem denseGo_nil (n a : Nat) : denseGo n a [] = List.replicate n 0#8 := by
  induction n generalizing a with
  | zero => rfl
  | succ n ih => rw [denseGo, ih, List.replicate_succ]

/-- A byte before every cell is 0. -/
theorem denseGo_before {cs : List Host.Cell} {a : Nat} (h : ∀ c ∈ cs, a < c.1) (n : Nat) : denseGo (n + 1) a cs = 0#8 :: denseGo n (a + 1) cs := by
  cases cs with
  | nil => rw [denseGo]
  | cons c cs => rw [denseGo, if_neg (Nat.ne_of_gt (h c List.mem_cons_self))]

/-- The cells of a byte string spell it. -/
theorem denseGo_sparse (bs : List Byte) (a : Nat) : denseGo bs.length a (sparse a bs) = bs := by
  induction bs generalizing a with
  | nil => rfl
  | cons b bs ih =>
    rw [List.length_cons, sparse]
    split
    · next hzero => rw [denseGo_before (fun c hc => (sparse_mem hc).1), ih, hzero]
    · rw [denseGo, if_pos rfl, ih]

/-! ### Reads after writes (R194) -/

theorem memRead_memWrite (cs : List Host.Cell) (a : Nat) (bs : List Byte) : memRead (memWrite cs a bs) a bs.length = bs := by
  rw [memRead_eq_denseGo, cellsIn_memWrite, denseGo_sparse]

theorem memRead_memWrite_apart {a x n : Nat} {bs : List Byte} (h : x + n ≤ a ∨ a + bs.length ≤ x) (cs : List Host.Cell) :
    memRead (memWrite cs a bs) x n = memRead cs x n := memRead_congr (cellsIn_memWrite_apart h cs)

theorem memRead_memZero (cs : List Host.Cell) (a n : Nat) : memRead (memZero cs a n) a n = List.replicate n 0#8 := by
  rw [memRead_eq_denseGo, cellsIn_memZero, denseGo_nil]

theorem memRead_memZero_apart {a n x k : Nat} (h : x + k ≤ a ∨ a + n ≤ x) (cs : List Host.Cell) : memRead (memZero cs a n) x k = memRead cs x k :=
  memRead_congr (cellsIn_memZero_apart h cs)

/-- Settles O45: what a read gives follows from the cells within its range, and the canonical form is kept by `memWrite_wf` and `memZero_wf`. -/
theorem memoryReadsBackWhatWasWritten : Obligations.MemoryReadsBackWhatWasWritten := fun m hm =>
  ⟨fun a bs => ⟨memRead_memWrite m a bs, memWrite_wf a bs hm⟩, fun _ _ _ h => memRead_memWrite_apart h m,
    fun a n => ⟨memRead_memZero m a n, memZero_wf a n hm⟩, fun _ _ _ h => memRead_memZero_apart h m⟩

end Sys2Proof.Machine
end

section
/-! SUPPORT. From what a command does to the device to the next state that it gives. -/

namespace Sys2Proof.Machine

section
variable {i : Instr} {s : State} {e : Dev}

theorem exec_of_onDev {f : Dev → Dev} (hrow : exec i s = onDev (wellFormed i) f s) (hunits : wellFormed i = true) (heffect : f s.dev = e) :
    exec i s = .next (s.withDev e) := by rw [hrow, onDev_runs hunits, heffect]

theorem exec_of_onDevF {f : Fuses → Dev → Dev} (hrow : exec i s = onDevF (wellFormed i) f s) (hunits : wellFormed i = true) (heffect : f s.fuses s.dev = e) :
    exec i s = .next (s.withDev e) := by rw [hrow, onDevF_runs hunits, heffect]

theorem exec_of_onKcl {f : Dev → Dev} (hrow : exec i s = onKcl (wellFormed i) f s) (hunits : wellFormed i = true) (heffect : f s.dev = e) :
    exec i s = .next (s.withDev e).again := by rw [hrow, onKcl_runs hunits, heffect]

end

end Sys2Proof.Machine
end

section
/-! Proofs of the statements of chapter 07 on the companion: what each request does where it may be served, and what becomes of the link. -/

namespace Sys2Proof.Machine

/-! ### Requests that the link serves (R189, R193) -/

section
variable {d e : Dev} {i : Instr} (h : LinkServes d)
include h

theorem LinkServes.flitIn_sound : d.flitIn.safe = false := (flitIn_safe d).trans h.sound

/-- A request that is done, and is no WRITEBACK that others wait for, does what it does alone. -/
theorem LinkServes.kclRequest_done (hi : d.flitIn.answersRecall i = false) (hdo : d.flitIn.kclDo i = (e, true)) : d.kclRequest i = e := by
  simp only [Dev.kclRequest, byLink_serves h, hdo, hi, Bool.true_eq_false, Bool.false_eq_true, if_false]

theorem LinkServes.kclRequest_waits (hdo : d.flitIn.kclDo i = (e, false)) : d.kclRequest i = { e with host := { e.host with held := e.host.held ++ [i] } } := by
  simp only [Dev.kclRequest, byLink_serves h, hdo, if_true]

end

/-! ### Reads (R190, R191) -/

section
variable {d e : Dev} {a n : Nat}

/-- As what a line that the companion reads is recorded: what it owns stays its own. -/
def recordedAs (own : Bool) : Option Snoop → Snoop
  | some .owned => .owned
  | some .recalled => .recalled
  | _ => if own then .owned else .shared

/-- A read of a line that the companion may read is answered where the filter takes the line, and waits where not. -/
theorem Dev.readLine_records {own done : Bool} {how : Snoop} (haligned : a % 64 = 0) (hallowed : d.access .companion own a 64 = none)
    (hhow : recordedAs own (tblFind d.host.snoop (d.canon a / 64)) = how) (hrecord : d.record (d.canon a / 64) how = (e, done)) :
    d.readLine a own = if done then (e.reply (d.read a 64) (d.poisonIn a 64), true) else (e, false) := by
  have haddress : ¬(a % 64 ≠ 0) := not_not_intro haligned
  have hrow : d.readLine a own = if (d.record (d.canon a / 64) how).2 then ((d.record (d.canon a / 64) how).1.reply (d.read a 64) (d.poisonIn a 64), true)
      else d.record (d.canon a / 64) how := by
    subst hhow
    simp only [Dev.readLine, if_neg haddress, hallowed]
    cases tblFind d.host.snoop (d.canon a / 64) with
    | none => rfl
    | some how => cases how <;> rfl
  rw [hrow, hrecord]
  cases done <;> rfl

theorem recordedAs_shared {x : Option Snoop} (howned : x ≠ some .owned) (hrecalled : x ≠ some .recalled) : recordedAs false x = .shared := by
  unfold recordedAs
  split
  · exact absurd rfl howned
  · exact absurd rfl hrecalled
  · rfl

theorem recordedAs_owned {x : Option Snoop} (hrecalled : x ≠ some .recalled) : recordedAs true x = .owned := by
  unfold recordedAs
  split
  · rfl
  · exact absurd rfl hrecalled
  · rfl

section
variable (hsome : 0 < n) (hfits : a % 64 + n ≤ 64)
include hsome hfits

theorem Dev.readUncached_answers (hallowed : d.access .companion false a n = none) : d.readUncached a n = d.reply (d.read a n) (d.poisonIn a n) := by
  have hline : ¬(n = 0 ∨ 64 < a % 64 + n) := by omega
  simp only [Dev.readUncached, if_neg hline, hallowed]

theorem Dev.readUncached_refuses {st : Nat} (hrefused : d.access .companion false a n = some st) : d.readUncached a n = d.refuse st := by
  have hline : ¬(n = 0 ∨ 64 < a % 64 + n) := by omega
  simp only [Dev.readUncached, if_neg hline, hrefused]

end

end

/-! ### Writes and atomics (R98, R190, R195) -/

section
variable {d : Dev} {a : Nat} {bs : List Byte}

theorem Dev.kclWrite_posts (hsome : bs ≠ []) (hfits : a % 64 + bs.length ≤ 64) (hmemory : (d.place a).1 ≠ .control)
    (hallowed : d.access .companion true a bs.length = none) (hfree : d.pinned a bs.length = false) (mask : Nat) (bad : Bool) :
    d.kclWrite a bs mask bad = some (d.writeMask a bs mask bad) := by
  have hlength : 0 < bs.length := List.length_pos_iff.mpr hsome
  have hline : ¬(bs.length = 0 ∨ 64 < a % 64 + bs.length) := by omega
  simp only [Dev.kclWrite, if_neg hline, if_neg hmemory, hallowed, hfree, Bool.false_eq_true, if_false]

/-- The device once the companion no longer owns a line. -/
def Dev.lineReturned (d : Dev) (line : Nat) : Dev := { d with host := { d.host with snoop := tblErase d.host.snoop line } }

/-- What goes on once a line has come back: completions, the service queue, tugs, steps, mirrors, and whatever waits. -/
def Dev.goesOn (d : Dev) : Dev :=
  ((((List.range 64).filter fun c => (d.ctx c).waiting != []).foldl Dev.flush d.svcFlush).pump.outcomeDue true).mirrorGo.retry

theorem Dev.writeback_returns (haligned : a % 64 = 0) (hlength : bs.length = 64) (howned : tblFind d.host.snoop (d.canon a / 64) = some .owned)
    (hfree : d.pinned a 64 = false) (hallowed : d.access .companion true a 64 = none) (bad : Bool) :
    d.writeback a bs bad = some ((d.lineReturned (d.canon a / 64)).write a bs bad).lateRecords.goesOn := by
  have hmodified : ¬(a % 64 ≠ 0 ∨ bs.length ≠ 64 ∨ tblFind d.host.snoop (d.canon a / 64) = none ∨ tblFind d.host.snoop (d.canon a / 64) = some .shared) := by
    simp [haligned, hlength, howned]
  simp only [Dev.writeback, if_neg hmodified, hfree, hallowed, Bool.false_eq_true, if_false]
  rfl

/-- An atomic that replaces the old value by `v`: `v` is written and the old value answered. -/
def Dev.exchanged (d : Dev) (a size v : Nat) : Dev :=
  (d.write a (natLe size (v % 2 ^ (8 * size))) (d.poisonIn a size)).reply (natLe size (leNat (d.read a size))) (d.poisonIn a size)

theorem Dev.atomic_exchanges {size : Nat} (hsize : size = 4 ∨ size = 8) (haligned : a % size = 0) (hallowed : d.access .companion true a size = none)
    (hfree : d.pinned a size = false) (f : Nat → Nat) : d.atomic a size f = some (d.exchanged a size (f (leNat (d.read a size)))) := by
  have hfits : ¬((size ≠ 4 ∧ size ≠ 8) ∨ a % size ≠ 0) := by omega
  simp only [Dev.atomic, if_neg hfits, hallowed, hfree, Bool.false_eq_true, if_false]
  rfl

end

/-! ### What a served request does -/

section
variable {d e : Dev} {a n : Nat} {bs : List Byte} {bad : Bool} (h : d.safe = false)
include h

theorem Dev.kclDo_readShared : d.kclDo (.kclReadShared a) = d.readLine a false := by simp only [Dev.kclDo, h, Bool.false_eq_true, if_false]
theorem Dev.kclDo_readOwn : d.kclDo (.kclReadOwn a) = d.readLine a true := by simp only [Dev.kclDo, h, Bool.false_eq_true, if_false]
theorem Dev.kclDo_write {mask : Nat} (hwrite : d.kclWrite a bs mask bad = some e) : d.kclDo (.kclWrite a bs mask bad) = (e, true) := by
  simp only [Dev.kclDo, h, hwrite, Dev.orStall, Bool.false_eq_true, if_false]
theorem Dev.kclDo_writeback (hback : d.writeback a bs bad = some e) : d.kclDo (.kclWriteback a bs bad) = (e, true) := by
  simp only [Dev.kclDo, h, hback, Dev.orStall, Bool.false_eq_true, if_false]
theorem Dev.kclDo_fetchAdd {v : Nat} (hatomic : d.atomic a n (fun old => old + v) = some e) : d.kclDo (.kclFetchAdd a n v) = (e, true) := by
  simp only [Dev.kclDo, h, hatomic, Dev.orStall, Bool.false_eq_true, if_false]
theorem Dev.kclDo_swap {v : Nat} (hatomic : d.atomic a n (fun _ => v) = some e) : d.kclDo (.kclSwap a n v) = (e, true) := by
  simp only [Dev.kclDo, h, hatomic, Dev.orStall, Bool.false_eq_true, if_false]
theorem Dev.kclDo_cas {v w : Nat} (hatomic : d.atomic a n (fun old => if old = v % 2 ^ (8 * n) then w else old) = some e) : d.kclDo (.kclCas a n v w) = (e, true) := by
  simp only [Dev.kclDo, h, hatomic, Dev.orStall, Bool.false_eq_true, if_false]

end

/-- Settles O25: a request that the link serves does what its row says on the device whose flit is counted. -/
theorem companionRequestsAreServed : Obligations.CompanionRequestsAreServed := by
  refine ⟨fun s a hlink haligned hallowed howned hrecalled d => ⟨fun hrecord => ?_, fun hrecord => ?_⟩,
    fun s a hlink haligned hallowed hrecalled d hrecord => ?_, fun s a n hlink hsome hfits hallowed => ?_, fun s a n st hlink hsome hfits hrefused => ?_,
    fun s a bs mask bad hlink hsome hfits hmemory hallowed hfree => ?_, fun s a bs bad hlink haligned hlength howned hfree hallowed => ⟨_, rfl, ?_⟩,
    fun s a size v w hlink hsize haligned hallowed hfree => ⟨_, _, rfl, rfl, ?_⟩⟩
  · exact exec_of_onDev (exec_kclReadShared a s) rfl (hlink.kclRequest_done rfl
      ((Dev.kclDo_readShared hlink.flitIn_sound).trans (Dev.readLine_records haligned hallowed (recordedAs_shared howned hrecalled) hrecord)))
  · exact exec_of_onDev (exec_kclReadShared a s) rfl (hlink.kclRequest_waits
      ((Dev.kclDo_readShared hlink.flitIn_sound).trans (Dev.readLine_records haligned hallowed (recordedAs_shared howned hrecalled) hrecord)))
  · exact exec_of_onDev (exec_kclReadOwn a s) rfl (hlink.kclRequest_done rfl
      ((Dev.kclDo_readOwn hlink.flitIn_sound).trans (Dev.readLine_records haligned hallowed (recordedAs_owned hrecalled) hrecord)))
  · exact exec_of_onDev (exec_kclReadUncached a n s) rfl (hlink.kclRequest_done rfl (by rw [Dev.kclDo, Dev.readUncached_answers hsome hfits hallowed]))
  · exact exec_of_onDev (exec_kclReadUncached a n s) rfl (hlink.kclRequest_done rfl (by rw [Dev.kclDo, Dev.readUncached_refuses hsome hfits hrefused]))
  · exact exec_of_onDev (exec_kclWrite a bs mask bad s) rfl (hlink.kclRequest_done rfl
      (Dev.kclDo_write hlink.flitIn_sound (Dev.kclWrite_posts hsome hfits hmemory hallowed hfree mask bad)))
  · have hanswers : s.dev.flitIn.answersRecall (.kclWriteback a bs bad) = false := by
      simp only [Dev.answersRecall, howned]
      rfl
    exact exec_of_onKcl (exec_kclWriteback a bs bad s) rfl (hlink.kclRequest_done hanswers
      (Dev.kclDo_writeback hlink.flitIn_sound (Dev.writeback_returns haligned hlength howned hfree hallowed bad)))
  · have hatomic : ∀ f, s.dev.flitIn.atomic a size f = _ := Dev.atomic_exchanges hsize haligned hallowed hfree
    refine ⟨exec_of_onDev (exec_kclFetchAdd a size v s) rfl (hlink.kclRequest_done rfl (Dev.kclDo_fetchAdd hlink.flitIn_sound (hatomic _))),
      exec_of_onDev (exec_kclSwap a size v s) rfl (hlink.kclRequest_done rfl (Dev.kclDo_swap hlink.flitIn_sound (hatomic _))), fun hsame => ?_, fun hother => ?_⟩
    · exact exec_of_onDev (exec_kclCas a size v w s) rfl (hlink.kclRequest_done rfl
        (Dev.kclDo_cas hlink.flitIn_sound ((hatomic _).trans (by rw [if_pos hsame]; rfl))))
    · exact exec_of_onDev (exec_kclCas a size v w s) rfl (hlink.kclRequest_done rfl
        (Dev.kclDo_cas hlink.flitIn_sound ((hatomic _).trans (by rw [if_neg hother]; rfl))))

/-! ### The link (R189, R444) -/

section
variable {d : Dev}

@[simp] theorem Dev.flitIn_time (d : Dev) : d.flitIn.time = d.time := by
  unfold Dev.flitIn Dev.latchEdge
  split
  · split <;> rfl
  · rfl

/-- The device once the lanes of its link are those left after `lost`, and the companion's connections are closed. -/
def Dev.laneLost (d : Dev) (lost : List Nat) : Dev :=
  { d with host := { d.host with lanesLost := lost, retraining := true }, sec := { d.sec with conns := d.sec.conns.filter fun c => !c.kcl } }

/-- A lane in use fails and others are left: the link retrains to them. -/
theorem Dev.laneFails_retrains {lane : Nat} {lost : List Nat} (hup : d.host.linkUp = true) (hused : lane ∈ lanesInUse d.host.lanesLost) (hpower : d.pwr.offKind < 3)
    (hlost : lost = d.host.lanesLost ++ [lane]) (hleft : lanesInUse lost ≠ []) :
    d.laneFails lane = ((d.laneLost lost).setObj 0x8000 9 (lanesInUse lost).length).fault 0x0305 none 0 := by
  subst hlost
  have hfails : ¬(d.host.linkUp = false ∨ (lanesInUse d.host.lanesLost).contains lane = false ∨ 3 ≤ d.pwr.offKind) := by
    simp only [hup, List.contains_iff_mem.mpr hused, Bool.true_eq_false, false_or]
    omega
  simp only [Dev.laneFails, if_neg hfails, if_neg hleft]
  rfl

/-- Training raises the link on the lanes that are left. -/
theorem Dev.linkTrained_raises (hleft : lanesInUse d.host.lanesLost ≠ []) (hpower : d.pwr.offKind < 3) (hdown : d.host.linkUp = false ∨ d.host.retraining = true) :
    d.linkTrained = (({ d with host := { d.host with linkUp := true, retraining := false } } : Dev).newLinkKey.setObj 0x8000 9
      (lanesInUse d.host.lanesLost).length).replayHeld := by
  have htrains : ¬((lanesInUse d.host.lanesLost).length = 0 ∨ 3 ≤ d.pwr.offKind ∨ (d.host.linkUp = true ∧ d.host.retraining = false)) := by
    rintro (hnone | hoff | ⟨hup, hstill⟩)
    · exact hleft (List.eq_nil_of_length_eq_zero hnone)
    · omega
    · rw [hup, hstill] at hdown
      exact hdown.elim Bool.noConfusion Bool.noConfusion
  simp only [Dev.linkTrained, if_neg htrains]

end

/-- Settles O26: each event of the link changes it as its row says. -/
theorem kclLinkEventsHappen : Obligations.KclLinkEventsHappen := by
  refine ⟨fun s lane lost hlane hup hused hpower hlost hleft => ⟨_, rfl, ?_⟩, fun s hup hpower => ?_, fun s hup hpower => ?_, fun s hleft hpower hdown => ?_,
    fun s v hlink => ?_⟩
  · exact exec_of_onKcl (exec_kclLaneFailure lane s) (decide_eq_true hlane) (Dev.laneFails_retrains hup hused hpower hlost hleft)
  · exact exec_of_onDev (exec_flitCrcFailure s) rfl (if_pos ⟨hup, hpower⟩)
  · exact exec_of_onKcl (exec_kclTagFailures s) rfl (if_pos ⟨hup, hpower⟩)
  · exact exec_of_onKcl (exec_kclTraining s) rfl (Dev.linkTrained_raises hleft hpower hdown)
  · exact exec_of_onDev (exec_hostHeartbeat v s) rfl (by rw [byKcl_serves hlink, ← Dev.flitIn_time s.dev])

end Sys2Proof.Machine
end

section
/-! Proofs of the statement of chapter 07 on the scrubs: how a line of a stack is decoded, and what each scrub does with the line that it reads. -/

namespace Sys2Proof.Machine

/-! ### A line of a stack without a die in erasure mode (R181, R182) -/

section
variable {d : Dev} {stack a ch : Nat} {e : LineErrors}

theorem Dev.decodeLine_of_no_errors (hnone : e.count = 0) : d.decodeLine stack a ch e = d := by
  rw [Dev.decodeLine, if_pos hnone]

section
variable (hwhole : d.obj (0x8300 + stack) 3 = 0xFF)
include hwhole

theorem Dev.decodeLine_corrects (hsome : 0 < e.count) (hfew : e.count ≤ 2) : d.decodeLine stack a ch e = d.corrected stack ch := by
  have herrors : ¬e.count = 0 := Nat.ne_of_gt hsome
  simp only [Dev.decodeLine, if_neg herrors, if_pos hwhole, if_pos hfew]

section
variable (hmany : 2 < e.count)
include hmany

theorem Dev.decodeLine_erases {q : Nat} (hdie : e.dies.eraseDups = [q]) : d.decodeLine stack a ch e = d.byErasure stack ch q := by
  have herrors : ¬e.count = 0 := by omega
  simp only [Dev.decodeLine, if_neg herrors, if_pos hwhole, if_neg (Nat.not_le.mpr hmany), hdie]

section
variable {q r : Nat} {qs : List Nat} (hdies : e.dies.eraseDups = q :: r :: qs)
include hdies

theorem Dev.decodeLine_miscorrects {m : Nat × List Byte} (hmissed : e.missed = some m) :
    d.decodeLine stack a ch e = (d.miscorrect a m.2).byErasure stack ch m.1 := by
  have herrors : ¬e.count = 0 := by omega
  simp only [Dev.decodeLine, if_neg herrors, if_pos hwhole, if_neg (Nat.not_le.mpr hmany), hdies, hmissed]

theorem Dev.decodeLine_poisons (hmissed : e.missed = none) :
    d.decodeLine stack a ch e = (d.bump (0x8300 + stack) 2 1).poisonLine a (3 * 2 ^ 56 + stack + 0xFF00) := by
  have herrors : ¬e.count = 0 := by omega
  simp only [Dev.decodeLine, if_neg herrors, if_pos hwhole, if_neg (Nat.not_le.mpr hmany), hdies, hmissed]

end

end

end

/-! ### The patrol scrub (R184) -/

/-- The patrol scrub decodes a filled line of its stack, and the stack's last line ends a pass. -/
theorem Dev.patrol_decodes (hhbm : (d.place a).1 = .hbm) (hstack : (d.stackOf a).1 = stack) (hruns : d.pwr.offKind = 0) (hfilled : d.unfilled a = false) :
    d.patrol stack a e = if (d.stackOf a).2.1 / 64 = 2 ^ 30 - 1 then (d.decodeLine stack a (d.stackOf a).2.2 e).bump (0x8300 + stack) 5 1
      else d.decodeLine stack a (d.stackOf a).2.2 e := by
  have hreads : ¬((d.stackOf a).1 ≠ stack ∨ d.pwr.offKind ≠ 0 ∨ d.unfilled a = true) := by simp [hstack, hruns, hfilled]
  simp only [Dev.patrol, hhbm, if_neg hreads]

/-! ### The SRAM scrub (R175) -/

theorem Dev.sram_of_quay {cl : Nat} (hquay : (d.place a).1 = .quay cl) (hruns : d.pwr.offKind = 0) :
    d.sram a e = if e.double then ((d.bump (0x8320 + cl) 2 e.count).bump (0x8320 + cl) 4 1).poisonLine a (9 * 2 ^ 56 + cl + (a - quayBase cl) / 64 * 2 ^ 8)
      else d.bump (0x8320 + cl) 2 e.count := by
  simp only [Dev.sram, if_neg (not_not_intro hruns), hquay]

theorem Dev.sram_of_hold {c : CoreRef} (hhold : (d.place a).1 = .hold c) (hruns : d.pwr.offKind = 0) (hsingle : e.double = false) :
    d.sram a e = d.bump (0x8320 + c.cl) 3 e.count := by
  simp only [Dev.sram, if_neg (not_not_intro hruns), hhold, hsingle, Bool.false_eq_true, false_and, if_false]

end

/-- The SRAM scrub of a line that stands at a local address. -/
theorem exec_sramScrub_mapped {s : State} {a : Nat} {e : LineErrors} (hmapped : e.spare = none) : exec (.sramScrub a e) s = .next (s.withDev (s.dev.sram a e)) :=
  exec_of_onDev (exec_sramScrub a e s) (by rw [wellFormed, hmapped]) (by rw [hmapped])

/-- Settles O23: a line of a stack by its pattern of errors, and each scrub by the line that it reads. -/
theorem scrubsFindErrors : Obligations.ScrubsFindErrors := by
  refine ⟨fun s stack a e d hunit hhbm hstack hruns hfilled hd => ?_, fun d stack a ch e hwhole => ⟨Dev.decodeLine_of_no_errors, Dev.decodeLine_corrects hwhole,
      fun q hmany hdie => Dev.decodeLine_erases hwhole hmany hdie, fun q r qs m hmany hdies hmissed => Dev.decodeLine_miscorrects hwhole hmany hdies hmissed,
      fun q r qs hmany hdies hmissed => Dev.decodeLine_poisons hwhole hmany hdies hmissed⟩,
    fun s cl a e hquay hruns hmapped => ?_, fun s c a e hhold hruns hsingle hmapped => ?_⟩
  · have hpatrol : ∀ x, s.dev.patrol stack a e = x → exec (.patrolScrub stack a e) s = .next (s.withDev (x.audit s.dev)) := fun x hx =>
      exec_of_onDev (exec_patrolScrub stack a e s) (decide_eq_true hunit) (congrArg (Dev.audit · s.dev) hx)
    have hreads := Dev.patrol_decodes (e := e) hhbm hstack hruns hfilled
    rw [← hd] at hreads
    exact ⟨fun hinner => hpatrol d (hreads.trans (if_neg hinner)), fun hlast => hpatrol _ (hreads.trans (if_pos hlast))⟩
  · rw [exec_sramScrub_mapped hmapped, Dev.sram_of_quay hquay hruns]
    exact ⟨fun hsingle => by rw [hsingle, if_neg Bool.false_ne_true], fun hdouble => by rw [if_pos hdouble]⟩
  · rw [exec_sramScrub_mapped hmapped, Dev.sram_of_hold hhold hruns hsingle]

end Sys2Proof.Machine
end

section
/-! Proofs of the statement of chapter 07 on writes of the Manifest: when the class, the cap, rings, regions, fault classes and the calendar take what is written. -/

namespace Sys2Proof.Machine

/-! ### Rings (R346) -/

section
variable {d : Dev} {r : ObjRow} {c v : Nat} (hrange : outside r v = false)
include hrange

theorem writeRing_registers (hv : v = 1) (hring : d.ringState c = 0) (hstate : (d.ctx c).state = 0) (hsq : d.sqBase c ≠ 0) (hsqd : d.sqDepth c ≠ 0) (hcq : d.cqBase c ≠ 0)
    (hcqd : d.cqDepth c ≠ 0) : d.writeRing r c v = (d.register c).yes := by
  have hset : (d.ctx c).state = 0 ∧ d.sqBase c ≠ 0 ∧ d.sqDepth c ≠ 0 ∧ d.cqBase c ≠ 0 ∧ d.cqDepth c ≠ 0 := ⟨hstate, hsq, hsqd, hcq, hcqd⟩
  simp only [Dev.writeRing, hrange, Bool.false_eq_true, if_false, if_pos hv, if_pos hring, if_pos hset]

theorem writeRing_ends_overrun (hv : v = 1) (hring : d.ringState c = 2) : d.writeRing r c v = ((d.modCtx c fun x => { x with sqTail := d.sqHead c }).setRing c 1).yes := by
  have hknown : ¬d.ringState c = 0 := by omega
  have hover : ¬d.ringState c = 1 := by omega
  simp only [Dev.writeRing, hrange, Bool.false_eq_true, if_false, if_pos hv, if_neg hknown, if_neg hover, if_pos hring]

theorem writeRing_unregisters (hv : v ≠ 1) (hring : d.ringState c ≠ 0) (hstate : (d.ctx c).state = 0) (hknown : d.ringState c ≤ 2) :
    d.writeRing r c v = ((d.modCtx c fun x => { x with waiting := [], intDue := false }).setRing c 0).yes := by
  simp only [Dev.writeRing, hrange, Bool.false_eq_true, if_false, if_neg hv, if_neg hring, if_pos (show (d.ctx c).state = 0 ∧ d.ringState c ≤ 2 from ⟨hstate, hknown⟩)]

end

/-! ### Regions (R199, R200) -/

section
variable {d : Dev} {q : ManifestReq} {k : Nat} {x : Region} (hk : k = q.index - 0x8400) (hx : x = d.region k)
include hk hx

theorem enableRegion_enables (hoff : x.enabled = false) (hempty : x.filling = none) (hfills : d.regions.any (fillsOver x) = false)
    (howner : x.owner = 0xFF ∨ (d.ctx x.owner).state ≠ 0) (hpart : d.onePart x.base x.size = true)
    (hfree : (d.regions.find? fun p => p.2.enabled && spansMeet x.base x.size p.2.base p.2.size) = none)
    (hlines : attrSealCompanion x.attr = false ∨ d.linesOut x = false) :
    d.enableRegion q = ({ d.sealRecall x with regions := tblSet d.regions k { x with enabled := true } } : Dev).yes := by
  have hfilled : ¬(x.filling.isSome = true ∨ d.regions.any (fillsOver x) = true) := by
    rw [hempty, hfills]
    decide
  have howned : ¬(x.owner ≠ 0xFF ∧ (d.ctx x.owner).state = 0) := by
    rintro ⟨hctx, hstate⟩
    exact howner.elim hctx (· hstate)
  have hback : (attrSealCompanion x.attr && d.linesOut x) = false := by
    rcases hlines with hopen | hnone
    · rw [hopen, Bool.false_and]
    · rw [hnone, Bool.and_false]
  simp only [Dev.enableRegion, ← hk, ← hx, hoff, if_neg hfilled, if_neg howned, hpart, hfree, hback, Bool.false_eq_true, Bool.true_eq_false, if_false]

/-- A region that is not sealed may be disabled by whoever may write; a sealed one by the Owner. -/
theorem ownDenied_disable (f : Fuses) (hmay : field x.attr 2 1 = 0 ∨ bit (d.roles f q.kcl q.eid) 0 = true) : Dev.ownDenied f d q 0 = false := by
  have hzero : field 0 2 1 = 0 := by decide
  rcases hmay with hopen | howner
  · simp only [Dev.ownDenied, ← hk, ← hx, hopen, hzero, bne_self_eq_false, Bool.and_false, Bool.or_false]
  · simp only [Dev.ownDenied, howner, Bool.not_true, Bool.and_false, Bool.false_and]

theorem switchOff_disables (f : Fuses) (hon : x.enabled = true) (hmay : field x.attr 2 1 = 0 ∨ bit (d.roles f q.kcl q.eid) 0 = true) :
    Dev.switchOff f d q = (d.disableRegion k).yes := by
  simp only [Dev.switchOff, ← hk, ← hx, hon, ownDenied_disable hk hx f hmay, Bool.false_eq_true, Bool.true_eq_false, if_false]

/-- A region that nobody else seals and that is not frozen yet is frozen where the companion owns no line of it, and waits for those that it owns. -/
theorem freeze_freezes (f : Fuses) (hallowed : Dev.ownDenied f d q (reqValue q) = false) (hv : reqValue q = x.attr + 8) (hopen : attrFrozen x.attr = false) :
    Dev.freeze f d q = if d.linesOut x then (d.recallOwned x.base x.size).later (.regionFrozen q) else (d.frozen k x (reqValue q)).yes := by
  have honly : ¬(reqValue q ≠ x.attr ∧ reqValue q ≠ x.attr + 8) := fun hother => hother.2 hv
  simp only [Dev.freeze, ← hk, ← hx, hallowed, if_neg honly, hopen, Bool.false_eq_true, if_false]

end

/-- What a row of a request answers, where the fuses have a say in it, with what that changes of the module's make-up. -/
theorem onReq_rowDone_given {s : State} {q : ManifestReq} {row : ManifestRow} {r : ObjRow} {i : Instr} {a : Answer} (h : Passes s q row r) (hi : wellFormed i = true)
    {run : Fuses → ObjRow → Dev → Answer} (ha : run s.fuses r (s.opened q) = a) :
    onReq i q (fun f d => Dev.rowDone f d q row (run f)) s = .next (s.withDev ((a.given q).1.audit s.dev)) := by
  obtain ⟨_, hchecked⟩ := h
  rw [onReq_first hchecked.first, onDevF_runs hi, Dev.rowDone, onRow_pass ⟨_, hchecked⟩ _ ha]

theorem Answer.given_yes (d : Dev) (q : ManifestReq) : (d.yes.given q).1 = d.replied q := rfl
theorem Answer.given_later (d : Dev) (q : ManifestReq) (i : Instr) : ((d.later i).given q).1 = d.slowly i := rfl

/-! ### Fault classes (R410, R411) -/

/-- The device once a class that was open is recorded as cleared. -/
def Dev.clearLogged (d : Dev) (k : Nat) : Dev := if (d.fclass k).isOpen then d.logEvent 2 0 0xFF k 0 0 0 else d

/-- The device with a class closed, at no level, and with no cause. -/
def Dev.classClosed (d : Dev) (k : Nat) : Dev := { d with faults := tblSet d.faults k { d.fclass k with isOpen := false, level := 0, acked := false, causes := [] } }

theorem clearClass_closes {d : Dev} {k : Nat} (hgone : d.classPresent k = false) (hquarantine : d.quarantined = false) :
    d.clearClass k = ((d.clearLogged k).classClosed k).yes := by
  simp only [Dev.clearClass, hgone, hquarantine, Bool.false_eq_true, false_and, if_false]
  rfl

/-- Settles O15: each row grants its write under the conditions named for it, and a freeze that must wait leaves its command waiting. -/
theorem classRingsRegionsAndFaultClassesAreWritten : Obligations.ClassRingsRegionsAndFaultClassesAreWritten := by
  refine ⟨fun s q r h hstrap hknown => ?_, fun s q r h hlow hhigh => ?_, fun s q r c h hc hrange => ?_,
    fun s q r k x h hk hx hoff hempty hfills howner hpart hfree hlines => ?_, fun s q r k h hk hon hmay => ?_, fun s r hr hfilling hpowered => ?_,
    fun s q r k x h hk hx hallowed hv hopen => ?_, fun s q r h hrange => ?_, fun s q r k h hk hrange hsafe hgone hquarantine => ⟨_, rfl, ?_⟩,
    fun s q r h hmaster => ?_⟩
  · rw [exec_classConfirm, execClassConfirm]
    exact onReq_rowDone_yes h rfl (if_pos ⟨hstrap, hknown⟩)
  · rw [exec_powerCap, execPowerCap]
    exact onReq_rowDone_yes h rfl (if_neg (by omega))
  · rw [exec_ringState, execRingState, ← hc]
    exact ⟨fun hv hring hstate hsq hsqd hcq hcqd => onReq_rowDone_yes h rfl (writeRing_registers hrange hv hring hstate hsq hsqd hcq hcqd),
      fun hv hring => onReq_rowDone_yes h rfl (writeRing_ends_overrun hrange hv hring),
      fun hv hring hstate hknown => onReq_rowDone_yes h rfl (writeRing_unregisters hrange hv hring hstate hknown)⟩
  · rw [exec_regionEnable, execRegionEnable]
    exact onReq_rowDone_yes h rfl (enableRegion_enables hk hx hoff hempty hfills howner hpart hfree hlines)
  · rw [exec_regionDisable, execRegionDisable]
    rw [onReq_rowDone_given h rfl (switchOff_disables hk rfl s.fuses hon hmay), Answer.given_yes]
  · exact exec_of_onDev (exec_regionFillDone r s) (decide_eq_true hr) (if_pos ⟨hfilling, hpowered⟩)
  · have hfreeze := freeze_freezes hk hx s.fuses hallowed hv hopen
    rw [exec_regionFrozen, execRegionFrozen]
    exact ⟨fun hnone => by rw [onReq_rowDone_given h rfl (hfreeze.trans (if_neg (ne_true_of_eq_false hnone))), Answer.given_yes],
      fun hlines => by rw [onReq_rowDone_given h rfl (hfreeze.trans (if_pos hlines)), Answer.given_later]⟩
  · rw [exec_ackClass, execAckClass]
    exact onReq_rowDone_yes h rfl (if_neg (ne_true_of_eq_false hrange))
  · rw [exec_classClear, execClassClear, ← hk]
    exact onReq_rowDone_yes h rfl (by
      rw [if_neg (ne_true_of_eq_false hsafe), if_neg (ne_true_of_eq_false hrange), clearClass_closes hgone hquarantine, Dev.clearLogged, Dev.classClosed])
  · rw [exec_calendar, execCalendar]
    exact onReq_rowDone_yes h rfl (if_neg (ne_true_of_eq_false hmaster))

end Sys2Proof.Machine
end

section
/-! Proofs of the statement of chapter 07 on received packets, handshakes, timers, ports and the companion's requests: each gives the next state of its own effect. -/

namespace Sys2Proof.Machine

/-! ### Rows of ports and paths, and rows that need SEC -/

section
variable {i : Instr} {s : State} {e : Dev}

/-- A row of ports and paths in RUN: its effect, with what it changes of the module's make-up. -/
theorem exec_of_netRow {g : Dev → Dev} (hrow : exec i s = onDevF (wellFormed i) (fun f d => Dev.netRow f d g) s) (hunits : wellFormed i = true)
    (hruns : s.dev.pwr.offKind = 0) (heffect : g s.dev = e) : exec i s = .next (s.withDev (Dev.netAudit s.fuses e s.dev)) :=
  exec_of_onDevF hrow hunits (by rw [netRow_runs hruns, heffect])

/-- A row that SEC takes, where SEC runs. -/
theorem exec_of_bySec {g : Fuses → Dev → Dev} (hrow : exec i s = onDevF (wellFormed i) (fun f d => d.bySec i (g f)) s) (hunits : wellFormed i = true)
    (hsec : s.dev.restarting 0 = false) : exec i s = .next (s.withDev (g s.fuses s.dev)) :=
  exec_of_onDevF hrow hunits (bySec_runs hsec)

end

/-- Both units that a command names exist. -/
theorem units_exist {a b m n : Nat} (ha : a < m) (hb : b < n) : (decide (a < m) && decide (b < n)) = true := by
  rw [decide_eq_true ha, decide_eq_true hb, Bool.and_self]

/-! ### Packets for this module (R262, R271) -/

section
variable {s : State} {p : Packet} (hunits : (decide (p.port < 20) && decide (p.half < 2)) = true)
include hunits

section
variable (hruns : s.dev.pwr.offKind = 0) (hheader : (s.dev.rxFrame p.port).headerFine p = true)
include hruns hheader

theorem gezalProbe_answers (hhere : p.dst = s.dev.rank) (hcarries : (s.dev.rxFrame p.port).carries p = true) (htype : p.typ = 5) :
    exec (.gezalProbe p) s = .next (s.withDev (Dev.netAudit s.fuses ((s.dev.rxFrame p.port).probed p) s.dev)) := by
  have hmine : ¬(p.typ ≠ 5 ∨ p.dst ≠ s.dev.rank) := by simp [htype, hhere]
  have hfine : ¬((s.dev.rxFrame p.port).headerFine p = false ∨ (s.dev.rxFrame p.port).carries p = false) := by simp [hheader, hcarries]
  exact exec_of_netRow (exec_gezalProbe p s) hunits hruns ((if_neg hmine).trans (if_neg hfine))

theorem gezalHello_heard (htype : p.typ = 3) (hfits : helloOk p = true) (hstate : [3, 4, 6, 7].contains ((s.dev.rxFrame p.port).half p.port p.half).state = true) :
    exec (.gezalHello p) s = .next (s.withDev (Dev.netAudit s.fuses ((s.dev.rxFrame p.port).hello p) s.dev)) := by
  have hfine : ¬((s.dev.rxFrame p.port).headerFine p = false ∨ helloOk p = false ∨
      [3, 4, 6, 7].contains ((s.dev.rxFrame p.port).half p.port p.half).state = false) := by rw [hheader, hfits, hstate]; decide
  exact exec_of_netRow (exec_gezalHello p s) hunits hruns ((if_neg (not_not_intro htype)).trans (if_neg hfine))

end

end

/-! ### Halves of ports (R261, R264, R271) -/

section
variable {s : State} {port half : Nat} (hunits : (decide (port < 20) && decide (half < 2)) = true) (hruns : s.dev.pwr.offKind = 0)
include hunits hruns

/-- The loss of a lane where traffic may flow: the half notes when, and the lane counts as failed. -/
theorem lossDetection_notes {u : Nat} (hu : u = s.dev.unit port half) (hstate : [3, 4, 6, 7].contains (s.dev.half port u).state = true)
    (hlost : (s.dev.half port u).lossAt = none) :
    exec (.lossDetection port half true) s = .next (s.withDev (Dev.netAudit s.fuses
      ((s.dev.setHalf port u { s.dev.half port u with lossAt := some s.dev.time }).losesLane port half) s.dev)) := by
  subst hu
  have hup : (s.dev.half port (s.dev.unit port half)).state ≠ 8 := fun hdown => by rw [hdown] at hstate; exact absurd hstate (by decide)
  refine exec_of_netRow (exec_lossDetection port half true s) hunits hruns ?_
  simp only [hup, hstate, hlost, false_and, Bool.true_eq_false, Option.isSome_none, Bool.false_eq_true, if_false, if_true]

theorem lossDetection_of_down {u : Nat} (hu : u = s.dev.unit port half) (hdown : (s.dev.half port u).state = 8) (hwhole : s.dev.splitPort port = false) :
    exec (.lossDetection port half true) s = .next (s.withDev (Dev.netAudit s.fuses (s.dev.losesLane port half) s.dev)) := by
  subst hu
  exact exec_of_netRow (exec_lossDetection port half true s) hunits hruns (if_pos ⟨hdown, rfl, hwhole⟩)

theorem portDown_goes_down {u t : Nat} (hu : u = s.dev.unit port half) (hlost : (s.dev.half port u).lossAt = some t) (hlate : t + 10000 ≤ s.dev.time) :
    exec (.portDown port half) s = .next (s.withDev (Dev.netAudit s.fuses (s.dev.portGoesDown port u) s.dev)) := by
  subst hu
  exact exec_of_netRow (exec_portDown port half s) hunits hruns (by simp only [hlost, if_pos hlate])

theorem linkGlitch_ends {u t : Nat} (hu : u = s.dev.unit port half) (hlost : (s.dev.half port u).lossAt = some t) (hsoon : s.dev.time < t + 10000) :
    exec (.linkGlitch port half) s = .next (s.withDev (Dev.netAudit s.fuses (((s.dev.setHalf port u { s.dev.half port u with lossAt := none }).setPort port
      { s.dev.portSt port with failed := withoutBit (s.dev.portSt port).failed half, broken := withoutBit (s.dev.portSt port).broken half }).bump (0x3010 + port) 0x0D 1) s.dev)) := by
  subst hu
  exact exec_of_netRow (exec_linkGlitch port half s) hunits hruns (by simp only [hlost, if_pos hsoon])

end

section
variable {s : State} {port half : Nat} (hunits : (decide (port < 20) && decide (half < 2)) = true)
include hunits

theorem lldpSend_sends {h : PortHalf} (hruns : s.dev.pwr.offKind = 0) (hh : h = s.dev.half port half) (hlit : 1 < h.state) (hlate : h.lastLldp + 1000000000 ≤ s.dev.time) :
    exec (.lldpSend port half) s = .next (s.withDev
      (((s.dev.setHalf port half { h with lastLldp := s.dev.time }).send (.frame port 1 (lldpBytes port))).bump (0x3010 + port) 0x0F 1)) := by
  subst hh
  exact exec_of_onDev (exec_lldpSend port half s) hunits (if_neg (by omega))

theorem lldpFrame_notes {h : PortHalf} (hh : h = s.dev.half port half) (data : List Byte) (hlit : s.dev.lit port half = true) :
    exec (.lldpFrame port half data) s = .next (s.withDev (((s.dev.rxFrame port).setBlob (0x3010 + port) 7 (data.take 512)).setHalf port half
      { h with lldpSeen := true, mac := some (beNat (slice data 6 6)) })) := by
  subst hh
  exact exec_of_onDev (exec_lldpFrame port half data s) hunits (if_pos hlit)

end

/-! ### Frames of a port that carries traffic (R244, R276) -/

section
variable {s : State} {port : Nat} {d : Dev} (hport : port < 20) (hlit : s.dev.litPort port = true) (hd : d = s.dev.rxFrame port) (hcarries : d.carrying port = true)
include hport hlit hd hcarries

theorem routerAdvertisement_learns {mac : Nat} (hrole : d.role port 0 = 2 ∨ d.role port 1 = 2) (hnew : (d.portSt port).learned = 0) :
    exec (.routerAdvertisement port mac) s = .next (s.withDev (d.setPort port { d.portSt port with learned := mac % 2 ^ 48 })) := by
  subst hd
  have hmine : ¬(((s.dev.rxFrame port).role port 0 ≠ 2 ∧ (s.dev.rxFrame port).role port 1 ≠ 2) ∨ (s.dev.rxFrame port).carrying port = false) := by
    rw [hcarries]
    rintro (⟨h0, h1⟩ | hnone)
    · exact hrole.elim h0 h1
    · cases hnone
  exact exec_of_onDev (exec_routerAdvertisement port mac s) (decide_eq_true hport) ((if_pos hlit).trans ((if_neg hmine).trans (if_pos hnew)))

theorem ptpMessage_loses_master {ns : PtpMsg} (hnamed : d.obj 0x3000 0x0A = port) (hdomain : ns.domain = d.obj 0x3000 0x0B) :
    exec (.ptpMessage port false ns) s = .next (s.withDev { d with net := { d.net with ptpMaster := none } }) := by
  subst hd
  have hmine : ¬((s.dev.rxFrame port).obj 0x3000 0x0A ≠ port ∨ (s.dev.rxFrame port).carrying port = false) := by
    rw [hnamed, hcarries]
    simp
  have hup : ¬s.dev.litPort port = false := by simp [hlit]
  exact exec_of_onDev (exec_ptpMessage port false ns s) (decide_eq_true hport)
    ((if_neg hup).trans ((if_neg hmine).trans ((if_neg (not_not_intro hdomain)).trans (if_neg (by simp)))))

end

/-! ### Lasers (R240) -/

section
variable {d : Dev} {engine laser fed left : Nat} {e : Dev} (hfed : fed = d.laserMap engine laser) (he : e = d.setObjAt (0x3040 + engine) 1 laser 0xFE)
include hfed he

/-- A spare laser fails: one spare fewer is left. -/
theorem Dev.laserFails_of_spare (hleft : left = e.obj (0x3040 + engine) 2) (hspare : fed = 0xFF) :
    d.laserFails engine laser = (e.setObj (0x3040 + engine) 2 (left - 1)).logWear 3 0x0302 (5 * 2 ^ 56 + engine + laser * 2 ^ 8) := by
  subst he hleft
  have hworks : ¬d.laserMap engine laser = 0xFE := by omega
  simp only [Dev.laserFails, if_neg hworks, if_pos (hfed.symm.trans hspare)]

/-- A laser that feeds a half fails and no spare is left: the half's lanes fail. -/
theorem Dev.laserFails_of_fed (hhalf : fed < 0xFE) (hnone : e.spareLaser engine = none) :
    d.laserFails engine laser = (e.setPort (5 * engine + fed / 2) { e.portSt (5 * engine + fed / 2) with
      failed := withBit (e.portSt (5 * engine + fed / 2)).failed (fed % 2) }).fault 0x0302 none (5 * 2 ^ 56 + engine + laser * 2 ^ 8) := by
  subst he hfed
  have hworks : ¬d.laserMap engine laser = 0xFE := by omega
  have hfeeds : ¬d.laserMap engine laser = 0xFF := by omega
  simp only [Dev.laserFails, if_neg hworks, if_neg hfeeds, hnone]

end

/-! ### Mirrored sets (R330) -/

/-- A set of a context is mirrored to its standby over the session with the partner. -/
structure Mirrors (d : Dev) (ctx : Nat) (x : StateSet) (sb key : Nat) : Prop where
  standby : (d.ctx ctx).standbyAt = some sb
  session : d.sessionTo none (d.obj 0xA000 1) = some key
  mirrored : x.mirror = true
  goes : d.mirrorState x ≠ 3

section
variable {d : Dev} {ctx n sb key : Nat} {x : StateSet} (h : Mirrors d ctx x sb key)
include h

theorem Mirrors.syncs : ¬(x.mirror = false ∨ d.mirrorState x = 3) := by
  rw [h.mirrored]
  rintro (hnot | hstate)
  · cases hnot
  · exact h.goes hstate

/-- With nothing dirty and nothing left unacknowledged, the copy is whole. -/
theorem Mirrors.mirrorSet_of_clean (hclean : x.dirty = []) (hacked : d.mirrorKept ctx n = 0) :
    d.mirrorSet ctx n x = d.setSset ctx n { x with copied := x.sending != 0 || x.copied } := by
  simp only [Dev.mirrorSet, h.standby, h.session, if_neg h.syncs, if_pos hclean, if_pos hacked]

/-- One dirty granule that no line of the companion holds back leaves by an I/O tug of the transport. -/
theorem Mirrors.mirrorSet_of_one {g : Nat} {ts : List Nat} (hdirty : x.dirty = [g]) (hts : ts = (List.range 8).filter fun t => d.obj (0x8210 + t) 1 == 3) (hsome : ts ≠ [])
    (hroom : d.canSend key clReq = true)
    (hfree : d.ownedIn ((if (granule x g).1 = 0 then x.bank0 else x.bank1) + (granule x g).2.1) (granule x g).2.2 = false) :
    d.mirrorSet ctx n x = ((d.sendGranule key ctx n sb x g).ioTug ts (granule x g).2.2).setSset ctx n { x with dirty := [], sending := 1 } := by
  have hsends : Dev.sendGranules key ctx n sb x ts [g] d = ((d.sendGranule key ctx n sb x g).ioTug ts (granule x g).2.2, []) := by
    simp only [Dev.sendGranules, hfree, Bool.false_eq_true, if_false, if_pos (show ts ≠ [] ∧ d.canSend key clReq = true from ⟨hsome, hroom⟩)]
  subst hts
  have hleft : ¬x.dirty = [] := by rw [hdirty]; exact List.cons_ne_nil _ _
  simp only [Dev.mirrorSet, h.standby, h.session, if_neg h.syncs, if_neg hleft]
  rw [hdirty, hsends]

end

theorem mirrorSync_steps {s : State} {ctx : Nat} (hctx : ctx < 64) (hsafe : s.dev.safe = false) (hruns : s.dev.pwr.offKind = 0) :
    exec (.mirrorSync ctx) s = .next (s.withDev (s.dev.mirrorStep ctx).retry) :=
  exec_of_onDev (exec_mirrorSync ctx s) (decide_eq_true hctx) (if_neg (by simp [hsafe, hruns]))

/-- A context with one set moves that set alone. -/
theorem Dev.mirrorStep_of_one {d : Dev} {ctx n : Nat} {x : StateSet} (hone : d.maskSets ctx 0xFFFF = [(n, x)]) : d.mirrorStep ctx = d.mirrorSet ctx n x := by
  rw [Dev.mirrorStep, hone, List.foldl_cons, List.foldl_nil]

/-! ### Paths (R259) -/

theorem rateRaiseTimer_raises {s : State} {rank path : Nat} {x : PathSt} (hunits : (decide (rank < 16384) && decide (path < 8)) = true) (hx : x = s.dev.pathSt rank path)
    (hlate : x.lastCe + 20000 ≤ s.dev.time) (hlimited : x.limit.1 < x.limit.2) :
    exec (.rateRaiseTimer rank path) s = .next (s.withDev (s.dev.setPath rank path { x with
      limit := (if 50 * x.limit.2 ≤ 50 * x.limit.1 + x.limit.2 then (1, 1) else (50 * x.limit.1 + x.limit.2, 50 * x.limit.2)), lastCe := s.dev.time })) := by
  subst hx
  exact exec_of_onDev (exec_rateRaiseTimer rank path s) hunits (if_neg (by omega))

/-- Settles O58: each command runs its row, and each row gives the next state of its own effect. -/
theorem networkAndLinkCommandsComplete : Obligations.NetworkAndLinkCommandsComplete := by
  refine ⟨fun s p hport hhalf => ?packets, fun s p hport hhalf hhere hruns hheader hcarries => ?acks, fun s p v hport hhalf hsec => ?handshakes,
    fun s key cls psn hcls => ?timers, fun s port half data hport hhalf hruns => ?ports, fun s port half h u hport hhalf hruns hh hu => ?halves,
    fun s port d hport hlit hd hcarries => ?frames, fun s p d hport hhalf hruns htype hd hheader hfits hstate => ?hello,
    fun s engine laser hengine hlaser hruns => ?laser, fun s engine laser fed d left hengine hlaser hruns hfed hd hleft => ?feeds,
    fun s ctx n x sb key hctx hsafe hruns hone hstandby hsession hmirror hgoes => ?mirror, fun s rank path x hrank hpath => ?rate,
    fun s rank t hrank hruns hlost hlate => ?lost, fun s ctx hctx => mirrorSync_steps hctx, fun s rank path hrank hpath hruns => ?probe, fun s ctx hctx => ?opening,
    fun s a n v w bs mask bad => ?requests, fun s lane hlane => ?lane, fun s c v hc => ?tail⟩
  case packets =>
    have hunits := units_exist hport hhalf
    exact ⟨exec_of_onDev (exec_gezalWrite p s) hunits rfl, exec_of_onDev (exec_gezalRead p s) hunits rfl, exec_of_onDev (exec_gezalReadResp p s) hunits rfl,
      exec_of_onDev (exec_gezalDone p s) hunits rfl, exec_of_onDev (exec_gezalConvey p s) hunits rfl, exec_of_onDev (exec_gezalCredit p s) hunits rfl,
      exec_of_onDev (exec_gezalArrive p s) hunits rfl, exec_of_onDev (exec_gezalArriveAck p s) hunits rfl, exec_of_onDev (exec_gezalRelease p s) hunits rfl,
      exec_of_onDev (exec_gezalPoisonBarrier p s) hunits rfl, exec_of_onDev (exec_gezalCollect p s) hunits rfl, exec_of_onDev (exec_gezalMirror p s) hunits rfl,
      exec_of_onDev (exec_gezalNodeStatus p s) hunits rfl, exec_of_onDev (exec_gezalVote p s) hunits rfl, exec_of_onDev (exec_gezalHeartbeat p s) hunits rfl,
      exec_of_onDev (exec_gezalTakeover p s) hunits rfl, exec_of_onDev (exec_gezalReconcile p s) hunits rfl, exec_of_onDev (exec_transitForward p s) hunits rfl,
      exec_of_onDev (exec_gezalOutcome (some p) s) rfl rfl⟩
  case acks =>
    have hunits := units_exist hport hhalf
    exact ⟨fun htype => exec_of_onDev (exec_gezalAck p s) hunits (if_pos htype), fun htype => exec_of_onDev (exec_gezalNack p s) hunits (if_pos htype),
      gezalProbe_answers hunits hruns hheader hhere hcarries⟩
  case handshakes =>
    have hunits := units_exist hport hhalf
    exact ⟨exec_of_bySec (exec_offer p v s) hunits hsec, exec_of_bySec (exec_accept p v s) hunits hsec, exec_of_bySec (exec_confirm p v s) hunits hsec,
      exec_of_bySec (exec_rekey p v s) hunits hsec, exec_of_bySec (exec_rekeyAck p v s) hunits hsec, exec_of_onDev (exec_refuse p s) hunits rfl⟩
  case timers =>
    have hunits := decide_eq_true hcls
    exact ⟨exec_of_onDev (exec_ackTimer key cls s) hunits rfl, exec_of_onDev (exec_gapWaitExpiry key cls s) hunits rfl,
      fun hruns => exec_of_netRow (exec_rtoExpiry key cls psn s) hunits hruns rfl, exec_of_onDev (exec_handshakeResend key s) rfl rfl,
      fun hsec => exec_of_onDevF (exec_rekeyTimer key s) rfl (if_neg (ne_true_of_eq_false hsec))⟩
  case ports =>
    have hunits := units_exist hport hhalf
    exact ⟨exec_of_netRow (exec_helloSend port half s) hunits hruns rfl, exec_of_netRow (exec_identifyingTimeout port half s) hunits hruns rfl,
      exec_of_netRow (exec_portRetry port half s) hunits hruns rfl, exec_of_netRow (exec_plannedRetrain port s) (decide_eq_true hport) hruns rfl,
      fun mine => ⟨exec_of_onDev (exec_neighbourSolicitation port mine data s) (decide_eq_true hport) rfl,
        exec_of_onDev (exec_echoRequest port mine data s) (decide_eq_true hport) rfl⟩⟩
  case halves =>
    have hunits := units_exist hport hhalf
    refine ⟨fun hdark => ?_, fun hdark hlate => ?_, fun hlinking => ?_, fun hlinking hlate => ?_, lossDetection_notes hunits hruns hu, lossDetection_of_down hunits hruns hu,
      fun t => portDown_goes_down hunits hruns hu, fun t => linkGlitch_ends hunits hruns hu, fun hdown hwhole hfailed => ?_, lldpSend_sends hunits hruns hh, lldpFrame_notes hunits hh⟩
    · exact exec_of_netRow (exec_lightDetect port half s) hunits hruns (if_pos (hh ▸ hdark))
    · exact exec_of_netRow (exec_darkTimeout port half s) hunits hruns (if_pos (hh ▸ ⟨hdark, hlate⟩))
    · exact exec_of_netRow (exec_pcsFecLock port half s) hunits hruns (if_pos (.inl (hh ▸ hlinking)))
    · exact exec_of_netRow (exec_linkingTimeout port half s) hunits hruns (if_pos (hh ▸ ⟨hlinking, hlate⟩))
    · exact exec_of_netRow (exec_halfRetrain port half s) hunits hruns (if_pos ⟨hdown, hwhole, hfailed⟩)
  case frames =>
    exact ⟨fun mac => routerAdvertisement_learns hport hlit hd hcarries, fun ns => ptpMessage_loses_master hport hlit hd hcarries⟩
  case hello =>
    subst hd
    exact gezalHello_heard (units_exist hport hhalf) hruns hheader htype hfits hstate
  case laser => exact exec_of_netRow (exec_laserFailed engine laser s) (units_exist hengine hlaser) hruns rfl
  case feeds =>
    have hrow : ∀ e, s.dev.laserFails engine laser = e → _ := fun e => exec_of_netRow (exec_laserFailed engine laser s) (units_exist hengine hlaser) hruns
    exact ⟨fun hspare => hrow _ (Dev.laserFails_of_spare hfed hd hleft hspare), fun hhalf hnone => hrow _ (Dev.laserFails_of_fed hfed hd hhalf hnone)⟩
  case mirror =>
    have hmirrors : Mirrors s.dev ctx x sb key := ⟨hstandby, hsession, hmirror, hgoes⟩
    rw [mirrorSync_steps hctx hsafe hruns, Dev.mirrorStep_of_one hone]
    exact ⟨fun hclean hacked => by rw [hmirrors.mirrorSet_of_clean hclean hacked],
      fun g ts hdirty hts hsome hroom hfree => by rw [hmirrors.mirrorSet_of_one hdirty hts hsome hroom hfree]⟩
  case rate => exact rateRaiseTimer_raises (units_exist hrank hpath)
  case lost => exact exec_of_netRow (exec_pathLostTimer rank s) (decide_eq_true hrank) hruns (by simp only [hlost, if_pos hlate])
  case probe => exact exec_of_netRow (exec_probeTimer rank path s) (units_exist hrank hpath) hruns rfl
  case opening => exact exec_of_onDev (exec_sessionOpenTimeout ctx s) (decide_eq_true hctx) rfl
  case requests =>
    exact ⟨exec_of_onDev (exec_kclReadShared a s) rfl rfl, exec_of_onDev (exec_kclReadOwn a s) rfl rfl, exec_of_onDev (exec_kclReadUncached a n s) rfl rfl,
      exec_of_onDev (exec_kclWrite a bs mask bad s) rfl rfl, exec_of_onKcl (exec_kclWriteback a bs bad s) rfl rfl, exec_of_onDev (exec_kclFetchAdd a n v s) rfl rfl,
      exec_of_onDev (exec_kclSwap a n v s) rfl rfl, exec_of_onDev (exec_kclCas a n v w s) rfl rfl⟩
  case lane => exact exec_of_onKcl (exec_kclLaneFailure lane s) (decide_eq_true hlane) rfl
  case tail => exact exec_of_onDev (exec_submissionTail c v s) (decide_eq_true hc) rfl

end Sys2Proof.Machine
end

section
/-! Proof about the statement on the events of barriers: at COUNT a fast barrier goes on pulling the line while its gang has yet to note a request to save it. -/

namespace Sys2Proof.Machine

/-- At COUNT a fast barrier holds what was counted, and pulls the line while a member has not noted a request to save the gang (R222, log 96). -/
theorem Dev.countArrival_fast_full {d : Dev} {a : ArrivalF} {b : Barrier} (hbar : d.bar a.ctx a.bar = some b) (hsound : b.poisoned = false) (hfast : b.fast = true)
    (hfull : b.count ≤ b.arrived + a.weight) :
    d.countArrival a =
      let d := d.ackArrival a.ctx a.bar a.who (some b.joining)
      d.setBar a.ctx a.bar { b.counted a d.time with pulling := (d.ctx a.ctx).gangUnnoted != [] } := by
  have hcount : ¬ (b.counted a (d.ackArrival a.ctx a.bar a.who (some b.joining)).time).arrived < b.count := Nat.not_lt.mpr hfull
  simp only [Dev.countArrival, hbar, hsound, Bool.false_eq_true, if_false, if_neg hcount, if_pos hfast]

/-! ### A gang that is asked to be saved at its fast point -/

/-- A gang pre-emption point on the board line that one arrival completes (R222, R225). -/
def fastPoint : Barrier := { home := 0, count := 1, gangpoint := true, fast := true }

/-- An arrival of this module's core at barrier 5 of context 0. -/
def fastArrival : ArrivalF := { ctx := 0, bar := 5, weight := 1, kind := 0, who := ⟨0, ⟨0, 0⟩⟩ }

/-- A gang of two modules has just been asked to be saved, and the arrival is on its way to the store. -/
def saveAskedGang : State :=
  { dev := ({ ctxs := [(0, { state := 4, gangSize := 2, members := [0, 1] })], cmp := { arrivals := [fastArrival], bars := [(5, fastPoint)] } } : Dev).deferGang 0 }

/-- Member 1 has yet to note the request, so the arrival that reaches COUNT leaves the line pulled. -/
theorem saveAskedGang_keeps_pulling : ((saveAskedGang.dev.arrivalCounted 0).bar 0 5).map Barrier.pulling = some true := by
  have hcounts : saveAskedGang.dev.arrivalCounted 0 = _ :=
    Dev.countArrival_fast_full (d := { saveAskedGang.dev with cmp := { saveAskedGang.dev.cmp with arrivals := [] } }) (a := fastArrival) (b := fastPoint)
      rfl rfl rfl (by decide)
  rw [hcounts]
  exact congrArg (Option.map Barrier.pulling) (Dev.bar_setBar _ _ _ _)

/-- Refutes O9: at COUNT a fast barrier goes on pulling where a member of the gang has yet to note a request to save it (log 96), and the clause has it stop. -/
theorem not_barrierEventsHappen : ¬ Obligations.BarrierEventsHappen := by
  unfold Obligations.BarrierEventsHappen
  rintro ⟨harrival, -⟩
  obtain ⟨d, -, -, hfull, -⟩ := harrival saveAskedGang 0 fastArrival fastPoint rfl rfl rfl
  have hruns := (exec_arrivalCounted 0 saveAskedGang).symm.trans (hfull (by decide) rfl)
  obtain ⟨-, hdev, -, -⟩ := onDev_next hruns
  have hstops : ((saveAskedGang.dev.arrivalCounted 0).bar 0 5).map Barrier.pulling = some false := by
    rw [← hdev]
    exact congrArg (Option.map Barrier.pulling) (Dev.bar_setBar _ _ _ _)
  exact absurd (saveAskedGang_keeps_pulling.symm.trans hstops) (by decide)

end Sys2Proof.Machine
end

section
/-! Proofs of the statement of chapter 09 on the Gezal header: a number laid out in fields is read back from them, and so is the header from its bytes. -/

namespace Sys2Proof.Machine

/-! ### Byte strings and the numbers they spell (R7) -/

@[simp] theorem natLe_length (n v : Nat) : (natLe n v).length = n := by
  induction n generalizing v with
  | zero => rfl
  | succ n ih => rw [natLe, List.length_cons, ih]

theorem leNat_natLe (n v : Nat) : leNat (natLe n v) = v % 256 ^ n := by
  induction n generalizing v with
  | zero => rw [natLe, leNat, Nat.pow_zero, Nat.mod_one]
  | succ n ih => rw [natLe, leNat, ih, BitVec.toNat_ofNat, Nat.pow_succ' (m := 256), Nat.mod_mul (a := 256)]

theorem natLe_leNat (bs : List Byte) : natLe bs.length (leNat bs) = bs := by
  induction bs with
  | nil => rfl
  | cons b bs ih =>
    have hlow : BitVec.ofNat 8 (b.toNat + 256 * leNat bs) = b := BitVec.eq_of_toNat_eq (by rw [BitVec.toNat_ofNat]; have := b.isLt; omega)
    have hhigh : (b.toNat + 256 * leNat bs) / 256 = leNat bs := by have := b.isLt; omega
    rw [List.length_cons, leNat, natLe, hlow, hhigh, ih]

theorem leNat_lt (bs : List Byte) : leNat bs < 256 ^ bs.length := by
  rw [← natLe_leNat bs, leNat_natLe, natLe_length]
  exact Nat.mod_lt _ (by positivity)

/-- The last of the little-endian bytes is the highest. -/
theorem natLe_succ_eq_append (n v : Nat) : natLe (n + 1) v = natLe n v ++ [BitVec.ofNat 8 (v / 256 ^ n)] := by
  induction n generalizing v with
  | zero => rw [natLe, natLe, natLe, Nat.pow_zero, Nat.div_one, List.nil_append]
  | succ n ih => rw [natLe, ih, natLe, List.cons_append, Nat.div_div_eq_div_mul, Nat.pow_succ']

/-- Bytes are eight bits each. -/
theorem two_pow_eight_mul (n : Nat) : 2 ^ (8 * n) = 256 ^ n := Nat.pow_mul 2 8 n

@[simp] theorem natBe_length (n v : Nat) : (natBe n v).length = n := by rw [natBe, List.length_reverse, natLe_length]

theorem beNat_natBe {n v : Nat} (hv : v < 256 ^ n) : beNat (natBe n v) = v := by
  rw [beNat, natBe, List.reverse_reverse, leNat_natLe, Nat.mod_eq_of_lt hv]

theorem natBe_beNat (bs : List Byte) : natBe bs.length (beNat bs) = bs := by
  rw [natBe, beNat, ← List.length_reverse, natLe_leNat, List.reverse_reverse]

theorem beNat_lt (bs : List Byte) : beNat bs < 256 ^ bs.length := by
  rw [beNat, ← List.length_reverse]
  exact leNat_lt _

theorem natBe_head? (n v : Nat) : (natBe (n + 1) v).head? = some (BitVec.ofNat 8 (v / 256 ^ n)) := by
  rw [natBe, natLe_succ_eq_append, List.reverse_append, List.reverse_singleton, List.singleton_append, List.head?_cons]

theorem natBe_getLast? (n v : Nat) : (natBe (n + 1) v).getLast? = some (BitVec.ofNat 8 v) := by
  rw [natBe, natLe, List.reverse_cons, List.getLast?_concat]

/-! ### Fields laid out one after another -/

/-- Values in fields of the given widths, the first in the highest bits. -/
def packFields : List Nat → List Nat → Nat
  | n :: ns, v :: vs => v % 2 ^ n * 2 ^ ns.sum + packFields ns vs
  | _, _ => 0

/-- The values that a number holds in fields of the given widths. -/
def splitFields : List Nat → Nat → List Nat
  | [], _ => []
  | n :: ns, w => w / 2 ^ ns.sum % 2 ^ n :: splitFields ns w

theorem packFields_lt (ns vs : List Nat) : packFields ns vs < 2 ^ ns.sum := by
  induction ns generalizing vs with
  | nil => exact Nat.two_pow_pos _
  | cons n ns ih =>
    cases vs with
    | nil => exact Nat.two_pow_pos _
    | cons v vs =>
      have hv : v % 2 ^ n + 1 ≤ 2 ^ n := Nat.mod_lt _ (Nat.two_pow_pos n)
      calc packFields (n :: ns) (v :: vs) < v % 2 ^ n * 2 ^ ns.sum + 2 ^ ns.sum := Nat.add_lt_add_left (ih vs) _
        _ = (v % 2 ^ n + 1) * 2 ^ ns.sum := (Nat.succ_mul _ _).symm
        _ ≤ 2 ^ n * 2 ^ ns.sum := Nat.mul_le_mul_right _ hv
        _ = 2 ^ (n :: ns).sum := by rw [List.sum_cons, Nat.pow_add]

/-- What stands above the fields does not reach into them. -/
theorem splitFields_add_mul (ns : List Nat) (a w : Nat) : splitFields ns (a * 2 ^ ns.sum + w) = splitFields ns w := by
  induction ns generalizing a with
  | nil => rfl
  | cons n ns ih =>
    have habove : a * 2 ^ (n :: ns).sum = a * 2 ^ n * 2 ^ ns.sum := by rw [List.sum_cons, Nat.pow_add, Nat.mul_assoc]
    rw [splitFields, splitFields, habove, ih, Nat.add_comm, Nat.add_mul_div_right _ _ (Nat.two_pow_pos _), Nat.add_mul_mod_self_right]

theorem splitFields_packFields {ns vs : List Nat} (hfit : List.Forall₂ (fun n v => v < 2 ^ n) ns vs) : splitFields ns (packFields ns vs) = vs := by
  induction hfit with
  | nil => rfl
  | @cons n v ns vs hv _ ih =>
    have hfirst : packFields (n :: ns) (v :: vs) / 2 ^ ns.sum = v := by
      rw [packFields, Nat.mod_eq_of_lt hv, Nat.add_comm, Nat.add_mul_div_right _ _ (Nat.two_pow_pos _), Nat.div_eq_of_lt (packFields_lt ns vs), Nat.zero_add]
    rw [splitFields, hfirst, Nat.mod_eq_of_lt hv, packFields, splitFields_add_mul, ih]

theorem packFields_splitFields (ns : List Nat) (w : Nat) : packFields ns (splitFields ns w) = w % 2 ^ ns.sum := by
  induction ns with
  | nil => exact (Nat.mod_one w).symm
  | cons n ns ih => rw [splitFields, packFields, ih, Nat.mod_mod, List.sum_cons, Nat.add_comm n, Nat.pow_add, Nat.mod_mul, Nat.mul_comm, Nat.add_comm]

/-! ### The fields of the header (R245) -/

/-- The widths of the header's fields, from bit 319 down. -/
def headerWidths : List Nat := [4, 4, 2, 2, 1, 1, 1, 1, 8, 8, 16, 32, 16, 16, 32, 32, 16, 64, 52, 4, 8]

/-- They are the bits of 40 bytes. -/
theorem two_pow_headerWidths_sum : 2 ^ headerWidths.sum = 256 ^ 40 := by
  have hsum : headerWidths.sum = 8 * 40 := rfl
  rw [hsum, two_pow_eight_mul]

/-- What the fields of a packet's header hold. -/
def headerValues (p : Packet) : List Nat :=
  [p.ver, p.typ, p.cls, p.epoch, p.enc.toNat, p.poison.toNat, p.last.toNat, p.ceEcho.toNat, p.op, p.tries, p.channel, p.session, p.src, p.dst, p.psn, p.ackPsn,
   p.payload.length, p.txn, p.addr, p.path, p.reserved]

theorem headerWord_eq_packFields (p : Packet) : headerWord p = packFields headerWidths (headerValues p) := by
  simp only [headerWord, inField, headerWidths, headerValues, packFields, List.sum_cons, List.sum_nil, Nat.reduceAdd, Nat.reduceSub, Nat.add_assoc, Nat.add_zero]

theorem headerWord_lt (p : Packet) : headerWord p < 256 ^ 40 := by
  rw [headerWord_eq_packFields, ← two_pow_headerWidths_sum]
  exact packFields_lt _ _

theorem bit_toNat (w i : Nat) : (bit w i).toNat = field w i i := by
  rw [bit, field, Nat.add_sub_cancel_left, Nat.pow_one]
  rcases Nat.mod_two_eq_zero_or_one (w / 2 ^ i) with h | h <;> rw [h] <;> rfl

theorem ofNat_mod_byte (v : Nat) : BitVec.ofNat 8 (v % 256) = BitVec.ofNat 8 v :=
  BitVec.eq_of_toNat_eq (by rw [BitVec.toNat_ofNat, BitVec.toNat_ofNat]; exact Nat.mod_mod v 256)

/-- Two fields of four bits each share a byte. -/
theorem field_nibbles (w i : Nat) : 16 * field w (i + 7) (i + 4) + field w (i + 3) i = w / 2 ^ i % 256 := by
  have hhigh : i + 7 + 1 - (i + 4) = 4 := by omega
  have hlow : i + 3 + 1 - i = 4 := by omega
  rw [field, field, hhigh, hlow, Nat.pow_add, ← Nat.div_div_eq_div_mul]
  omega

theorem splitFields_headerWidths (w : Nat) : splitFields headerWidths w =
    [field w 319 316, field w 315 312, field w 311 310, field w 309 308, field w 307 307, field w 306 306, field w 305 305, field w 304 304, field w 303 296, field w 295 288,
     field w 287 272, field w 271 240, field w 239 224, field w 223 208, field w 207 176, field w 175 144, field w 143 128, field w 127 64, field w 63 12, field w 11 8, field w 7 0] := by
  simp only [splitFields, headerWidths, field, List.sum_cons, List.sum_nil, Nat.reduceAdd, Nat.reduceSub]

/-- The packet that a header spells holds the values that stand in its fields, where the payload behind it is as long as LEN says. -/
theorem headerValues_readHeader {bs payload : List Byte} (hlen : payload.length = headerLen bs) :
    headerValues (readHeader bs payload) = splitFields headerWidths (beNat bs) := by
  have hpayload : (readHeader bs payload).payload.length = headerLen bs := by
    rw [← hlen, readHeader, ← headerLen, ← hlen, List.take_length]
  rw [headerValues, hpayload, splitFields_headerWidths]
  simp only [readHeader, bit_toNat, headerLen]

theorem bool_toNat_inj {a b : Bool} : a.toNat = b.toNat ↔ a = b := by cases a <;> cases b <;> decide

/-- A header shows every field of a packet but its payload's bytes. -/
theorem Packet.eq_of_headerValues {p q : Packet} (hvalues : headerValues p = headerValues q) (hpayload : p.payload = q.payload) :
    p = { q with port := p.port, half := p.half, frameOk := p.frameOk, ce := p.ce, refusal := p.refusal, before := p.before, shape := p.shape,
                 runBefore := p.runBefore, runAfter := p.runAfter, tag := p.tag } := by
  cases p
  cases q
  simp only [headerValues, List.cons.injEq, and_true, bool_toNat_inj] at hvalues
  dsimp only at hpayload
  simp only [hvalues, hpayload]

section
variable {p : Packet} (hfit : List.Forall₂ (fun n v => v < 2 ^ n) headerWidths (headerValues p))
include hfit

theorem splitFields_headerBytes : splitFields headerWidths (beNat (headerBytes p)) = headerValues p := by
  rw [headerBytes, beNat_natBe (headerWord_lt p), headerWord_eq_packFields, splitFields_packFields hfit]

/-- Where LEN, the first byte's two fields and the reserved bits stand. -/
theorem field_headerBytes {w : Nat} (hw : w = beNat (headerBytes p)) :
    field w 319 316 = p.ver ∧ field w 315 312 = p.typ ∧ field w 143 128 = p.payload.length ∧ field w 7 0 = p.reserved := by
  have hfields : splitFields headerWidths w = headerValues p := by rw [hw, splitFields_headerBytes hfit]
  simp only [splitFields_headerWidths, headerValues, List.cons.injEq, and_true] at hfields
  obtain ⟨hver, htyp, -, -, -, -, -, -, -, -, -, -, -, -, -, -, hlen, -, -, -, hreserved⟩ := hfields
  exact ⟨hver, htyp, hlen, hreserved⟩

theorem headerLen_headerBytes : headerLen (headerBytes p) = p.payload.length := by
  obtain ⟨-, -, hlen, -⟩ := field_headerBytes hfit rfl
  exact hlen

/-- Reading the header gives the packet back, as it leaves. -/
theorem readHeader_headerBytes : readHeader (headerBytes p) p.payload =
    { p with port := 0, half := 0, frameOk := true, ce := false, refusal := 0, before := 0, shape := 0, runBefore := 0, runAfter := 0, tag := [] } := by
  have hlen := headerLen_headerBytes hfit
  refine Packet.eq_of_headerValues ?_ ?_
  · rw [headerValues_readHeader hlen.symm, splitFields_headerBytes hfit]
  · rw [readHeader, ← headerLen, hlen, List.take_length]

/-- VER and TYPE share the first byte (R245). -/
theorem headerBytes_head? : (headerBytes p).head? = some (BitVec.ofNat 8 (16 * p.ver + p.typ)) := by
  obtain ⟨hver, htyp, -, -⟩ := field_headerBytes hfit rfl
  have hbyte := field_nibbles (headerWord p) 312
  rw [headerBytes, beNat_natBe (headerWord_lt p)] at hver htyp
  rw [hver, htyp] at hbyte
  rw [headerBytes, natBe_head?, ← two_pow_eight_mul 39, hbyte, ofNat_mod_byte]

theorem headerBytes_getLast? : (headerBytes p).getLast? = some (BitVec.ofNat 8 p.reserved) := by
  obtain ⟨-, -, -, hreserved⟩ := field_headerBytes hfit rfl
  rw [headerBytes, beNat_natBe (headerWord_lt p), field, Nat.pow_zero, Nat.div_one] at hreserved
  rw [headerBytes, natBe_getLast?, ← hreserved]
  exact congrArg some (ofNat_mod_byte _).symm

end

theorem headerBytes_readHeader {bs payload : List Byte} (hbs : bs.length = 40) (hlen : payload.length = headerLen bs) : headerBytes (readHeader bs payload) = bs := by
  have hlt : beNat bs < 2 ^ headerWidths.sum := by
    rw [two_pow_headerWidths_sum, ← hbs]
    exact beNat_lt bs
  have hword : headerWord (readHeader bs payload) = beNat bs := by
    rw [headerWord_eq_packFields, headerValues_readHeader hlen, packFields_splitFields, Nat.mod_eq_of_lt hlt]
  rw [headerBytes, hword, ← hbs, natBe_beNat]

/-- Settles O59: the header is a number laid out in fields of known widths, which its values give back, and the fields of any 40 bytes lay out that number again. -/
theorem headersReadBackAsTheyAreLaidOut : Obligations.HeadersReadBackAsTheyAreLaidOut := by
  refine ⟨fun p hver htyp hcls hepoch hop htries hchannel hsession hsrc hdst hpsn hackPsn hlen htxn haddr hpath hreserved => ?_, fun _ _ => headerBytes_readHeader⟩
  have hfit : List.Forall₂ (fun n v => v < 2 ^ n) headerWidths (headerValues p) := by
    have hflag : ∀ b : Bool, b.toNat < 2 ^ 1 := fun b => b.toNat_lt
    exact .cons hver <| .cons htyp <| .cons hcls <| .cons hepoch <| .cons (hflag _) <| .cons (hflag _) <| .cons (hflag _) <| .cons (hflag _) <| .cons hop <|
      .cons htries <| .cons hchannel <| .cons hsession <| .cons hsrc <| .cons hdst <| .cons hpsn <| .cons hackPsn <| .cons hlen <| .cons htxn <| .cons haddr <|
      .cons hpath <| .cons hreserved .nil
  exact ⟨natBe_length 40 _, headerLen_headerBytes hfit, readHeader_headerBytes hfit, headerBytes_head? hfit, headerBytes_getLast? hfit⟩

end Sys2Proof.Machine
end

section
/-! Proofs of the statement of chapter 09 on the acceptance of DATA packets: each operation's row receives its packet, and a class applies what it has accepted in order. -/

namespace Sys2Proof.Machine

/-! ### The rows of the operations (R247) -/

section
variable {s : State} {p : Packet} {x : Session} (h : PacketFor s.dev p x) (htype : p.typ = 0)
include h htype

theorem Dev.dataRow_receives {op : Nat} (hop : p.op = op) : s.dev.dataRow p op = (s.dev.rxFrame p.port).recvData p.session x p := by
  rw [Dev.dataRow, if_pos ⟨htype, hop⟩, gezalIn_for h]

theorem Dev.stepRow_receives {kind : Nat} (hop : p.op = 0x40) (hkind : stepKind p = kind) : s.dev.stepRow p kind = (s.dev.rxFrame p.port).recvData p.session x p := by
  rw [Dev.stepRow, if_pos hkind, dataRow_receives h htype hop]

end

/-! ### Acceptance (R252) -/

section
variable {r : RxClass} {p : Packet}

/-- The next packet of a class in which none is held joins those that wait to be applied. -/
theorem RxClass.accept_of_next (hnext : psnAfter p.psn r.next = 0) (hheld : r.held = []) (window time : Nat) : r.accept p window time =
    ({ r with ce := r.ce || p.ce, ackSince := some (r.ackSince.getD time), next := (r.next + 1) % 2 ^ 32, promised := r.promised - 1, stalled := r.stalled ++ [p],
              fresh := r.fresh + 1, gapSince := none }, false) := by
  simp [RxClass.accept, hnext, hheld, takeRun]

/-- A packet ahead of the next one that is not held already is neither an old one nor a copy. -/
theorem RxClass.not_behind_or_held (hnear : psnAfter p.psn r.next < 2 ^ 31) (hnew : (r.held.any fun q => q.psn == p.psn) = false) :
    ¬(2 ^ 31 ≤ psnAfter p.psn r.next ∨ (r.held.any fun q => q.psn == p.psn) = true) := by
  rintro (hold | hcopy)
  · exact absurd hold (Nat.not_le.mpr hnear)
  · rw [hnew] at hcopy
    cases hcopy

section
variable (hahead : 0 < psnAfter p.psn r.next) (hnear : psnAfter p.psn r.next < 2 ^ 31) (hnew : (r.held.any fun q => q.psn == p.psn) = false)
include hahead hnear hnew

/-- A new packet ahead of the next one is held within the reorder window. -/
theorem RxClass.accept_of_ahead {window : Nat} (hwindow : psnAfter p.psn r.next < window) (time : Nat) : r.accept p window time =
    ({ r with ce := r.ce || p.ce, ackSince := some (r.ackSince.getD time), held := r.held ++ [p], fresh := r.fresh + 1, gapSince := some (r.gapSince.getD time) }, false) := by
  simp only [RxClass.accept, if_neg (Nat.ne_of_gt hahead), if_neg (not_behind_or_held hnear hnew), if_pos hwindow]

theorem RxClass.accept_of_beyond {window : Nat} (hbeyond : window ≤ psnAfter p.psn r.next) (time : Nat) : (r.accept p window time).2 = true := by
  simp only [RxClass.accept, if_neg (Nat.ne_of_gt hahead), if_neg (not_behind_or_held hnear hnew), if_neg (Nat.not_lt.mpr hbeyond)]

end

end

/-! ### What a class has accepted (R252, R253) -/

/-- A packet within the window: what its class has accepted is applied as far as order allows, and acknowledged where that is due. -/
theorem Dev.recvData_of_accepted {d e : Dev} {key : Nat} {x : Session} {p : Packet} {r : RxClass × Bool} (hr : r = (x.rxc p.cls).accept p (d.obj 0x3100 6) d.time)
    (hwithin : r.2 = false) (he : e = Dev.drainRx key p.cls (r.1.stalled.length + 1) (d.leaveIdle.setSession key { x with rx := tblSet x.rx p.cls r.1 })) :
    d.recvData key x p = (e.ackFull key p.cls).retry := by
  subst hr
  simp only [Dev.recvData, hwithin, Bool.false_eq_true, if_false, ← he]
  rfl

section
variable {e : Dev} {key cls : Nat} {y : Session} (hleft : e.session key = some y)
include hleft

theorem Dev.ackFull_of_few (hfew : (y.rxc cls).fresh < 16) : e.ackFull key cls = e := by
  simp only [Dev.ackFull, hleft, if_neg (Nat.not_le.mpr hfew)]

theorem Dev.ackFull_of_many (hmany : 16 ≤ (y.rxc cls).fresh) : e.ackFull key cls = e.sendAck key cls := by
  simp only [Dev.ackFull, hleft, if_pos hmany]

/-- One packet applied, the drain goes on with those behind it. -/
theorem Dev.drainRx_applies {d : Dev} {x : Session} {p : Packet} {rest : List Packet} (hsession : d.session key = some x) (hwaits : (x.rxc cls).stalled = p :: rest)
    (happly : d.applyPkt key { x with rx := tblSet x.rx cls { x.rxc cls with stalled := rest } } p = some e) (hrest : (y.rxc cls).stalled = rest) (fuel : Nat) :
    Dev.drainRx key cls (fuel + 1) d = Dev.drainRx key cls fuel (e.setSession key y) := by
  have hfewer : ¬rest = p :: rest := (List.cons_ne_self p rest).symm
  simp only [Dev.drainRx, hsession, hwaits, happly, hleft, hrest, if_neg hfewer]

end

/-- Settles O32: every row of a DATA operation receives its packet; what the class then accepts and applies follows from the packet's place in PSN order. -/
theorem packetsAreAccepted : Obligations.PacketsAreAccepted := by
  refine ⟨fun s p x t hport hhalf h htype ht => ?rows, fun d key x p r hr hwithin => ?received, fun r p w time hnext hheld => RxClass.accept_of_next hnext hheld w time,
    fun r p w time hahead hnear hnew => ⟨fun hwindow => RxClass.accept_of_ahead hahead hnear hnew hwindow time, fun hbeyond => RxClass.accept_of_beyond hahead hnear hnew hbeyond time⟩,
    fun d key cls fuel x y p rest e hsession hwaits happly hleft hrest => Dev.drainRx_applies hleft hsession hwaits happly hrest fuel⟩
  case rows =>
    subst ht
    have hunits := units_exist hport hhalf
    have hdata : ∀ op, p.op = op → s.dev.dataRow p op = _ := fun op => Dev.dataRow_receives h htype
    have hstep : ∀ kind, p.op = 0x40 → stepKind p = kind → s.dev.stepRow p kind = _ := fun kind => Dev.stepRow_receives h htype
    exact ⟨fun hop => exec_of_onDev (exec_gezalWrite p s) hunits (hdata _ hop), fun hop => exec_of_onDev (exec_gezalRead p s) hunits (hdata _ hop),
      fun hop => exec_of_onDev (exec_gezalReadResp p s) hunits (hdata _ hop), fun hop => exec_of_onDev (exec_gezalDone p s) hunits (hdata _ hop),
      fun hop => exec_of_onDev (exec_gezalConvey p s) hunits (hdata _ hop), fun hop => exec_of_onDev (exec_gezalCredit p s) hunits (hdata _ hop),
      fun hop => exec_of_onDev (exec_gezalArrive p s) hunits (hdata _ hop), fun hop => exec_of_onDev (exec_gezalArriveAck p s) hunits (hdata _ hop),
      fun hop => exec_of_onDev (exec_gezalRelease p s) hunits (hdata _ hop), fun hop => exec_of_onDev (exec_gezalPoisonBarrier p s) hunits (hdata _ hop),
      fun hop => exec_of_onDev (exec_gezalCollect p s) hunits (hdata _ hop), fun hop => exec_of_onDev (exec_gezalMirror p s) hunits (hdata _ hop),
      fun hop => exec_of_onDev (exec_gezalNodeStatus p s) hunits (hdata _ hop), fun hop hkind => exec_of_onDev (exec_gezalVote p s) hunits (hstep _ hop hkind),
      fun hop hkind => exec_of_onDev (exec_gezalOutcome (some p) s) rfl (hstep _ hop hkind), fun hop hkind => exec_of_onDev (exec_gezalHeartbeat p s) hunits (hstep _ hop hkind),
      fun hop hkind => exec_of_onDev (exec_gezalTakeover p s) hunits (hstep _ hop hkind), fun hop hkind => exec_of_onDev (exec_gezalReconcile p s) hunits (hstep _ hop hkind)⟩
  case received =>
    refine ⟨_, rfl, fun y hleft hfew => ?_, fun y hleft hmany => ?_⟩
    · rw [Dev.recvData_of_accepted hr hwithin rfl, Dev.ackFull_of_few hleft hfew]
    · rw [Dev.recvData_of_accepted hr hwithin rfl, Dev.ackFull_of_many hleft hmany]

end Sys2Proof.Machine
end

section
/-! Proofs of the statement of chapter 09 on acknowledgements: what ACK and NACK do in their session, transit, the timers of a class and those of a mooring pair. -/

namespace Sys2Proof.Machine

/-! ### ACK and NACK (R253, R254) -/

section
variable {s : State} {p : Packet} {x : Session} {d : Dev} (hunits : (decide (p.port < 20) && decide (p.half < 2)) = true) (h : PacketFor s.dev p x)
include hunits h

theorem gezalNack_repeats (htype : p.typ = 2) : exec (.gezalNack p) s =
    .next (s.withDev (((s.dev.rxFrame p.port).covered p.session x p.cls p.ackPsn 0 none false).resend p.session p.cls (field p.addr 31 0))) :=
  exec_of_onDev (exec_gezalNack p s) hunits ((if_pos htype).trans (gezalIn_for h _))

section
variable (htype : p.typ = 1) (hd : d = (s.dev.rxFrame p.port).covered p.session x p.cls p.ackPsn (field p.addr 31 0) (some (field p.addr 47 32)) p.ceEcho)
include htype hd

theorem gezalAck_in_open (hopen : x.state = 1) : exec (.gezalAck p) s = .next (s.withDev (d.pushClass p.session p.cls).retry) := by
  subst hd
  refine exec_of_onDev (exec_gezalAck p s) hunits ((if_pos htype).trans ((gezalIn_for h _).trans ?_))
  simp only [Dev.onAck, hopen, Nat.reduceBEq, Bool.false_eq_true, if_false]

/-- The first ACK opens the session at its initiator (R441). -/
theorem gezalAck_opens {y : Session} (hwaits : x.state = 0) (hleft : (d.pushClass p.session p.cls).session p.session = some y) :
    exec (.gezalAck p) s = .next (s.withDev ((d.pushClass p.session p.cls).sessionOpens p.session y).admitAll.retry) := by
  subst hd
  refine exec_of_onDev (exec_gezalAck p s) hunits ((if_pos htype).trans ((gezalIn_for h _).trans ?_))
  simp only [Dev.onAck, hwaits, BEq.rfl, if_true, hleft]

end

end

theorem ackCovers_upTo {ack psn : Nat} (bitmap : Nat) (hupTo : psnAfter ack psn < 2 ^ 31) : ackCovers ack bitmap psn = true := by
  rw [ackCovers, decide_eq_true hupTo, Bool.true_or]

/-! ### Transit (R257) -/

/-- A packet for another rank of the basin that came by a basin port finds a direct port or half up. -/
theorem Dev.transit_forwards {d e : Dev} {p : Packet} {u : Nat} (hfar : p.dst ≠ d.rank) (htype : p.typ ≠ 3) (hruns : d.pwr.offKind = 0) (hroom : d.takesIn p = true)
    (he : e = d.rxFrame p.port) (hframe : p.frameOk = true) (hrole : e.role p.port p.half = 1) (hstate : (e.half p.port p.half).state = 4)
    (hbasin : e.inBasin p.dst = true) (hsafe : e.safe = false) (hunit : e.directUnit (p.dst % 8) 0 = some u) :
    d.transit p = (e.emit u p [] none).bump 0x3100 0x0E 1 := by
  subst he
  have hcomes : ¬(p.dst = d.rank ∨ p.typ = 3 ∨ d.pwr.offKind ≠ 0 ∨ d.takesIn p = false) := by simp [hfar, htype, hruns, hroom]
  have hsound : ¬(p.frameOk = false ∨ (d.rxFrame p.port).role p.port p.half ≠ 1 ∨ ((d.rxFrame p.port).half p.port p.half).state ≠ 4) := by simp [hframe, hrole, hstate]
  simp only [Dev.transit, if_neg hcomes, if_neg hsound, hbasin, hsafe, Bool.false_and, Bool.not_false, Bool.and_self, if_true, hunit]

/-! ### Timers of a class (R253, R254) -/

section
variable {d : Dev} {key cls t : Nat} {x : Session} (hsession : d.session key = some x) (hopen : x.state = 1)
include hsession hopen

theorem Dev.ackTimer_acks (hsince : (x.rxc cls).ackSince = some t) (hdue : t + 1000 ≤ d.time ∨ 16 ≤ (x.rxc cls).fresh) : d.ackTimer key cls = d.sendAck key cls := by
  simp only [Dev.ackTimer, hsession, hsince, if_pos (And.intro hopen hdue)]

theorem Dev.gapExpires_nacks (hsince : (x.rxc cls).gapSince = some t) (hdue : t + d.gapWait x.peer ≤ d.time) : d.gapExpires key cls = d.sendNack key cls := by
  simp only [Dev.gapExpires, hsession, hsince, if_pos (And.intro hopen hdue)]

end

/-! ### The mooring pair (R330, R332) -/

theorem Dev.heartbeat_sends {d : Dev} (hpartner : d.partner ≠ 0xFFFF) (hmode : d.moorMode ≠ 0) (hpair : d.pairState ≤ 1) (hsafe : d.safe = false)
    (hdue : d.net.heartbeatSent + 100000 ≤ d.time) : d.heartbeat =
      ({ d with net := { d.net with heartbeatSent := d.time } } : Dev).sendTo none d.partner { cls := clCtl, op := 0x40, addr := stepAddr 2 0 0 0 0 } := by
  have hmoored : ¬(d.partner = 0xFFFF ∨ d.moorMode = 0 ∨ 1 < d.pairState ∨ d.safe = true ∨ d.time < d.net.heartbeatSent + 100000) := by
    rintro (hnone | hoff | hbroken | hunsafe | hsoon)
    · exact hpartner hnone
    · exact hmode hoff
    · exact absurd hpair (Nat.not_le.mpr hbroken)
    · rw [hsafe] at hunsafe
      cases hunsafe
    · exact absurd hdue (Nat.not_le.mpr hsoon)
  rw [Dev.heartbeat, if_neg hmoored]

/-- Settles O34: packets by what their session takes them for, timers by what has come due. -/
theorem acknowledgementsAndTheirTimersHappen : Obligations.AcknowledgementsAndTheirTimersHappen := by
  refine ⟨fun s p x d hport hhalf h htype hd => ⟨gezalAck_in_open (units_exist hport hhalf) h htype hd, fun y => gezalAck_opens (units_exist hport hhalf) h htype hd⟩,
    fun s p x hport hhalf h => gezalNack_repeats (units_exist hport hhalf) h, fun ack bitmap psn => ackCovers_upTo bitmap,
    fun s p d u hport hhalf hfar htype hruns hd hframe hroom hrole hstate hbasin hsafe hunit => ?transit,
    fun s key cls x t hcls hsession hsince hopen hdue => ?acks, fun s key cls x t hcls hsession hsince hopen hdue => ?nacks,
    fun s hpartner hmode hpair hsafe hdue => ?heartbeat, fun s hpair hreach hdue => ?loss, fun s ctx hctx => mirrorSync_steps hctx, fun s => ?outcome⟩
  case transit =>
    exact exec_of_onDev (exec_transitForward p s) (units_exist hport hhalf)
      (Dev.transit_forwards hfar htype hruns hroom hd hframe hrole hstate hbasin hsafe hunit)
  case acks => exact exec_of_onDev (exec_ackTimer key cls s) (decide_eq_true hcls) (Dev.ackTimer_acks hsession hopen hsince hdue)
  case nacks => exact exec_of_onDev (exec_gapWaitExpiry key cls s) (decide_eq_true hcls) (Dev.gapExpires_nacks hsession hopen hsince hdue)
  case heartbeat => exact exec_of_onDev (exec_heartbeatTimer s) rfl (Dev.heartbeat_sends hpartner hmode hpair hsafe hdue)
  case loss => exact exec_of_onDev (exec_heartbeatLoss s) rfl (if_pos ⟨hpair, hreach, hdue⟩)
  case outcome => exact exec_of_onDev (exec_gezalOutcome none s) rfl rfl

end Sys2Proof.Machine
end

section
/-! Proofs of the statement of chapter 09 on discovery: the state that each port or half takes by light, lock, HELLO and its time limits. -/

namespace Sys2Proof.Machine

/-! ### Locks and limits (R239, R271, R272) -/

/-- A whole port locks on both halves, with all lanes good. -/
theorem Dev.locks_whole {d : Dev} {port : Nat} (hwhole : d.splitPort port = false) (half : Nat) :
    d.locks port half = ((d.setHalves port 3).setPort port { d.portSt port with failed := 0, spared := 0, broken := 0 }).identify port half := by
  simp only [Dev.locks, hwhole, Bool.false_eq_true, if_false]

section
variable {d : Dev} {port half : Nat} (hstate : (d.half port half).state = 3)
include hstate

/-- A basin port that heard no HELLO for 300 ms has a neighbour of another kind, or none. -/
theorem Dev.identified_basin (hrole : d.role port half = 1) (hlate : (d.half port half).since + 300000000 ≤ d.time) :
    d.identified port half = if (d.half port half).lldpSeen then d.foreign port half else d.toState port half 5 := by
  simp only [Dev.identified, if_neg (not_not_intro hstate), if_pos hrole, if_neg (Nat.not_lt.mpr hlate)]

theorem Dev.identified_roadstead (hrole : d.role port half ≠ 1) (hlate : (d.half port half).since + 100000000 ≤ d.time) : d.identified port half = d.toState port half 4 := by
  simp only [Dev.identified, if_neg (not_not_intro hstate), if_neg hrole, if_neg (Nat.not_lt.mpr hlate)]

end

section
variable {d : Dev} {port half : Nat} (hlate : (d.half port half).since + 1000000000 ≤ d.time)
include hlate

theorem Dev.retryPort_of_absent (hstate : (d.half port half).state = 5) : d.retryPort port half = d.toState port half 1 := by
  simp only [Dev.retryPort, if_neg (Nat.not_lt.mpr hlate), if_pos hstate]

/-- A DOWN port tries to retrain and stays DOWN (log 100). -/
theorem Dev.retryPort_of_down (hstate : (d.half port half).state = 8) :
    d.retryPort port half = d.setHalf port half { d.half port half with since := d.time, retried := true } := by
  have hlit : ¬(d.half port half).state = 5 := by rw [hstate]; decide
  simp only [Dev.retryPort, if_neg (Nat.not_lt.mpr hlate), if_neg hlit, if_pos hstate]

end

/-! ### HELLO (R265, R272) -/

/-- A half with what a HELLO tells of its neighbour. -/
def PortHalf.heard (h : PortHalf) (p : Packet) (same : Bool) : PortHalf :=
  { h with peerRank := helloRank p, peerPort := helloPort p, peerHash := some (helloHash p), hashSame := same, helloSeen := true }

/-- A port being identified decides by what the plan expects of its neighbour. -/
theorem Dev.hello_identifies {d e : Dev} {p : Packet} {u : Nat} {h : PortHalf} (hu : u = d.unit p.port p.half) (hh : h = d.half p.port u) (hstate : h.state = 3)
    (he : e = (d.setHalf p.port u (h.heard p (d.planAgrees (helloHash p)))).setBlob (0x3010 + p.port) 6 (slice p.payload 22 32)) :
    d.hello p =
      if d.role p.port u = 1 ∧ helloBasin p = planBasinId e.plan ∧ helloMid p = entryMid (planEntry d.plan p.port) u ∧ helloPort p = entryPort (planEntry d.plan p.port) u then
        e.toState p.port u 4
      else e.foreign p.port u := by
  subst hu hh he
  exact if_pos hstate

/-- Settles O36: each row does its step where the port stands as the step asks. -/
theorem portsAreDiscovered : Obligations.PortsAreDiscovered := by
  refine ⟨fun s port half hport hhalf hruns hdark => ?dark, fun s port half hport hhalf hruns hlinking => ?linking, fun d port half hwhole => Dev.locks_whole hwhole half,
    fun s port half hport hhalf hruns hstate => ?identifying, fun s p d hport hhalf hruns htype hd hheader hfits hstate => ?hello,
    fun d p h u e hu hh hstate he => ?decides, fun s port half hport hhalf hruns hlate hstate => ?absent, fun s port half hport hhalf hruns hlate hstate => ?down⟩
  case dark =>
    have hunits := units_exist hport hhalf
    exact ⟨exec_of_netRow (exec_lightDetect port half s) hunits hruns (if_pos hdark),
      fun hlate => exec_of_netRow (exec_darkTimeout port half s) hunits hruns (if_pos ⟨hdark, hlate⟩)⟩
  case linking =>
    have hunits := units_exist hport hhalf
    exact ⟨exec_of_netRow (exec_pcsFecLock port half s) hunits hruns (if_pos (.inl hlinking)),
      fun hlate => exec_of_netRow (exec_linkingTimeout port half s) hunits hruns (if_pos ⟨hlinking, hlate⟩)⟩
  case identifying =>
    have hrow : ∀ {e}, s.dev.identified port half = e → _ := exec_of_netRow (exec_identifyingTimeout port half s) (units_exist hport hhalf) hruns
    exact ⟨fun hrole hlate => ⟨fun hseen => hrow ((Dev.identified_basin hstate hrole hlate).trans (if_pos hseen)),
        fun hnone => hrow ((Dev.identified_basin hstate hrole hlate).trans (if_neg (ne_true_of_eq_false hnone)))⟩,
      fun hrole hlate => hrow (Dev.identified_roadstead hstate hrole hlate)⟩
  case hello =>
    subst hd
    exact gezalHello_heard (units_exist hport hhalf) hruns hheader htype hfits hstate
  case decides =>
    rw [Dev.hello_identifies hu hh hstate he]
    exact ⟨fun hrole hbasin hmid hport => if_pos ⟨hrole, hbasin, hmid, hport⟩, fun hother => if_neg fun ⟨hrole, hbasin, hmid, hport⟩ =>
      hother.elim (· hrole) (·.elim (· hbasin) (·.elim (· hmid) (· hport)))⟩
  case absent => exact exec_of_netRow (exec_portRetry port half s) (units_exist hport hhalf) hruns (Dev.retryPort_of_absent hlate hstate)
  case down => exact exec_of_netRow (exec_portRetry port half s) (units_exist hport hhalf) hruns (Dev.retryPort_of_down hlate hstate)

end Sys2Proof.Machine
end

section
/-! Proofs of the statement of chapter 09 on neighbours: what a port sends when it is due, and what it takes of frames outside Gezal. -/

namespace Sys2Proof.Machine

/-! ### HELLO (R265) -/

theorem Dev.sendHello_sends {d : Dev} {port half : Nat} {h : PortHalf} (hh : h = d.half port half) (hrole : d.role port half = 1) (hstate : [3, 4, 6].contains h.state = true)
    (hlate : h.lastHello + (if h.state = 3 then 10000000 else 1000000000) ≤ d.time) :
    d.sendHello port half = (d.setHalf port half { h with lastHello := d.time }).emit (2 * port + half)
      { port := port, half := half, typ := 3, cls := clCtl, enc := false, src := d.rank, payload := d.helloBytes port half } [] none := by
  subst hh
  refine if_neg ?_
  rintro (hother | hsilent | hsoon)
  · exact hother hrole
  · rw [hstate] at hsilent
    cases hsilent
  · exact absurd hlate (Nat.not_le.mpr hsoon)

/-! ### Requests for the port's own address (R244) -/

section
variable {d : Dev} {port : Nat} (hlit : d.litPort port = true)
include hlit

theorem Dev.answer_answers (kind : Nat) (data : List Byte) (hcarries : (d.rxFrame port).carrying port = true) : d.answer port kind true data =
    ((d.rxFrame port).send (.frame port kind ((d.rxFrame port).answerBytes port kind data))).bump (0x3010 + port) 0x0F 1 := by
  simp only [Dev.answer, if_pos hlit, hcarries, Bool.and_self, if_true]

theorem Dev.answer_discards (kind : Nat) (data : List Byte) : d.answer port kind false data = (d.rxFrame port).discardFrame port := by
  simp only [Dev.answer, if_pos hlit, Bool.false_and, Bool.false_eq_true, if_false]

end

/-! ### The slave clock (R276, R427) -/

/-- A message of the master of PTP_PORT's clock. -/
theorem ptpMessage_takes {s : State} {port : Nat} {m : PtpMsg} {d : Dev} (hport : port < 20) (hlit : s.dev.litPort port = true) (hd : d = s.dev.rxFrame port)
    (hnamed : d.obj 0x3000 0x0A = port) (hcarries : d.carrying port = true) (hdomain : m.domain = d.obj 0x3000 0x0B) (hfits : m.fits = true) :
    exec (.ptpMessage port true m) s = .next (s.withDev (({ d with net := { d.net with ptpMaster := some port } } : Dev).ptpTakes port m)) := by
  subst hd
  have hmine : ¬((s.dev.rxFrame port).obj 0x3000 0x0A ≠ port ∨ (s.dev.rxFrame port).carrying port = false) := by
    rw [hnamed, hcarries]
    simp
  exact exec_of_onDev (exec_ptpMessage port true m s) (decide_eq_true hport)
    ((if_neg (ne_false_of_eq_true hlit)).trans ((if_neg hmine).trans ((if_neg (not_not_intro hdomain)).trans (if_pos ⟨rfl, hfits⟩))))

section
variable {d : Dev} {port : Nat} {m : PtpMsg}

/-- A Sync of a one-step master is complete at once. -/
theorem Dev.ptpTakes_sync (hkind : m.kind = 1) (hdue : d.ptpDue = true) : d.ptpTakes port m =
    ({ d with net := { d.net with ptpSync := none, ptpTimes := some (m.ns, d.time) } } : Dev).askDelay port :=
  (if_pos hkind).trans (if_pos hdue)

/-- A Delay_Resp to the request that was asked last. -/
theorem Dev.ptpTakes_delay {t1 t2 t3 : Nat} (hkind : m.kind = 4) (hask : d.net.ptpAsk = some (m.seq, t3)) (htimes : d.net.ptpTimes = some (t1, t2)) :
    d.ptpTakes port m = d.ptpDelayKnown t1 t2 t3 m.ns := by
  simp [Dev.ptpTakes, hkind, hask, htimes]

end

section
variable {d : Dev} (t1 t2 t3 t4 : Nat)

/-- The calendar follows the master, and its source is PTP. -/
theorem Dev.ptpDelayKnown_sets (hdue : d.ptpDue = true) :
    (d.ptpDelayKnown t1 t2 t3 t4).calendar = (((t1 : Int) + (((t2 : Int) - t1) + ((t4 : Int) - t3)) / 2 + (d.time - t2 : Nat)) % 2 ^ 64).toNat ∧
      (d.ptpDelayKnown t1 t2 t3 t4).net.lastPtp = some d.time ∧ (d.ptpDelayKnown t1 t2 t3 t4).obj 0xB000 6 = 2 := by
  simp only [Dev.ptpDelayKnown, if_pos hdue]
  refine ⟨rfl, rfl, ?_⟩
  rw [logEvent_obj _ _ _ _ _ _ _ _ _ _ (by decide), Dev.obj_setObj]

theorem Dev.ptpDelayKnown_waits (hsoon : d.ptpDue = false) : (d.ptpDelayKnown t1 t2 t3 t4).calendar = d.calendar := by
  simp only [Dev.ptpDelayKnown, hsoon, Bool.false_eq_true, if_false]

end

/-- Settles O37: what is due is sent, and a frame is taken where its port takes it. -/
theorem neighboursAreHeardAndTold : Obligations.NeighboursAreHeardAndTold := by
  refine ⟨fun s port half h hport hhalf hruns hh hrole hstate hlate => ⟨_, rfl, ?hello⟩,
    fun s port half h hport hhalf hruns hh hlit hlate => lldpSend_sends (units_exist hport hhalf) hruns hh hlit hlate,
    fun s port half data hport hhalf hlit => lldpFrame_notes (units_exist hport hhalf) rfl data hlit, fun s port data hport hlit hcarries => ⟨?neighbour, ?echo, ?other⟩,
    fun s port mac d hport hlit hd hrole hcarries hnew => routerAdvertisement_learns hport hlit hd hcarries hrole hnew,
    fun s port m d hport hlit hd hnamed hcarries hdomain hfits => ptpMessage_takes hport hlit hd hnamed hcarries hdomain hfits,
    fun d port m hkind hdue => Dev.ptpTakes_sync hkind hdue, fun d port m t1 t2 t3 hkind hask htimes => ?delay⟩
  case hello => exact exec_of_netRow (exec_helloSend port half s) (units_exist hport hhalf) hruns (Dev.sendHello_sends hh hrole hstate hlate)
  case neighbour => exact exec_of_onDev (exec_neighbourSolicitation port true data s) (decide_eq_true hport) (Dev.answer_answers hlit 2 data hcarries)
  case echo => exact exec_of_onDev (exec_echoRequest port true data s) (decide_eq_true hport) (Dev.answer_answers hlit 3 data hcarries)
  case other => exact exec_of_onDev (exec_neighbourSolicitation port false data s) (decide_eq_true hport) (Dev.answer_discards hlit 2 data)
  case delay =>
    rw [Dev.ptpTakes_delay hkind hask htimes]
    exact ⟨Dev.ptpDelayKnown_sets t1 t2 t3 m.ns, Dev.ptpDelayKnown_waits t1 t2 t3 m.ns⟩

end Sys2Proof.Machine
end

section
/-! Proofs of the statement of chapter 09 on losses: the notes that a loss of light leaves, retrains of ports that are DOWN, lasers, and planned retrains. -/

namespace Sys2Proof.Machine

/-! ### Losses (R239, R261) -/

section
variable {s : State} {port half : Nat} (hunits : (decide (port < 20) && decide (half < 2)) = true) (hruns : s.dev.pwr.offKind = 0)
include hunits hruns

/-- Light or FEC fails without a lane: the half notes when, and codewords count as corrected or not. -/
theorem lossDetection_counts {u : Nat} (hu : u = s.dev.unit port half) (hstate : [3, 4, 6, 7].contains (s.dev.half port u).state = true)
    (hlost : (s.dev.half port u).lossAt = none) :
    exec (.lossDetection port half false) s = .next (s.withDev (Dev.netAudit s.fuses
      (((s.dev.setHalf port u { s.dev.half port u with lossAt := some s.dev.time }).bumpFree (0x3010 + port) 0x0A).bumpFree (0x3010 + port) 0x0B) s.dev)) := by
  subst hu
  refine exec_of_netRow (exec_lossDetection port half false s) hunits hruns ?_
  simp only [hstate, hlost, Bool.false_eq_true, Bool.true_eq_false, Option.isSome_none, false_and, and_false, if_false]

/-- A whole port that lost lanes of one half comes up on the other (R239). -/
theorem halfRetrain_of_good (hdown : (s.dev.half port 0).state = 8) (hwhole : s.dev.splitPort port = false) (hlost : (s.dev.portSt port).failed ≠ 0)
    (hgood : bit (s.dev.portSt port).failed half = false) :
    exec (.halfRetrain port half) s = .next (s.withDev (Dev.netAudit s.fuses
      (((s.dev.setPort port { s.dev.portSt port with failed := withoutBit (s.dev.portSt port).failed half }).setHalves port (2 ^ half)).identify port 0) s.dev)) :=
  exec_of_netRow (exec_halfRetrain port half s) hunits hruns (if_pos ⟨hdown, hwhole, .inl ⟨hlost, hgood⟩⟩)

end

/-! ### Lasers and planned retrains (R240) -/

/-- A laser that is marked as failed fails no more. -/
theorem Dev.laserFails_of_failed {d : Dev} {engine laser : Nat} (hmarked : d.laserMap engine laser = 0xFE) : d.laserFails engine laser = d := if_pos hmarked

section
variable {d : Dev} {port : Nat} {x : PortSt} (hx : x = d.portSt port)
include hx

/-- A port that runs on one half and has light for both is drained first. -/
theorem Dev.plannedRetrain_drains (hnone : x.draining = none) (hwhole : d.splitPort port = false) (hstate : (d.half port 0).state = 4 ∨ (d.half port 0).state = 7)
    (hone : d.halves port ≠ 3) (hlasers : x.broken = 0) (hfedA : d.halfFed port 0 = true) (hfedB : d.halfFed port 1 = true) :
    d.plannedRetrain port = d.setPort port { x with draining := some d.time } := by
  subst hx
  simp only [Dev.plannedRetrain, hnone]
  exact if_pos ⟨hwhole, hstate, hone, hlasers, hfedA, hfedB⟩

/-- After 1 ms it comes up on both halves, and what is unacknowledged goes by other paths. -/
theorem Dev.plannedRetrain_ends {t : Nat} (hdrains : x.draining = some t) (hlate : t + 1000000 ≤ d.time) :
    d.plannedRetrain port =
      (((d.resendFrom (2 * port)).dropQueue (2 * port)).setPort port { x with draining := none, failed := 0, spared := 0, broken := 0 }).setHalves port 3 := by
  subst hx
  simp only [Dev.plannedRetrain, hdrains]
  exact if_neg fun hwaits => absurd hlate (Nat.not_le.mpr hwaits.2)

end

/-- Settles O38: each loss leaves what its row says, for every port and half that exists. -/
theorem lossesOnPortsAreHandled : Obligations.LossesOnPortsAreHandled := by
  refine ⟨fun s port half l u h hport hhalf hruns hu hh hstate hlost => ⟨_, rfl, ?loss⟩, fun s port half u t hport hhalf hruns hu hlost => ?ends,
    fun s port half hport hhalf hruns hdown hwhole hlost hgood => halfRetrain_of_good (units_exist hport hhalf) hruns hdown hwhole hlost hgood,
    fun s engine laser hengine hlaser hruns => exec_of_netRow (exec_laserFailed engine laser s) (units_exist hengine hlaser) hruns rfl,
    fun d engine laser => Dev.laserFails_of_failed, fun s port x hport hruns hx => ?planned⟩
  case loss =>
    subst hh
    cases l with
    | true => exact lossDetection_notes (units_exist hport hhalf) hruns hu hstate hlost
    | false => exact lossDetection_counts (units_exist hport hhalf) hruns hu hstate hlost
  case ends =>
    have hunits := units_exist hport hhalf
    exact ⟨portDown_goes_down hunits hruns hu hlost, linkGlitch_ends hunits hruns hu hlost⟩
  case planned =>
    have hrow : ∀ {e}, s.dev.plannedRetrain port = e → _ := exec_of_netRow (exec_plannedRetrain port s) (decide_eq_true hport) hruns
    exact ⟨fun hnone hwhole hstate hone hlasers hfedA hfedB => hrow (Dev.plannedRetrain_drains hx hnone hwhole hstate hone hlasers hfedA hfedB),
      fun t hdrains hlate => hrow (Dev.plannedRetrain_ends hx hdrains hlate)⟩

end Sys2Proof.Machine
end

section
/-! Proofs of the statement of chapter 09 on paths: what an RTO repeats or brings down, how PROBEs bring a path back, and what ends a rank. -/

namespace Sys2Proof.Machine

/-! ### Retransmission (R254) -/

/-- The RTO of a kept packet has passed: the sixteenth in a row brings its path down, every other one repeats the packet. -/
theorem Dev.rtoExpires_of_overdue {d : Dev} {key cls psn : Nat} {x : Session} {k : TxPkt} (hsession : d.session key = some x)
    (hkept : ((x.txc cls).kept.find? fun k => k.pkt.psn == psn) = some k) (hopen : x.state ≠ 2) (hlate : k.overdue d.time = true) (hreach : d.reachable x.peer = true) :
    d.rtoExpires key cls psn =
      if 16 ≤ (d.pathSt x.peer k.path).rtoRun + 1 ∧ (d.pathSt x.peer k.path).down = false then d.pathFails x.peer k.path
      else (d.setPath x.peer k.path { d.pathSt x.peer k.path with rtoRun := (d.pathSt x.peer k.path).rtoRun + 1 }).resend key cls psn := by
  have hacts : ¬(x.state = 2 ∨ k.overdue d.time = false ∨ d.reachable x.peer = false) := by simp [hopen, hlate, hreach]
  simp only [Dev.rtoExpires, hsession, hkept, if_neg hacts]

/-! ### Probes (R262) -/

/-- A PROBE of a path declared down leaves by the port or half that the path would take. -/
theorem Dev.probe_sends {d e : Dev} {rank path txn u : Nat} {x : PathSt} (hx : x = d.pathSt rank path) (hdown : x.down = true) (hlate : x.lastProbe + 1000000 ≤ d.time)
    (htxn : txn = (8 * d.time + path) % 2 ^ 64)
    (he : e = d.setPath rank path { x with lastProbe := d.time, probes := (x.probes ++ [(⟨txn, d.time, d.rto rank path, false⟩ : Probe)]).drop (x.probes.length - 63) })
    (hunit : (e.setPath rank path { x with down := false }).outUnit rank path 0 = some u) :
    d.probe rank path = e.emit u { typ := 5, cls := clCtl, enc := false, src := e.rank, dst := rank, txn := txn, path := path } (e.roadPair rank) none := by
  subst hx htxn
  have hdue : ¬((d.pathSt rank path).down = false ∨ d.time < (d.pathSt rank path).lastProbe + 1000000) := by rw [hdown]; simp [hlate]
  simp only [Dev.probe, if_neg hdue, ← he, hunit]

/-- The answer to a PROBE of this module counts on its path, which three in a row bring up. -/
theorem Dev.probed_of_mine {d : Dev} {p : Packet} {i : Nat} {x : PathSt} {qs : List Probe}
    (hmine : ((List.range 8).find? fun i => (d.pathSt p.src i).probes.any fun q => q.txn == p.txn) = some i) (hx : x = d.pathSt p.src i)
    (hqs : qs = x.probes.map fun q => q.answered p.txn d.time) :
    d.probed p = if x.down = true ∧ threeBack qs = true then d.setPath p.src i { x with down := false, rtoRun := 0, probes := qs } else d.setPath p.src i { x with probes := qs } := by
  subst hx hqs
  simp only [Dev.probed, hmine]

/-- How many PROBEs in a row have come back, three for any number from three on. -/
def backRun (n : Nat) (q : Probe) : Nat := if 3 ≤ n then n else if q.back then n + 1 else 0

theorem threeBack_eq (qs : List Probe) : threeBack qs = decide (3 ≤ qs.foldl backRun 0) := rfl

/-- A run of three stays one. -/
theorem backRun_of_three {n : Nat} (hthree : 3 ≤ n) (q : Probe) : backRun n q = n := if_pos hthree

/-- A PROBE that came back lengthens a shorter run. -/
theorem backRun_of_back {q : Probe} (hback : q.back = true) (n : Nat) : min 3 (n + 1) ≤ backRun n q := by
  unfold backRun
  split
  · omega
  · exact min_le_right _ _

theorem foldl_backRun_of_three (qs : List Probe) {n : Nat} (hthree : 3 ≤ n) : 3 ≤ qs.foldl backRun n := by
  induction qs with
  | nil => exact hthree
  | cons q qs ih =>
    rw [List.foldl_cons, backRun_of_three hthree]
    exact ih

theorem threeBack_of_three {a b c : Probe} (ha : a.back = true) (hb : b.back = true) (hc : c.back = true) (before after : List Probe) :
    threeBack (before ++ [a, b, c] ++ after) = true := by
  rw [threeBack_eq, decide_eq_true_eq, List.foldl_append, List.foldl_append]
  refine foldl_backRun_of_three after ?_
  have hfirst := backRun_of_back ha (before.foldl backRun 0)
  have hsecond := backRun_of_back hb (backRun (before.foldl backRun 0) a)
  have hthird := backRun_of_back hc (backRun (backRun (before.foldl backRun 0) a) b)
  simp only [List.foldl_cons, List.foldl_nil]
  omega

theorem Probe.answered_back (q : Probe) (txn time : Nat) : (q.answered txn time).back = true ↔ q.back = true ∨ (q.txn = txn ∧ time ≤ q.at_ + q.rto) := by
  by_cases hcounts : q.txn = txn ∧ time ≤ q.at_ + q.rto
  · rw [Probe.answered, if_pos hcounts]
    exact iff_of_true rfl (.inr hcounts)
  · rw [Probe.answered, if_neg hcounts, or_iff_left hcounts]

/-- Settles O39: an RTO repeats or fails, answers to PROBEs are counted on their path, and a limit or a rank moves when its time has come. -/
theorem pathsFailAndReturn : Obligations.PathsFailAndReturn := by
  refine ⟨fun s key cls psn x k hcls hruns hsession hkept hopen hlate hreach => ?rto,
    fun s rank path x txn e u hrank hpath hruns hx hdown hlate htxn he hunit => ?probe,
    fun s p d hport hhalf hruns htype hhere hd hheader hcarries => ?probed, fun d p i x qs hmine hx hqs => ?back,
    fun a b c ha hb hc l m => threeBack_of_three ha hb hc l m, Probe.answered_back,
    fun s rank path x hrank hpath hx hlate hlimited => rateRaiseTimer_raises (units_exist hrank hpath) hx hlate hlimited,
    fun s rank t hrank hruns hlost hlate => ?lost⟩
  case rto =>
    have hrow : ∀ {e}, s.dev.rtoExpires key cls psn = e → _ := exec_of_netRow (exec_rtoExpiry key cls psn s) (decide_eq_true hcls) hruns
    have hexpires := Dev.rtoExpires_of_overdue hsession hkept hopen hlate hreach
    exact ⟨fun hfew => hrow (hexpires.trans (if_neg fun hmany => by omega)), fun hmany hup => hrow (hexpires.trans (if_pos ⟨by omega, hup⟩))⟩
  case probe => exact exec_of_netRow (exec_probeTimer rank path s) (units_exist hrank hpath) hruns (Dev.probe_sends hx hdown hlate htxn he hunit)
  case probed =>
    subst hd
    exact gezalProbe_answers (units_exist hport hhalf) hruns hheader hhere hcarries htype
  case back =>
    rw [Dev.probed_of_mine hmine hx hqs]
    exact ⟨fun hdown hthree => if_pos ⟨hdown, hthree⟩, fun hnot => if_neg fun ⟨hdown, hthree⟩ =>
      hnot.elim (ne_false_of_eq_true hdown) (ne_false_of_eq_true hthree)⟩
  case lost => exact exec_of_netRow (exec_pathLostTimer rank s) (decide_eq_true hrank) hruns (by simp only [hlost, if_pos hlate])

end Sys2Proof.Machine
end

section
/-! Proofs of the statement of chapter 09 on what leaves a port: control packets within their share, then the classes in turn. -/

namespace Sys2Proof.Machine

/-! ### The queues of the classes (R258) -/

theorem PortQ.classQ_setClass_same (q : PortQ) (c : Nat) (es : List QPkt) : (q.setClass c es).classQ c = es := by
  by_cases hc : c = 3
  · simp only [PortQ.setClass, PortQ.classQ, if_pos hc]
  · simp only [PortQ.setClass, PortQ.classQ, if_neg hc, tblGet_set_same]

theorem PortQ.classQ_setClass_other {q : PortQ} {c k : Nat} (hk : k ≠ c) (es : List QPkt) : (q.setClass c es).classQ k = q.classQ k := by
  by_cases hc : c = 3
  · simp only [PortQ.setClass, PortQ.classQ, if_pos hc, if_neg (hc ▸ hk)]
  · simp only [PortQ.setClass, PortQ.classQ, if_neg hc, tblGet_set_other _ _ _ _ _ hk]

/-- The queue of a packet's class loses that packet and every other queue stays. -/
def PortQ.Loses (q q' : PortQ) (c : Nat) (e : QPkt) : Prop :=
  e ∈ q.classQ c ∧ q'.classQ c = (q.classQ c).erase e ∧ ∀ k, k ≠ c → q'.classQ k = q.classQ k

theorem PortQ.loses_setClass {q : PortQ} {c : Nat} {e : QPkt} (hwaits : e ∈ q.classQ c) : q.Loses (q.setClass c ((q.classQ c).erase e)) c e :=
  ⟨hwaits, q.classQ_setClass_same c _, fun _ hk => classQ_setClass_other hk _⟩

/-- Each turn of the round leaves a packet that may leave, out of one of the three classes; the turns before it move no queue, and none counts control bytes. -/
theorem drr_some {ok : QPkt → Bool} {fuel : Nat} {q q' : PortQ} {e : QPkt} (hturn : q.turn < 3) (hsent : drr ok fuel q = some (e, q')) :
    ok e = true ∧ (∃ c, c < 3 ∧ q.Loses q' c e) ∧ q'.ctlSent = q.ctlSent := by
  induction fuel generalizing q with
  | zero => cases hsent
  | succ fuel ih =>
    have hnext : (q.turn + 1) % 3 < 3 := Nat.mod_lt _ (by decide)
    simp only [drr] at hsent
    split at hsent
    · exact ih (q := { q with turn := (q.turn + 1) % 3, deficit := _ }) hnext hsent
    · next e' hfound =>
      split at hsent
      · obtain ⟨rfl, rfl⟩ := Prod.mk.inj (Option.some.inj hsent)
        refine ⟨List.find?_some hfound, ⟨q.turn, hturn, PortQ.loses_setClass (List.mem_of_find?_eq_some hfound)⟩, ?_⟩
        rw [PortQ.setClass, if_neg (Nat.ne_of_lt hturn)]
      · exact ih (q := { q with turn := (q.turn + 1) % 3, deficit := _ }) hnext hsent

/-! ### Control packets (R258) -/

/-- The control frames that a port sent within the last 10 µs. -/
def PortQ.recentCtl (q : PortQ) (time : Nat) : List (Nat × Nat) := q.ctlSent.filter fun x => decide (time < x.1 + 10000)

/-- The bytes of control frames of the last 10 µs. -/
def PortQ.ctlBytes (q : PortQ) (time : Nat) : Nat := ((q.recentCtl time).map Prod.snd).sum

/-- The queues once a control packet has left. -/
def PortQ.ctlOut (q : PortQ) (time : Nat) (e : QPkt) : PortQ :=
  { q with ctl := q.ctl.erase e, ctlSent := q.recentCtl time ++ [(time, frameCost e.pkt e.wire)] }

/-- The packet that leaves counts among the bytes of its own 10 µs. -/
theorem PortQ.ctlBytes_ctlOut (q : PortQ) (time : Nat) (e : QPkt) : (q.ctlOut time e).ctlBytes time = q.ctlBytes time + frameCost e.pkt e.wire := by
  simp [ctlBytes, recentCtl, ctlOut, List.filter_filter]

theorem Dev.nextOut_control {d : Dev} {u : Nat} {q : PortQ} {e : QPkt} (hfirst : q.ctl.find? d.mayLeave = some e)
    (hshare : q.ctlBytes d.time + frameCost e.pkt e.wire ≤ 500 * d.lineRate u) : d.nextOut u q = some (e, q.ctlOut d.time e) := by
  simp only [Dev.nextOut, hfirst]
  exact if_pos hshare

/-- What a port sends next is control within its share, or the next of the other classes. -/
theorem Dev.nextOut_cases (d : Dev) (u : Nat) (q : PortQ) :
    (∃ e, q.ctl.find? d.mayLeave = some e ∧ q.ctlBytes d.time + frameCost e.pkt e.wire ≤ 500 * d.lineRate u ∧ d.nextOut u q = some (e, q.ctlOut d.time e)) ∨
      d.nextOut u q = drr d.mayLeave 4 q := by
  cases hfirst : q.ctl.find? d.mayLeave with
  | none => exact .inr (by simp only [Dev.nextOut, hfirst])
  | some e =>
    by_cases hshare : q.ctlBytes d.time + frameCost e.pkt e.wire ≤ 500 * d.lineRate u
    · exact .inl ⟨e, rfl, hshare, nextOut_control hfirst hshare⟩
    · refine .inr ?_
      simp only [Dev.nextOut, hfirst]
      exact if_neg hshare

/-- Settles O60: a packet leaves as control within its share, or in the turn of its class. -/
theorem controlLeavesFirstWithinItsShare : Obligations.ControlLeavesFirstWithinItsShare := by
  refine ⟨fun d u q e hfirst hshare => ⟨_, Dev.nextOut_control hfirst hshare, rfl, rfl⟩, fun d u q q' e hturn hsent => ?_⟩
  rcases d.nextOut_cases u q with ⟨c, hfirst, hshare, hout⟩ | hout
  case inl =>
    obtain ⟨rfl, rfl⟩ := Prod.mk.inj (Option.some.inj (hout.symm.trans hsent))
    refine ⟨List.find?_some hfirst, 3, by decide, List.mem_of_find?_eq_some hfirst, rfl, fun k _ hk => ?_, fun _ => ?_, fun hne => absurd rfl hne⟩
    · simp only [PortQ.classQ, PortQ.ctlOut, if_neg hk]
    · exact (q.ctlBytes_ctlOut d.time c).trans_le hshare
  case inr =>
    obtain ⟨hmay, ⟨c, hc, hwaits, hleft, hothers⟩, hctl⟩ := drr_some hturn (hout.symm.trans hsent)
    exact ⟨hmay, c, by omega, hwaits, hleft, fun k _ hk => hothers k hk, fun hthree => absurd hthree (Nat.ne_of_lt hc), fun _ => hctl⟩

end Sys2Proof.Machine
end

section
/-! Proof of the statement on what the module's objects hold after reset. -/

namespace Sys2Proof.Machine

/-- Settles O51: the objects of the empty tables read as their defaults. -/
theorem resetHoldsTheStatedValues : Obligations.ResetHoldsTheStatedValues := by
  unfold Obligations.ResetHoldsTheStatedValues
  decide

end Sys2Proof.Machine
end

section
/-! Proofs of the statement of chapter 12 on bundles, roles and the life cycle: what staging, activation, the rollback floor, role proofs and transitions do once granted. -/

namespace Sys2Proof.Machine

/-! ### What a granted request leads to -/

section
variable {s : State} {q : ManifestReq} {row : ManifestRow} {r : ObjRow} {i : Instr} {d : Dev}

/-- A granted request of a row, where the reply is not all that the row does. -/
theorem onReq_then_yes (h : Passes s q row r) (hi : wellFormed i = true) {run : Fuses → ObjRow → Dev → Answer} (g : Dev × Nat → Dev)
    (ha : run s.fuses r (s.opened q) = d.yes) : onReq i q (fun f d => g (Dev.onRow f d q row (run f))) s = .next (s.withDev (g (d.replied q, rcOK))) := by
  obtain ⟨_, hchecked⟩ := h
  rw [onReq_first hchecked.first, onDevF_runs hi, onRow_yes ⟨_, hchecked⟩ _ ha]

end

/-! ### The rollback floor (R435) -/

/-- A floor that may rise is burned, and nothing else of the fuses. -/
theorem raiseFloor_burns {s : State} {q : ManifestReq} {r : ObjRow} (h : Passes s q .raiseFloor r) (hok : Dev.floorOk s.fuses (s.opened q) (reqValue q) = true)
    (hrange : outside r (reqValue q) = false) :
    exec (.raiseFloor q) s = .next { s with fuses := { s.fuses with floor := reqValue q }, dev := (Dev.floorRaised s.fuses (s.opened q)).replied q } := by
  obtain ⟨_, hchecked⟩ := id h
  rw [exec_raiseFloor, execRaiseFloor, onFuses_runs (show wellFormed (.raiseFloor q) = true from rfl)]
  simp only [hchecked.first, Bool.false_eq_true, if_false]
  rw [onRow_yes (d := Dev.floorRaised s.fuses (s.opened q)) h _ ?_, if_pos rfl]
  rw [hok, hrange, if_neg Bool.noConfusion, if_neg Bool.false_ne_true]

/-! ### Role proofs (R445, R447) -/

section
variable {f : Fuses} {d : Dev} {q : ManifestReq} (hzero : leNat (slice q.data 1 3) = 0)
include hzero

theorem prove_owner (hrole : leNat (q.data.take 1) = 1) (howned : f.lcState = 2) : Dev.prove f d q true = (d.grant q.kcl q.eid 1).yes := by
  simp [Dev.prove, hzero, hrole, howned]

/-- The Vendor proves its role in no OWNED or RETIRED module, and with a certificate that the calendar does not shut out. -/
theorem prove_vendor (hrole : leNat (q.data.take 1) = 3) (howned : f.lcState ≠ 2) (hretired : f.lcState ≠ 4)
    (hcurrent : (d.noteUnchecked 1).certCurrent Config.serviceFrom Config.serviceTo = true) : Dev.prove f d q true = ((d.noteUnchecked 1).grant q.kcl q.eid 3).yes := by
  simp [Dev.prove, hzero, hrole, howned, hretired, hcurrent]

end

/-! ### Life-cycle transitions (R451, R452) -/

/-- A request that passes every check burns its transition, and the reset that follows takes the place of whatever was due. -/
theorem lifeCycle_transits {s : State} {q : ManifestReq} {r : ObjRow} {verified : Bool} (h : Passes s q .lcRequest r)
    (hreply : Dev.lcReply s.fuses (s.opened q) q verified = rcOK) :
    Dev.lifeCycle s.fuses s.dev q verified = (s.fuses.transition q, ((Dev.lcNoted s.fuses (s.opened q) q).replied q).withoutDue.resetLater 20) := by
  rw [Dev.lifeCycle, onRow_yes h _ (if_pos hreply), if_pos rfl, Dev.withoutDue]

/-- Settles O16: each row is granted under the conditions named for it, and does what follows its reply. -/
theorem firmwareRolesAndLifeCycleAreWritten : Obligations.FirmwareRolesAndLifeCycleAreWritten := by
  refine ⟨fun s q b r h hstaging => ?_, fun s q r h hstaging => ?_, fun s q r h hrange => ?_, fun s q r h hok hrange => raiseFloor_burns h hok hrange,
    fun s q r role h hrole hzero => ⟨fun howner howned => ?_, fun hvendor howned hretired hcurrent => ?_⟩, fun s kcl eid => ?_, fun s hpowered hold => ?_,
    fun s q r d h hreply hd => ?_, fun s q r h => ?_⟩
  · rw [exec_fwStage, execFwStage, onReq_rowDone_given h rfl (if_neg hstaging), Answer.given_yes]
  · rw [exec_discardStaged, execDiscardStaged]
    exact onReq_rowDone_yes h rfl (if_neg hstaging)
  · rw [exec_fwActivate, execFwActivate]
    exact onReq_rowDone_yes h rfl (if_neg (ne_true_of_eq_false hrange))
  · rw [exec_roleProof, execRoleProof]
    exact onReq_then_yes h rfl nonceUsed (prove_owner hzero (hrole.symm.trans howner) howned)
  · rw [exec_roleProof, execRoleProof]
    exact onReq_then_yes h rfl nonceUsed (prove_vendor hzero (hrole.symm.trans hvendor) howned hretired hcurrent)
  · exact exec_of_onDev (exec_roleGrantExpiry kcl eid s) rfl rfl
  · exact exec_of_onDev (exec_authNonceRefresh s) rfl (if_pos ⟨hpowered, hold⟩)
  · obtain ⟨_, hchecked⟩ := id h
    subst hd
    rw [exec_lcRequest, execLcRequest, onFuses_runs (show wellFormed (.lcRequest q true) = true from rfl)]
    simp only [hchecked.first, Bool.false_eq_true, if_false, lifeCycle_transits h hreply, Dev.withoutDue]
  · rw [exec_vendorServiceWrite, execVendorServiceWrite]
    exact onReq_then_yes h rfl (thenAct · fun d => d.resetLater 18) rfl

end Sys2Proof.Machine
end

section
/-! Proofs of the statement of chapter 12 on firmware cores: watchdogs, reversions, the end of a restart, and activations that E0 lets go on. -/

namespace Sys2Proof.Machine

/-! ### Restarts and reversions (R341, R373) -/

/-- Firmware runs in RUN alone. -/
theorem Dev.fwRuns_of_awake {d : Dev} (hawake : d.pwr.offKind = 0) : d.fwRuns = true := by rw [Dev.fwRuns, hawake]; rfl

/-- The watchdog of a core that no activation has changed restarts it, and the fault is recorded. -/
theorem Dev.watchdog_restarts {d e : Dev} {k : Nat} (hawake : d.pwr.offKind = 0) (hruns : d.restarting k = false)
    (he : e = (d.coreRestarts k).fault 0x0501 none (fwDetail k)) (hsettled : (e.fwCore k).activatedAt = none) : d.watchdog k = e := by
  subst he
  simp only [Dev.watchdog, Dev.fwRuns_of_awake hawake, hruns, Bool.true_eq_false, Bool.false_eq_true, or_self, if_false, hsettled]

theorem Dev.revertDue_reverts {d : Dev} {k : Nat} (hawake : d.pwr.offKind = 0) (hactivating : (d.fwCore k).activation = 2) (hrestarts : (d.fwCore k).restarting = true)
    (hlate : (d.fwCore k).since + 250000000 ≤ d.time) : d.revertDue k = d.fwReverts k :=
  if_pos ⟨Dev.fwRuns_of_awake hawake, hactivating, hrestarts, hlate⟩

/-- Of a core other than SEC the previous image comes back, and no key is derived again. -/
theorem Dev.fwReverts_other (d : Dev) {k : Nat} (hk : k ≠ 0) : d.fwReverts k =
    (d.setFw k { d.fwCore k with version := (d.fwCore k).previous, image := (d.fwCore k).oldImage, activation := 4, activatedAt := none, expiries := 0, since := d.time }).fault
      0x0502 none (fwDetail k) := by
  simp only [Dev.fwReverts, if_neg hk]

/-! ### The end of a restart (R341, R342, R372) -/

/-- A firmware core as its restart ends at `time`: it runs, and an activation under way is done. -/
def FwCore.runsAgain (x : FwCore) (time : Nat) : FwCore :=
  if x.activation = 2 then { x with restarting := false, activation := 3, activatedAt := some time } else { x with restarting := false }

/-- What waited for the core goes on, and the next activation begins. -/
theorem Dev.restartEnds_runs (f : Fuses) {d : Dev} {k : Nat} (hawake : d.pwr.offKind = 0) (hrestarts : (d.fwCore k).restarting = true)
    (hgoing : (d.fwCore k).stopped = false) : Dev.restartEnds f d k = (Dev.restartFrees f (d.setFw k ((d.fwCore k).runsAgain d.time)) k).activateNext := by
  simp only [Dev.restartEnds, Dev.fwRuns_of_awake hawake, hrestarts, hgoing, Bool.true_eq_false, Bool.false_eq_true, or_self, if_false, FwCore.runsAgain]

/-! ### E0 (R372) -/

/-- No activation is held back any longer. -/
def Dev.fwFreed (d : Dev) : Dev := { d with fw := d.fw.map fun (p : Nat × FwCore) => (p.1, { p.2 with heldBack := false }) }

theorem Dev.e0Held_activates {d : Dev} (hlevel : d.emergency = 0) (hlong : d.pwr.e0Since + 1000000000 ≤ d.time) (hawake : d.pwr.offKind = 0) :
    d.e0Held = d.fwFreed.activateNext :=
  if_pos ⟨hlevel, hlong, Dev.fwRuns_of_awake hawake⟩

/-- Settles O24: each event of a firmware core does its part where it is due. -/
theorem firmwareCoresRestartAndActivate : Obligations.FirmwareCoresRestartAndActivate := by
  refine ⟨fun s k d hk hawake hruns hd hsettled => ?_, fun s k hk hawake hactivating hrestarts hlate => ?_, fun d k x hx hk => ?_,
    fun s k x hk hawake hx hrestarts hgoing hactivating => ?_, fun s k x hk hawake hx hrestarts hgoing hother => ?_, fun s hlevel hlong hawake => ⟨_, rfl, ?_⟩⟩
  · exact exec_of_onDev (exec_watchdogExpiry k s) (decide_eq_true hk) (congrArg (·.audit s.dev) (Dev.watchdog_restarts hawake hruns hd hsettled))
  · exact exec_of_onDev (exec_activationRevert k s) (decide_eq_true hk) (congrArg (·.audit s.dev) (Dev.revertDue_reverts hawake hactivating hrestarts hlate))
  · subst hx
    exact d.fwReverts_other hk
  · subst hx
    refine exec_of_onDevF (exec_firmwareRestartEnd k s) (decide_eq_true hk) ?_
    rw [Dev.restartEnds_runs s.fuses hawake hrestarts hgoing, FwCore.runsAgain, if_pos hactivating]
  · subst hx
    refine exec_of_onDevF (exec_firmwareRestartEnd k s) (decide_eq_true hk) ?_
    rw [Dev.restartEnds_runs s.fuses hawake hrestarts hgoing, FwCore.runsAgain, if_neg hother]
  · exact exec_of_onDev (exec_e0HoldExpiry s) rfl (congrArg (·.audit s.dev) (Dev.e0Held_activates hlevel hlong hawake))

end Sys2Proof.Machine
end

section
/-! Proofs of the statement of chapter 12 on doorbells and the driver session: what the companion's writes of the control pages do where the link serves them. -/

namespace Sys2Proof.Machine

/-! ### Doorbells of rings (R343, R347, R353) -/

section
variable {d : Dev} {c v : Nat} (hvalue : v < 2 ^ 32)
include hvalue

section
variable (hring : d.leaveIdle.ringState c = 1 ∨ d.leaveIdle.ringState c = 3)
include hring

theorem Dev.newTail_moves (hfits : (v + 2 ^ 32 - d.leaveIdle.sqHead c) % 2 ^ 32 ≤ d.leaveIdle.sqDepth c) :
    d.newTail c v = d.leaveIdle.modCtx c fun x => { x with sqTail := v } := by
  have hserved : ¬(d.leaveIdle.ringState c = 0 ∨ d.leaveIdle.ringState c = 2) := by omega
  simp only [Dev.newTail, if_neg (Nat.not_le.mpr hvalue), if_neg hserved, if_neg (Nat.not_lt.mpr hfits)]

theorem Dev.newTail_overruns (hover : d.leaveIdle.sqDepth c < (v + 2 ^ 32 - d.leaveIdle.sqHead c) % 2 ^ 32) :
    d.newTail c v = ((d.leaveIdle.setRing c 2).post c (completionWord c 0 0 (d.leaveIdle.setRing c 2).time stOverrun 0xFFFF 0xFFFF 0 false)).fault 0x0601 (some c) 0 := by
  have hserved : ¬(d.leaveIdle.ringState c = 0 ∨ d.leaveIdle.ringState c = 2) := by omega
  simp only [Dev.newTail, if_neg (Nat.not_le.mpr hvalue), if_neg hserved, if_pos hover, Dev.setRing_time]

end

theorem Dev.newHead_flushes (hring : d.leaveIdle.ringState c ≠ 0) : d.newHead c v = (d.leaveIdle.modCtx c fun x => { x with cqHead := v }).flush c := by
  simp only [Dev.newHead, if_neg (Nat.not_le.mpr hvalue), if_neg hring]

end

/-! ### The service page (R343, R376) -/

/-- The service queue with the head of its completions moved. -/
def Dev.svcHeadMoved (d : Dev) (v : Nat) : Dev := { d with host := { d.host with svcCqHead := v } }

/-- The service queue with its tail moved. -/
def Dev.svcTailMoved (d : Dev) (v : Nat) : Dev := { d with host := { d.host with svcTail := v } }

/-- The service queue overrun: it stands empty, OVERRUN is posted, and the fault recorded (log 52). -/
def Dev.svcOverrun (d : Dev) : Dev :=
  (({ d with host := { d.host with svcOver := true, svcTail := d.svcHead } } : Dev).svcDone 0 0 0 stOverrun).fault 0x0601 none 0

section
variable {d e : Dev} {v : Nat} (he : e = d.leaveIdle) (hvalue : v < 2 ^ 32) (hqueue : e.svcDepth ≠ 0) (hring : e.svcCqDepth ≠ 0)
include he hvalue hqueue hring

theorem Dev.servicePage_head : d.servicePage true v = (e.svcHeadMoved v).svcFlush := by
  simp only [Dev.servicePage, ← he, if_neg (Nat.not_le.mpr hvalue), hqueue, hring, or_self, if_false, if_true, Dev.svcHeadMoved]

theorem Dev.servicePage_tail (hgoing : e.host.svcOver = false) :
    d.servicePage false v = if e.svcDepth < (v + 2 ^ 32 - e.svcHead) % 2 ^ 32 then e.svcOverrun else e.svcTailMoved v := by
  simp only [Dev.servicePage, ← he, if_neg (Nat.not_le.mpr hvalue), hqueue, hring, or_self, hgoing, Bool.false_eq_true, if_false, Dev.svcOverrun, Dev.svcTailMoved]

end

/-- A write of the service page that the link serves. -/
theorem LinkServes.serviceTail_runs {s : State} (h : LinkServes s.dev) (isHead : Bool) (v : Nat) :
    exec (.serviceTail isHead v) s = .next (s.withDev (s.dev.flitIn.servicePage isHead v)) := by
  refine exec_of_onDev (exec_serviceTail isHead v s) rfl (h.kclRequest_done rfl ?_)
  simp only [Dev.kclDo, Dev.unlessSafe, h.flitIn_sound, Bool.false_eq_true, if_false]

/-! ### Tokens (R344) -/

/-- The first driver attaches: the session begins, and its supervision. -/
def Dev.sessionBegun (d : Dev) (t : Nat) : Dev :=
  (({ d with host := { d.host with token := some t, lastBeat := d.time } } : Dev).setObj 0xD000 0x0F 1).hostStatus 0

theorem Dev.attach_begins {d : Dev} (hnone : d.host.token = none) (t : Nat) : d.attach t = d.sessionBegun t := by
  simp only [Dev.attach, hnone, Dev.sessionBegun]

section
variable {d : Dev} {t : Nat}

/-- A token other than the session's is refused. -/
theorem Dev.attach_other {u : Nat} (htoken : d.host.token = some u) (hother : u ≠ t) : d.attach t = d.attachRefused := by
  simp only [Dev.attach, htoken, hother, and_false, if_false]

theorem Dev.detach_other {u : Nat} (htoken : d.host.token = some u) (hother : u ≠ t) : d.detach t = d.attachRefused := by
  simp only [Dev.detach, htoken, ne_eq, hother, not_false_eq_true, if_true]

section
variable (htoken : d.host.token = some t)
include htoken

/-- The session's own token is asked for after host loss alone. -/
theorem Dev.attach_own : d.attach t = if d.hostState ≠ 0 then d.hostAsks true else d.attachRefused := by
  simp only [Dev.attach, htoken, and_true]

theorem Dev.detach_own : d.detach t = if d.hostState ≠ 0 then d.hostAsks false else if d.sessionCtxs = [] then d.endSession else d.hostLoss := by
  simp only [Dev.detach, htoken, ne_eq, not_true_eq_false, if_false]

end

/-- What a driver asks for after host loss is done at once where SCH runs (R342). -/
theorem Dev.hostAsks_runs (hlost : d.hostState ≠ 0) (hruns : d.restarting 2 = false) (back : Bool) : d.hostAsks back = if back then d.reattach else d.wipeSession := by
  simp only [Dev.hostAsks, if_neg hlost, hruns, Bool.false_eq_true, if_false]

end

section
variable {s : State} (h : LinkServes s.dev)
include h

theorem LinkServes.attach_runs {t : Nat} {e : Dev} (he : s.dev.flitIn.attach (t % 2 ^ 64) = e) : exec (.attach t) s = .next (s.withDev e) :=
  exec_of_onDev (exec_attach t s) rfl ((byKcl_serves h _ _).trans he)

theorem LinkServes.detach_runs {t : Nat} {e : Dev} (he : s.dev.flitIn.detach (t % 2 ^ 64) = e) : exec (.detach t) s = .next (s.withDev (e.audit s.dev.flitIn)) :=
  exec_of_onDev (exec_detach t s) rfl ((byKcl_serves h _ _).trans (congrArg (·.audit s.dev.flitIn) he))

end

/-- Settles O27: each write of a control page that the link serves does what its row says on the device whose flit is counted. -/
theorem doorbellsAndTheSessionWork : Obligations.DoorbellsAndTheSessionWork := by
  refine ⟨fun s c v hc hlink hvalue hring => ⟨fun hfits => ?_, fun hover => ?_⟩, fun s c v hc hlink hvalue hring => ?_,
    fun s v d hlink hd hvalue hqueue hcq => ⟨?_, fun hgoing hfits => ?_, fun hgoing hover => ?_⟩, fun s t d hlink hd hnone => ?_,
    fun s t d hlink hd htoken => ⟨fun hlost hruns => ?_, fun hpresent => ?_, fun hpresent hnone => ?_, fun hpresent hsome => ?_, fun hlost hruns => ?_⟩,
    fun s t u d hlink hd htoken hother => ?_⟩
  · exact exec_of_onDev (exec_submissionTail c v s) (decide_eq_true hc) ((byKcl_serves hlink _ _).trans (Dev.newTail_moves hvalue hring hfits))
  · exact exec_of_onDev (exec_submissionTail c v s) (decide_eq_true hc) ((byKcl_serves hlink _ _).trans (Dev.newTail_overruns hvalue hring hover))
  · exact exec_of_onDev (exec_completionHead c v s) (decide_eq_true hc) ((byKcl_serves hlink _ _).trans (Dev.newHead_flushes hvalue hring))
  · rw [hlink.serviceTail_runs, Dev.servicePage_head hd hvalue hqueue hcq, Dev.svcHeadMoved]
  · rw [hlink.serviceTail_runs, Dev.servicePage_tail hd hvalue hqueue hcq hgoing, if_neg (Nat.not_lt.mpr hfits), Dev.svcTailMoved]
  · rw [hlink.serviceTail_runs, Dev.servicePage_tail hd hvalue hqueue hcq hgoing, if_pos hover, Dev.svcOverrun]
  · subst hd
    exact hlink.attach_runs (Dev.attach_begins hnone _)
  · subst hd
    exact hlink.attach_runs ((Dev.attach_own htoken).trans ((if_pos hlost).trans (Dev.hostAsks_runs hlost hruns true)))
  · subst hd
    exact hlink.attach_runs ((Dev.attach_own htoken).trans (if_neg (not_not_intro hpresent)))
  · subst hd
    exact hlink.detach_runs ((Dev.detach_own htoken).trans ((if_neg (not_not_intro hpresent)).trans (if_pos hnone)))
  · subst hd
    exact hlink.detach_runs ((Dev.detach_own htoken).trans ((if_neg (not_not_intro hpresent)).trans (if_neg hsome)))
  · subst hd
    exact hlink.detach_runs ((Dev.detach_own htoken).trans ((if_pos hlost).trans (Dev.hostAsks_runs hlost hruns false)))
  · subst hd
    exact ⟨hlink.attach_runs (Dev.attach_other htoken hother), hlink.detach_runs (Dev.detach_other htoken hother)⟩

end Sys2Proof.Machine
end

section
/-! Proofs of the statement of chapter 12 on host loss: when it begins, how contexts come to rest, what its limits do, and how peers hear of it. -/

namespace Sys2Proof.Machine

section
variable {d : Dev}

/-! ### Host loss begins (R364) -/

theorem Dev.hbLoss_begins (hpower : d.pwr.offKind < 3) (hready : d.obj 0x2000 0x28 = 8) (hlate : d.host.lastBeat + d.obj 0xD000 0x0A * 1000000 ≤ d.time) :
    d.hbLoss = d.hostLoss := by
  have hdue : ¬(3 ≤ d.pwr.offKind ∨ d.obj 0x2000 0x28 ≠ 8 ∨ d.time < d.host.lastBeat + d.obj 0xD000 0x0A * 1000000) := by omega
  rw [Dev.hbLoss, if_neg hdue]

/-! ### Parking (R366) -/

section
variable {ctx : Nat}

/-- A context that is saved already has come to rest. -/
theorem Dev.park_saved (hsaved : (d.ctx ctx).state = 5) : d.park ctx = d.modCtx ctx fun x => { x with state := 8, saveWanted := false } := by
  rw [Dev.park, if_pos (Or.inl hsaved)]

/-- A running context of this module alone, of which nothing else was asked, is saved where all its cores wait at barriers. -/
theorem Dev.park_saves (hruns : (d.ctx ctx).state = 4) (hstop : (d.ctx ctx).stopWanted = false) (hpark : (d.ctx ctx).parkWanted = false)
    (halone : (d.ctx ctx).gangSize ≤ 1) (hbarriers : d.atBarriers ctx = true) (hcan : d.canSave ctx = true) : d.park ctx = d.saveCtx ctx 8 := by
  have hsaved : ¬((d.ctx ctx).state = 5 ∨ (d.ctx ctx).state = 3 ∧ (d.ctx ctx).saved ≠ []) := by omega
  have hwanted : ¬((d.ctx ctx).stopWanted || (d.ctx ctx).parkWanted) = true := by rw [hstop, hpark]; decide
  have hrest : (decide ((d.ctx ctx).gangSize ≤ 1) && d.atBarriers ctx && d.canSave ctx) = true := by rw [decide_eq_true halone, hbarriers, hcan]; rfl
  rw [Dev.park, if_neg hsaved, if_pos (Or.inr hruns), if_neg hwanted, if_pos hrest]

end

/-! ### The limits (R366, R368) -/

theorem Dev.drainLimit_drains {t : Nat} (hloss : d.host.lossAt = some t) (hstate : d.hostState = 1) (hready : d.schReady = true)
    (hlate : t + d.obj 0xD000 0x0B * 1000000 ≤ d.time) : d.drainLimit = (d.sessionCtxs.foldl Dev.drainCtx d).hostRest := by
  simp only [Dev.drainLimit, hloss, if_pos (And.intro hstate (And.intro hready hlate))]

theorem Dev.parkWait_wipes {t : Nat} (hrest : d.host.restAt = some t) (hstate : d.hostState = 2) (hready : d.schReady = true)
    (hlate : t + d.obj 0xD000 0x0C * 1000000000 ≤ d.time) : d.parkWait = d.wipeSession := by
  simp only [Dev.parkWait, hrest, if_pos (And.intro hstate (And.intro hready hlate))]

end

/-- Settles O28: each event of host loss does its part where it is due. -/
theorem hostLossRunsItsCourse : Obligations.HostLossRunsItsCourse := by
  refine ⟨fun s _ hpower hready hlate => ?_, fun s ctx hctx hlost hready => ?_, fun d ctx hsaved => Dev.park_saved hsaved,
    fun d ctx hruns hstop hpark halone hbarriers hcan => Dev.park_saves hruns hstop hpark halone hbarriers hcan, fun s t hloss hlost hready hlate => ?_,
    fun s t hrest hstate hready hlate => ?_, fun s htold hlate => ?_⟩
  · exact exec_of_onDev (exec_hostHbLoss s) rfl (Dev.hbLoss_begins hpower hready hlate)
  · exact exec_of_onDev (exec_contextPark ctx s) (decide_eq_true hctx) (if_pos ⟨hlost, hready⟩)
  · exact exec_of_onDev (exec_hostDrainLimit s) rfl (Dev.drainLimit_drains hloss hlost hready hlate)
  · exact exec_of_onDev (exec_hostParkWait s) rfl (congrArg (·.audit s.dev) (Dev.parkWait_wipes hrest hstate hready hlate))
  · exact exec_of_onDev (exec_nodeStatusSend s) rfl (if_pos ⟨htold, hlate⟩)

end Sys2Proof.Machine
end

section
/-! Proofs of the statement of chapter 12 on the chandlery: how a request at the head of the service queue completes, and what each service does. -/

namespace Sys2Proof.Machine

/-! ### A request that is served (R376) -/

/-- A status other than SEALED counts no refused access. -/
theorem Dev.refused_other {st : Nat} (hst : st ≠ stSealed) (d : Dev) : d.refused st = d := if_neg hst

theorem Dev.writesFree_nil (d : Dev) : d.writesFree [] := ⟨rfl, rfl⟩

section
variable {d e : Dev} {w k st : Nat} {sel : Nat → Bool} {ws : Nat → Dev → List (Nat × Nat)} {run : Nat → Dev → Dev × Option Nat}

/-- A request that its service ends at once completes with the service's code and a status that is no refusal of a seal. -/
theorem serve_completes (h : ServiceAt d w) (hcode : svCode w = k) (hsel : sel k = true) (hfree : d.writesFree (ws w d))
    (hrun : run w d.serviceTaken = (e, some st)) (hst : st ≠ stSealed) : d.serve sel ws run = e.svcDone (svCtx w) k (svTag w) st := by
  subst hcode
  rw [serve_ends h sel ws hfree run hsel hrun, Dev.refused_other hst]

end

/-! ### INGEST_COPY (R377) -/

/-- A copy within this module that both checks allow moves its bytes on an I/O tug. -/
theorem Dev.ingestCopy_moves {d : Dev} {w : Nat} (ext : External) (hsrc : svSrc w / 2 ^ 48 = d.midOf (svCtx w)) (hdst : svDst w / 2 ^ 48 = d.midOf (svCtx w))
    (hread : d.access (.ctx (svCtx w)) false (svSrc w % 2 ^ 48) (svLen w) = none) (hwrite : d.access (.ctx (svCtx w)) true (svDst w % 2 ^ 48) (svLen w) = none) :
    Dev.ingestCopy ext w d = ((d.copyRun (svSrc w % 2 ^ 48) (svDst w % 2 ^ 48) (svLen w)).1.ioTug d.svcTugs (svLen w), some stOK) := by
  simp only [Dev.ingestCopy, if_pos (And.intro hsrc hdst), hread, hwrite]

/-- A request of another service writes nothing as a copy. -/
theorem Dev.copyWrites_other {w : Nat} (hcode : svCode w ≠ 2) (d : Dev) : Dev.copyWrites w d = [] := if_neg hcode

/-! ### INGEST_JPEG (R377) -/

/-- An intact stream of a kind that the service takes, whose rows may all be written, is stored and its samples counted. -/
theorem Dev.ingestJpeg_stores {d x : Dev} {w : Nat} {j : JpegFacts} {bs : List Byte} {bad : Nat → Nat → Bool} {h : JpegHead} (hstride : svStride w % 8 = 0)
    (hintact : j.intact = true) (hsource : d.svcSource (svCtx w) (svSrc w) (svLen w) j.far = .inr (bs, bad, d)) (hhead : Machine.jpegHead bs = some h)
    (hsupported : h.supported = true)
    (hrows : Dev.putRows (svCtx w) (bad 0 (svLen w)) j.far.accepted (jpegRows h j (svDst w) (svStride w)) d = (x, stOK)) :
    Dev.ingestJpeg j w d = ((x.ioTug d.svcTugs (svLen w + ((jpegRows h j (svDst w) (svStride w)).map fun r => r.2.length).sum)).bump 0xC000 6 (h.width * h.height),
      some stOK) := by
  simp only [Dev.ingestJpeg, hstride, hsource, hhead, hsupported, hintact, hrows, ne_eq, not_true_eq_false, Bool.true_eq_false, if_false, if_true]

/-! ### CHECKPOINT (R324, R377) -/

/-- The device once a chandlery core has begun the snapshot of a set for its request. -/
def Dev.checkpointBegun (d : Dev) (w : Nat) (x : StateSet) : Dev :=
  { d.svcCore.2 with cmp := { d.svcCore.2.cmp with snaps := d.svcCore.2.cmp.snaps ++
    [{ ctx := svCtx w, set_ := svSet w, bank := x.snapBank, dst := svDst w, abandon := false, bar := 0xFFFF, tag := none, svc := some (svTag w, d.svcCore.1) }] } }

theorem Dev.checkpoint_begins {d : Dev} {w : Nat} {x : StateSet} (hnumber : svSet w ≤ 15) (hset : d.sset (svCtx w) (svSet w) = some x) :
    Dev.checkpoint w d = (d.checkpointBegun w x, none) := by
  simp only [Dev.checkpoint, if_pos hnumber, hset, Dev.checkpointBegun]

/-! ### SUBMIT (R377) -/

/-- A docket for a registered ring is written at the ring's tail, and its doorbell moves the tail. -/
theorem Dev.submit_writes {d e : Dev} {w : Nat} {bs : List Byte} {bad : Nat → Nat → Bool}
    (hsource : d.svcSource (svCtx w) (svSrc w) 64 d.farDocket = .inr (bs, bad, e)) (hring : (e.farDrawn w).ringState (svCtx w) ≠ 0)
    (haccess : (e.farDrawn w).access .firmware true ((e.farDrawn w).submitAt (svCtx w)) 64 = none) :
    Dev.submit w d = ((((e.farDrawn w).write ((e.farDrawn w).submitAt (svCtx w)) bs (bad 0 64)).ioTug (e.farDrawn w).svcTugs 64).newTail (svCtx w)
      ((((e.farDrawn w).ctx (svCtx w)).sqTail + 1) % 2 ^ 32), some stOK) := by
  simp only [Dev.submit, hsource, if_neg hring, haccess]

/-- Settles O29: each request at the head of the queue is served as its service says. -/
theorem servicesAreServed : Obligations.ServicesAreServed := by
  refine ⟨fun s ext w d h hcode hd hsrc hdst hread hwrite hfree => ?_, fun s ext w h hcode => ?_,
    fun s w j d bs bad rows x hd h hcode htaken hstride hintact hsource hhead hsupported hrows hput hfree => ?_, fun s w x k h hcode hidle hnumber hset hk => ?_,
    fun s w bs bad e d c tail h hcode hc hsource hd hring htail hfree haccess => ?_⟩
  · subst hd
    exact exec_of_onDev (exec_svcIngestCopy ext s) rfl
      (serve_completes h hcode rfl hfree ((if_pos hcode).trans (Dev.ingestCopy_moves ext hsrc hdst hread hwrite)) (by decide))
  · have hother : svCode w ≠ 2 := by omega
    have hfree : s.dev.writesFree (Dev.copyWrites w s.dev) := Dev.copyWrites_other hother s.dev ▸ s.dev.writesFree_nil
    exact exec_of_onDev (exec_svcIngestCopy ext s) rfl
      (serve_completes h rfl (by rw [decide_eq_true hcode, Bool.or_true]) hfree (if_neg hother) (by decide))
  · subst htaken hrows
    exact exec_of_onDev (exec_svcIngestJpeg j s) rfl
      (serve_completes h hcode rfl hfree (Dev.ingestJpeg_stores hstride hintact hsource hhead hsupported hput) (by decide))
  · subst hk
    refine exec_of_onDev (exec_svcCheckpoint s) rfl ?_
    simp only [h.head, hidle, Bool.false_eq_true, if_false]
    exact serve_goes_on h _ _ s.dev.writesFree_nil _ (by rw [hcode]; rfl) (Dev.checkpoint_begins hnumber hset)
  · subst hd htail hc
    exact exec_of_onDev (exec_svcSubmit s) rfl (serve_completes h hcode rfl hfree (Dev.submit_writes hsource hring haccess) (by decide))

end Sys2Proof.Machine
end

section
/-! Proofs of the statement of chapter 12 on dockets: what each kind does once SCH has taken it from the head of its ring. -/

namespace Sys2Proof.Machine

/-! ### A docket that is taken (R347, R349) -/

section
variable {s : State} {c w k : Nat} {d e : Dev} {i : Instr} (h : DocketAt s.dev c w k) (hd : d = s.dev.docketTaken c w)
include h hd

/-- A docket at its ring's head does what its row does with it, on the device that has taken it. -/
theorem DocketAt.docket_does {sel : Nat → Bool} {run : Nat → DocketRun → Dev → Dev} (hsel : sel k = true) (hrun : run w (d.lastRun c) d = e) :
    s.dev.docket c sel run = e := by
  subst hd
  exact (docket_at h sel run hsel).trans hrun

/-- The same for a row that is nothing else. -/
theorem DocketAt.exec_does {sel : Nat → Bool} {run : Nat → DocketRun → Dev → Dev} (hrow : exec i s = onDev (wellFormed i) (fun d => d.docket c sel run) s)
    (hunits : wellFormed i = decide (c < 64)) (hsel : sel k = true) (hrun : run w (d.lastRun c) d = e) : exec i s = .next (s.withDev e) :=
  exec_of_onDev hrow (hunits.trans (decide_eq_true h.exists_)) (h.docket_does hd hsel hrun)

end

/-! ### ADMIT (R357) -/

/-- An ADMIT that reads no line the companion owns is taken. -/
theorem Dev.docketAdmit_takes {d : Dev} {c w : Nat} (f : Fuses) (hhead : d.headDocket c = some w)
    (hunowned : ∀ p ∈ d.admitReads (dkArg w), d.ownedIn p.1 p.2 = false) : Dev.docketAdmit f d c = d.docket c (fun k => k == 2) fun w r d => Dev.admitCtx f d c w r := by
  have hown : (d.admitReads (dkArg w)).filter (fun p => d.ownedIn p.1 p.2) = [] :=
    List.filter_eq_nil_iff.mpr fun p hp => ne_true_of_eq_false (hunowned p hp)
  simp only [Dev.docketAdmit, hhead, hown, ite_self, if_true]

/-- An ADMIT that passes every check is placed. -/
theorem Dev.admitCtx_places {f : Fuses} {d : Dev} {c w : Nat} {bs : List Byte} {t : AdmitTables} (r : DocketRun) (hread : d.fwRead (dkArg w) 128 = .inr bs)
    (hmeets : f.mayMeet = true) (hdescriptor : d.descriptorOk c (leNat bs) = true) (htables : d.fwTables c (leNat bs) = .inr t) (hrules : d.tablesOk c t = true)
    (hconflict : d.admitConflict t = none) (hreached : d.unreachedMember t = none)
    (hmirror : ((tabSets t).any fun p => p.2.mirror) = false ∨ d.obj 0xA000 3 = 1) : Dev.admitCtx f d c w r = Dev.admitLocal f d c t r.seq := by
  have hpaired : ¬(((tabSets t).any fun p => p.2.mirror) = true ∧ d.obj 0xA000 3 ≠ 1) :=
    fun ⟨hmirrors, halone⟩ => hmirror.elim (ne_false_of_eq_true hmirrors) halone
  simp only [Dev.admitCtx, hmeets, if_true, hread, hdescriptor, htables, hrules, hconflict, hreached, Bool.true_eq_false, or_self, if_false, if_neg hpaired]

/-! ### LAUNCH (R350) -/

/-- A LAUNCH whose plan is to start lists is taken. -/
theorem Dev.docketLaunch_takes {d : Dev} {c : Nat} {ls : List (CoreRef × Nat × Nat)} (hplan : d.headPlan c = some (.go ls)) :
    d.docketLaunch c = d.docket c (fun k => k == 3) fun _ r d => d.launch c r (.go ls) := by
  simp only [Dev.docketLaunch, hplan]

/-! ### STOP and DESTROY (R349, R361) -/

/-- A context that is saved is STOPPED at once. -/
theorem Dev.stopCtx_stops {d : Dev} {c : Nat} (r : DocketRun) (hsaved : (d.ctx c).state = 5 ∨ (d.ctx c).saved ≠ []) :
    d.stopCtx c r = (d.modCtx c fun x => { x with state := 6, saveWanted := false }).docketDone c r stOK 0xFFFF 0xFFFF 0 := if_pos hsaved

/-- Another is saved first. -/
theorem Dev.stopCtx_saves {d : Dev} {c : Nat} (r : DocketRun) (hstate : (d.ctx c).state ≠ 5) (hunsaved : (d.ctx c).saved = []) :
    d.stopCtx c r = ((d.deferGang c).modCtx c fun x => { x with stopWanted := true }).trySave c := if_neg (not_or.mpr ⟨hstate, not_not_intro hunsaved⟩)

/-- A DESTROY waits for nothing but the lists of an aborted context. -/
theorem Dev.docketDestroy_takes {d : Dev} {c : Nat} (hidle : ((d.coresOf c).any fun k => (d.core k).list.isSome) = false ∨ (d.ctx c).state ≠ 9) :
    d.docketDestroy c = d.docket c (fun k => k == 7) fun _ r d => (d.destroyCtx c).docketDone c r stOK 0xFFFF 0xFFFF 0 := by
  refine if_neg fun hwaits => ?_
  obtain ⟨hlists, haborted⟩ := Bool.and_eq_true_iff.mp hwaits
  exact hidle.elim (ne_false_of_eq_true hlists) (· (eq_of_beq haborted))

/-- Settles O30: each kind does its own work on the device that has taken its docket. -/
theorem docketsDoTheirWork : Obligations.DocketsDoTheirWork := by
  refine ⟨fun s c w d h hd => ?_, fun s c w d h hsec hd => ⟨_, rfl, ?_⟩, fun s c w d h hunowned hd => ?_,
    fun f d c w r bs t hread hmeets hdescriptor htables hrules hconflict hreached hmirror =>
      Dev.admitCtx_places r hread hmeets hdescriptor htables hrules hconflict hreached hmirror,
    fun s c w d ls h hplan hd => ⟨_, rfl, ?_⟩, fun s c w d h hd hsaved => ?_, fun s c w d h hd hstate hunsaved => ?_, fun s c w d h hd => ?_, fun s c w d h hd => ?_,
    fun s c w d h hd hidle => ?_⟩
  · exact h.exec_does hd (exec_docketNop c s) rfl rfl rfl
  · exact exec_of_onDev (exec_docketCreate c s) (decide_eq_true h.exists_) ((if_neg (ne_true_of_eq_false hsec)).trans (h.docket_does hd rfl rfl))
  · exact exec_of_onDevF (exec_docketAdmit c s) (decide_eq_true h.exists_) ((Dev.docketAdmit_takes s.fuses h.head hunowned).trans (h.docket_does hd rfl rfl))
  · exact exec_of_onDev (exec_docketLaunch c s) (decide_eq_true h.exists_) ((Dev.docketLaunch_takes hplan).trans (h.docket_does hd rfl rfl))
  · exact h.exec_does hd (exec_docketStop c s) rfl rfl (Dev.stopCtx_stops _ hsaved)
  · exact h.exec_does hd (exec_docketStop c s) rfl rfl (Dev.stopCtx_saves _ hstate hunsaved)
  · exact h.exec_does hd (exec_docketStart c s) rfl rfl rfl
  · exact h.exec_does hd (exec_docketAbort c s) rfl rfl rfl
  · exact exec_of_onDev (exec_docketDestroy c s) (decide_eq_true h.exists_)
      (congrArg (·.audit s.dev) ((Dev.docketDestroy_takes hidle).trans (h.docket_does hd rfl rfl)))

end Sys2Proof.Machine
end

section
/-! Proofs of the statements on a step with commands waiting and on the state after reset. -/

namespace Sys2Proof.Machine

/-! ### A step with commands waiting -/

theorem step_of_pending_cons {s : State} {i : Instr} {rest : List Instr} (h : s.pending = i :: rest) : step s = exec i { s with pending := rest } := by
  simp only [step, h]

/-- Settles O1: the front command is all that a step looks at. -/
theorem stepRunsFront : Obligations.StepRunsFront := fun _ _ _ h => step_of_pending_cons h

/-! ### The state after reset -/

/-- A PROVISIONED module makes sense: it has no owner, and transitions left. -/
theorem reset_fuses_sound : Fuses.Sound State.reset.fuses := ⟨by decide, by decide, by decide, fun _ => ⟨rfl, rfl⟩, fun hretired => absurd hretired (by decide)⟩

/-- Settles O43: memory of which no cell is listed reads as zeros. -/
theorem resetIsSound : Obligations.ResetIsSound := ⟨reset_fuses_sound, reset_memOk, rfl, rfl, rfl, fun a n => denseGo_nil n a⟩

end Sys2Proof.Machine
end

section
/-! Proofs of the statements of chapter 15 on fuses: which commands reach them, what RAISE_FLOOR and LC_REQUEST burn, and that every step leaves them sound. -/

namespace Sys2Proof.Machine

/-! ### Commands that leave the fuses (R435, R448) -/

section
variable {ok : Bool} {s t : State}

theorem onDev_fuses {f : Dev → Dev} (h : onDev ok f s = .next t) : t.fuses = s.fuses := by
  obtain ⟨-, -, hfuses, -⟩ := onDev_next h
  exact hfuses

theorem onDevF_fuses {f : Fuses → Dev → Dev} (h : onDevF ok f s = .next t) : t.fuses = s.fuses := by
  obtain ⟨-, -, hfuses, -⟩ := onDevF_next h
  exact hfuses

theorem onFuses_fuses {f : Fuses → Dev → Fuses × Dev} (h : onFuses ok f s = .next t) : t.fuses = (f s.fuses s.dev).1 := by
  obtain ⟨-, -, hfuses, -⟩ := onFuses_next h
  exact hfuses

theorem onKcl_fuses {f : Dev → Dev} (h : onKcl ok f s = .next t) : t.fuses = s.fuses := by
  cases ok with
  | false => rw [onKcl_stops rfl] at h; cases h
  | true => rw [onKcl_runs rfl] at h; cases h; exact State.again_fuses _

end

/-- Settles O41: fuses are within reach of the two rows alone, and every other operation through which a command acts leaves them. -/
theorem onlyTwoCommandsBurnFuses : Obligations.OnlyTwoCommandsBurnFuses := by
  intro i s t h hfloor hlc
  cases exec_actsThrough i with
  | dev f hf => exact onDev_fuses ((hf s).symm.trans h)
  | devF f hf => exact onDevF_fuses ((hf s).symm.trans h)
  | req q f hf => exact onDevF_fuses ((hf s).symm.trans h)
  | kcl f hf => exact onKcl_fuses ((hf s).symm.trans h)
  | fuses f _ burns =>
    obtain ⟨q, hi⟩ | ⟨q, v, hi⟩ := burns
    · exact absurd hi (hfloor q)
    · exact absurd hi (hlc q v)

/-! ### What may become of the fuses -/

/-- A change of the fuses that is one of the permitted steps and leaves them sound. -/
def Fuses.Moves (f g : Fuses) : Prop := Fuses.Step f g ∧ (f.Sound → g.Sound)

theorem Fuses.moves_refl (f : Fuses) : f.Moves f := ⟨.inl rfl, id⟩

theorem Fuses.moves_floor {f : Fuses} {v : Nat} (hhigher : f.floor < v) (hbyte : v ≤ 255) : f.Moves { f with floor := v } :=
  ⟨.inr (.inl ⟨hhigher, rfl⟩), fun ⟨hstate, hleft, _, howner, huds⟩ => ⟨hstate, hleft, hbyte, howner, huds⟩⟩

/-- A permitted transition leads to a state of R448, and from BLANK to PROVISIONED alone. -/
theorem le_of_lcPair {a b : Nat} (h : lcPair a b = true) : b ≤ 4 ∧ (a = 0 → b = 1) := by
  simp only [lcPair, Bool.or_eq_true, Bool.and_eq_true, beq_iff_eq, decide_eq_true_eq] at h
  omega

theorem Fuses.moves_transition {f : Fuses} {q : ManifestReq} (hpair : lcPair f.lcState (leNat (q.data.take 1)) = true) (hleft : f.left ≠ 0) :
    f.Moves (f.transition q) := by
  obtain ⟨hto, hblank⟩ := le_of_lcPair hpair
  refine ⟨.inr (.inr ⟨hpair, Nat.pos_of_ne_zero hleft, rfl, rfl⟩), fun ⟨_, hleft, hfloor, _, _⟩ => ⟨hto, (Nat.sub_le _ _).trans hleft, hfloor, fun howned => ?_, fun hretired => ?_⟩⟩
  · exact ⟨if_neg howned, if_neg howned⟩
  · have hfrom : f.lcState ≠ 0 := fun h0 => by rw [show leNat (q.data.take 1) = 4 from hretired] at hblank; exact absurd (hblank h0) (by decide)
    exact (if_neg hfrom).trans (if_pos hretired)

/-! ### What a granted request was checked for (R469) -/

/-- A request of a row that is answered OK passed the shared checks, and the row granted it. -/
theorem onRow_granted {f : Fuses} {d : Dev} {q : ManifestReq} {row : ManifestRow} {run : ObjRow → Dev → Answer} (h : (Dev.onRow f d q row run).2 = rcOK) :
    d.rowOf q = row ∧ ∃ w r, Dev.check f (d.openConn q.kcl q.eid) q = (rcOK, w, r) ∧ (run r (d.openConn q.kcl q.eid)).code = rcOK := by
  unfold Dev.onRow at h
  split at h
  case isFalse => cases h
  case isTrue hrow =>
    obtain hnone | ⟨e, c, _, hrefused, w, hreply⟩ | ⟨w, r, a, hchecked, ha, hgiven⟩ := manifest_cases f d q run
    · rw [hnone] at h; cases h
    · rw [hreply] at h; exact absurd h hrefused
    · refine ⟨hrow, w, r, hchecked, ?_⟩
      rw [hgiven, Answer.given] at h
      split at h
      · cases h
      · exact ha ▸ h

/-- What the checks hold against a request outside the vendor range is its object's own row. -/
theorem check_row {f : Fuses} {d : Dev} {q : ManifestReq} {w : Nat} {r x : ObjRow} (hvendor : vendorIdx q.index = false) (hx : d.objRow q.index q.sub = some x)
    (h : Dev.check f d q = (rcOK, w, r)) : r = x := by
  simp only [Dev.check, hvendor, hx, Bool.false_eq_true, if_false] at h
  split at h
  case isTrue => cases h
  case isFalse =>
    split at h
    case isTrue => cases h
    case isFalse =>
      repeat' split at h
      all_goals exact (congrArg (·.2.2) h).symm

theorem rowOf_raiseFloor {d : Dev} {q : ManifestReq} (h : d.rowOf q = .raiseFloor) : q.index = 0x6000 ∧ q.sub = 0x0D := by
  by_contra hother
  simp [Dev.rowOf, Dev.writeRow, hother, ite_eq_iff] at h

/-- The row of RAISE_FLOOR in the dictionary. -/
theorem objFind_raiseFloor : objFind 0x6000 0x0D = some ⟨0x6000, 1, 0x0D, 3, 0, 1, 2, 1, 1, 0, 255, [0]⟩ := by decide +kernel

/-- The floor is a value of one byte: no other lies in the range of RAISE_FLOOR. -/
theorem floor_byte {f : Fuses} {d : Dev} {q : ManifestReq} {w v : Nat} {r : ObjRow} (hrow : d.rowOf q = .raiseFloor)
    (hchecked : Dev.check f (d.openConn q.kcl q.eid) q = (rcOK, w, r)) (hrange : outside r v = false) : v ≤ 255 := by
  obtain ⟨hindex, hsub⟩ := rowOf_raiseFloor hrow
  have hobj : (d.openConn q.kcl q.eid).objRow q.index q.sub = objFind 0x6000 0x0D := by rw [hindex, hsub]; rfl
  rw [check_row (by rw [hindex]; rfl) (hobj.trans objFind_raiseFloor) hchecked] at hrange
  simpa [outside] using hrange

/-! ### What the two rows burn (R435, R450 to R452) -/

theorem raiseFloor_moves {q : ManifestReq} {s t : State} (h : exec (.raiseFloor q) s = .next t) : s.fuses.Moves t.fuses := by
  rw [exec_raiseFloor] at h
  rw [onFuses_fuses h]
  dsimp only
  split
  · exact s.fuses.moves_refl
  · dsimp only
    split
    case isFalse => exact s.fuses.moves_refl
    case isTrue hok =>
      obtain ⟨hrow, w, r, hchecked, hgranted⟩ := onRow_granted hok
      split at hgranted
      · cases hgranted
      case isFalse hfloor =>
        split at hgranted
        · cases hgranted
        case isFalse hrange =>
          simp only [Bool.not_eq_false, Dev.floorOk, Bool.and_eq_true, decide_eq_true_eq] at hfloor
          obtain ⟨⟨_, hhigher⟩, _⟩ := hfloor
          exact Fuses.moves_floor hhigher (floor_byte hrow hchecked (Bool.eq_false_iff.mpr hrange))

/-- What a chain of checks answers when its first answer is another. -/
theorem of_ite_ne {α : Type} {p : Prop} [Decidable p] {a b c : α} (h : (if p then a else b) = c) (ha : a ≠ c) : ¬p ∧ b = c := by
  by_cases hp : p
  · exact absurd ((if_pos hp).symm.trans h) ha
  · exact ⟨hp, (if_neg hp).symm.trans h⟩

/-- A transition that is granted is a permitted one, and a position is left for it. -/
theorem lcReply_ok {f : Fuses} {d : Dev} {q : ManifestReq} {verified : Bool} (h : Dev.lcReply f d q verified = rcOK) :
    lcPair f.lcState (leNat (q.data.take 1)) = true ∧ f.left ≠ 0 := by
  have hbefore : Dev.lcBefore f d q = rcOK := by
    by_contra hrefused
    exact hrefused ((if_pos hrefused).symm.trans h)
  obtain ⟨_, hafter⟩ := of_ite_ne hbefore (by decide)
  obtain ⟨hpair, hafter⟩ := of_ite_ne hafter (by decide)
  obtain ⟨_, hafter⟩ := of_ite_ne hafter (by decide)
  obtain ⟨hleft, _⟩ := of_ite_ne hafter (by decide)
  exact ⟨eq_true_of_ne_false hpair, fun h0 => hleft (.inl h0)⟩

theorem lcRequest_moves {q : ManifestReq} {v : Bool} {s t : State} (h : exec (.lcRequest q v) s = .next t) : s.fuses.Moves t.fuses := by
  rw [exec_lcRequest] at h
  rw [onFuses_fuses h]
  split
  · exact s.fuses.moves_refl
  · unfold Dev.lifeCycle
    dsimp only
    split
    case isFalse => exact s.fuses.moves_refl
    case isTrue hok =>
      obtain ⟨_, w, r, _, hgranted⟩ := onRow_granted hok
      split at hgranted
      case isFalse hrefused => exact absurd hgranted hrefused
      case isTrue hreply =>
        obtain ⟨hpair, hleft⟩ := lcReply_ok hreply
        exact Fuses.moves_transition hpair hleft

/-- Every command moves the fuses only as the life cycle allows. -/
theorem exec_fuses_moves {i : Instr} {s t : State} (h : exec i s = .next t) : s.fuses.Moves t.fuses := by
  by_cases hfloor : ∃ q, i = .raiseFloor q
  · obtain ⟨q, rfl⟩ := hfloor
    exact raiseFloor_moves h
  by_cases hlc : ∃ q v, i = .lcRequest q v
  · obtain ⟨q, v, rfl⟩ := hlc
    exact lcRequest_moves h
  rw [onlyTwoCommandsBurnFuses i s t h (fun q hi => hfloor ⟨q, hi⟩) fun q v hi => hlc ⟨q, v, hi⟩]
  exact s.fuses.moves_refl

/-! ### A step -/

/-- Settles O42: a step with nothing waiting burns nothing, and every other runs one command. -/
theorem fusesMoveOnlyAsTheLifeCycleAllows : Obligations.FusesMoveOnlyAsTheLifeCycleAllows := by
  intro s t h
  cases hpending : s.pending with
  | nil =>
    rw [step_of_pending_nil hpending] at h
    cases h
    exact s.fuses.moves_refl
  | cons i rest =>
    rw [step_of_pending_cons hpending] at h
    exact exec_fuses_moves (s := { s with pending := rest }) h

end Sys2Proof.Machine
end

section
/-! Proofs of the statements of chapter 16: what a request that fails a shared check leaves, and what READ, DESCRIBE, WRITE and CLOSE do once granted. -/

namespace Sys2Proof.Machine

/-! ### Requests that are refused (R469) -/

section
variable {s : State} {q : ManifestReq} {row : ManifestRow} {code wait : Nat} {r : ObjRow} {i : Instr} (h : Checked s q row code wait r)
include h

/-- A refused request of a row, whatever the row makes of its answer. -/
theorem Checked.onReq_refused (hi : wellFormed i = true) (hcode : code ≠ rcOK) {run : Fuses → ObjRow → Dev → Answer} (g : Dev → Dev × Nat → Dev) :
    onReq i q (fun f d => g d (Dev.onRow f d q row (run f))) s = .next (s.withDev (g s.dev ((s.opened q).refuses q code wait, code))) := by
  rw [onReq_first h.first, onDevF_runs hi, onRow_fail h hcode]

theorem Checked.onRow_refused {run : Fuses → ObjRow → Dev → Answer} (hrow : exec i s = onReq i q (fun f d => (Dev.onRow f d q row (run f)).1) s) (hi : wellFormed i = true)
    (hcode : code ≠ rcOK) : exec i s = .next (s.withDev ((s.opened q).refuses q code wait)) :=
  hrow.trans (h.onReq_refused hi hcode fun _ a => a.1)

theorem Checked.rowDone_refused {run : Fuses → ObjRow → Dev → Answer} (hrow : exec i s = onReq i q (fun f d => Dev.rowDone f d q row (run f)) s) (hi : wellFormed i = true)
    (hcode : code ≠ rcOK) : exec i s = .next (s.withDev (((s.opened q).refuses q code wait).audit s.dev)) :=
  hrow.trans (h.onReq_refused hi hcode fun d a => a.1.audit d)

/-- What follows a reply of OK does not follow a refusal. -/
theorem Checked.thenAct_refused {run : Fuses → ObjRow → Dev → Answer} {g : Dev → Dev} (hrow : exec i s = onReq i q (fun f d => thenAct (Dev.onRow f d q row (run f)) g) s)
    (hi : wellFormed i = true) (hcode : code ≠ rcOK) : exec i s = .next (s.withDev ((s.opened q).refuses q code wait)) := by
  rw [hrow, h.onReq_refused hi hcode fun _ a => thenAct a g, thenAct, if_neg hcode]

end

/-- A refused RAISE_FLOOR burns nothing. -/
theorem raiseFloor_refused {s : State} {q : ManifestReq} {code wait : Nat} {r : ObjRow} (h : Checked s q .raiseFloor code wait r) (hcode : code ≠ rcOK) :
    exec (.raiseFloor q) s = .next (s.withDev ((s.opened q).refuses q code wait)) := by
  rw [exec_raiseFloor, execRaiseFloor, onFuses_runs (show wellFormed (.raiseFloor q) = true from rfl)]
  simp only [h.first, Bool.false_eq_true, if_false, onRow_fail h hcode, if_neg hcode, State.withDev]

/-- Settles O13: a row sees no request that the shared checks refuse. -/
theorem refusedRequestsOnlyReply : Obligations.RefusedRequestsOnlyReply :=
  ⟨fun s q _ _ _ h hcode => h.onRow_refused (exec_manifestRead q s) rfl hcode,
    fun s q _ _ _ h hcode => h.onRow_refused (exec_manifestDescribe q s) rfl hcode,
    fun s q _ _ _ h hcode => h.rowDone_refused (exec_manifestWrite q s) rfl hcode,
    fun s q _ _ _ h hcode => h.rowDone_refused (exec_rangeClear q s) rfl hcode,
    fun s q _ _ _ h hcode => h.rowDone_refused (exec_accClear q s) rfl hcode,
    fun s q _ _ _ h hcode => h.rowDone_refused (exec_cadenceSource q s) rfl hcode,
    fun s q _ _ _ h hcode => h.rowDone_refused (exec_snapPeriod q s) rfl hcode,
    fun s q _ _ _ h hcode => h.rowDone_refused (exec_ioTugUse q s) rfl hcode,
    fun s q _ _ _ h hcode => h.onRow_refused (exec_portUse q s) rfl hcode,
    fun s q _ _ _ h hcode => h.rowDone_refused (exec_retainUse q s) rfl hcode,
    fun s q _ _ _ h hcode => h.onRow_refused (exec_berthPlan q s) rfl hcode,
    fun s q _ _ _ h hcode => h.rowDone_refused (exec_evalSlot q s) rfl hcode,
    fun s q _ _ _ h hcode => h.rowDone_refused (exec_classConfirm q s) rfl hcode,
    fun s q _ _ _ h hcode => h.rowDone_refused (exec_powerCap q s) rfl hcode,
    fun s q _ _ _ h hcode => h.rowDone_refused (exec_ringState q s) rfl hcode,
    fun s q _ _ _ h hcode => h.rowDone_refused (exec_regionEnable q s) rfl hcode,
    fun s q _ _ _ h hcode => h.rowDone_refused (exec_regionDisable q s) rfl hcode,
    fun s q _ _ _ h hcode => h.rowDone_refused (exec_regionFrozen q s) rfl hcode,
    fun s q _ _ _ h hcode => h.rowDone_refused (exec_ackClass q s) rfl hcode,
    fun s q _ _ _ h hcode => h.rowDone_refused (exec_classClear q s) rfl hcode,
    fun s q _ _ _ h hcode => h.rowDone_refused (exec_calendar q s) rfl hcode,
    fun s q b _ _ _ h hcode => h.rowDone_refused (exec_fwStage q b s) rfl hcode,
    fun s q _ _ _ h hcode => h.rowDone_refused (exec_discardStaged q s) rfl hcode,
    fun s q _ _ _ h hcode => h.rowDone_refused (exec_fwActivate q s) rfl hcode,
    fun _ _ _ _ _ h hcode => raiseFloor_refused h hcode,
    fun s q _ _ _ h hcode => h.thenAct_refused (exec_vendorServiceWrite q s) rfl hcode,
    fun s q _ _ _ h hcode => h.thenAct_refused (exec_resetRequestFunction q s) rfl hcode,
    fun s q _ _ _ h hcode => h.thenAct_refused (exec_resetRequestWarm q s) rfl hcode,
    fun s q _ _ _ h hcode => h.thenAct_refused (exec_pstateRequestRun q s) rfl hcode,
    fun s q _ _ _ h hcode => h.thenAct_refused (exec_pstateRequestSleep q s) rfl hcode,
    fun s q _ _ _ h hcode => h.thenAct_refused (exec_pstateRequestDeep q s) rfl hcode,
    fun s q _ _ _ h hcode => h.thenAct_refused (exec_pstateRequestOff q s) rfl hcode⟩

/-! ### Requests that are granted (R467, R468, R470) -/

/-- What a row of a request answers, where the fuses have a say in it. -/
theorem onReq_onRow_given {s : State} {q : ManifestReq} {row : ManifestRow} {r : ObjRow} {i : Instr} {a : Answer} (h : Passes s q row r) (hi : wellFormed i = true)
    {run : Fuses → ObjRow → Dev → Answer} (ha : run s.fuses r (s.opened q) = a) :
    onReq i q (fun f d => (Dev.onRow f d q row (run f)).1) s = .next (s.withDev (a.given q).1) := by
  obtain ⟨_, hchecked⟩ := h
  rw [onReq_first hchecked.first, onDevF_runs hi, onRow_pass ⟨_, hchecked⟩ _ ha]

/-- A request answered OK with some data. -/
def Dev.answered (d : Dev) (data : List Byte) : Answer := { code := rcOK, dev := d, data := data }

theorem Answer.given_answered (d : Dev) (q : ManifestReq) (data : List Byte) : ((d.answered data).given q).1 = d.replied q data := rfl

section
variable {f : Fuses} {d : Dev} {q : ManifestReq} {r : ObjRow} (hvendor : vendorIdx q.index = false)
include hvendor

theorem Dev.readObj_value (hsub : q.sub ≠ 0) : Dev.readObj f d q r = d.answered (Dev.objBytes f d r q.index q.sub) := by
  simp only [Dev.readObj, if_neg hsub, hvendor, Bool.false_eq_true, if_false, Dev.answered]

/-- Sub-index 0 of an index is its highest sub-index (R457). -/
theorem Dev.readObj_top (hsub : q.sub = 0) : Dev.readObj f d q r = d.answered (natLe 1 ((topSub q.index).getD 0)) := by
  simp only [Dev.readObj, if_pos hsub, hvendor, Bool.false_eq_true, if_false, Dev.answered]

theorem Dev.describeObj_record : d.describeObj q r = d.answered (natLe 8 (describeRecord r q.index q.sub)) := by
  simp only [Dev.describeObj, hvendor, Bool.false_eq_true, false_and, if_false, Dev.answered]

end

theorem manifestRead_answers {s : State} {q : ManifestReq} {r : ObjRow} {d : Dev} {data : List Byte} (h : Passes s q .read r)
    (ha : Dev.readObj s.fuses (s.opened q) q r = d.answered data) : exec (.manifestRead q) s = .next (s.withDev (d.replied q data)) := by
  rw [exec_manifestRead, execManifestRead, onReq_onRow_given h rfl ha, Answer.given_answered]

/-- The row of ALERT_CAUSE is that of one object, read through the Board's path. -/
theorem rowOf_alertCause {d : Dev} {q : ManifestReq} (h : d.rowOf q = .alertCause) : q.index = 0x4000 ∧ q.sub = 6 := by
  by_contra hother
  have hread : ¬(q.op = 1 ∧ q.index = 0x4000 ∧ q.sub = 6 ∧ q.kcl = false) := fun ⟨_, hindex, hsub, _⟩ => hother ⟨hindex, hsub⟩
  simp [Dev.rowOf, Dev.writeRow, hread, ite_eq_iff] at h

/-- The device whose ALERT_N is high. -/
def Dev.alertReleased (d : Dev) : Dev := { d with pwr := { d.pwr with alertLow := false } }

theorem Dev.writeObj_stores {f : Fuses} {d : Dev} {q : ManifestReq} {r : ObjRow} (hallowed : Dev.ownDenied f d q ((reqValues r q.data).headD 0) = false)
    (hstate : d.ownState q.index q.sub = false) (htyped : (reqValues r q.data).any (outside r) = false)
    (hrange : d.ownRange q.index q.sub ((reqValues r q.data).headD 0) = false) :
    Dev.writeObj f d q r = ((Dev.put f d q.index q.sub (reqValues r q.data)).tellStandby q.index).yes := by
  simp only [Dev.writeObj, hallowed, hstate, htyped, hrange, Bool.false_eq_true, or_self, if_false]

/-- The device without the connection of a request. -/
def Dev.connClosed (d : Dev) (q : ManifestReq) : Dev := { d with sec := { d.sec with conns := d.sec.conns.filter fun c => !(c.kcl == q.kcl && c.eid == q.eid) } }

/-- CLOSE names no object, and passes the checks that need none (R464). -/
theorem Dev.closeConn_closes {f : Fuses} {d : Dev} {q : ManifestReq} (hop : q.op = 4) (hiana : q.ianaOk = true) (hanswers : d.answers q = true)
    (hroom : d.noRoom q.kcl q.eid = false) (hheader : badHeader q = false) (hlc : lcPasses f q = true) (hready : d.starting q = false) :
    Dev.closeConn f d q = (d.connClosed q).replied q := by
  simp only [Dev.closeConn, hop, hiana, hanswers, hroom, hheader, hlc, hready, Dev.connClosed, Dev.replied, Bool.false_eq_true, Bool.true_eq_false, Bool.not_false, Bool.and_true,
    ne_eq, not_true_eq_false, or_self, if_false, if_true]

/-- Settles O12: each operation answers with what its object holds, or does what it asks for. -/
theorem manifestRequestsAreAnswered : Obligations.ManifestRequestsAreAnswered := by
  refine ⟨fun s q r h hvendor hsub => ?_, fun s q r h hvendor hsub => ?_, fun s q r h => ?_, fun s q r h hvendor => ?_,
    fun s q r vs h hvs hallowed hstate htyped hrange => ?_, fun s q hop hiana hanswers hroom hfirst hheader hlc hready => ?_⟩
  · exact manifestRead_answers h (Dev.readObj_value hvendor hsub)
  · exact manifestRead_answers h (Dev.readObj_top hvendor hsub)
  · obtain ⟨_, hchecked⟩ := id h
    obtain ⟨hindex, hsub⟩ := rowOf_alertCause hchecked.row
    have hread : Dev.readObj s.fuses (s.opened q) q r = _ := Dev.readObj_value (by rw [hindex]; rfl) (by rw [hsub]; decide)
    rw [exec_alertCause, execAlertCause, onReq_onRow_given (a := (s.opened q).alertReleased.answered (Dev.objBytes s.fuses (s.opened q) r q.index q.sub)) h rfl
      (by rw [hread]; rfl), Answer.given_answered, Dev.alertReleased]
  · rw [exec_manifestDescribe, execManifestDescribe, onReq_onRow_given h rfl (Dev.describeObj_record hvendor), Answer.given_answered]
  · subst hvs
    rw [exec_manifestWrite, execManifestWrite, onReq_rowDone_given h rfl (Dev.writeObj_stores hallowed hstate htyped hrange), Answer.given_yes]
  · rw [exec_manifestClose, execManifestClose, onReq_first hfirst, onDevF_runs (show wellFormed (.manifestClose q) = true from rfl),
      Dev.closeConn_closes hop hiana hanswers hroom hheader hlc hready, Dev.connClosed]

end Sys2Proof.Machine
end

section
/-! Proofs of the statements of chapter 14: what a notice leaves, when FAULT_N is low, and what an acknowledgement moves. -/

namespace Sys2Proof.Machine

/-! ### Notices (R408) -/

theorem Dev.logEvent_getLast (d : Dev) (typ src ctx detail cls dflt level : Nat) :
    ∃ r, (d.logEvent typ src ctx detail cls dflt level).events.getLast? = some r ∧ r.source = src ∧ r.level = level ∧ r.dflt = dflt ∧ r.detail = detail := by
  refine ⟨{ calendar := if d.obj 0xB000 0x06 = 0 then 0 else d.calendar, powerOn := d.onSeconds, detail := detail, seq := d.obj 0xB000 0x0A % 2 ^ 32,
            source := src, ctx := ctx, typ := typ, cls := cls, dflt := dflt, level := level }, ?_, rfl, rfl, rfl, rfl⟩
  simp only [Dev.logEvent, Dev.setObj_events]
  split <;> exact List.getLast?_concat

/-- A fault of default level 0 is logged and counted at level 0, and that is all. -/
theorem Dev.fault_notice {src : Nat} (hnotice : (faultSource src).2 = 0) (d : Dev) (ctx : Option Nat) (detail : Nat) :
    d.fault src ctx detail = (d.logEvent 0 src (ctx.getD 0xFF) detail (faultSource src).1 0 0).bumpAt 0x4000 0x07 0 1 := if_pos hnotice

/-- An element other than the one counted reads as before. -/
theorem Dev.obj_bumpAt_other {i s e j t : Nat} (h : objKey j t 0 ≠ objKey i s e) (d : Dev) (n : Nat) : (d.bumpAt i s e n).obj j t = d.obj j t := by
  unfold Dev.bumpAt
  split
  · rfl
  · exact d.objAt_setObjAt_other _ _ _ _ _ _ _ h

/-- Settles O49: of a notice only the logbook and its counts hear. -/
theorem noticesOpenNothing : Obligations.NoticesOpenNothing := by
  rintro d _ src ctx detail hnotice rfl
  rw [Dev.fault_notice hnotice]
  refine ⟨?_, fun k => ?_, ?_, by simp, by simp, by simp, by simp, by simp, by simp⟩
  · rw [Dev.bumpAt_events]
    exact d.logEvent_getLast ..
  · rw [Dev.fclass, Dev.bumpAt_faults, Dev.logEvent_faults, Dev.fclass]
  · rw [Dev.obj_bumpAt_other (by decide), logEvent_obj _ _ _ _ _ _ _ _ _ _ (by decide)]

/-! ### FAULT_N (R406) -/

/-- With power and verified SEC images FAULT_N is low where some class is open at the level it shows. -/
theorem Dev.faultLow_eq {d : Dev} (hpower : d.powered = true) (hverified : d.pwr.offKind ≠ 9) :
    d.faultLow = (decide (d.obj 0x4000 1 < 5) && d.faults.any fun p => p.2.isOpen && decide (d.obj 0x4000 1 ≤ p.2.level)) := by
  rw [Dev.faultLow, hpower, beq_false_of_ne hverified, Bool.false_or, Bool.true_and]

theorem faultLow_iff {d : Dev} (hpower : d.powered = true) (hverified : d.pwr.offKind ≠ 9) (hlevel : d.obj 0x4000 1 < 5) :
    d.faultLow = true ↔ ∃ k x, (k, x) ∈ d.faults ∧ x.isOpen = true ∧ d.obj 0x4000 1 ≤ x.level := by
  simp [Dev.faultLow_eq hpower hverified, hlevel]

/-- FAULT_N_LEVEL 5 is above every level. -/
theorem faultLow_of_five {d : Dev} (hpower : d.powered = true) (hverified : d.pwr.offKind ≠ 9) (hfive : d.obj 0x4000 1 = 5) : d.faultLow = false := by
  rw [Dev.faultLow_eq hpower hverified, hfive]
  rfl

/-- The row of FAULT_N_ACTIVE in the dictionary. -/
theorem objFind_faultActive : objFind 0x4000 2 = some ⟨0x4000, 1, 0x02, 1, 0, 1, 0, 0, 0, 0, 255, [0]⟩ := by decide +kernel

/-- FAULT_N_ACTIVE reads as one byte. -/
theorem Dev.objBytes_faultActive {f : Fuses} {d : Dev} {r : ObjRow} (hr : objFind 0x4000 2 = some r) : Dev.objBytes f d r 0x4000 2 = natLe 1 (if d.faultLow then 1 else 0) := by
  obtain rfl := Option.some.inj (objFind_faultActive.symm.trans hr)
  have hvalue : Dev.value f d 0x4000 2 0 = if d.faultLow then 1 else 0 := rfl
  cases hlow : d.faultLow <;> simp [Dev.objBytes, valueBytes, typeSize, hvalue, hlow]

theorem faultActive_reads {s : State} {q : ManifestReq} {r : ObjRow} (h : Passes s q .read r) (hindex : q.index = 0x4000) (hsub : q.sub = 2) :
    exec (.manifestRead q) s = .next (s.withDev ((s.opened q).replied q (natLe 1 (if (s.opened q).faultLow then 1 else 0)))) := by
  obtain ⟨_, hchecked⟩ := id h
  have hvendor : vendorIdx q.index = false := by rw [hindex]; rfl
  have hobj : (s.opened q).objRow q.index q.sub = objFind 0x4000 2 := by rw [hindex, hsub]; rfl
  have hr : objFind 0x4000 2 = some r := by
    rw [check_row hvendor (hobj.trans objFind_faultActive) hchecked.checks, objFind_faultActive]
  rw [manifestRead_answers h (Dev.readObj_value hvendor (by omega)), hindex, hsub, Dev.objBytes_faultActive hr]

/-- Settles O46: the pin is what its definition says under power and with verified images, and a READ answers it. -/
theorem faultPinFollowsTheClasses : Obligations.FaultPinFollowsTheClasses :=
  ⟨fun _ => faultLow_iff, by decide, fun _ => faultLow_of_five, fun _ _ _ => faultActive_reads⟩

/-! ### Acknowledgements (R410) -/

section
variable {α : Type} {p : α → Bool} {x : α} (hdefault : p x = false)
include hdefault

/-- An entry that a test finds is one of the table, where the test does not find the default. -/
theorem any_of_tblGet {t : Tbl α} {k : Nat} (h : p (tblGet x t k) = true) : (t.any fun e => p e.2) = true := by
  induction t with
  | nil => exact absurd h (ne_true_of_eq_false hdefault)
  | cons e t ih =>
    obtain ⟨a, w⟩ := e
    rw [List.any_cons, Bool.or_eq_true]
    by_cases ha : a = k
    · exact .inl (by simpa [tblGet, tblFind, ha] using h)
    · exact .inr (ih (by simpa [tblGet, tblFind, ha] using h))

/-- A test finds as much as before where an entry is set to one that it treats as the entry before. -/
theorem tblSet_any {v : α} {t : Tbl α} {k : Nat} (hsame : p v = p (tblGet x t k)) : ((tblSet t k v).any fun e => p e.2) = t.any fun e => p e.2 := by
  induction t with
  | nil => exact (Bool.or_false _).trans (hsame.trans hdefault)
  | cons e t ih =>
    obtain ⟨a, w⟩ := e
    simp only [tblSet]
    split
    · rw [List.any_cons, hsame, Bool.or_eq_right_iff_imp]
      exact any_of_tblGet hdefault
    · split
      case isTrue ha => simp [hsame, tblGet, tblFind, ha]
      case isFalse ha =>
        have htail : p v = p (tblGet x t k) := by simpa [tblGet, tblFind, ha] using hsame
        rw [List.any_cons, ih htail, List.any_cons]

end

/-- A class once it is acknowledged. -/
theorem Dev.ack_fclass_same (d : Dev) (k : Nat) : (d.ack k).fclass k = { d.fclass k with acked := true } := by
  rw [Dev.ack, Dev.fclass, Dev.logEvent_faults, tblGet_set_same]

theorem Dev.ack_fclass_other {j k : Nat} (hj : j ≠ k) (d : Dev) : (d.ack k).fclass j = d.fclass j := by
  rw [Dev.ack, Dev.fclass, Dev.logEvent_faults, tblGet_set_other _ _ _ _ _ hj, Dev.fclass]

/-- An acknowledgement moves neither the level of a class nor whether it is open. -/
theorem Dev.ack_fclass_level (d : Dev) (k j : Nat) : ((d.ack k).fclass j).level = (d.fclass j).level ∧ ((d.ack k).fclass j).isOpen = (d.fclass j).isOpen := by
  by_cases hj : j = k
  · subst hj
    rw [Dev.ack_fclass_same]
    exact ⟨rfl, rfl⟩
  · rw [Dev.ack_fclass_other hj]
    exact ⟨rfl, rfl⟩

theorem Dev.ack_pwr (d : Dev) (k : Nat) : (d.ack k).pwr = d.pwr := Dev.logEvent_pwr ..

/-- FAULT_N looks at levels and at what is open, and not at what is acknowledged. -/
theorem Dev.ack_faultLow (d : Dev) (k : Nat) : (d.ack k).faultLow = d.faultLow := by
  have hlevel : (d.ack k).obj 0x4000 1 = d.obj 0x4000 1 := logEvent_obj _ _ _ _ _ _ _ _ _ _ (by decide)
  have hfaults : (d.ack k).faults = tblSet d.faults k { d.fclass k with acked := true } := Dev.logEvent_faults ..
  have hany := tblSet_any (p := fun x : FaultClass => x.isOpen && decide (d.obj 0x4000 1 ≤ x.level)) (x := {}) rfl (v := { d.fclass k with acked := true }) (t := d.faults) (k := k) rfl
  simp only [Dev.faultLow, Dev.powered, Dev.ack_pwr, hlevel, hfaults, hany]

/-- Settles O47: the mark is all that an acknowledgement moves, beside the record of it. -/
theorem acknowledgingMovesNothingElse : Obligations.AcknowledgingMovesNothingElse := by
  refine ⟨fun s q r h hrange _ => ?_, fun d k => ⟨by rw [Dev.ack_fclass_same], fun j => ?_, d.ack_faultLow k, d.ack_pwr k, Dev.logEvent_out .., Dev.logEvent_net .., Dev.logEvent_host ..⟩⟩
  · rw [exec_ackClass, execAckClass]
    exact onReq_rowDone_yes h rfl (if_neg (ne_true_of_eq_false hrange))
  · obtain ⟨hlevel, hopen⟩ := d.ack_fclass_level k j
    exact ⟨hlevel, hopen, fun hj => Dev.ack_fclass_other hj d⟩

end Sys2Proof.Machine
end

section
/-! Proofs of the statements of chapter 13: the power cap, the tide gate and self-gating, the governor, the emergency levels, trims, temperatures and the counter page. -/

namespace Sys2Proof.Machine

/-! ### The cap (R380) -/

/-- CLASS_LIMIT once the Board has confirmed the strapped class. -/
theorem Dev.classLimit_confirmed {d : Dev} {v : Nat} (hstrap : v = d.pwr.strapClass) (hknown : v ≠ 3) :
    (d.setObj 0x2000 2 v).classLimit = if v = 2 then 2000 else if v = 1 then 1600 else 1000 := by
  have hactive : (d.setObj 0x2000 2 v).classActive = v := by
    rw [Dev.classActive, Dev.obj_setObj, Dev.setObj_pwr, if_pos ⟨hstrap, hstrap ▸ hknown⟩, hstrap]
  rw [Dev.classLimit, hactive]

theorem Dev.powerCap_default {d : Dev} (hdefault : d.pwr.capWritten = false) : d.powerCap = d.classLimit := if_neg (ne_true_of_eq_false hdefault)

theorem Dev.powerCap_written {d : Dev} (hwritten : d.pwr.capWritten = true) : d.powerCap = d.obj 0x2000 5 := if_pos hwritten

/-- Settles O48: the cap is read off CLASS_LIMIT until it is written, and off its own object then. -/
theorem theCapFollowsAConfirmedClass : Obligations.TheCapFollowsAConfirmedClass := by
  refine ⟨fun s q r h hstrap hknown => ?_, ?_⟩
  · rw [exec_classConfirm, execClassConfirm]
    have hopened : (s.opened q).pwr = s.dev.pwr := openConn_pwr ..
    exact onReq_rowDone_yes h rfl (if_pos ⟨by rw [hopened, hstrap], hstrap ▸ hknown⟩)
  · rintro d _ v rfl hstrap hknown
    refine ⟨Dev.classLimit_confirmed hstrap hknown, fun hdefault => Dev.powerCap_default hdefault, fun hwritten => ?_⟩
    rw [Dev.powerCap_written hwritten, Dev.powerCap_written (d := d.setObj 0x2000 2 v) hwritten, Dev.obj_setObj_other _ _ _ _ _ _ (by decide)]

/-! ### The tide gate (R396, R397) -/

section
variable {d : Dev}

/-- The device once a quiet core has asked: its gated blocks begin their wake. -/
def Dev.tideAsked (d : Dev) (c : CoreRef) (x : CoreSt) : Dev :=
  d.setCore c { x with asking := true, wakeAt := if x.powerGated then d.time + 200 else x.wakeAt, powerGated := false, clockGated := false }

theorem Dev.tideAsk_asks {c : CoreRef} {x : CoreSt} (hx : d.core c = x) (hready : x.rowReady = true) (hquiet : d.quiet c = true) (hfirst : x.asking = false) :
    d.tideAsk c = if (tblFind (d.tideAsked c x).cmp.tides (c.cl / 2)).isSome then d.tideAsked c x
      else ({ d.tideAsked c x with cmp := { (d.tideAsked c x).cmp with tides := tblSet (d.tideAsked c x).cmp.tides (c.cl / 2) { start := (d.tideAsked c x).time } } } : Dev).bump
        (0x2010 + c.cl / 2) 0x0A 1 := by
  subst hx
  exact if_pos (by rw [hready, hquiet, hfirst]; rfl)

variable {die : Nat} {t : Tide} (htide : tblFind d.cmp.tides die = some t) (hdue : t.start + 64 * t.wave ≤ d.time)
include htide hdue

/-- The device once a wave has admitted the first three that ask. -/
def Dev.waveAdmitted (d : Dev) (die : Nat) : Dev :=
  ((d.askers die).take 3).foldl (fun d c => (d.modCore c fun x => { x with asking := false, quiet := false, lastRow := max d.time x.wakeAt }).bumpFree (0x2010 + die) 0x0B) d

theorem Dev.tideWave_admits (hask : d.askers die ≠ []) :
    d.tideWave die = ({ d.waveAdmitted die with cmp := { (d.waveAdmitted die).cmp with
      tides := tblSet (d.waveAdmitted die).cmp.tides die { t with wave := t.wave + 1 } } } : Dev).retry := by
  simp only [Dev.tideWave, htide, if_neg (Nat.not_lt.mpr hdue), if_neg hask, Dev.waveAdmitted]

theorem Dev.tideWave_ends (hnone : d.askers die = []) : d.tideWave die = { d with cmp := { d.cmp with tides := tblErase d.cmp.tides die } } := by
  simp only [Dev.tideWave, htide, if_neg (Nat.not_lt.mpr hdue), if_pos hnone]

end

/-! ### Self-gating (R399, R400) -/

/-- Where nothing waits and no weights are on their way, only the time since the last work counts. -/
theorem Dev.arraysIdle_of_still {d : Dev} {c : CoreRef} (hwait : (d.core c).wait = none) (hloads : (d.core c).loads = []) (f : Nat → Bool) :
    d.arraysIdle c f = f (d.time - max (d.core c).lastRow (d.core c).lastLoad) := by
  simp only [Dev.arraysIdle, hwait, hloads, Option.any_none, List.isEmpty_nil, Bool.not_false, Bool.true_and]

theorem Dev.vectorIdle_of_still {d : Dev} {c : CoreRef} (hwait : (d.core c).wait = none) (f : Nat → Bool) : d.vectorIdle c f = f (d.time - (d.core c).lastVec) := by
  simp only [Dev.vectorIdle, hwait, Option.any_none, Bool.not_false, Bool.true_and]

/-- Settles O11: a request, a wave and a gate each do their part where they are due. -/
theorem tideAndGatesHappen : Obligations.TideAndGatesHappen := by
  refine ⟨fun s c x hc hx hready hquiet hfirst => ⟨_, rfl, ?_⟩, fun s die t hdie htide hdue hask => ⟨_, rfl, ?_⟩, fun s die t hdie htide hdue hnone => ?_,
    fun s c a v hc ha hv => ?_, fun s c a v hc ha hv => ?_, fun d c f x hx hwait hloads => ?_, fun x t => ⟨rfl, rfl, rfl, rfl, rfl, rfl⟩⟩
  · exact exec_of_onDev (exec_tideRequest c s) hc (Dev.tideAsk_asks hx hready hquiet hfirst)
  · exact exec_of_onDev (exec_tideWave die s) (decide_eq_true hdie) (Dev.tideWave_admits htide hdue hask)
  · exact exec_of_onDev (exec_tideWave die s) (decide_eq_true hdie) (Dev.tideWave_ends htide hdue hnone)
  · subst ha hv
    exact exec_of_onDev (exec_powerGate c s) hc rfl
  · subst ha hv
    exact exec_of_onDev (exec_selfGate c s) hc rfl
  · subst hx
    exact ⟨Dev.arraysIdle_of_still hwait hloads f, Dev.vectorIdle_of_still hwait f⟩

end Sys2Proof.Machine
end

section
/-! Proofs of the statement of chapter 13 on power and heat: the governor, the emergency levels, droops, trims, sensors, the trip, and the counter page. -/

namespace Sys2Proof.Machine

/-! ### Rows of power (R372) -/

theorem Dev.powerRow_runs {d e : Dev} {g : Dev → Dev} (hawake : d.pwr.offKind = 0) (he : g d = e) : d.powerRow g = (e.levelMoved d).audit d := by
  rw [Dev.powerRow, if_pos hawake, he]

/-! ### The governor (R382) -/

@[simp] theorem Dev.setOp_time (d : Dev) (op : Nat) : (d.setOp op).time = d.time := by
  unfold Dev.setOp
  dsimp only
  split
  · rfl
  · rw [Dev.bump_time]; rfl

/-- An operating point in force is the ceiling. -/
theorem Dev.setOp_ceiling (d : Dev) (op : Nat) : (d.setOp op).obj 0x2000 0x09 = op := by
  unfold Dev.setOp
  dsimp only
  split
  · exact Dev.obj_setObj ..
  · rw [Dev.obj_bump_other _ _ _ _ _ _ (by decide), Dev.obj_setObj]

/-- Beside the point, its ceiling and the count of changes nothing is moved. -/
theorem Dev.setOp_obj_other {j t : Nat} (hnow : objKey j t 0 ≠ objKey 0x2000 0x08 0) (hceiling : objKey j t 0 ≠ objKey 0x2000 0x09 0)
    (hcount : objKey j t 0 ≠ objKey 0x2000 0x13 0) (d : Dev) (op : Nat) : (d.setOp op).obj j t = d.obj j t := by
  unfold Dev.setOp
  dsimp only
  split
  · rw [Dev.obj_setObj_other _ _ _ _ _ _ hceiling, Dev.obj_setObj_other _ _ _ _ _ _ hnow]
  · rw [Dev.obj_bump_other _ _ _ _ _ _ hcount, Dev.obj_setObj_other _ _ _ _ _ _ hceiling, Dev.obj_setObj_other _ _ _ _ _ _ hnow]

@[simp] theorem Dev.addEnergy_time (d : Dev) (average : Nat) : (d.addEnergy average).time = d.time := by
  unfold Dev.addEnergy
  dsimp only
  rw [Dev.bump_time, Dev.bump_time]

/-- The device with the average of a period and the ceilings that follow from it. -/
def Dev.ceilingsSet (d : Dev) (average op duty : Nat) : Dev :=
  let e := (((d.addEnergy average).setObj 0x2000 0x06 (average / 1000)).setOp op).setObj 0x2000 0x0B duty
  if duty < 16 then e.bump 0x2000 0x12 1 else e

section
variable (d : Dev) (average op duty : Nat)

@[simp] theorem Dev.ceilingsSet_time : (d.ceilingsSet average op duty).time = d.time := by
  unfold Dev.ceilingsSet
  dsimp only
  split <;> simp

theorem Dev.ceilingsSet_duty : (d.ceilingsSet average op duty).obj 0x2000 0x0B = duty := by
  unfold Dev.ceilingsSet
  dsimp only
  split
  · rw [Dev.obj_bump_other _ _ _ _ _ _ (by decide), Dev.obj_setObj]
  · exact Dev.obj_setObj ..

theorem Dev.ceilingsSet_other {j t : Nat} (hcount : objKey j t 0 ≠ objKey 0x2000 0x12 0) (hduty : objKey j t 0 ≠ objKey 0x2000 0x0B 0) :
    (d.ceilingsSet average op duty).obj j t = (((d.addEnergy average).setObj 0x2000 0x06 (average / 1000)).setOp op).obj j t := by
  unfold Dev.ceilingsSet
  dsimp only
  split
  · rw [Dev.obj_bump_other _ _ _ _ _ _ hcount, Dev.obj_setObj_other _ _ _ _ _ _ hduty]
  · exact Dev.obj_setObj_other _ _ _ _ _ _ hduty

theorem Dev.ceilingsSet_op : (d.ceilingsSet average op duty).obj 0x2000 0x09 = op := by
  rw [Dev.ceilingsSet_other _ _ _ _ (by decide) (by decide), Dev.setOp_ceiling]

theorem Dev.ceilingsSet_average : (d.ceilingsSet average op duty).obj 0x2000 0x06 = average / 1000 := by
  rw [Dev.ceilingsSet_other _ _ _ _ (by decide) (by decide), Dev.setOp_obj_other (by decide) (by decide) (by decide), Dev.obj_setObj]

end

/-- How many periods on the forecast left headroom, this one among them. -/
def Dev.headroomRuns (d : Dev) (g : GovernorInput) : Nat :=
  if d.forecast g ≤ d.powerCap * 1000 ∧ d.powerCap * 1000 ≤ 20 * (d.powerCap * 1000 - d.forecast g) then d.pwr.headroomRun + 1 else 0

/-- The point and the duty that a period leads to, held where THROTTLE_N is low (R382, R390, R392). -/
def Dev.periodOp (d : Dev) (g : GovernorInput) : Nat :=
  max (max (max (d.govern g (d.headroomRuns g)).1 (d.obj 0x2000 0x0A)) (max d.opLimit d.warmNext)) (if d.pwr.throttleLow then d.obj 0x2000 0x08 else 0)
def Dev.periodDuty (d : Dev) (g : GovernorInput) : Nat :=
  min (min (d.govern g (d.headroomRuns g)).2 d.dutyLimit) (if d.pwr.throttleLow then d.obj 0x2000 0x0B else 16)

/-- What the governor keeps for its next period: `d` is the device at the period's beginning, `e` the one whose ceilings are set. -/
def Dev.periodKept (d e : Dev) (g : GovernorInput) : Power :=
  let ten := (g.average :: e.pwr.averages).take 10
  { e.pwr with
    headroomRun := d.headroomRuns g, warm := d.warmNext, governedAt := e.time, averages := ten
    overSince := if d.periodOp g = 7 ∧ d.periodDuty g = 1 ∧ d.powerCap * 1000 * ten.length < ten.sum then some (e.pwr.overSince.getD e.time) else none }

/-- The device after a period, but for the mark of an unattainable cap. -/
def Dev.periodEnded (d : Dev) (g : GovernorInput) : Dev :=
  let e := d.ceilingsSet g.average (d.periodOp g) (d.periodDuty g)
  { e with pwr := d.periodKept e g }

theorem Dev.obj_withPwr (d : Dev) (x : Power) (j t : Nat) : ({ d with pwr := x } : Dev).obj j t = d.obj j t := rfl

theorem Dev.periodEnded_obj (d : Dev) (g : GovernorInput) (j t : Nat) :
    (d.periodEnded g).obj j t = (d.ceilingsSet g.average (d.periodOp g) (d.periodDuty g)).obj j t := by
  unfold Dev.periodEnded
  exact Dev.obj_withPwr ..

section
variable {d : Dev} {g : GovernorInput} (hruns : d.restarting 1 = false) (hdue : d.pwr.governedAt + 100000 ≤ d.time)
include hruns hdue

theorem Dev.governor_runs : d.governor g = if g.average < d.powerCap * 1000 then (d.periodEnded g).setObj 0x2000 0x0C 0 else d.periodEnded g := by
  have hgoes : ¬(d.restarting 1 = true ∨ d.time < d.pwr.governedAt + 100000) := not_or.mpr ⟨ne_true_of_eq_false hruns, Nat.not_lt.mpr hdue⟩
  rw [Dev.governor, if_neg hgoes]
  rfl

/-- The mark of an unattainable cap touches nothing that the governor keeps. -/
theorem Dev.governor_pwr : (d.governor g).pwr = d.periodKept (d.ceilingsSet g.average (d.periodOp g) (d.periodDuty g)) g := by
  rw [Dev.governor_runs hruns hdue]
  split <;> rfl

theorem Dev.governor_obj {t : Nat} (hmark : objKey 0x2000 t 0 ≠ objKey 0x2000 0x0C 0) :
    (d.governor g).obj 0x2000 t = (d.ceilingsSet g.average (d.periodOp g) (d.periodDuty g)).obj 0x2000 t := by
  rw [Dev.governor_runs hruns hdue]
  split
  · rw [Dev.obj_setObj_other _ _ _ _ _ _ hmark, Dev.periodEnded_obj]
  · exact d.periodEnded_obj g _ _

end

/-! ### The fast limiter and the cap (R384, R385) -/

theorem Dev.limit_halves {d : Dev} {sample : Nat} (hover : 11 * (d.powerCap * 1000) < 10 * sample) (hduty : 1 < d.obj 0x2000 0x0B) :
    d.limit sample = (d.setObj 0x2000 0x0B (d.obj 0x2000 0x0B / 2)).bump 0x2000 0x11 1 := if_pos ⟨hover, hduty⟩

theorem Dev.unattainable_reports {d : Dev} {average t : Nat} (hover : d.pwr.overSince = some t) (hop : d.obj 0x2000 0x08 = 7) (hduty : d.obj 0x2000 0x0B = 1)
    (habove : d.powerCap * 1000 < average) (hlong : t + 100000000 ≤ d.time) (hfirst : d.obj 0x2000 0x0C = 0) :
    d.unattainable average = (d.setObj 0x2000 0x0C 1).fault 0x0401 none 0 := by
  simp only [Dev.unattainable, hover, if_pos (show _ ∧ _ ∧ _ ∧ _ ∧ _ from ⟨hop, hduty, habove, hlong, hfirst⟩)]

/-! ### THROTTLE_N, E2 and droops (R390, R391, R393) -/

/-- The device whose THROTTLE_N pin reads low. -/
def Dev.throttledPin (d : Dev) : Dev := { d with pwr := { d.pwr with throttleLow := true } }

theorem Dev.throttle_imposes {d : Dev} (hhigh : d.pwr.throttleLow = false) (hpower : d.powered = true) :
    d.throttle = (d.throttledPin.impose.bump 0x2000 0x10 1).levelMoved d.throttledPin := by
  rw [Dev.throttle, if_neg (ne_true_of_eq_false hhigh)]
  exact if_pos hpower

theorem Dev.leaveE2_leaves {d : Dev} {t : Nat} (he2 : d.pwr.e2 = true) (hgone : d.pwr.e2Gone = some t) (hcool : d.junctionAt (celsius 105) = false)
    (hlong : t + 1000000 ≤ d.time) : d.leaveE2 = { d with pwr := { d.pwr with e2 := false, e2Gone := none } } := by
  simp only [Dev.leaveE2, hgone, if_pos (show _ ∧ _ ∧ _ from ⟨he2, hcool, hlong⟩)]

/-- The device with the stretches of a die in the last 1 ms. -/
def Dev.stretchNoted (d : Dev) (die : Nat) (ts : List Nat) : Dev :=
  ({ d with pwr := { d.pwr with droops := tblSet d.pwr.droops die ts } } : Dev).bump (0x2010 + die) 0x08 1

/-- A stretch is counted, and no condition of E2 while there are no more than 1,000 within 1 ms. -/
theorem Dev.stretch_counts {d : Dev} {die : Nat} {ts : List Nat}
    (hts : ts = ((tblGet [] d.pwr.droops die).filter fun t => decide (d.time < t + 1000000)) ++ [d.time]) (hfew : ts.length ≤ 1000) :
    d.stretch die = d.stretchNoted die ts := by
  subst hts
  exact if_neg (Nat.not_lt.mpr hfew)

/-! ### Trims (R388) -/

theorem Dev.askTrim_waits {d : Dev} {die : Nat} (hsoon : d.trimFree die = false) :
    d.askTrim die = { d with pwr := { d.pwr with trimWaiting := insertNat die d.pwr.trimWaiting } } := if_neg (ne_true_of_eq_false hsoon)

theorem Dev.trimWaits_grants {d : Dev} {die : Nat} (hwaits : die ∈ d.pwr.trimWaiting) (hfree : d.trimFree die = true) :
    d.trimWaits die = ({ d with pwr := { d.pwr with trimWaiting := d.pwr.trimWaiting.filter fun q => q != die } } : Dev).trim die := if_pos ⟨hwaits, hfree⟩

/-! ### Temperatures and the trip (R394, R395) -/

section
variable {d : Dev} {stack : Bool} {sensor : Nat} {temp : Int}

/-- A reading below 105 °C trips no sensor. -/
theorem tripsAt_of_cool (hcool : temp < celsius 105) : tripsAt stack temp = false := by
  have hthreshold : celsius 105 < celsius 115 := by decide
  cases stack <;> exact decide_eq_false (by simp only [if_true, if_false, Bool.false_eq_true]; omega)

/-- The device after a reading, with the warning at 95 °C as it is crossed. -/
def Dev.warned (d : Dev) (stack : Bool) (sensor : Nat) (temp : Int) : Dev :=
  if tblGet 200 (if stack then d.pwr.stackTemps else d.pwr.temps) sensor < celsius 95 ∧ celsius 95 ≤ temp
  then (d.reads stack sensor temp).fault 0x0402 none (sensorDetail stack sensor) else d.reads stack sensor temp

/-- Without a junction at 105 °C a reading brings neither the trip nor E2. -/
theorem Dev.sensor_notes (hpower : d.powered = true) (hcool : temp < celsius 105) (hjunction : d.junctionAt (celsius 105) = false) :
    d.sensor stack sensor temp = ((d.warned stack sensor temp).levelMoved d).audit d := by
  have hbelow : ¬(stack = false ∧ celsius 105 ≤ temp) := fun h => Int.not_le.mpr hcool h.2
  rw [Dev.sensor, if_pos hpower, Dev.newTemp]
  simp only [hjunction, tripsAt_of_cool hcool, if_neg hbelow, Bool.false_eq_true, false_and, and_false, if_false, Dev.warned]

/-- A reading at its sensor's threshold trips the module, after the warning that it may bring. -/
theorem Dev.sensor_trips (hpower : d.powered = true) (hhot : tripsAt stack temp = true) :
    d.sensor stack sensor temp = (d.warned stack sensor temp).trip (sensorDetail stack sensor) (stack, sensor) := by
  rw [Dev.sensor, if_pos hpower, Dev.newTemp]
  exact if_pos hhot

end

/-! ### The counter page (R424) -/

/-- The page that the device would write next. -/
def Dev.nextPage (d : Dev) : CounterPage :=
  let p : CounterPage := { values := d.objs.filter fun p => lifeKey p.1, onNs := d.pwr.onNs, seq := d.pwr.newestPage.seq + 1 }
  { p with crc := p.sum }

/-- A written page has a sequence number and its own CRC, which is no part of what it is taken over. -/
theorem Dev.nextPage_valid (d : Dev) : d.nextPage.valid = true :=
  Bool.and_eq_true_iff.mpr ⟨bne_iff_ne.mpr (Nat.succ_ne_zero _), beq_iff_eq.mpr rfl⟩

theorem Dev.nextPage_seq (d : Dev) : d.nextPage.seq = d.pwr.newestPage.seq + 1 := rfl

/-- Where the first copy is not the newest, a valid second one is. -/
theorem Power.newestPage_of_ne {x : Power} (hne : x.newestPage ≠ x.pageA) (hvalid : x.pageB.valid = true) : x.newestPage = x.pageB := by
  by_cases hfirst : (x.pageA.valid && (!(x.pageB.valid) || decide (x.pageB.seq ≤ x.pageA.seq))) = true
  · exact absurd (if_pos hfirst) hne
  · rw [Power.newestPage, if_neg hfirst, if_pos hvalid]

/-- The page that was written last is the newest: it overwrites the older copy with a higher number. -/
theorem Dev.writePage_newest (d : Dev) : d.writePage.pwr.newestPage = d.nextPage := by
  by_cases hfirst : d.pwr.newestPage = d.pwr.pageA
  · have hwritten : d.writePage = { d with pwr := { d.pwr with pageB := d.nextPage } } := if_pos hfirst
    have hseq : ¬d.nextPage.seq ≤ d.pwr.pageA.seq := by rw [Dev.nextPage_seq, hfirst]; exact Nat.not_succ_le_self _
    simp [hwritten, Power.newestPage, d.nextPage_valid, hseq]
  · have hwritten : d.writePage = { d with pwr := { d.pwr with pageA := d.nextPage } } := if_neg hfirst
    have hseq : d.pwr.pageB.valid = true → d.pwr.pageB.seq ≤ d.nextPage.seq := fun hvalid => by
      rw [Dev.nextPage_seq, Power.newestPage_of_ne hfirst hvalid]
      exact Nat.le_succ _
    cases hvalid : d.pwr.pageB.valid with
    | false => simp [hwritten, Power.newestPage, d.nextPage_valid, hvalid]
    | true => simp [hwritten, Power.newestPage, d.nextPage_valid, hvalid, hseq hvalid]

/-! ### The statement -/

/-- Settles O21: each event has its row's effect where it is due, in its own lemma. -/
theorem powerAndHeatEventsHappen : Obligations.PowerAndHeatEventsHappen := by
  refine ⟨fun s g hawake => ?_, fun d g run hruns hdue hrun hhigh => ?_, fun s sample hawake hover hduty => ?_,
    fun s average t hawake hover hop hduty habove hlong hfirst => ?_, fun s d hhigh hpower hd => ?_, fun s d hd => ?_, fun s die hdie hawake => ?_,
    fun s t hawake he2 hgone hcool hlong => ?_, fun s die ts hdie hawake hts hfew => ?_, fun s die hdie hawake hfree => ?_, fun s die hdie hawake hsoon => ?_,
    fun s die hdie hawake hwaits hfree => ?_, fun s stack sensor temp hsensor hpower hcool hjunction => ?_,
    fun s stack sensor temp hsensor hpower hold hwarm hcool hjunction => ?_, fun s stack sensor temp hsensor hpower hhot => ?_, fun s d hpower hdue hd => ?_, fun d => ?_⟩
  · exact exec_of_onDev (exec_governorPeriod g s) rfl (Dev.powerRow_runs hawake rfl)
  · rw [Dev.governor_pwr hruns hdue, Dev.governor_obj hruns hdue (by decide), Dev.governor_obj hruns hdue (by decide), Dev.governor_obj hruns hdue (by decide),
      Dev.ceilingsSet_duty, Dev.ceilingsSet_op, Dev.ceilingsSet_average, Dev.periodOp, Dev.periodDuty, hhigh, hrun]
    exact ⟨Dev.ceilingsSet_time .., rfl, rfl, rfl, rfl⟩
  · exact exec_of_onDev (exec_fastLimiter sample s) rfl (Dev.powerRow_runs hawake (Dev.limit_halves hover hduty))
  · exact exec_of_onDev (exec_capUnattainable average s) rfl (Dev.powerRow_runs hawake (Dev.unattainable_reports hover hop hduty habove hlong hfirst))
  · subst hd
    exact exec_of_onDev (exec_throttleNLow s) rfl (congrArg (·.audit s.dev) (Dev.throttle_imposes hhigh hpower))
  · subst hd
    exact exec_of_onDev (exec_throttleNHigh s) rfl rfl
  · exact exec_of_onDev (exec_currentLimit die s) (decide_eq_true hdie) (Dev.powerRow_runs hawake rfl)
  · exact exec_of_onDev (exec_e2End s) rfl (Dev.powerRow_runs hawake (Dev.leaveE2_leaves he2 hgone hcool hlong))
  · exact exec_of_onDev (exec_droopStretch die s) (decide_eq_true hdie) (Dev.powerRow_runs hawake (Dev.stretch_counts hts hfew))
  · exact exec_of_onDev (exec_trimRequest die s) (decide_eq_true hdie) (Dev.powerRow_runs hawake (if_pos hfree))
  · exact exec_of_onDev (exec_trimRequest die s) (decide_eq_true hdie) (Dev.powerRow_runs hawake (Dev.askTrim_waits hsoon))
  · exact exec_of_onDev (exec_trimIntervalEnd die s) (decide_eq_true hdie) (Dev.powerRow_runs hawake (Dev.trimWaits_grants hwaits hfree))
  · have hnotified : s.dev.warned stack sensor temp = s.dev.reads stack sensor temp := if_neg fun h => Int.not_le.mpr hcool h.2
    have hbelow : temp < celsius 105 := Int.lt_trans hcool (by decide)
    exact exec_of_onDev (exec_tempThreshold stack sensor temp s) (decide_eq_true hsensor) (by rw [Dev.sensor_notes hpower hbelow hjunction, hnotified])
  · have hnotified : s.dev.warned stack sensor temp = (s.dev.reads stack sensor temp).fault 0x0402 none (sensorDetail stack sensor) := if_pos ⟨hold, hwarm⟩
    exact exec_of_onDev (exec_tempThreshold stack sensor temp s) (decide_eq_true hsensor) (by rw [Dev.sensor_notes hpower hcool hjunction, hnotified])
  · have htrips : tripsAt stack temp = true := decide_eq_true hhot
    have hwarm : celsius 95 ≤ temp := le_trans (by cases stack <;> decide) hhot
    refine exec_of_onDev (exec_thermalTrip stack sensor temp s) (decide_eq_true hsensor) ?_
    simp only [htrips, if_true, Dev.sensor_trips hpower htrips, Dev.warned, hwarm, and_true]
  · subst hd
    exact exec_of_onDev (exec_counterPageWrite s) rfl (if_pos ⟨hpower, hdue⟩)
  · rw [Dev.writePage_newest]
    exact ⟨rfl, rfl, rfl⟩

end Sys2Proof.Machine
end

section
/-! Proofs of the statements of chapter 17: requested resets, power states and wakes, RESET_N, the steps of a start that wait, and the loss of input power. -/

namespace Sys2Proof.Machine

/-! ### Wakes (R502, R503) -/

section
variable {d : Dev} (hstill : d.pwr.due = none)
include hstill

/-- With nothing due no power state is being entered. -/
theorem Dev.entering_of_still : d.entering = none := by rw [Dev.entering, hstill, Option.filter_none]

theorem Dev.wake_sleep (hstate : d.pwr.offKind = 2) (cause : Nat) : d.wake cause = d.wakeSleep cause := by
  simp only [Dev.wake, Dev.entering_of_still hstill, hstate, Option.isSome_none, Bool.false_eq_true, if_true, if_false]

theorem Dev.wake_deep (hstate : d.pwr.offKind = 3) (cause : Nat) : d.wake cause = d.wakeDeep cause := by
  rw [Dev.wake, Dev.entering_of_still hstill, if_neg (by decide), hstate, if_neg (by decide), if_pos rfl]

end

/-- The device whose WAKE_N pin reads low. -/
def Dev.wakePin (d : Dev) : Dev := { d with pwr := { d.pwr with wakeLow := true } }

/-- WAKE_N acts at once where the module is not OFF. -/
theorem exec_wakeN_of_ne {s : State} {e : Dev} (hstate : s.dev.pwr.offKind ≠ 4) (hwake : s.dev.wakePin.wake 1 = e) : exec .wakeN s = .next (s.withDev e) :=
  exec_of_onDev (exec_wakeN s) rfl ((if_neg hstate).trans hwake)

theorem exec_wakeTimer_of_due {s : State} {e : Dev} (hset : s.dev.obj 0x2000 0x23 ≠ 0) (hdue : s.dev.pwr.sleptAt + s.dev.obj 0x2000 0x23 ≤ s.dev.time)
    (hwake : s.dev.wake 2 = e) : exec .wakeTimer s = .next (s.withDev e) :=
  exec_of_onDev (exec_wakeTimer s) rfl ((if_pos ⟨hset, hdue⟩).trans hwake)

/-! ### Requests for a power state (R500) -/

theorem Dev.replied_pwr (d : Dev) (q : ManifestReq) (data : List Byte) : (d.replied q data).pwr = d.pwr := rfl

theorem State.opened_pwr (s : State) (q : ManifestReq) : (s.opened q).pwr = s.dev.pwr := openConn_pwr ..

theorem Dev.requestSleep_yes {d : Dev} (hclear : d.entryClear [1, 3, 6] true = true) : d.requestSleep = d.yes := by
  simp only [Dev.requestSleep, hclear, if_true, ite_self]

/-! ### IDLE (R499) -/

theorem exec_idleEntry_of_due {s : State} {t : Nat} (hrest : s.dev.noteIdle.pwr.idleSince = some t)
    (hdue : t + s.dev.noteIdle.obj 0x2000 0x25 * 1000 ≤ s.dev.noteIdle.time) : exec .idleEntry s =
      .next (s.withDev (({ s.dev.noteIdle with pwr := { s.dev.noteIdle.pwr with idleSince := none } } : Dev).setObj 0x2000 0x20 1)) := by
  refine exec_of_onDev (exec_idleEntry s) rfl ?_
  dsimp only
  rw [hrest]
  exact if_pos hdue

/-! ### RESET_N and waiting starts (R490, R496) -/

/-- The device whose RESET_N pin reads low. -/
def Dev.resetPin (d : Dev) : Dev := { d with pwr := { d.pwr with resetLow := true } }

theorem Dev.resetFalls_resets (f : Fuses) {d : Dev} (hhigh : d.pwr.resetLow = false) (hpowered : [0, 1, 2, 8, 9].contains d.pwr.offKind = true) :
    Dev.resetFalls f d = Dev.reset f d.resetPin 1 := by
  rw [Dev.resetFalls, if_neg (ne_true_of_eq_false hhigh)]
  exact if_pos hpowered

theorem Dev.startOn_starts (f : Fuses) {d : Dev} (hwaits : d.pwr.offKind = 8) (hclock : d.pwr.refclk = true) (hhigh : d.pwr.resetLow = false) :
    Dev.startOn f d = Dev.started f d := if_pos ⟨hwaits, hclock, hhigh⟩

/-- Settles O17: an accepted request replies and sets the module on its way, a wake leaves the state that the module is in, and RESET_N holds a start. -/
theorem powerStatesAndResetsHappen : Obligations.PowerStatesAndResetsHappen := by
  refine ⟨fun s q r h => ?_, fun s q r h => ?_, fun s q r h hrun hclear => ?_, fun s q r h hclear => ?_, fun s q r h hclear => ?_, fun s q r h hsleeps => ?_,
    fun s t hrest hdue => exec_idleEntry_of_due hrest hdue, fun s hsleeps hstill => ?_, fun s hdeep hstill => ?_, fun s hoff => ?_,
    fun s hset hdue hstill => ⟨fun hsleeps => ?_, fun hdeep => ?_⟩, fun s hsleeps hstill => ?_, fun s hdeep hstill => ?_, fun s hhigh hpowered => ?_,
    fun s hwaits hclock => ?_⟩
  · rw [exec_resetRequestFunction, execResetRequestFunction]
    exact onReq_then_yes h rfl (thenAct · fun d => d.resetLater 19) rfl
  · rw [exec_resetRequestWarm, execResetRequestWarm]
    exact onReq_then_yes h rfl (thenAct · fun d => d.resetLater 18) rfl
  · rw [exec_pstateRequestSleep, execPstateRequestSleep, onReq_then_yes h rfl (thenAct · fun d => if d.pwr.offKind = 2 then d else d.enterState 2)
      (Dev.requestSleep_yes hclear)]
    have hawake : ((s.opened q).replied q).pwr.offKind ≠ 2 := by rw [Dev.replied_pwr, State.opened_pwr, hrun]; decide
    exact congrArg (fun d => Host.Outcome.next (s.withDev d)) (if_neg hawake)
  · rw [exec_pstateRequestDeep, execPstateRequestDeep]
    exact onReq_then_yes h rfl (thenAct · fun d => d.enterState 3) (if_pos hclear)
  · rw [exec_pstateRequestOff, execPstateRequestOff]
    exact onReq_then_yes h rfl (thenAct · fun d => d.enterState 4) (if_pos hclear)
  · rw [exec_pstateRequestRun, execPstateRequestRun, onReq_then_yes h rfl (thenAct · fun d => if d.pwr.offKind = 2 then d.wakeSleep 5 else d) rfl]
    have hstill : ((s.opened q).replied q).pwr.offKind = 2 := by rw [Dev.replied_pwr, State.opened_pwr, hsleeps]
    exact congrArg (fun d => Host.Outcome.next (s.withDev d)) (if_pos hstill)
  · exact exec_wakeN_of_ne (by rw [hsleeps]; decide) (Dev.wake_sleep (d := s.dev.wakePin) hstill hsleeps 1)
  · exact exec_wakeN_of_ne (by rw [hdeep]; decide) (Dev.wake_deep (d := s.dev.wakePin) hstill hdeep 1)
  · exact exec_of_onDev (exec_wakeN s) rfl (if_pos hoff)
  · exact exec_wakeTimer_of_due hset hdue (Dev.wake_sleep hstill hsleeps 2)
  · exact exec_wakeTimer_of_due hset hdue (Dev.wake_deep hstill hdeep 2)
  · exact exec_of_onDev (exec_kclWakeBeacon s) rfl (Dev.wake_sleep hstill hsleeps 3)
  · exact exec_of_onDev (exec_kclWakeBeacon s) rfl (Dev.wake_deep hstill hdeep 3)
  · exact exec_of_onDevF (exec_resetN s) rfl (Dev.resetFalls_resets s.fuses hhigh hpowered)
  · exact exec_of_onDevF (exec_resetNHigh s) rfl (Dev.startOn_starts s.fuses hwaits hclock rfl)

/-! ### Input power (R427, R490, R493, R494) -/

/-- Settles O18: a start goes on where it waits, and power is lost where there was any. -/
theorem startsAndInputPowerHappen : Obligations.StartsAndInputPowerHappen := by
  refine ⟨fun s cls mid hgone hcls hmid => ?_, fun s cls mid hbrown hcls hmid => ?_, fun s hwaits hhigh => ?_, fun s hawake => ?_, fun s htrip hbrown hgone => ?_,
    fun s hpower => ?_⟩
  · have hunits : wellFormed (.coldStart cls mid) = true := Bool.and_eq_true_iff.mpr ⟨decide_eq_true hcls, decide_eq_true hmid⟩
    exact exec_of_onDev (exec_coldStart cls mid s) hunits (by simp only [Dev.powerUp, hgone]; rfl)
  · have hunits : wellFormed (.coldStart cls mid) = true := Bool.and_eq_true_iff.mpr ⟨decide_eq_true hcls, decide_eq_true hmid⟩
    exact exec_of_onDev (exec_coldStart cls mid s) hunits (by simp only [Dev.powerUp, hbrown]; rfl)
  · exact exec_of_onDevF (exec_refclkPresent s) rfl (Dev.startOn_starts s.fuses hwaits rfl hhigh)
  · exact exec_of_onDev (exec_wipeFillDone s) rfl (if_pos hawake)
  · have hpowered : ¬(s.dev.pwr.offKind = 5 ∨ s.dev.pwr.offKind = 6 ∨ s.dev.pwr.offKind = 7) := not_or.mpr ⟨htrip, not_or.mpr ⟨hbrown, hgone⟩⟩
    exact exec_of_onDev (exec_brownOut s) rfl (if_neg hpowered)
  · exact exec_of_onDev (exec_inputPowerRemoved s) rfl (if_neg hpower)

end Sys2Proof.Machine
end

section
/-! Proofs of the statements on MCTP control, PLDM and SPDM messages: what each request that is asked in its turn is answered with. -/

namespace Sys2Proof.Machine

section
variable {d e : Dev} {m : MctpMsg} {c n code : Nat} {data : List Byte}

/-! ### MCTP control (R461, R464) -/

theorem Dev.control_answers (h : ControlAsked d m c n) {f : Dev → Nat × List Byte × Dev} (hanswer : f d = (code, data, e)) :
    d.control m c n f = e.controlReply m c code data := by rw [control_asked h, hanswer]

/-- A bus owner may set and force an endpoint ID of 8 to 0xFE. -/
theorem Dev.eidRequest_takes (hop : msgByte m 2 ≤ 1) (hlow : 8 ≤ msgByte m 3) (hhigh : msgByte m 3 ≤ 0xFE) :
    d.eidRequest m = (0, [byteOf 0, byteOf (msgByte m 3), byteOf 0], d.setEid m.kcl (msgByte m 3)) := if_pos ⟨hop, hlow, hhigh⟩

theorem Dev.setEid_ownEid (d : Dev) (kcl : Bool) (eid : Nat) : (d.setEid kcl eid).ownEid kcl = eid := by
  unfold Dev.setEid
  split
  · rename_i hsame
    exact hsame.symm
  · cases kcl <;> rfl

theorem versionReply_of_known {t : Nat} (hknown : t = 0xFF ∨ t = 0) :
    versionReply t = (0, [byteOf 1, byteOf 0xF1, byteOf 0xF3] ++ slice (Config.standardBytes 4 [byteOf t]) 0 2) := if_pos hknown

/-! ### PLDM (R465) -/

theorem Dev.pldm_answers {t : Nat} (h : PldmAsked d m t c n) {f : Dev → Nat × List Byte} (hanswer : f d = (code, data)) :
    d.pldm m t c n f = d.pldmReply m c code data := by rw [pldm_asked h, hanswer]

/-- Sensor 1 is the module's power, 2 to 6 the dies' temperatures, 0x20 to 0x3F the stacks'. -/
theorem sensorReading_power (f : Fuses) (d : Dev) : Dev.sensorReading f d 1 = some (4, natLe 4 (Dev.value f d 0x2000 6 0)) := rfl

theorem sensorReading_die (f : Fuses) (d : Dev) {die : Nat} (hdie : die < 5) : Dev.sensorReading f d (2 + die) = some (3, natLe 2 (Dev.value f d (0x2010 + die) 1 0)) := by
  rw [Dev.sensorReading, if_neg (by omega), if_pos (by omega), Nat.add_sub_cancel_left]

theorem sensorReading_stack (f : Fuses) (d : Dev) {st : Nat} (hst : st < 32) : Dev.sensorReading f d (0x20 + st) = some (3, natLe 2 (Dev.value f d (0x2020 + st) 1 0)) := by
  rw [Dev.sensorReading, if_neg (by omega), if_neg (by omega), if_pos (by omega), Nat.add_sub_cancel_left]

end

/-- Settles O19: each request gets its completion code and data, by the answer that its row gives. -/
theorem mctpAndPldmRequestsAreAnswered : Obligations.MctpAndPldmRequestsAreAnswered := by
  refine ⟨fun s m h hop hlow hhigh => ⟨?_, Dev.setEid_ownEid ..⟩, fun s m h => ?_, fun s m h hknown => ?_, fun s m h => ?_, fun s m h hfirst => ?_, fun s m h => ?_,
    fun s m h => ?_, fun s m h htype => ?_, fun s m h htype => ?_, fun s m h htype => ?_, fun s m h => ?_, fun s m v h hv => ?_,
    fun f d => ⟨sensorReading_power f d, fun die hdie => sensorReading_die f d hdie, fun st hst => sensorReading_stack f d hst⟩⟩
  · exact exec_of_onDev (exec_setEndpointId m s) rfl (Dev.control_answers h (Dev.eidRequest_takes hop hlow hhigh))
  · exact exec_of_onDev (exec_getEndpointId m s) rfl (Dev.control_answers h rfl)
  · exact exec_of_onDev (exec_getMctpVersionSupport m s) rfl (Dev.control_answers h (by rw [versionReply_of_known hknown]))
  · exact exec_of_onDev (exec_getMessageTypeSupport m s) rfl (Dev.control_answers h rfl)
  · exact exec_of_onDev (exec_getVendorDefinedMessageSupport m s) rfl (Dev.control_answers h (if_pos hfirst))
  · exact exec_of_onDev (exec_gettid m s) rfl (Dev.pldm_answers h rfl)
  · exact exec_of_onDev (exec_getpldmtypes m s) rfl (Dev.pldm_answers h rfl)
  · exact exec_of_onDev (exec_getpldmversion m s) rfl (Dev.pldm_answers h (if_pos htype))
  · exact exec_of_onDev (exec_getpldmcommands m s) rfl (Dev.pldm_answers h (if_pos htype))
  · have hother : msgByte m 3 ≠ 0 := by rw [htype]; decide
    exact exec_of_onDev (exec_getpldmcommands m s) rfl (Dev.pldm_answers h ((if_neg hother).trans (if_pos htype)))
  · exact exec_of_onDev (exec_getpdr m s) rfl (Dev.pldm_answers h rfl)
  · exact exec_of_onDevF (exec_getsensorreading m s) rfl (Dev.pldm_answers h (by rw [hv]))

/-! ### SPDM (R436 to R438) -/

theorem Dev.spdm_answers {d e : Dev} {m : MctpMsg} {c need next code : Nat} {data : List Byte} (h : SpdmAsked d m c need) {f : Dev → (Nat × List Byte) × Dev}
    (hanswer : f (d.bump 0x6000 0x14 1) = ((code, data), e)) (hturn : need ≠ 0) (hright : code ≠ 0x7F) : d.spdmRow m c need next f = e.spdmReply m next code data :=
  spdm_asked h hturn f hanswer hright

/-- GET_VERSION needs no connection: it begins one. -/
theorem Dev.spdmVersion_answers {d e : Dev} {m : MctpMsg} (hup : d.mctpTakes m = true) (hlong : 4 ≤ m.data.length) (hcode : msgByte m 1 = 0x84) (hawake : d.pwr.offKind = 0)
    (hsec : d.restarting 0 = false) (he : e = d.bump 0x6000 0x14 1) :
    d.spdmVersion m = ({ e with sec := { e.sec with spdm := tblSet e.sec.spdm (msgFrom m) 1 } } : Dev).send
      (.spdm m.kcl m.eid ([byteOf 0x10, byteOf 0x04] ++ ([byteOf 0, byteOf 0, byteOf 0, byteOf 1] ++ natLe 2 0x1300))) := by
  subst he
  have hcounted : (d.bump 0x6000 0x14 1).restarting 0 = false := hsec
  simp [Dev.spdmVersion, Dev.spdmRow, Dev.spdm, hcode, hup, hawake, hcounted, Nat.not_lt.mpr hlong]

theorem Dev.spdmAlgorithms_chooses {d : Dev} {m : MctpMsg} (hsign : bit (msgNum m 8 4) 8 = true) (hhash : bit (msgNum m 12 4) 2 = true) (hmeas : bit (msgByte m 6) 0 = true) :
    d.spdmAlgorithms m = ((0x63, natLe 2 0 ++ natLe 2 36 ++ [byteOf 1, byteOf 0] ++ natLe 4 8 ++ natLe 4 0x100 ++ natLe 4 4 ++ List.replicate 16 0#8), d) := by
  simp only [Dev.spdmAlgorithms, hsign, hhash, hmeas, Bool.true_eq_false, or_self, if_false]

section
variable {f : Fuses} {d : Dev} {m : MctpMsg} (hattests : attests f = true)
include hattests

theorem spdmCertificate_answers {n : Nat} (hslot : msgByte m 2 = 0) (hwithin : msgNum m 4 2 < (Dev.certChain f d).length)
    (hn : n = min (min (msgNum m 6 2) 4215) ((Dev.certChain f d).length - msgNum m 4 2)) :
    Dev.spdmCertificate f d m = ((0x02, [byteOf 0, byteOf 0] ++ natLe 2 n ++ natLe 2 ((Dev.certChain f d).length - msgNum m 4 2 - n) ++
      slice (Dev.certChain f d) (msgNum m 4 2) n), d) := by
  have hportion : ¬(msgByte m 2 ≠ 0 ∨ (Dev.certChain f d).length ≤ msgNum m 4 2) := not_or.mpr ⟨not_not.mpr hslot, Nat.not_le.mpr hwithin⟩
  simp only [Dev.spdmCertificate, hattests, Bool.true_eq_false, if_false, if_neg hportion, hn]

/-- A challenge without a measurement summary is answered with a nonce and signed. -/
theorem spdmChallenge_answers (hslot : msgByte m 2 = 0) (hlong : 44 ≤ m.data.length) (hsummary : msgByte m 3 = 0) :
    Dev.spdmChallenge f d m = ((0x03, [byteOf 0, byteOf 1] ++ sha512 (Dev.certChain f d) ++ d.nonce.1 ++ [] ++ natLe 2 0 ++ slice m.data 36 8 ++
      (Dev.sign f d.nonce.2).1), (Dev.sign f d.nonce.2).2) := by
  have hwhole : ¬(msgByte m 2 ≠ 0 ∨ m.data.length < 44 ∨ [0, 1, 0xFF].contains (msgByte m 3) = false) := by rw [hslot, hsummary]; simp [hlong]
  simp only [Dev.spdmChallenge, hattests, Bool.true_eq_false, if_false, if_neg hwhole, if_pos hsummary]

/-- Measurements that need not be signed. -/
theorem spdmMeasurements_answers {op : Nat} {is : List Nat} {r : List Byte} (hop : op = msgByte m 3) (hknown : op ≤ 22 ∨ op = 0xFF) (hlong : 12 ≤ m.data.length)
    (hplain : bit (msgByte m 2) 0 = false) (his : is = if op = 0 then [] else if op = 0xFF then measIndices else [op]) (hr : r = Dev.measBlocks f d is) :
    Dev.spdmMeasurements f d m = ((0x60, [byteOf (if op = 0 then 22 else 0), byteOf 0, byteOf is.length] ++ natLe 3 r.length ++ r ++ d.nonce.1 ++ natLe 2 0 ++
      slice m.data 4 8 ++ []), d.nonce.2) := by
  subst hop his hr
  have hwhole : ¬((22 < msgByte m 3 ∧ msgByte m 3 ≠ 0xFF) ∨ m.data.length < 12 ∨ (false = true ∧ msgByte m 36 % 16 ≠ 0)) := by
    rintro ((⟨hhigh, hnot⟩) | hshort | ⟨hsigned, _⟩)
    · exact hknown.elim (Nat.not_le.mpr hhigh) hnot
    · exact Nat.not_lt.mpr hlong hshort
    · exact absurd hsigned (by decide)
  simp only [Dev.spdmMeasurements, hattests, hplain, Bool.true_eq_false, Bool.false_eq_true, if_false] at hwhole ⊢
  rw [if_neg hwhole]

end

/-- A module without UDS, or in a state that does not attest, answers with the error of the request. -/
theorem spdm_without_identity {f : Fuses} (hnone : attests f = false) (d : Dev) (m : MctpMsg) :
    Dev.spdmChallenge f d m = (spdmError 7 0x83, d) ∧ Dev.spdmMeasurements f d m = (spdmError 7 0xE0, d) ∧ Dev.spdmCertificate f d m = (spdmError 7 0x82, d) :=
  ⟨if_pos hnone, if_pos hnone, if_pos hnone⟩

/-- Settles O20: a request in its turn is counted, and answered as the responder answers it. -/
theorem spdmRequestsAreAnswered : Obligations.SpdmRequestsAreAnswered := by
  refine ⟨fun s m d hup hlong hcode hawake hsec hd => ?_, fun s m d h hd => ?_, fun s m d h hd hsign hhash hmeas => ?_, fun s m d h hd hattests => ?_,
    fun s m d n h hd hattests hslot hwithin hn => ?_, fun s m d e h hd hattests hslot hlong hsummary he => ?_,
    fun s m d op is r h hd hattests hop hknown hlong hplain his hr => ?_, fun f d m hnone => spdm_without_identity hnone d m⟩
  · exact exec_of_onDev (exec_spdmGetVersion m s) rfl (Dev.spdmVersion_answers hup hlong hcode hawake hsec hd)
  all_goals subst hd
  · exact exec_of_onDev (exec_spdmGetCapabilities m s) rfl (Dev.spdm_answers h rfl (by decide) (by decide))
  · exact exec_of_onDev (exec_spdmNegotiateAlgorithms m s) rfl (Dev.spdm_answers h (Dev.spdmAlgorithms_chooses hsign hhash hmeas) (by decide) (by decide))
  · exact exec_of_onDevF (exec_spdmGetDigests m s) rfl (Dev.spdm_answers h (if_pos hattests) (by decide) (by decide))
  · exact exec_of_onDevF (exec_spdmGetCertificate m s) rfl (Dev.spdm_answers h (spdmCertificate_answers hattests hslot hwithin hn) (by decide) (by decide))
  · subst he
    exact exec_of_onDevF (exec_spdmChallenge m s) rfl (Dev.spdm_answers h (spdmChallenge_answers hattests hslot hlong hsummary) (by decide) (by decide))
  · exact exec_of_onDevF (exec_spdmGetMeasurements m s) rfl
      (Dev.spdm_answers h (spdmMeasurements_answers hattests hop hknown hlong hplain his hr) (by decide) (by decide))

end Sys2Proof.Machine
end

section
/-! Proofs of the statement of chapter 15 on handshakes: what each message of a session does where SEC runs, and what its timers do. -/

namespace Sys2Proof.Machine

/-! ### Rows of handshake messages (R248, R439) -/

theorem HandshakeFor.units {d e : Dev} {p : Packet} {msg : Nat} (h : HandshakeFor d p msg e) : (decide (p.port < 20) && decide (p.half < 2)) = true :=
  units_exist h.port h.half

/-- A row that SEC takes and that hands a whole message to `g`. -/
theorem exec_of_handshake {i : Instr} {s : State} {e e' : Dev} {p : Packet} {msg : Nat} {g : Fuses → Dev → Dev} (hsec : s.dev.restarting 0 = false)
    (h : HandshakeFor s.dev p msg e) (hunits : wellFormed i = (decide (p.port < 20) && decide (p.half < 2)))
    (hrow : exec i s = onDevF (wellFormed i) (fun f d => d.bySec i fun d => d.handshake p msg (g f)) s) (heffect : g s.fuses e = e') :
    exec i s = .next (s.withDev e') := by
  rw [exec_of_bySec (g := fun f d => d.handshake p msg (g f)) hrow (hunits.trans h.units) hsec, handshake_for h, heffect]

section
variable {f : Fuses} {d : Dev} {p : Packet} {v : PeerProof}

/-! ### OFFER (R440) -/

/-- An OFFER from a device of lower rank that is no copy of one already taken. -/
theorem Dev.onOffer_new (hlower : p.src < d.rank) (howner : hsOwner p = none)
    (hnew : (d.net.sessions.find? fun q => q.2.peer == p.src && q.2.theirs == hsSender p && q.2.ctx == hsOwner p && q.2.state != 2) = none) :
    Dev.onOffer f d p v = if Dev.peerOk f d.uncheckedTime p v = false then Dev.refuseHandshake f d.uncheckedTime p
      else if d.uncheckedTime.addressable p.src = false ∨ d.uncheckedTime.sessionsFull then d.uncheckedTime
      else Dev.sendHandshake f { d.uncheckedTime with net := { d.uncheckedTime.net with
        nextId := d.uncheckedTime.net.nextId + 1
        sessions := tblSet d.uncheckedTime.net.sessions d.uncheckedTime.net.nextId
          { ctx := hsOwner p, peer := p.src, mine := d.uncheckedTime.net.nextId, theirs := hsSender p, initiator := false, startAt := d.uncheckedTime.time,
            peerNonce := hsNonce p, peerKey := hsKey p, road := d.uncheckedTime.roadPair p.src } } } d.uncheckedTime.net.nextId hsAccept := by
  rw [howner] at hnew
  simp only [Dev.onOffer, howner, Bool.false_eq_true, or_false, if_neg (Nat.not_le.mpr hlower), hnew, Session.heard]

variable {x : Session} (hx : d.session (hsPeer p) = some x)
include hx

/-! ### ACCEPT and CONFIRM (R440, R441) -/

section
variable (hstate : x.state = 0) (hours : x.initiator = true) (hpeer : x.peer = p.src) (hstage : x.stage ≠ hsConfirm)
include hstate hours hpeer hstage

/-- An ACCEPT of an accepted peer gives its session the keys of epoch 0. -/
theorem Dev.onAccept_confirms (hok : Dev.peerOk f d.uncheckedTime p v = true) {y : Session} (hy : y = { x with theirs := hsSender p, peerNonce := hsNonce p, peerKey := hsKey p }) :
    Dev.onAccept f d p v = Dev.sendHandshake f (d.uncheckedTime.setSession (hsPeer p) { y with keys := y.derive 0 y.myNonce y.myKey y.peerNonce y.peerKey }) (hsPeer p)
      hsConfirm := by
  subst hy
  simp [Dev.onAccept, hx, hstate, hours, hpeer, hstage, hok, Session.heard]

theorem Dev.onAccept_refuses (hbad : Dev.peerOk f d.uncheckedTime p v = false) :
    Dev.onAccept f d p v = (Dev.refuseHandshake f d.uncheckedTime p).eraseSession (hsPeer p) := by
  simp [Dev.onAccept, hx, hstate, hours, hpeer, hstage, hbad]

end

/-- A CONFIRM opens its session, or ends the handshake, by its signature. -/
theorem Dev.onConfirm_waiting (htheirs : x.initiator = false) (hpeer : x.peer = p.src) (hstate : x.state = 0) :
    Dev.onConfirm f d p v = if v.sigOk then (d.sessionOpens (hsPeer p) { x with peerNonce := hsNonce p }).sendAck (hsPeer p) clCtl
      else (Dev.refuseHandshake f d p).eraseSession (hsPeer p) := by
  simp [Dev.onConfirm, hx, htheirs, hpeer, hstate]

/-! ### REKEY, REKEY_ACK and REFUSE (R442, R443) -/

theorem Dev.onRekey_answers (hstate : x.state = 1) (hpeer : x.peer = p.src) (hidle : x.rekeying = false) (hnew : x.peerNonce ≠ hsNonce p) (hsig : v.sigOk = true) :
    Dev.onRekey f d p v = Dev.sendHandshake f (d.setSession (hsPeer p) { x.nextEpoch d.time with peerNonce := hsNonce p, peerKey := hsKey p }) (hsPeer p) hsRekeyAck := by
  simp [Dev.onRekey, hx, hstate, hpeer, hidle, hnew, hsig, Session.heard]

theorem Dev.onRekeyAck_rekeys (hstate : x.state = 1) (hpeer : x.peer = p.src) (hasked : x.rekeying = true) (hsig : v.sigOk = true) {y : Session}
    (hy : y = { x.nextEpoch d.time with peerNonce := hsNonce p, peerKey := hsKey p }) :
    Dev.onRekeyAck f d p v = d.setSession (hsPeer p) { y with keys := y.derive y.epoch y.myNonce y.myKey y.peerNonce y.peerKey } := by
  subst hy
  simp [Dev.onRekeyAck, hx, hstate, hpeer, hasked, hsig, Session.heard]

/-- A REFUSE of a session that has not opened ends it. -/
theorem Dev.onRefuse_ends (hpeer : x.peer = p.src) (hstate : x.state = 0) : d.onRefuse p = d.eraseSession (hsPeer p) := by
  simp only [Dev.onRefuse, hx, if_pos hpeer, Dev.handshakeFails, if_pos hstate]

end

/-! ### Timers (R442, R443) -/

section
variable {d : Dev} {key : Nat} {x : Session} (hx : d.session key = some x)
include hx

/-- A message unanswered for 1 ms is sent again, up to 20 times. -/
theorem Dev.handshakeResend_due (hstage : x.stage ≠ 0) (hstate : x.state ≠ 2) (hlate : x.lastSent + 1000000 ≤ d.time) :
    d.handshakeResend key = if 20 ≤ x.resent then d.handshakeFails key x
      else (d.setSession key { x with resent := x.resent + 1, lastSent := d.time }).emitHandshake key x.msg := by
  simp only [Dev.handshakeResend, hx, hstage, hstate, Nat.not_lt.mpr hlate, or_self, if_false]

theorem Dev.rekeyTimer_due (f : Fuses) (hstate : x.state = 1) (hidle : x.rekeying = false) (hfirst : x.retryAt = 0)
    (hdue : x.rekeyAt + d.obj 0x6000 0x0E * 1000000000 ≤ d.time) :
    Dev.rekeyTimer f d key = Dev.sendHandshake f (d.setSession key { x with rekeying := true, retryAt := 0 }) key hsRekey := by
  simp [Dev.rekeyTimer, hx, hstate, hidle, hfirst, hdue]

end

/-- Settles O35: each message moves its session by its own lemma, and each timer by its own. -/
theorem handshakesProceed : Obligations.HandshakesProceed := by
  refine ⟨fun s p v e d hsec h hlower howner hnew hd => ⟨fun hok hroute hroom => ⟨_, _, rfl, rfl, ?_⟩, fun hbad => ?_⟩,
    fun s p v e x hsec h hx hstate hours hpeer hstage => ⟨fun hok => ⟨_, rfl, ?_⟩, fun hbad => ?_⟩,
    fun s p v e x hsec h hx htheirs hpeer hstate => ⟨fun hsig => ?_, fun hsig => ?_⟩, fun s p v e x hsec h hx hstate hpeer hidle hnew hsig => ?_,
    fun s p v e x hsec h hx hstate hpeer hasked hsig => ⟨_, rfl, ?_⟩, fun s p e x h hx hpeer hstate => ?_,
    fun s key x hx hstage hstate hlate => ⟨fun hleft => ?_, fun hspent => ?_⟩, fun s key x hsec hx hstate hidle hfirst hdue => ?_⟩
  · subst hd
    refine exec_of_handshake hsec h rfl (exec_offer p v s) ?_
    simp only [Dev.onOffer_new hlower howner hnew, hok, hroute, hroom, Bool.true_eq_false, Bool.false_eq_true, or_self, if_false]
  · subst hd
    exact exec_of_handshake hsec h rfl (exec_offer p v s) ((Dev.onOffer_new hlower howner hnew).trans (if_pos hbad))
  · exact exec_of_handshake hsec h rfl (exec_accept p v s) (Dev.onAccept_confirms hx hstate hours hpeer hstage hok rfl)
  · exact exec_of_handshake hsec h rfl (exec_accept p v s) (Dev.onAccept_refuses hx hstate hours hpeer hstage hbad)
  · rw [exec_of_bySec (exec_confirm p v s) h.units hsec, handshake_for h, Dev.onConfirm_waiting hx htheirs hpeer hstate, if_pos hsig]
  · rw [exec_of_bySec (exec_confirm p v s) h.units hsec, handshake_for h, Dev.onConfirm_waiting hx htheirs hpeer hstate, if_neg (ne_true_of_eq_false hsig)]
  · exact exec_of_handshake hsec h rfl (exec_rekey p v s) (Dev.onRekey_answers hx hstate hpeer hidle hnew hsig)
  · exact exec_of_handshake hsec h rfl (exec_rekeyAck p v s) (Dev.onRekeyAck_rekeys hx hstate hpeer hasked hsig rfl)
  · exact exec_of_onDev (exec_refuse p s) h.units ((handshake_for h _).trans (Dev.onRefuse_ends hx hpeer hstate))
  · exact exec_of_onDev (exec_handshakeResend key s) rfl ((Dev.handshakeResend_due hx hstage hstate hlate).trans (if_neg (Nat.not_le.mpr hleft)))
  · exact exec_of_onDev (exec_handshakeResend key s) rfl ((Dev.handshakeResend_due hx hstage hstate hlate).trans (if_pos hspent))
  · exact exec_of_onDevF (exec_rekeyTimer key s) rfl ((if_neg (ne_true_of_eq_false hsec)).trans (Dev.rekeyTimer_due hx s.fuses hstate hidle hfirst hdue))

end Sys2Proof.Machine
end
